-- ==== Sys2Proof/Word.lean ====
section
/-! DEFINITION. The word types of the manual and their plainest operations: bits, fields, byte order, saturation.
Multi-byte fields of messages are most significant byte first (R245, R232). -/

namespace Sys2Proof

/-- One byte of a message, a telegram or a flash image. -/
abbrev Byte := BitVec 8

/-- A 32-bit register word. -/
abbrev W32 := BitVec 32

/-- A 64-bit timebase or position word. -/
abbrev W64 := BitVec 64

/-- A single bit as a number, for packing status words. -/
def bit (b : Bool) (pos : Nat) : Nat := if b then 2 ^ pos else 0

/-- Field `[lo + len - 1 : lo]` of a word, as a number. -/
def fld {n : Nat} (w : BitVec n) (lo len : Nat) : Nat := (w.toNat / 2 ^ lo) % 2 ^ len

/-- The bytes of a word, most significant byte first. -/
def be (n : Nat) (v : Nat) : List Byte :=
  match n with
  | 0 => []
  | k + 1 => BitVec.ofNat 8 (v / 256 ^ k) :: be k v

/-- The number that a list of bytes spells, most significant byte first. -/
def ofBe (l : List Byte) : Nat := l.foldl (fun a b => a * 256 + b.toNat) 0

/-- Bytes `off .. off + len - 1` of a message, as a number; bytes past its end count as 0. -/
def beAt (l : List Byte) (off len : Nat) : Nat :=
  ofBe ((l.drop off ++ List.replicate len 0).take len)

/-- Largest value of a 32-bit counter. -/
def max32 : Nat := 4294967295

/-- Counters that "saturate at their largest value". -/
def satAdd (cap a b : Nat) : Nat := min cap (a + b)

/-- Signed value of a word. -/
def sgn {n : Nat} (w : BitVec n) : Int := w.toInt

/-- A signed number held in `n` bits, saturating at the limits of the width (R51, R149). -/
def satInt (n : Nat) (x : Int) : Int :=
  if x < -(2 ^ (n - 1) : Int) then -(2 ^ (n - 1) : Int)
  else if (2 ^ (n - 1) : Int) - 1 < x then (2 ^ (n - 1) : Int) - 1
  else x

/-- Division that truncates towards zero; by zero it gives the largest 64-bit value of the result's sign (R51). -/
def divT (a b : Int) : Int :=
  if b = 0 then (if a < 0 then -(2 ^ 63 : Int) else (2 ^ 63 : Int) - 1) else a.tdiv b

/-- Rounded-up quotient of naturals. -/
def ceilDiv (a b : Nat) : Nat := (a + b - 1) / b

/-- Change one element of a vector. -/
def vupd {α : Type} {n : Nat} (v : Vector α n) (i : Fin n) (f : α → α) : Vector α n :=
  v.set i.val (f v[i.val]) i.isLt

/-- Read an element by a plain number; `d` past the end. -/
def vget {α : Type} {n : Nat} (v : Vector α n) (i : Nat) (d : α) : α :=
  if h : i < n then v[i] else d

/-- Write an element by a plain number; nothing past the end. -/
def vmod {α : Type} {n : Nat} (v : Vector α n) (i : Nat) (f : α → α) : Vector α n :=
  if h : i < n then v.set i (f v[i]) h else v

/-- A register word with bit `k` set or cleared. -/
def setBit {n : Nat} (w : BitVec n) (k : Nat) (b : Bool) : BitVec n :=
  if b then w ||| BitVec.ofNat n (2 ^ k) else w &&& ~~~ (BitVec.ofNat n (2 ^ k))

end Sys2Proof
end

