-- ==== Sys2Proof/Syntax.lean ====
section
/-! DEFINITION. The commands of the block: one constructor of `Instr` per row of spec/opcode_table.json, with its operands,
and the data that operands are made of (frames, samples, messages as they are received). -/

namespace Sys2Proof

/-- The two mailbox ports of the host (R244, R246). -/
inductive Port where
  | spi | usb
  deriving DecidableEq, Repr

/-- The two lanes of the Eave link: P serves the Ridge pair, T the Thatch fabric (R16). -/
inductive Lane where
  | p | t
  deriving DecidableEq, Repr

/-- The two network ports (R201). -/
inductive NetPort where
  | a | b
  deriving DecidableEq, Repr

/-- Who writes a timer-unit register: the host or Gable (R36). -/
inductive Agent where
  | host | gable
  deriving DecidableEq, Repr

/-- A mailbox request as Gable executes it (Table 11.3); its CODE is the command's row. -/
structure Req where
  port : Port
  tag : BitVec 16
  flags : BitVec 16
  payload : List Byte
  deriving DecidableEq, Repr

/-- Gust-pulse event of one TPO in an outbound frame (Table 1.3, Table 4.3). -/
structure GustEv where
  code : BitVec 4
  off : BitVec 8
  deriving DecidableEq, Repr

/-- A parameter entry (Table 1.9). -/
structure ParamEntry where
  item : BitVec 8
  index : BitVec 8
  value : W32
  deriving DecidableEq, Repr

/-- An outbound Eave frame (Tables 1.3 and R21): `entries` holds one entry in a command frame, nine in a parameter frame;
`reserved` are the bits that must be zero. -/
structure OutFrame where
  ftype : BitVec 4
  lane : Lane
  tickSel : BitVec 2
  seq : BitVec 16
  cmds : BitVec 28
  dark : BitVec 28
  gust : Vector GustEv 16
  setpt : Vector (BitVec 16) 8
  entries : List ParamEntry
  reserved : BitVec 24
  crc : W32
  deriving DecidableEq, Repr

/-- An inbound Eave frame (Table 1.4); the header has the layout of Table 6.5. -/
structure InFrame where
  header : BitVec 16
  echo : BitVec 16
  inputs : BitVec 48
  bands : BitVec 96
  follow : BitVec 48
  sw : BitVec 28
  live : BitVec 28
  supplies : Vector (BitVec 12) 7
  sd : Vector (BitVec 24) 8
  sar : Vector (BitVec 16) 8
  anStat : Vector (BitVec 4) 8
  groupOver : BitVec 5
  reserved : BitVec 15
  crc : W32
  deriving DecidableEq, Repr

/-- How an outbound frame reaches its field controller: as sent, or changed on the link. -/
inductive OutRx where
  | asSent
  | other (f : OutFrame)
  deriving DecidableEq, Repr

/-- How an inbound frame reaches its channel: as sent, changed on the link, or not by the end of phase 0 (R140). -/
inductive InRx where
  | asSent
  | other (f : InFrame)
  | missing
  deriving DecidableEq, Repr

/-- One 16 kHz field sample (R60, R73, R75, R77, R130, R136): each input's land voltage in mV as both field controllers'
comparators meet it, the shared input currents in µA, the supply readings of both controllers in mV (FS_A, FS_B, FS_C, FS_D, FS_BK,
FS_TP, FS_AN), each TPO's land voltage in mV and source current in mA, each switch's current in µA on both lanes; the sense cells
of lane P's and of lane T's switches as controller P (0) and controller T (1) read them, and the return lands in mV as each of the
two measures them. -/
structure FieldSample where
  landP : Vector Nat 48
  landT : Vector Nat 48
  cur : Vector Nat 48
  supP : Vector Nat 7
  supT : Vector Nat 7
  tpoMv : Vector Nat 16
  tpoMa : Vector Nat 16
  swP : Vector Nat 28
  swT : Vector Nat 28
  senseP : Vector (BitVec 28) 2
  senseT : Vector (BitVec 28) 2
  retP : Vector Nat 28
  retT : Vector Nat 28
  deriving DecidableEq, Repr

/-- Raw reading of one encoder interface at a strobe (Table 7.1): counts, vector amplitude in % of nominal, smallest differential
voltage in mV, the counts of a Z interval that ended, the SSI data bits, and the checks that its hardware makes. -/
structure EncRaw where
  counts : Int
  amp : Nat
  freqOk : Bool
  togetherOk : Bool
  spacingOk : Bool
  diffMin : Nat
  zInterval : Option Nat
  ssi : W32
  startOk : Bool
  parityOk : Bool
  doubleOk : Bool
  deriving DecidableEq, Repr

/-- A motion engine record as it reaches the channels (Table 7.3). -/
structure MotionRec where
  seq : BitVec 16
  stat : BitVec 8
  pos : W64
  vLast : W32
  vMax : W32
  vMin : W32
  aLast : W32
  reserved : BitVec 8
  crc : W32
  deriving DecidableEq, Repr

/-- Host access to the register window (R337). -/
inductive WinOp where
  | write (d : W32)
  | setBits (d : W32)
  | clearBits (d : W32)
  | toggleBits (d : W32)
  | read
  deriving DecidableEq, Repr

/-- Parameter registers of a CVU (Table 10.4). -/
inductive CvuReg where
  | polyLo | polyHi | initLo | initHi | xorLo | xorHi | prefixLo | prefixHi | valueLo | length
  deriving DecidableEq, Repr

/-- The registers of a CVU that its owner reads (Table 10.4). -/
inductive CvuRead where
  | ctrl | polyLo | polyHi | initLo | initHi | xorLo | xorHi | prefixLo | prefixHi | valueLo | valueHi | length | stat | resultLo
  | resultHi
  deriving DecidableEq, Repr

/-- What the environment gives a boot: ALM_SEL open, PLL locked in time, Slate read within its limit, SLATE_VPP, VBAT and L+ in
mV, domains whose regulators do not reach regulation (bits of DOMAIN_ON), LULL_N low as a reset is released, check-value units whose
vector comes out wrong, the Slate bits that the factory test port has set since the last boot; and for a power-on the samples of L+ that
its count begins with and has met at least, with the time counted in µs (R318). -/
structure BootEnv where
  almOpen : Bool
  pllOk : Bool
  slateInTime : Bool
  slateVpp : Nat
  vbat : Nat
  lplus : Nat
  badDomains : BitVec 10
  lullN : Bool
  cvuBad : BitVec 4
  testPort : List (Fin 8192)
  lplusFirst : Nat
  lplusLeast : Nat
  lplusUs : Nat
  deriving DecidableEq, Repr

/-- A measurement of a closed switch: the voltage across it in µV and its current in µA (Table 14.6). -/
structure RonMeas where
  sw : Fin 56
  uv : Nat
  ua : Nat
  deriving DecidableEq, Repr

/-- How the flash steps of COMMIT and FW_ACTIVATE go: to their end, with a read-back that fails, or cut by a reset or a loss of L+ after
so many whole steps of Table 11.9. -/
inductive FlashRun where
  | done
  | failed
  | cut (steps : Fin 6)
  deriving DecidableEq, Repr

/-- How the programming of a Slate bit goes (R300, R301, R311): the round whose margin verify passes, 0 for none; the voltage on SLATE_VPP
in mV; whether a reset or a loss of L+ cuts its last pulse. -/
structure SlatePulse where
  passRound : Nat
  vppMv : Nat
  cut : Bool
  deriving DecidableEq, Repr

/-- The voted words (R340). -/
inductive VotedWord where
  | lullTrig | lullArgLo | lullArgHi | lockFlag | lockCause | slateShadow
  deriving DecidableEq, Repr, Inhabited

/-- A bit of one copy of a voted word that has flipped (R340). -/
structure TmrUpset where
  word : VotedWord
  copy : Fin 3
  bitNo : Nat
  deriving DecidableEq, Repr

/-- A failed SELFTEST check: the fault code and its ARG (Table 12.5). -/
structure TestFail where
  code : BitVec 16
  arg : W32
  deriving DecidableEq, Repr

/-- A PTP data set as an Announce message carries it (IEEE 1588), with the offset of UTC from the PTP timescale in seconds. -/
structure Announce where
  prio1 : BitVec 8
  clockClass : BitVec 8
  accuracy : BitVec 8
  variance : BitVec 16
  prio2 : BitVec 8
  identity : W64
  ptpScale : Bool
  utcOffset : Nat
  deriving DecidableEq, Repr

/-- The protocol of a telegram (R208, R217). -/
inductive Proto where
  | ctt | csf
  deriving DecidableEq, Repr

/-- What a debugger did (R71). -/
inductive DebugAct where
  | halt | step | write | read
  deriving DecidableEq, Repr

/-- Non-safety engines (R290). -/
inductive Engine where
  | gable | n0 | n1 | w | ridgeB
  deriving DecidableEq, Repr

/-- Who reads the timebase through a port of its own (R35). -/
inductive TbReader where
  | spi | ridgeA | ridgeB | gable | n0 | n1 | m0 | m1 | w
  deriving DecidableEq, Repr

/-- The tightly coupled memories (R54). -/
inductive TcmId where
  | instrA | dataA | instrB | dataB
  deriving DecidableEq, Repr

/-- The commands: one constructor per row of spec/opcode_table.json. An operand that is left out stands at what an undisturbed block of
the nominal tick gives it (the host's port, no delay, no upset); every meaning and statement takes the operand as it comes. -/
inductive Instr where
  -- mailbox commands (R251)
  | getStatus (r : Req)
  | getFaults (r : Req)
  | cfgBegin (r : Req)
  | cfgBlock (r : Req)
  | cfgEnd (r : Req)
  | cfgAcceptClamps (r : Req)
  | verifyStart (r : Req)
  | verifyReport (r : Req)
  | commit (r : Req) (run : FlashRun)
  | login (r : Req)
  | logout (r : Req)
  | setPassword (r : Req) (flashOk : Bool)
  | logRead (r : Req)
  | clearLockout (r : Req)
  | slateRead (r : Req)
  | slateProgramBit (r : Req) (pulse : SlatePulse)
  | slateLock (r : Req) (pulse : SlatePulse)
  | ridgeSplit (r : Req) (crcEqual : Bool)
  | ridgeJoin (r : Req) (crcEqual : Bool)
  | weatherReport (r : Req)
  | cascadeStatus (r : Req)
  | fwUpdateBlock (r : Req) (flashOk : Bool)
  | fwActivate (r : Req) (run : FlashRun)
  | lullArm (r : Req)
  -- mailbox transport and Gable's timers
  | mbxRequest
  | mbxResponseAck
  | mbxEventAck (n : BitVec 8)
  | usbRequest (msg : List Byte) (prevRead : Bool)
  | mailboxCommandTimeout
  | verifyRunEnd
  | commitRestart
  | lockoutAckRelease
  | ackMissing
  | lockoutRestart
  | sessionInactivityTimeout (port : Port)
  | loginBackoffEnd
  | usbDetach
  -- SPI frames and registers
  | spiWriteFrame (bytes : List Byte)
  | spiReadFrame (bytes : List Byte)
  | spiBadOpcodeFrame (bytes : List Byte)
  | spiFrameDiscard
  | tbLoRead (who : TbReader := .spi)
  | tbHiRead (who : TbReader := .spi)
  | tmuCountRead (n : Fin 32)
  | tmuCountWrite (who : Agent) (n : Fin 32) (v : W32)
  | tmuCmpWrite (who : Agent) (n : Fin 32) (v : W32)
  | tmuCtrlWrite (who : Agent) (n : Fin 32) (v : W32)
  | tmuPrescWrite (who : Agent) (n : Fin 32) (v : W32)
  | tmuStagger (v : W32)
  | tmuMatch (n : Fin 32)
  | tmuOverflow (n : Fin 32)
  | unlockWrite (v : W32)
  | unlockGuardTimeout
  | indDataAccess (op : WinOp)
  | lullCtrlEnter (v : W32)
  | lullTrigWrite (reg : Fin 3) (v : W32)
  | irqEnableWrite (v : W32)
  | readClearRegister (addr : BitVec 24)
  | aliasSetWrite (addr : BitVec 12) (d : W32)
  | aliasClearWrite (addr : BitVec 12) (d : W32)
  | aliasToggleWrite (addr : BitVec 12) (d : W32)
  | registerWrite (addr : BitVec 12) (d : W32)
  | positionLoRead (axis : Fin 8) (srcB : Bool)
  -- check-value units
  | cvuCtrlWrite (u : Fin 4) (v : W32)
  | cvuParamWrite (u : Fin 4) (reg : CvuReg) (v : W32)
  | cvuDataWrite (u : Fin 4) (v : W32)
  | cvuStart (u : Fin 4)
  | cvuResume (u : Fin 4)
  | cvuAbort (u : Fin 4)
  | cvuValueLoRead (u : Fin 4) (reg : CvuRead := .valueLo)
  | cvuValueHiWrite (u : Fin 4) (v : W32)
  | cvuFrameDone (u : Fin 4)
  | cvuSelfCheck (u : Fin 4) (sound : Bool)
  -- power, boot and modes
  | lplusPowerOn (env : BootEnv)
  | bootComplete (env : BootEnv)
  | selftestEnd (fails : List TestFail)
  | startRun
  | squallStepDown (mv : Vector Nat 3)
  | squallStepUp (mv : Nat) (least : Nat)
  | rideThroughStart (mv : Vector Nat 3)
  | rideThroughEnd (mv : Vector Nat 3)
  | orderedShutdown (mv : Nat) (holdMv : Nat)
  | holdPowerOnReset (holdMv : Nat)
  | vbatApplied (mv : Nat)
  | vbatMeasurement (mv : Nat)
  | resetNAssert (lowNs : Nat)
  | resetNRelease (env : BootEnv)
  | tamperNLow
  | temperatureMeasurement (die fieldSide : Int)
  | regulatorFault (dom : Fin 10)
  -- the tick
  | tickBoundary (cycles : Nat := 32000)
  | eaveOutboundFrame (lane : Lane) (rx : OutRx) (det : Nat := 0)
  | eaveInboundFrame (lane : Lane) (rx : InRx)
  | thatchPassEnd (cycles : Nat) (units : Nat) (canaryOk : Bool)
  | crossCompare (ridgeErr thatchErr : BitVec 256) (ridgeReqBad thatchReqBad : Bool)
  | phase3Start
  | tickOverrunRg
  | tickOverrunTh
  | crossResultMissing (lane : Lane)
  | thatchTickPulse (units : Nat)
  | tickGenMismatch
  | ridgeBoundaryMissing
  | ridgeLockstepMismatch
  | ridgeEccCorrection (m : TcmId := .dataA) (addr : Nat := 0) (flip : Fin 8 := 0)
  | ridgeEccDed (m : TcmId := .dataA) (addr : Nat := 0) (flips : Byte := 3)
  | ridgeFaultLine
  | ridgeDebugBreak (act : DebugAct)
  | thatchCfgScrub (upset : BitVec 256)
  -- field side
  | fieldSample (x : FieldSample)
  | filterAccept (n : Fin 48)
  | bandReport (n : Fin 48)
  | inputViewMismatch (n : Fin 48)
  | inputMeasFault (n : Fin 48)
  | supplyViewMismatch (k : Fin 7)
  | supplyLost (k : Fin 7)
  | supplyRecovered (k : Fin 7)
  | resetLevelRelease
  | laneSilence (lane : Lane)
  | gustPulseStart (m : Fin 16) (on : BitVec 48 := 0)
  | gustWindow1End (m : Fin 16) (offSeen : BitVec 48) (foreign : BitVec 48) (delays : Vector Nat 48)
  | gustWindow2End (m : Fin 16) (okP okT : BitVec 48)
  | tpoOverload (m : Fin 16)
  | tpoOverloadClear (m : Fin 16)
  | darkTestDue (lane : Lane) (o : Fin 28)
  | darkTestStart (lane : Lane)
  | darkTestEnd (lane : Lane) (sw : Bool) (landMv : Nat) (turnOff2us : Nat)
  | switchProtectionTrip (lane : Lane) (o : Fin 28)
  | groupOvercurrent (lane : Lane) (g : Fin 5)
  | groupOvercurrentClear (lane : Lane) (g : Fin 5)
  | brkOpenCoil (lane : Lane) (k : Fin 4) (ma : Nat)
  | brightDue (o : Fin 28)
  | brightOverdue (o : Fin 28)
  -- motion
  | motionStrobe (raws : Vector EncRaw 16) (pwrMv pwrMa : Vector Nat 8)
  | encSupplyTrip (j : Fin 8)
  | axisCrossMismatch (ax : Fin 8)
  -- analogue
  | conversionWindowEnd (ch : Fin 8) (sd : BitVec 24) (sar : BitVec 16) (stat : BitVec 3) (drvMv : Int) (burnMv : Nat := 0)
      (leadSd : BitVec 24 := 0) (leadSar : BitVec 16 := 0)
  | cjSensorRead (sdTemps sarTemps : Vector Int 4)
  | anStale (ch : Fin 8)
  -- networks
  | netFrameReceive (port : NetPort) (frame : List Byte) (fcsOk : Bool)
  | telegramCopyReceive (port : NetPort) (head body : List Byte) (rx : W64)
  | arpRequest (port : NetPort) (tpa : W32) (sha : BitVec 48 := 0) (spa : W32 := 0)
  | linkUp (port : NetPort) (fullDuplex : Bool)
  | linkDown (port : NetPort)
  | ptpSyncReceive (port : NetPort) (master : W64) (t1 t2 : Int)
  | ptpSyncTimeout
  | ptpSyncSend
  | ptpAnnounceSend
  | pairingWindowExpiry (conn : Fin 128)
  | connTimeout (conn : Fin 128)
  | connLeeExpired (conn : Fin 128)
  | connNotStarted (conn : Fin 128)
  | csfWdg (conn : Fin 128)
  | casHbSend
  | casAgreeSend
  | casMemberAbsent (m : Fin 8)
  -- engines, Weathering, Slate upkeep
  | engineHeartbeatMiss (e : Engine)
  | weatheringReplan (ron : List RonMeas) (flashBits : Vector Nat 4) (wrong : List (Nat × Int))
  | thatchDeviationMeasure (cycles : Nat)
  | slateRecheck (cells : Vector (BitVec 8192) 6) (dieTemp : Int)
  | equivalentHourUpdate
  | equivalentHourFlashCopy
  | weatheringDailyValue
  | tmrScrub (flips : List TmrUpset := [])
  | lullNAssert (lowNs : Nat)
  | lullTriggerFire
  -- block transitions of one instance
  | pairDiscrepancy (i : Nat)
  | resetStuck (n : Fin 48)
  | estopStopDelayEnd (i : Nat)
  | unlockTimeout (i : Nat)
  | lockTimeout (i : Nat)
  | mutingSeqTimeout (i : Nat)
  | mutingTime (i : Nat)
  | twoHandSyncTimeout (i : Nat)
  | enable3TMax (i : Nat)
  | modeImplausible (i : Nat)
  | edmFault (i : Nat)
  | timerBlockExpiry (i : Nat)
  | aThreshDelayEnd (i : Nat)
  | ss1tStopTimeEnd (i : Nat)
  | brakingEnd (i : Nat)
  | sosDelayEnd (i : Nat)
  | sbcReleaseDelayEnd (i : Nat)
  | brakeTestEnd (i : Nat)
  | brakeTestDue (i : Nat)
  | brakeTestOverdue (i : Nat)
  -- rows added at the end of the table
  | vbatRemoved (mv : Nat)
  | lossOfLock
  | engineRestarted (e : Engine) (sound : Bool := true)
  | usbAttach
  | delayRequestReceive (port : NetPort) (isRequest : Bool) (requester : W64) (t3 t4 : Int) (seq : BitVec 16 := 0)
  | announceReceive (port : NetPort) (a : Announce)
  | holdoverExpiry
  | tmuCountStep (n : Fin 32) (falling : Bool := false)
  | gustPulseEnd (m : Fin 16) (landMv : Nat) (onInHold : BitVec 48)
  deriving DecidableEq, Repr

end Sys2Proof
end

