-- ==== Sys2Proof/Decode.lean ====
section
/-! DEFINITION. Words to commands. The opcode table gives no row any bits (its "fields" are empty): commands reach the block as
mailbox codes, register accesses, frames and events, not as instruction words. -/

namespace Sys2Proof

/-- The command that a word spells by the table's bits: none, since no row has bits. -/
def decodeTableWord (_nbits _w : Nat) : Option Instr := none

end Sys2Proof
end

