-- ==== Sys2Proof/Config.lean ====
section
/-! DEFINITION. What one implementation or one configuration fixes: the parameters of a configuration image, and the values
that the manual leaves open, as constants without a body (`opaque`), so that nothing can be proved of their value. -/

namespace Sys2Proof.Machine

/-- A block instance in one channel (Table 5.13, Table 7.11): STATE, COUNT and a second count, small fields, captured
positions, outputs of the last tick (bit k: output k), inputs of the last tick, present block fault, whether it is still to be
set to its first state, whether its first transition since the entry into RUN is still to come, and whether its reset
conditions were met when the last press began (R94). -/
structure Blk where
  st : Nat
  cnt : Nat
  cnt2 : Nat
  sel : Nat
  fA : Bool
  fB : Bool
  seen : BitVec 4
  v0 : Int
  p0a : Int
  p0b : Int
  out : W64
  prev : BitVec 8
  fault : BitVec 16
  detail : Nat
  start : Bool
  first : Bool
  armedAck : Bool
  dropA : Nat
  dropB : Nat
  num : Int
  deriving DecidableEq, Repr, Inhabited

end Sys2Proof.Machine

namespace Sys2Proof.Config

/-- Configuration parameters (Tables 4.7, 5.4 to 5.11, 6.9, 7.6 to 7.8, 8.9, 9.9, 14.8 and the module-wide fields).
Times are in µs, but `inFilter` in 0.1 µs; enumerations are numbers in the order the tables list them. -/
inductive Param where
  -- inputs and TPOs
  | inMode | inFilter | inTpo | inPair | inPairType | inTDisc | inXset | inAckRole
  | tpoMode | tpoWidth | tpoPeriod | tpoWidthMax
  -- outputs
  | outKind | outStdState | outTest | outDtTime | outDtTimeMax | outDtInterval | outDtIntervalMin | outBrightMax | outCont
  | brkIMin | brkTPull
  -- axes and encoders
  | axisEnable | axisSrcB | axisNumA | axisNumB | axisDenA | axisDenB | axisOffA | axisOffB | axisNV | axisNA | axisVSs
  | axisVMax | axisTolPos | axisTolSpd | axisTolAcc | axisTolTicks | axisNetJitter | axisStoOut | axisNetConn | axisNetOff
  | encType | encLines | encZCheck | ssiBits | ssiCode | ssiClk | ssiCheck | ssiTMono | ssiErrBit | encPwrMode
  -- analogue channels
  | uacMode | uacRtdType | uacWires | uacRLead | uacTcType | uacCjSrc | uacLoopPwr | uacNe43 | uacTConv | uacTol | uacTRange
  | uacTAlarm | uacChar | uacXLo | uacXHi | uacEuLo | uacEuHi | uacCutoff | uacTblX | uacTblY | uacAlmDir | uacVAlarm
  | uacRemoteSense | uacOutSrc | uacOutFix | uacOutPre | uacOutEn | uacOutSel0 | uacOutSel1 | uacTolOut | uacNetConn
  | uacNetOff
  -- networks
  | netEtCtt | netEtCsf | netIpA | netIpB | netMaskA | netMaskB | netUdpCtt | netUdpCsf
  | ptpRole | ptpDomain | ptpPort | ptpTransport | ptpLogSync
  | connProto | connDir | connId | connTransport | connDst | connC | connTP | connLen | connD | connAgeMax | connW
  | connTimeout | connLeeTime | connPhase | csfPort | csfWdg
  | casId | casSelf | casListNum | casListSerial | casListSeed | casCycle | casAgeMax | casDst
  -- block instances
  | bReset | bStartAck | bStartTest | estopCat | estopTStop | glMonitor | glPrinciple | glReqSrc | glTLock | glTUnlockMax
  | curMuting | curDirection | curT12 | curTSync | curTMuteMax | en3TMax | msTChange | msModeAck | edmTPick | edmTDrop
  | timPt | atChannel | atDir | atLimit | atHyst | atTDelay | bOutput | bConn | bMember | bSigBit
  | bAxis | s1TStop | s1EarlySto | tBrake | tR | tJ | aM | vTol | sosWin | sosVMax | sosTDelay | slsLimit | sdiDir | sdiTol
  | slpLo | slpHi | slpTR | slpABrake | sbcTRel | sbtWin | sbtTTest | sbtInterval
  -- module-wide
  | modTick | modStartMode | declTarget | splitPermitted | wthEnable | wthTickTolMin | wthExhaust | mbxTimeout | mirrorList
  deriving DecidableEq, Repr, Inhabited

/-- One field of a configuration image, in the order in which the image holds it: `index` is the input, channel, connection
or instance, `elem` the point or list element. -/
structure Field where
  param : Param
  index : Nat
  elem : Nat
  value : Int
  deriving DecidableEq, Repr, Inhabited

/-- What a block input is linked to: an output of an instance, or a safe input itself. -/
inductive Link where
  | none
  | sig (inst out : Nat)
  | pin (n : Nat)
  deriving DecidableEq, Repr, Inhabited

/-- A block instance (R99): type code of Table 5.1, links, the input linked as RESET, and the lists that Rosomer Studio
stores in both images: the outputs it reaches, and the EDM blocks on the way (R107). -/
structure Inst where
  typ : Nat
  ins : List Link
  reset : Option Nat
  reach : List Nat
  reachEdm : List Nat
  deriving DecidableEq, Repr, Inhabited

/-- A reference vector (R50): the input snapshot as an inbound frame carries it, the initial canonical state of every block, and
the expected result record that each image holds. -/
structure RefVec where
  inputs : InFrame
  blocks : List Machine.Blk
  expP : Vector W32 8
  expT : Vector W32 8
  deriving DecidableEq, Repr

/-- A row of the Thatch configuration memory with the CRC stored with the image (R58). -/
structure ThatchRow where
  bits : BitVec 256
  crc : W32
  deriving DecidableEq, Repr, Inhabited

/-- A configuration image: its fields, its application and what its two images declare and hold: source digests,
reference vectors, Ridge code and split image as bytes, rows of the Thatch configuration (R25, R49, R50, R58, R65, R66). -/
structure Image where
  fields : List Field
  insts : List Inst
  ridgeDigest : BitVec 256
  thatchDigest : BitVec 256
  vectors : List RefVec
  ridgeCode : List Byte
  splitCode : List Byte
  rows : List ThatchRow
  cyc12 : Nat
  cyc3 : Nat
  split : Bool
  fwClass : Nat
  deriving DecidableEq, Repr, Inhabited

/-- The state of a comparator between its thresholds, 7 V and 10 V of a land, by its state before and the voltage in mV (R73: only
the outer bounds of the hysteresis are given; log entry 145). -/
opaque hysteresis : Bool → Nat → Bool

/-- The image format is not in the manual (log entry 8): what the bytes received so far complete. -/
opaque image : List Byte → Image

/-- PARAM numbers are "the parameter number that Rosomer Studio shows" (R260; log entry 9). -/
opaque paramNo : Param → BitVec 16

/-- Conversion of a converter code to its electrical quantity (R183; log entry 10): channel mode, sensor, wires (3-wire compensation
included), converter (true: SAR), code; µV, nA, mΩ, and nV for a thermocouple. -/
opaque codeQty : (mode sensor wires : Int) → (sar : Bool) → (code : Int) → Int

/-- The IEC 60751 characteristic of a Pt100 or Pt1000 (sensor 0 or 1): temperature in 0.01 °C of a resistance in mΩ (R186; log entry
10). -/
opaque ptTemp : (sensor ohm : Int) → Int

/-- The IEC 60584-1 reference function of a thermocouple type: voltage in nV of a temperature in 0.01 °C, and its inverse (R186; log entry
10). -/
opaque tcVolt : (typ temp : Int) → Int

/-- The temperature in 0.01 °C of a thermocouple voltage in nV (R186; log entry 10). -/
opaque tcTemp : (typ volt : Int) → Int

/-- The code of a thermocouple voltage in nV in a converter (true: SAR) (R183; log entry 10). -/
opaque voltCode : (sar : Bool) → (volt : Int) → Int

/-- The frequency correction of the servo, in 10⁻⁹, from the one before, a measured offset in ns and the time since the last Sync in 10 ns
(R205; log entry 160). -/
opaque servoFreq : (last offset : Int) → (units : Nat) → Int

/-- Fields of the IPv4 and UDP headers of sent packets that the manual leaves open: 0 type of service, 1 identification, 2 time to live,
3 UDP source port, 4 whether fragmentation is forbidden (R202; log entry 161). -/
opaque ipField : Nat → Nat

/-- The turn-off time in 2 µs units at the n-th commanded off (Table 14.6; log entry 122). -/
opaque offTime : Nat → Nat

/-- The salt drawn from the noise source at the n-th draw (R254; log entry 12). -/
opaque noise : Nat → BitVec 128

/-- Whether a RESET_N pulse of 1 µs to 10 µs resets the module (R281; log entry 15). -/
opaque shortReset : Nat → Bool

/-- Whether a low level of LULL_N between 0.1 µs and 1 µs requests LULL (R349; log entry 15). -/
opaque shortLull : Nat → Bool

/-- A word of an engine-internal block of the LULL capture, by its address and the stamp of the freeze (R353; log entry 16). -/
opaque captureWord : (addr stamp : Nat) → W32

/-- Whether a memory word of the LULL capture has a double-bit error (R353; log entry 16). -/
opaque captureDed : (addr stamp : Nat) → Bool

/-- The variant held in the TRIM region (R342; its place is Bildodom-internal): true for IKB-9648-X. -/
opaque variantX : BitVec 8192 → Bool

/-- The cascade section of a configuration image (R219), over which the cascade digest is taken. -/
opaque cascadeSection : Image → List Byte

/-- The six readings (two copies at three references) of a cell after a failed programming (R301; log entry 31). -/
opaque failedCell : Nat → BitVec 6

/-- The Code field of a Slate event (kind 0 to 4: the bit of Table 13.7) or of a Weathering event (5: a margin is exhausted),
which the manual does not number (Table 11.11; log entry 32). -/
opaque eventCode : Nat → BitVec 16

/-- What a check-value unit that is not sound leaves in CVU_RESULT after its vector (R237; log entry 184). -/
opaque wrongCrc : Nat → W64

/-- Whether the unit of an engine that a restart into SELFTEST starts again runs its vector right, at the n-th draw (R237; log entry
217). -/
opaque cvuSound : Nat → Bool

/-- Whether a domain that stands off comes into regulation at a restart into SELFTEST, by domain and timebase (R319; log entry 216). -/
opaque regulates : (dom time : Nat) → Bool

/-- How far HOLD has fallen in mV while the module runs from it, by the timebase: the draw and C_H are the builder's (R314; log entry
218). -/
opaque holdSag : Nat → Nat

/-- Input capacitance in nF from an edge delay in µs: C = 100 mA × t / 19 V (Table 14.6). -/
def edgeToNf (us : Nat) : Nat := 100 * us / 19

end Sys2Proof.Config
end

