-- ==== Sys2Proof/Machine/State.lean ====
section
/-! DEFINITION. The state of the module: every register, buffer, counter, mode and pin the manual gives it, as plain data,
the queue of waiting commands, and the state right after reset (INVENTORY.md lists the rule that names each field). -/

namespace Sys2Proof.Machine

/-- A word stored as three copies in separate storage (R340). -/
structure Voted (n : Nat) where
  a : BitVec n
  b : BitVec n
  c : BitVec n
  deriving DecidableEq, Repr

/-- Main clock steps (Table 2.8). -/
inductive ClkStep where
  | c400 | c300 | c200
  deriving DecidableEq, Repr

/-- The twelve modes (Table 12.1). -/
inductive Mode where
  | off | backup | boot | selftest | configure | verify | safeHold | run | lee | lockout | service | lull
  deriving DecidableEq, Repr

/-- An engine's own port to the timebase: its shadow, and the word that it read last (R35). -/
structure TbPort where
  shadow : Option W32
  data : W32
  deriving DecidableEq, Repr

/-- The timebase, the SPI port's shadow of it, and the engines' ports (R34, R35). -/
structure Timebase where
  count : W64
  shadow : Option W32
  torn : Bool
  ports : Vector TbPort 8
  deriving DecidableEq, Repr

/-- Tick registers, the TICK count, whether the tick's phase 3 has begun, and the two tick generators (R22 to R30, R328): `began`
once a boundary has come since they started, `pulse` once this tick's Thatch pulse has come, `pulsePrev` unless that of the tick
before is missing, `thCycles` the Thatch cycles of the last tick. -/
structure Tick where
  sel : BitVec 2
  running : Bool
  dev : BitVec 16
  clk : ClkStep
  pendClk : Option ClkStep
  count : W32
  boundary : W64
  pulse : Bool
  pulsePrev : Bool
  began : Bool
  thCycles : Nat
  phase3 : Bool
  silentT : Bool
  centre : Int
  half : Nat
  deriving DecidableEq, Repr

/-- One channel of the timer unit (Tables 2.10 to 2.12); `fire` is a late match waiting for its clock (R40), `acc`,
`stepLen` and `inCnt` are the prescaler accumulator, the length of the running step and its input cycles so far (R37). -/
structure TmuCh where
  count : W32
  cmp : W32
  ctrl : W32
  presc : W32
  adv : W32
  ovf : Bool
  cmpF : Bool
  late : Bool
  sat : Bool
  torn : Bool
  rej : Bool
  armed : Bool
  fire : Bool
  shadow : Option W32
  acc : BitVec 8
  stepLen : Nat
  inCnt : Nat
  deriving DecidableEq, Repr

/-- The timer unit (R36 to R43). -/
structure Tmu where
  ch : Vector TmuCh 32
  per : W32
  lead : W32
  deriving DecidableEq, Repr

/-- Host port state and window registers with a behaviour of their own (R242, R338, R344, R346); `modStat` are the fields of
MOD_STATUS that Gable refreshes (R343). -/
structure HostIf where
  kept : Option (List Byte × List Byte)
  miso : List Byte
  data : W32
  guard : Option W64
  keyFails : BitVec 8
  irq : W32
  irqEn : W32
  indAddr : BitVec 24
  domOff : Bool
  posShadow : Vector (Option W32) 16
  modStat : W32
  deriving DecidableEq, Repr

/-- LULL (R349 to R353). -/
structure Lull where
  active : Bool
  cause : BitVec 2
  stamp : W64
  trig : Voted 32
  argLo : Voted 32
  argHi : Voted 32
  ecc : W32
  matched : BitVec 16
  phase : W32
  fromMode : BitVec 4
  deriving DecidableEq, Repr

/-- Event registers that clear on read (R336). -/
structure Events where
  chFlags : W32
  inEvt : BitVec 48
  outEvt : BitVec 28
  anEvt : BitVec 8
  axEvt : BitVec 8
  moEvt : BitVec 2
  netA : W32
  netB : W32
  slate : W32
  pwr : W32
  wth : W32
  deriving DecidableEq, Repr

/-- Fault classes (Table 12.7). -/
inductive FClass where
  | c | p | s | h
  deriving DecidableEq, Repr

/-- An entry of the fault table (R286). -/
structure FaultEntry where
  code : BitVec 16
  arg : W32
  cls : FClass
  warning : Bool
  time : W64
  deriving DecidableEq, Repr

/-- Why a restart is due (R264, R283). -/
inductive RestartKind where
  | commit | fwActivate | lockout
  deriving DecidableEq, Repr

/-- A restart that follows a response: its kind, the response's port, and the timebase at which it is due (R264, R283). -/
structure RestartDue where
  kind : RestartKind
  port : Port
  due : W64
  deriving DecidableEq, Repr

/-- The lock-out acknowledge window of CLEAR_LOCKOUT (R283): the request and its end. -/
structure LockWindow where
  req : Req
  opened : W64
  ends : W64
  deriving DecidableEq, Repr

/-- A non-safety engine (R290): running, down for good, restarts since power-on, times of its latest missed heartbeats. -/
structure EngineSt where
  up : Bool
  down : Bool
  restarts : BitVec 8
  misses : List W64
  deriving DecidableEq, Repr

/-- A kept request with its response (R248). -/
structure Kept where
  tag : BitVec 16
  body : List Byte
  rsp : List Byte
  deriving DecidableEq, Repr

/-- A session of one port (R253, R256): level 0 Observe, 1 Maintain, 2 Integrate. -/
structure Session where
  level : BitVec 2
  lastReq : W64
  service : Bool
  unsetOnly : Bool
  deriving DecidableEq, Repr

/-- A stored password (R254). -/
structure Password where
  salt : BitVec 128
  digest : BitVec 256
  deriving DecidableEq, Repr

/-- A clamp report entry (R260). -/
structure Clamp where
  path : W64
  given : Int
  used : Int
  deriving DecidableEq, Repr

/-- A candidate configuration (R257 to R261). -/
structure Candidate where
  owner : Port
  totalLen : Nat
  totalCrc : W32
  data : List Byte
  ended : Bool
  clamps : List Clamp
  digest : BitVec 256
  accepted : Bool
  endedAt : W64
  deriving DecidableEq, Repr

/-- An entry of the VERIFY report (Table 11.7). -/
structure VerifyEntry where
  code : BitVec 16
  inst : BitVec 16
  first : W32
  count : W32
  deriving DecidableEq, Repr

/-- A VERIFY run and its report (R262): state 0 running, 1 pass, 2 fail. -/
structure VerifyRun where
  state : BitVec 8
  afterAccept : Bool
  lost : Bool
  vectors : BitVec 16
  startTick : W32
  ticks : W32
  dur : W64
  ends : W64
  entries : List VerifyEntry
  deriving DecidableEq, Repr

/-- A flash bank: header words, image, and the CRC stored with it (R264, R266; log entry 33). -/
structure Bank where
  gen : W32
  genN : W32
  booted : W32
  crc : W32
  image : List Byte
  deriving DecidableEq, Repr

/-- Gable: the mailbox service, sessions, passwords, configuration and firmware management (R244 to R270). `backoffHeld`: a back-off
that was in force at the last power-on waits for GABLE_UP (R255); `held`: the request whose change of mode waits for the next
boundary (R275); `parked`: a message that arrived behind an earlier request of the other port and is not to be executed, which is answered in
its turn (R246); `owner`: the port whose session owns CONFIGURE (R257). -/
structure Gable where
  up : Bool
  reqBusy : Bool
  rspReady : Bool
  evtLost : Bool
  overrun : Bool
  lastStatus : BitVec 8
  evtPending : Nat
  queue : List (BitVec 16 × Req)
  parked : Option (Port × List Byte)
  owner : Option Port
  started : W64
  keptSpi : List Kept
  keptUsb : List Kept
  usbRsp : List (List Byte)
  usbEvents : List (List Byte)
  usbAttached : Bool
  evtSeq : BitVec 16
  usbSeq : BitVec 16
  evtDropped : W32
  spi : Session
  usb : Session
  maintain : Option Password
  integrate : Option Password
  fails : Nat
  backoffEnd : Option W64
  backoffLen : Nat
  backoffHeld : Bool
  held : Option (BitVec 16 × Req)
  cand : Option Candidate
  verify : Option VerifyRun
  fwData : List Byte
  fwActive : Bool
  fwVer : W32
  deriving DecidableEq, Repr

/-- Flash contents that Gable manages (R264, R266, R268, R330): the banks (false: A, true: B), the Shingle log slots. -/
structure Flash where
  cfgA : Bank
  cfgB : Bank
  fwA : Bank
  fwB : Bank
  log : List (Nat × List Byte)
  hours : Nat
  deriving DecidableEq, Repr

/-- The active configuration (R265). -/
structure Active where
  valid : Bool
  bankB : Bool
  gen : W32
  crc : W32
  image : Config.Image
  deriving DecidableEq, Repr

/-- The Slate (R292 to R312): per physical copy the readings of its cells at the normal, tight-high and tight-low
references, and what AO latched at BOOT. -/
structure Slate where
  cells : Vector (BitVec 8192) 6
  bootCells : Vector (BitVec 8192) 6
  shadow : Voted 8192
  weak : BitVec 8192
  both : BitVec 8192
  readDone : Bool
  drift : W32
  prog : W32
  deriving DecidableEq, Repr

/-- Largest measured values of a stretch of time (Table 14.6): turn-off times in µs and on-resistances in mΩ of the switches, edge
delays in µs of the inputs, drop-out times in ticks by EDM instance, |δ| in 0.01 %, weak Slate bits, the shutdown reserve in µs; and
the flash bits corrected in it, which count up. -/
structure Peaks where
  off : Vector Nat 56
  ron : Vector Nat 56
  edge : Vector Nat 48
  edm : List (Nat × Nat)
  delta : Nat
  flash : Vector Nat 4
  weak : Nat
  reserve : Option Nat
  deriving DecidableEq, Repr

/-- The backup domain (R320 to R322); `rtcFrac` counts the part of an RTC step that has passed, in 10⁻⁸ of it. -/
structure Backup where
  valid : Bool
  rtcSec : W32
  rtcSub : BitVec 15
  rtcFrac : Nat
  rtcValid : Bool
  tamper : Bool
  tamperSec : W32
  nextCount : W32
  lockFlag : Voted 1
  lockCause : Voted 16
  fwAttempts : Nat
  hasSnap : Bool
  snapGen : W32
  snapDt : Vector Nat 56
  snapInt : Vector Nat 28
  snapWidth : Vector Nat 16
  snapCentre : Int
  snapHalf : Nat
  snapHours : Nat
  snapPeaks : Peaks
  reserve : BitVec 16
  hasReserve : Bool
  deriving DecidableEq, Repr

/-- Supplies, domains and temperatures (Tables 14.9, 14.10; R315 to R324). Voltages in mV (`vbat` as last measured, `vbatNow` as it stands
on the land), temperatures in 0.1 °C; timers are timebase values: `shutdown` is the instant s of an ordered shutdown, `b1` its boundary
b1, with `lplusS` the reading of L+ taken at s, and `doneAt` its end (Table 14.3), `aoHold` the clocks of
10 ns for which AO still holds itself in reset after it (R318), `lowAt` the last downward crossing of a threshold of
L+. `bkGood`: the integrity word of BK was good at the last boot. -/
structure Power where
  aoOn : Bool
  lplus : Nat
  hold : Nat
  vbat : Nat
  vbatNow : Nat
  die : Int
  fieldSide : Int
  holdup : BitVec 16
  shedUsb : Bool
  shedEvt : Bool
  shedMirror : Bool
  shedWrep : Bool
  ride : Option W64
  shutdown : Option W64
  b1 : Option W64
  lplusS : Nat
  doneAt : Option W64
  aoHold : Nat
  bkGood : Bool
  domains : BitVec 10
  lowAt : Option W64
  lastUp : Option W64
  highSince : Vector (Option W64) 4
  coolSince : Option W64
  deriving DecidableEq, Repr

/-- Weathering (R325 to R331): active re-planned margins in µs and the accepted ones that wait for their moment, the peaks since
the last re-plan, of each one before it, and of 24 h, the deviations of 10 min in Thatch cycles per second, the equivalent-hour
count in 10⁻⁹ h, the values of each day by margin number, re-plans in RUN on the configured side by margin number, exhausted
margins with their day, the timebase value of the last re-plan. -/
structure Weather where
  dt : Vector Nat 56
  interval : Vector Nat 28
  width : Vector Nat 16
  nextDt : Vector Nat 56
  nextInt : Vector Nat 28
  nextWidth : Vector Nat 16
  nextCentre : Int
  cur : Peaks
  hist : List Peaks
  peak : Peaks
  delta : List Int
  hours : Nat
  planAt : W64
  daily : List (Nat × List (Nat × Int))
  back : List (Nat × Nat)
  exhausted : List (Nat × Nat)
  rejected : Bool
  snapLoaded : Bool
  sum : Vector W32 4
  deriving DecidableEq, Repr

/-- A lane's command latch (R24, R53). -/
structure Latch where
  cmds : BitVec 28
  dark : BitVec 28
  gust : Vector GustEv 16
  setpt : Vector (BitVec 16) 8
  deriving DecidableEq, Repr

/-- A safe input in one channel: its class P faults (Table 4.6) and its acknowledge counters, with whether a
press begins in this tick and how many ticks the last press lasted (R92 to R94); the boundary whose frame carried its INPUT entry
(R129), and pulses followed in a row (R86, Table 4.6). -/
structure InCh where
  wire : Bool
  band : Bool
  follow : Bool
  tpo : Bool
  closed : Nat
  opened : Nat
  pressOk : Bool
  stuck : Bool
  ack : Bool
  pressed : Bool
  lastPress : Nat
  entryAt : Option W64
  okRun : Nat
  deriving DecidableEq, Repr

/-- An output in one channel: its class P faults found on the channel's own lane (Table 6.8), dark-test bookkeeping, ticks
since the last proof of opening (R135), since switch-on, and since the channel first read OUT_OVERLOAD. -/
structure OutCh where
  closeFail : Bool
  overload : Bool
  bypass : Bool
  openLoad : Bool
  extVolt : Bool
  coil : Bool
  bright : Bool
  group : Bool
  okTicks : Nat
  extOk : Nat
  openTicks : Nat
  onTicks : Nat
  sinceProof : Nat
  firstFail : Bool
  retest : Bool
  due : Bool
  cont : Bool
  sinceTrip : Nat
  deriving DecidableEq, Repr

/-- A universal analogue channel in one safety channel (R185 to R195): state code; the faults that stand, by their codes of Table 8.11,
with the ticks for which the condition of each has been absent; `latchRow` the row of Table 8.6 at which the output latch holds,
`target` the level driven, in steps of x, and `code` the set-point code. -/
structure AnCh where
  st : Nat
  stand : BitVec 14
  clr : Vector Nat 14
  x : Int
  xSar : Int
  y : Int
  lastValid : Int
  dev : Nat
  zone : Nat
  zoneCnt : Nat
  outCnt : Nat
  noNew : Nat
  openCnt : Nat
  compCnt : Nat
  devCnt : Nat
  latch : Bool
  latchRow : Nat
  seenNew : Bool
  target : Int
  code : BitVec 16
  deriving DecidableEq, Repr

/-- A motion axis in one channel: the last record of each source, its positions at the strobes that the record covers (R170; log entry
159), the count of deviating ticks, good records in a row. -/
structure AxCh where
  recA : MotionRec
  recB : MotionRec
  pathA : List Int
  pathB : List Int
  haveA : Bool
  haveB : Bool
  dev : Nat
  devPos : Int
  devSpd : Int
  netAge : Nat
  deriving DecidableEq, Repr

/-- A cascade member as this module sees it (R219 to R222): when its telegrams were last received, what they said, rounds in a
row without a failure of each kind, and the MAC addresses that its frames came from on NETA and on NETB (R221). -/
structure Member where
  lastHb : Option W64
  lastAgree : Option W64
  mode : BitVec 4
  offset : Int
  cfgOk : Bool
  fwOk : Bool
  identOk : Bool
  skew : Bool
  cfgRun : Nat
  fwRun : Nat
  idRun : Nat
  hbStamp : W64
  agreeStamp : W64
  macA : Option (BitVec 48)
  macB : Option (BitVec 48)
  deriving DecidableEq, Repr

/-- A received telegram copy in a channel's input buffer, with its port, the sender's MAC address and receive time (R211, R221). -/
structure Copy where
  port : NetPort
  bytes : List Byte
  src : BitVec 48
  rx : W64
  deriving DecidableEq, Repr

/-- A consuming connection in one channel (R213 to R218): state code of Table 9.3, LEE_COUNT, consecutive PAIRED outcomes,
last accepted STAMP or SEQ, STAMP of the newest copy with LOCKOUT = 1 (R215), phase 3 periods since the last acceptance, payload
delivered, held copies. -/
structure Conn where
  st : Nat
  lee : Nat
  leeRun : Bool
  paired : Nat
  stamp : W64
  lockStamp : W64
  seq : BitVec 16
  since : Nat
  fresh : Bool
  payload : List Byte
  zeroed : Bool
  held : List Copy
  singles : Nat
  discards : Nat
  copyA : Bool
  copyB : Bool
  txSeq : W32
  startFor : Nat
  deriving DecidableEq, Repr

/-- What a channel takes from its lane's inbound frame at the end of phase 0 (R23). -/
structure Snapshot where
  inputs : BitVec 48
  bands : BitVec 96
  follow : BitVec 48
  sw : BitVec 28
  live : BitVec 28
  sup : Vector (BitVec 2) 7
  volts : Vector (BitVec 10) 7
  sd : Vector (BitVec 24) 8
  sar : Vector (BitVec 16) 8
  anStat : Vector (BitVec 4) 8
  groupOver : BitVec 5
  header : BitVec 16
  deriving DecidableEq, Repr

/-- A gust pulse whose result a channel awaits: its TPO, the timebase at which its window 2 closes at the latest, and the inputs on as
it began (R84, R86). -/
structure PulseRun where
  tpo : Nat
  ends : Nat
  on : BitVec 48
  deriving DecidableEq, Repr

/-- The dark-test schedule of a lane as both channels compute it, from TICK and the committed commands alone: the outputs whose test is
due, the one under test, and the TICK count at which its result is in (R20, R133). -/
structure DtPlan where
  due : BitVec 28
  out : Option (Fin 28)
  till : W32
  deriving DecidableEq, Repr

/-- One safety channel: the Ridge pair or the Thatch fabric. `late` is the latch content that the coming frame still carries after
a force in the last microsecond (R24); `frameOk` and `passAt` say that this tick's inbound frame has passed its checks, and when
(R26); `latched` and `latchClear` are its output latch (R144). `early` and `earlyConn` keep the blocks and connections that an expiry
has moved since the last evaluation or phase 3, as they stood before it, so that each makes one transition in a tick (R106, R160,
R213). `own` and `other` are the dark-test schedules of both lanes as this channel computes them (R20, R133). `txAt` is when its last outbound frame started
(R16). `mem` is its view of the cascade, `casBad` the members that are absent or in LOCKOUT in it (R14, R123). -/
structure Chan where
  frozen : Bool
  hMis : Bool
  latch : Latch
  late : Option Latch
  forced : Bool
  prevCmd : BitVec 28
  txSeq : BitVec 16
  tx : OutFrame
  echoDue : Option (BitVec 16)
  snap : Snapshot
  frameOk : Bool
  passAt : W64
  evaluated : Bool
  committed : Bool
  record : Vector W32 8
  latchReq : BitVec 28
  latched : BitVec 28
  latchClear : BitVec 28
  sig : BitVec 28
  out : BitVec 28
  blk : List Blk
  inp : Vector InCh 48
  outs : Vector OutCh 28
  an : Vector AnCh 8
  ax : Vector AxCh 8
  conn : Vector Conn 128
  buf : List Copy
  tgrams : List (Nat × List Byte)
  dtWait : Option (Fin 28)
  dtDue : W32
  own : DtPlan
  other : DtPlan
  txAt : W64
  entries : List ParamEntry
  pulses : List PulseRun
  early : List (Nat × Blk)
  earlyConn : List (Nat × Conn)
  mem : Vector Member 8
  casBad : BitVec 8
  deriving DecidableEq, Repr

/-- What both channels hold alike after an exchange, the channel registers (Tables 3.5 to 3.7; R144); `joinedAt` is the boundary from which
the pair has run in lock-step again after a join (R69). -/
structure Pair where
  ridgeLoaded : Bool
  thatchLoaded : Bool
  vecOk : Bool
  digestOk : Bool
  split : Bool
  splitBusy : Bool
  joinBusy : Bool
  splitAt : Option W32
  splitReq : Option (BitVec 16 × Req)
  joinBad : Bool
  joinedAt : Option W64
  firewall : Bool
  msgArea : List Host.Cell
  vecDone : Nat
  diverged : Bool
  faultLine : Bool
  eccCorr : W32
  thatchPass : W32
  xcmpTick : W32
  xcmpFields : BitVec 8
  xcmpP : Vector W32 8
  xcmpT : Vector W32 8
  ackPress : Bool
  startAck : Bool
  startOk : Nat
  lockAck : InCh
  deriving DecidableEq, Repr

/-- A dark test in a field controller: output, and whether its switch is open already (R48, R132). -/
structure DarkTest where
  out : Fin 28
  opened : Bool
  deriving DecidableEq, Repr

/-- A field controller: one per lane. `det` is its last frame-start detection (R16), `accepted` whether it has accepted its frame of
this tick, `frame` the last frame accepted, `inTx` the inbound frame of this tick once it has started, `sense` what the sense cells of
its switches agree on, `grpHigh` and `grpOk` samples in a row with a group sum too high and within rating (R143), `trip` the timebase of
each switch's protection trip (R141), `tripRel` whether it has been commanded open since. -/
structure LaneFc where
  resetLevel : Bool
  silent : Bool
  ref : Option (BitVec 16)
  since : W64
  det : W64
  accepted : Bool
  frame : Option OutFrame
  inTx : Option InFrame
  pIn : Vector (Option W32) 48
  pTpo : Vector (Option W32) 16
  pOut : Vector (Option W32) 28
  pAn : Vector (Option W32) 8
  sw : BitVec 28
  sense : BitVec 28
  trip : Vector (Option W64) 28
  tripRel : BitVec 28
  dt : Option DarkTest
  dtHold : BitVec 28
  dtUntil : W64
  dtHdr : BitVec 16
  groupOver : BitVec 5
  grpHigh : Vector Nat 5
  grpOk : Vector Nat 5
  rejected : BitVec 16
  failed : BitVec 16
  echoOk : Bool
  lastHdr : BitVec 16
  deriving DecidableEq, Repr

/-- A safe input on the field side (R60, R75 to R79, R84 to R86). -/
structure InFc where
  cmpP : Bool
  cmpT : Bool
  cand : Bool
  cnt : Nat
  filt : Bool
  band : Option (BitVec 2)
  bandCand : Option (BitVec 2)
  bandCnt : Nat
  outCnt : Nat
  onBreak : Nat
  offClosed : Nat
  disagree : Nat
  disBand : Option (BitVec 2)
  followOk : Bool
  viewDiff : Nat
  kind : BitVec 4
  edgeDly : BitVec 8
  current : Nat
  onAtT0 : Bool
  failNow : Bool
  deriving DecidableEq, Repr

/-- A TPO on the field side: the phase of its pulse (1 window 1, 2 hold interval, 3 window 2, R84) with its start t0; the
overload, which stands with a restart time once the TPO runs again (R88). -/
structure TpoFc where
  phase : Nat
  width : Nat
  overload : Bool
  restart : Option W64
  stuck : Bool
  lowRun : Nat
  mismatch : Bool
  driven : Bool
  offTick : Bool
  t0 : W64
  current : Nat
  mv : Nat
  deriving DecidableEq, Repr

/-- A field supply (Table 6.7): state code, voltage in 50 mV units, samples in DIP, samples at or above 19.2 V, samples with
the two readings apart. -/
structure Supply where
  st : BitVec 2
  volt : BitVec 10
  dip : Nat
  good : Nat
  diff : Nat
  deriving DecidableEq, Repr

/-- An output on the field side (R130, R147). -/
structure OutFc where
  live : Bool
  load : Nat
  iP : Nat
  iT : Nat
  offP : Nat
  offT : Nat
  deriving DecidableEq, Repr

/-- The field side FD apart from the two lanes. -/
structure FieldSt where
  inp : Vector InFc 48
  tpo : Vector TpoFc 16
  sup : Vector Supply 7
  out : Vector OutFc 28
  sched : Bool
  deriving DecidableEq, Repr

/-- A channel of the analogue domain FA (R179 to R195); `winAt` is the timebase at which its running conversion window began (R182). -/
structure AnFa where
  sd : BitVec 24
  sar : BitVec 16
  stat : BitVec 4
  setpt : BitVec 16
  drv : Int
  winAt : Option W64
  deriving DecidableEq, Repr

/-- FA: channels, cold-junction sensors with the time since which each has failed its check, and the strap. -/
structure Fa where
  ch : Vector AnFa 8
  cj : Vector Int 4
  cjSar : Vector Int 4
  cjBad : Vector Nat 4
  almOpen : Bool
  silentP : Bool
  silentT : Bool
  everAccepted : Bool
  inLull : Bool
  deriving DecidableEq, Repr

/-- An encoder interface in its motion engine (R149 to R154): `bad` holds the checks failed at the last strobe, `fault` the
encoder faults that stand, by the codes of Table 7.15, `good` and `goodO` strobes in a row fit for their clearing. -/
structure Enc where
  seq : BitVec 16
  pos : List Int
  spd : List Int
  offs : Int
  raw : Int
  wraps : Int
  have0 : Bool
  bad : Nat
  fault : Nat
  good : Nat
  goodO : Nat
  zGood : Nat
  subst : Bool
  vMax : Int
  vMin : Int
  qual : Nat
  deriving DecidableEq, Repr

/-- An encoder supply output: state code of Table 7.15; strobes in a row out of range, in the limit and in range. -/
structure EncPwr where
  st : BitVec 2
  volt : BitVec 6
  cur : BitVec 8
  bad : Nat
  lim : Nat
  good : Nat
  deriving DecidableEq, Repr

/-- Motion engines (R153, R154). -/
structure Motion where
  enc : Vector Enc 16
  pwr : Vector EncPwr 8
  good0 : Nat
  good1 : Nat
  silent0 : Bool
  silent1 : Bool
  deriving DecidableEq, Repr

/-- A network port (R201, R202). -/
structure PortSt where
  link : Bool
  duplex : Bool
  rxCnt : W32
  dropCnt : W32
  sent : List (List Byte)
  deriving DecidableEq, Repr

/-- PTP (R204, R205): servo state by Table 9.11, offset and path delay in ns, constant of the synchronised time, frequency
correction in 10⁻⁹, best master heard of and when, both stamps of the last Sync, timebase of the last Sync, of the start of
HOLDOVER, of the last Sync and Announce sent, the sequence numbers of the next Sync, Announce and Delay_Req, the constant fixed in BOOT
step 5, and the role since the last restart (R205). -/
structure Ptp where
  onB : Bool
  state : BitVec 2
  offset : Int
  good : Nat
  warnGood : Nat
  const : W64
  freq : Int
  best : Option Announce
  annHeard : W64
  delay : Int
  lastT1 : Int
  lastT2 : Int
  lastSync : W64
  holdAt : W64
  syncSent : W64
  annSent : W64
  syncSeq : BitVec 16
  annSeq : BitVec 16
  delaySeq : BitVec 16
  boot : W64
  role : Nat
  deriving DecidableEq, Repr

/-- The cascade (R219 to R222), the channels' views of its members apart; no leader before the first election. -/
structure Cascade where
  leader : Option (Fin 8)
  hbSeq : W32
  agreeSeq : W32
  hbSent : W64
  agreeSent : W64
  round : W32
  selfRounds : Nat
  blocked : Bool
  deriving DecidableEq, Repr

/-- A check-value unit (Tables 10.4, 10.5): registers, running value, the value that replaces it at the next beat (R233), bytes still to
be taken, the check value's bytes as they arrive, the bytes passed on, the word that its owner read last, and the timebase of its last
vector run (R237). -/
structure Cvu where
  ctrl : W32
  poly : W64
  init : W64
  xor : W64
  prefixV : W64
  value : W64
  heldLo : Option W32
  next : Option W64
  shadow : Option W32
  length : W32
  total : W32
  result : W64
  busy : Bool
  done : Bool
  checkFail : Bool
  lenErr : Bool
  midframe : Bool
  rej : Bool
  selfFail : Bool
  restarted : Bool
  tail : List Byte
  emitted : List Byte
  data : W32
  vecAt : W64
  deriving DecidableEq, Repr

/-- The process image mirror (R345, Table 15.6). -/
structure Mirror where
  tick : W32
  inputs : BitVec 48
  out : BitVec 28
  uac : Vector W32 8
  conn : Vector W32 16
  sig : List Bool
  deriving DecidableEq, Repr

/-- The buffers in AO that hold the field, analogue, motion and network blocks as they stood at the last refresh (R346). -/
structure IndBuf where
  field : FieldSt
  outRbP : BitVec 28
  outRbT : BitVec 28
  laneP : LaneFc
  laneT : LaneFc
  outCmd : BitVec 28
  outKind : Vector Nat 28
  outBright : BitVec 28
  outFirst : BitVec 28
  fa : Fa
  an : Vector AnCh 8
  anStat : Vector (BitVec 4) 8
  anRow : Vector Nat 8
  ax : Vector AxCh 8
  blocks : List Blk
  motion : Motion
  portA : PortSt
  portB : PortSt
  netSt : Vector W32 2
  ptpSt : W32
  ptpOff : W32
  casSt : W32
  casMem : Vector W32 8
  conn : Vector Conn 128
  setpt : Vector (BitVec 16) 8
  almSrc : Nat
  motionRuns : Bool
  deriving DecidableEq, Repr

/-- The tightly coupled memories of the Ridge cores (R54): for each core instruction and data memory, by byte address; an unlisted
byte holds 0. `ded`: the words with a double-bit error, by their addresses in the LULL capture (R353). -/
structure Tcm where
  instrA : List Host.Cell
  dataA : List Host.Cell
  instrB : List Host.Cell
  dataB : List Host.Cell
  ded : List Nat
  deriving DecidableEq, Repr

/-- The Thatch configuration memory with the row that the readback unit reads next (R58). -/
structure ThatchMem where
  rows : List Config.ThatchRow
  scan : Nat
  deriving DecidableEq, Repr

/-- The state of the module and the queue of commands that wait for it, first in, first out. `free` is the model's own
counter for free values; `hPend` holds, after a class H fault, the earliest timebase of a boundary that its forced commands
reach (R24); `want` a mode change that a mailbox command asks for. -/
structure State where
  pending : List Instr
  free : Nat
  tb : Timebase
  tick : Tick
  tmu : Tmu
  host : HostIf
  mbx : List Host.Cell
  lull : Lull
  scrubs : W32
  mirror : Mirror
  buf : IndBuf
  ev : Events
  mode : Mode
  bootStep : Nat
  resetHeld : Bool
  resetCause : BitVec 8
  want : Option Mode
  hPend : Option Nat
  restart : Option RestartDue
  faults : List FaultEntry
  unlisted : List FaultEntry
  lockWin : Option LockWindow
  gableE : EngineSt
  n0 : EngineSt
  n1 : EngineSt
  w : EngineSt
  ridgeB : EngineSt
  gable : Gable
  flash : Flash
  active : Active
  slate : Slate
  bk : Backup
  pwr : Power
  wth : Weather
  ridge : Chan
  thatch : Chan
  pair : Pair
  tcm : Tcm
  thatchMem : ThatchMem
  laneP : LaneFc
  laneT : LaneFc
  field : FieldSt
  fa : Fa
  motion : Motion
  portA : PortSt
  portB : PortSt
  ptp : Ptp
  cas : Cascade
  cvu : Vector Cvu 4
  deriving DecidableEq, Repr

/-- Why the model stops with a fault. The faults of the manual are entries of the fault table, not stops. -/
inductive Fault where
  /-- Raised by no command: the manual gives every command an effect. Safe: a stop proves nothing of the module. -/
  | none
  deriving DecidableEq, Repr

/-- Why the model refuses a command. -/
inductive Refusal where
  /-- Raised by an arm of `exec` whose command has no meaning yet. Safe: a refused command proves nothing. -/
  | notModelled (mnemonic : String)
  deriving DecidableEq, Repr

/-! ## The state right after reset -/

/-- An unused timer channel at its reset values (Table 2.10); accumulator, shadow and step length by log entry 4. -/
def TmuCh.reset : TmuCh :=
  { count := 0, cmp := 0, ctrl := 0, presc := 0x00010000, adv := 0, ovf := false, cmpF := false, late := false, sat := false,
    torn := false, rej := false, armed := false, fire := false, shadow := none, acc := 0, stepLen := 1, inCnt := 0 }

/-- An engine before its first start. -/
def EngineSt.reset : EngineSt := { up := false, down := false, restarts := 0, misses := [] }

/-- A session at Observe (R253). -/
def Session.reset : Session := { level := 0, lastReq := 0, service := false, unsetOnly := false }

/-- A flash bank with every word erased (R264). -/
def Bank.erased : Bank := { gen := 0xFFFFFFFF, genN := 0xFFFFFFFF, booted := 0xFFFFFFFF, crc := 0xFFFFFFFF, image := [] }

/-- The header of the delivered firmware image, Gable 3.2 (R1, R266, R378): class 3, minor 2, FW_VER 0x0302_0000, length 32,
CRC of no bytes, 16 zero bytes. -/
def Bank.delivered : Bank :=
  { gen := 1, genN := 0xFFFFFFFE, booted := 0, crc := 0,
    image := be 2 3 ++ be 2 2 ++ be 4 0x03020000 ++ be 4 32 ++ be 4 0 ++ List.replicate 16 0 }

/-- No event in any slot. -/
def Latch.safe : Latch :=
  { cmds := 0, dark := 0, gust := Vector.replicate 16 { code := 0, off := 0 }, setpt := Vector.replicate 8 0xFFFF }

/-- No outbound frame: type 0, which is no frame type (R21). -/
def OutFrame.blank (l : Lane) : OutFrame :=
  { ftype := 0, lane := l, tickSel := 0, seq := 0, cmds := 0, dark := 0,
    gust := Vector.replicate 16 { code := 0, off := 0 }, setpt := Vector.replicate 8 0, entries := [], reserved := 0, crc := 0 }

/-- A block at rest. -/
def Blk.reset : Blk :=
  { st := 0, cnt := 0, cnt2 := 0, sel := 0, fA := false, fB := false, seen := 0, v0 := 0, p0a := 0, p0b := 0, out := 0,
    prev := 0, fault := 0, detail := 0, start := true, first := true, armedAck := false, dropA := 0, dropB := 0, num := 0 }

/-- A motion record of zeros. -/
def MotionRec.zero : MotionRec :=
  { seq := 0, stat := 0, pos := 0, vLast := 0, vMax := 0, vMin := 0, aLast := 0, reserved := 0, crc := 0 }

/-- A snapshot before the first inbound frame. -/
def Snapshot.reset : Snapshot :=
  { inputs := 0, bands := 0, follow := 0, sw := 0, live := 0, sup := Vector.replicate 7 0, volts := Vector.replicate 7 0,
    sd := Vector.replicate 8 0, sar := Vector.replicate 8 0, anStat := Vector.replicate 8 0, groupOver := 0, header := 0 }

/-- An input's channel state without faults. -/
def InCh.reset : InCh :=
  { wire := false, band := false, follow := false, tpo := false, closed := 0, opened := 0, pressOk := false,
    stuck := false, ack := false, pressed := false, lastPress := 0, entryAt := none, okRun := 0 }

/-- An output's channel state without faults. -/
def OutCh.reset : OutCh :=
  { closeFail := false, overload := false, bypass := false, openLoad := false, extVolt := false, coil := false,
    bright := false, group := false, okTicks := 0, extOk := 0, openTicks := 0, onTicks := 0, sinceProof := 0, firstFail := false,
    retest := false, due := false, cont := false, sinceTrip := 0 }

/-- An analogue channel before its first pair. -/
def AnCh.reset : AnCh :=
  { st := 0, stand := 0, clr := Vector.replicate 14 0, x := 0, xSar := 0, y := 0, lastValid := 0, dev := 0, zone := 0, zoneCnt := 0,
    outCnt := 0, noNew := 0, openCnt := 0, compCnt := 0, devCnt := 0, latch := false, latchRow := 5, seenNew := false,
    target := 0, code := 0 }

/-- An axis before its first records. -/
def AxCh.reset : AxCh :=
  { recA := MotionRec.zero, recB := MotionRec.zero, pathA := [], pathB := [], haveA := false, haveB := false, dev := 0, devPos := 0, devSpd := 0,
    netAge := 0 }

/-- A connection in START (R279). -/
def Conn.reset : Conn :=
  { st := 0, lee := 0, leeRun := false, paired := 0, stamp := 0, lockStamp := 0, seq := 0, since := 0, fresh := false, payload := [],
    zeroed := false, held := [], singles := 0, discards := 0, copyA := false, copyB := false, txSeq := 0, startFor := 0 }

/-- A cascade member never heard of: no agreement of it has failed. -/
def Member.reset : Member :=
  { lastHb := none, lastAgree := none, mode := 0, offset := 0, cfgOk := false, fwOk := false, identOk := false,
    skew := false, cfgRun := 3, fwRun := 3, idRun := 3, hbStamp := 0, agreeStamp := 0, macA := none, macB := none }

/-- No dark test due. -/
def DtPlan.reset : DtPlan := { due := 0, out := none, till := 0 }

/-- A safety channel with its domain just switched on. -/
def Chan.reset (l : Lane) : Chan :=
  { frozen := false, hMis := false, latch := Latch.safe, late := none, forced := false, prevCmd := 0, txSeq := 0, tx := OutFrame.blank l,
    echoDue := none, snap := Snapshot.reset, frameOk := false, passAt := 0, evaluated := false, committed := false, record := Vector.replicate 8 0,
    latchReq := 0, latched := 0, latchClear := 0, sig := 0, out := 0, blk := [], inp := Vector.replicate 48 InCh.reset,
    outs := Vector.replicate 28 OutCh.reset,
    an := Vector.replicate 8 AnCh.reset, ax := Vector.replicate 8 AxCh.reset, conn := Vector.replicate 128 Conn.reset,
    buf := [], tgrams := [], dtWait := none, dtDue := 0, own := DtPlan.reset, other := DtPlan.reset, txAt := 0,
    entries := [], pulses := [], early := [], earlyConn := [],
    mem := Vector.replicate 8 Member.reset, casBad := 0 }

/-- A field controller under the reset level (R129). -/
def LaneFc.reset : LaneFc :=
  { resetLevel := true, silent := false, ref := none, since := 0, det := 0, accepted := false, frame := none, inTx := none,
    pIn := Vector.replicate 48 none, pTpo := Vector.replicate 16 none, pOut := Vector.replicate 28 none,
    pAn := Vector.replicate 8 none, sw := 0, sense := 0, trip := Vector.replicate 28 none, tripRel := 0, dt := none, dtHold := 0,
    dtUntil := 0, dtHdr := 0, groupOver := 0, grpHigh := Vector.replicate 5 0, grpOk := Vector.replicate 5 0,
    rejected := 0, failed := 0, echoOk := false, lastHdr := 0 }

/-- A safe input after the reset level: filter OFF with its count at 0, no band reported (R129). -/
def InFc.reset : InFc :=
  { cmpP := false, cmpT := false, cand := false, cnt := 0, filt := false, band := none, bandCand := none, bandCnt := 0, outCnt := 0, onBreak := 0,
    offClosed := 0, disagree := 0, disBand := none, followOk := true, viewDiff := 0, kind := 0, edgeDly := 0,
    current := 0, onAtT0 := false, failNow := false }

/-- A TPO after the reset level (R129). -/
def TpoFc.reset : TpoFc :=
  { phase := 0, width := 0, overload := false, restart := none, stuck := false, lowRun := 0, mismatch := false,
    driven := false, offTick := false, t0 := 0, current := 0, mv := 0 }

/-- A supply before its first sample. -/
def Supply.reset : Supply := { st := 0, volt := 0, dip := 0, good := 0, diff := 0 }

/-- An output's field side before its first sample. -/
def OutFc.reset : OutFc := { live := false, load := 0, iP := 0, iT := 0, offP := 0, offT := 0 }

/-- The field side after the reset level. -/
def FieldSt.reset : FieldSt :=
  { inp := Vector.replicate 48 InFc.reset, tpo := Vector.replicate 16 TpoFc.reset, sup := Vector.replicate 7 Supply.reset,
    out := Vector.replicate 28 OutFc.reset, sched := false }

/-- An analogue channel with its stage off. -/
def AnFa.reset : AnFa := { sd := 0, sar := 0, stat := 0, setpt := 0, drv := 0, winAt := none }

/-- FA before it is switched on. -/
def Fa.reset : Fa :=
  { ch := Vector.replicate 8 AnFa.reset, cj := Vector.replicate 4 0, cjSar := Vector.replicate 4 0,
    cjBad := Vector.replicate 4 0, almOpen := false, silentP := false, silentT := false,
    everAccepted := false, inLull := false }

/-- An encoder interface before its first strobe. -/
def Enc.reset : Enc :=
  { seq := 0, pos := [], spd := [], offs := 0, raw := 0, wraps := 0, have0 := false, bad := 0, fault := 0, good := 0,
    goodO := 0, zGood := 0, subst := false, vMax := 0, vMin := 0, qual := 0 }

/-- The motion domain before it is switched on. -/
def Motion.reset : Motion :=
  { enc := Vector.replicate 16 Enc.reset, pwr := Vector.replicate 8 { st := 0, volt := 0, cur := 0, bad := 0, lim := 0, good := 0 }, good0 := 0,
    good1 := 0, silent0 := false, silent1 := false }

/-- A port without a link. -/
def PortSt.reset : PortSt := { link := false, duplex := false, rxCnt := 0, dropCnt := 0, sent := [] }

/-- PTP before its first message: UNLOCKED (code 0 of Table 9.11). -/
def Ptp.reset : Ptp :=
  { onB := false, state := 0, offset := 0, good := 0, warnGood := 0, const := 0, freq := 0, best := none, annHeard := 0, delay := 0, lastT1 := 0,
    lastT2 := 0, lastSync := 0, holdAt := 0, syncSent := 0, annSent := 0, syncSeq := 0, annSeq := 0, delaySeq := 0, boot := 0, role := 0 }

/-- The cascade before its first telegram. -/
def Cascade.reset : Cascade :=
  { leader := none, hbSeq := 0, agreeSeq := 0, hbSent := 0, agreeSent := 0, round := 0,
    selfRounds := 0, blocked := false }

/-- A check-value unit at its reset values (Table 10.4). -/
def Cvu.reset : Cvu :=
  { ctrl := 0, poly := 0, init := 0, xor := 0, prefixV := 0, value := 0, heldLo := none, next := none, shadow := none, length := 0,
    total := 0, result := 0, busy := false, done := false, checkFail := false, lenErr := false, midframe := false,
    rej := false, selfFail := false, restarted := false, tail := [], emitted := [],
    data := 0, vecAt := 0 }

/-- The mirror at reset (Table 15.2). -/
def Mirror.reset : Mirror :=
  { tick := 0, inputs := 0, out := 0, uac := Vector.replicate 8 0, conn := Vector.replicate 16 0, sig := [] }

/-- The indirect buffers before their first refresh. -/
def IndBuf.reset : IndBuf :=
  let unseen := { InFc.reset with followOk := false }
  let lane := { LaneFc.reset with resetLevel := false }
  { field := { FieldSt.reset with inp := Vector.replicate 48 unseen }, outRbP := 0, outRbT := 0, laneP := lane, laneT := lane,
    outCmd := 0, outKind := Vector.replicate 28 0, outBright := 0, outFirst := 0, fa := Fa.reset, an := Vector.replicate 8 AnCh.reset,
    anStat := Vector.replicate 8 0,
    anRow := Vector.replicate 8 6, ax := Vector.replicate 8 AxCh.reset, blocks := [], motion := Motion.reset,
    portA := PortSt.reset, portB := PortSt.reset,
    netSt := Vector.replicate 2 0, ptpSt := 0, ptpOff := 0, casSt := 0, casMem := Vector.replicate 8 0,
    conn := Vector.replicate 128 Conn.reset, setpt := Vector.replicate 8 0, almSrc := 0, motionRuns := false }

/-- The cells of a delivered Slate as read at every reference (R293, R298; log entry 6): TRIM_CRC over 992 zero bits, HW_REV
0x00C2, IDENT_CRC, LIFE groups G1 and G2, region locks of TRIM and IDENT. -/
def Slate.deliveredBits : BitVec 8192 :=
  BitVec.ofNat 8192 (0x15D70E0C * 2 ^ 992 + 0x00C2 * 2 ^ 1184 + 0x2E68AE49 * 2 ^ 1504 + 0xFFFF * 2 ^ 1536
    + 3 * 2 ^ 8184)

/-- The Slate of a delivered module before BOOT step 3. -/
def Slate.reset : Slate :=
  { cells := Vector.replicate 6 Slate.deliveredBits, bootCells := Vector.replicate 6 0, shadow := { a := 0, b := 0, c := 0 },
    weak := 0, both := 0, readDone := false, drift := 0, prog := 0 }

/-- No measurement. -/
def Peaks.none : Peaks :=
  { off := Vector.replicate 56 0, ron := Vector.replicate 56 0, edge := Vector.replicate 48 0, edm := [], delta := 0,
    flash := Vector.replicate 4 0, weak := 0, reserve := Option.none }

/-- BK as delivered: not initialised (R378). -/
def Backup.reset : Backup :=
  { valid := false, rtcSec := 0, rtcSub := 0, rtcFrac := 0, rtcValid := false, tamper := false, tamperSec := 0, nextCount := 0,
    lockFlag := { a := 0, b := 0, c := 0 }, lockCause := { a := 0, b := 0, c := 0 }, fwAttempts := 0, hasSnap := false,
    snapGen := 0, snapDt := Vector.replicate 56 0, snapInt := Vector.replicate 28 0, snapWidth := Vector.replicate 16 0,
    snapCentre := 0, snapHalf := 500, snapHours := 0,
    snapPeaks := Peaks.none, reserve := 0, hasReserve := false }

/-- Supplies at the start of BOOT: BK, AO and FD on (R319). -/
def Power.reset : Power :=
  { aoOn := true, lplus := 0, hold := 0, vbat := 0, vbatNow := 0, die := 0, fieldSide := 0, holdup := 0, shedUsb := false,
    shedEvt := false, shedMirror := false, shedWrep := false, ride := none, shutdown := none, b1 := none, lplusS := 0, doneAt := none, aoHold := 0,
    bkGood := false,
    domains := 0x302, lowAt := none, lastUp := none, highSince := Vector.replicate 4 none, coolSince := none }

/-- Weathering without any measurement. -/
def Weather.reset : Weather :=
  { dt := Vector.replicate 56 0, interval := Vector.replicate 28 0, width := Vector.replicate 16 0,
    nextDt := Vector.replicate 56 0, nextInt := Vector.replicate 28 0, nextWidth := Vector.replicate 16 0, nextCentre := 0,
    cur := Peaks.none, hist := [], peak := Peaks.none, delta := [], hours := 0, planAt := 0,
    daily := [], back := [], exhausted := [], rejected := false, snapLoaded := false, sum := #v[0, 0, 0x1F4, 0] }

/-- Gable before it is started. -/
def Gable.reset : Gable :=
  { up := false, reqBusy := false, rspReady := false, evtLost := false, overrun := false, lastStatus := 0, evtPending := 0,
    queue := [], parked := none, owner := none, started := 0, keptSpi := [], keptUsb := [], usbRsp := [], usbEvents := [], usbAttached := false,
    evtSeq := 0, usbSeq := 0, evtDropped := 0, spi := Session.reset, usb := Session.reset, maintain := none,
    integrate := none, fails := 0, backoffEnd := none, backoffLen := 0, backoffHeld := false, held := none, cand := none,
    verify := none, fwData := [],
    fwActive := false, fwVer := 0 }

/-- No image at all. -/
def Image.empty : Config.Image :=
  { fields := [], insts := [], ridgeDigest := 0, thatchDigest := 0, vectors := [], ridgeCode := [], splitCode := [],
    rows := [], cyc12 := 0, cyc3 := 0, split := false,
    fwClass := 0 }

/-- The channel registers at reset (Table 3.5). -/
def Pair.reset : Pair :=
  { ridgeLoaded := false, thatchLoaded := false, vecOk := false, digestOk := false, split := false, splitBusy := false,
    joinBusy := false, splitAt := none, splitReq := none, joinBad := false, joinedAt := none, firewall := false, msgArea := [],
    vecDone := 0, diverged := false, faultLine := false, eccCorr := 0, thatchPass := 0, xcmpTick := 0,
    xcmpFields := 0, xcmpP := Vector.replicate 8 0, xcmpT := Vector.replicate 8 0,
    ackPress := false, startAck := false, startOk := 0, lockAck := InCh.reset }

/-- The module right after reset: a module as delivered (R378) at the release of the power-on reset of AO, the start of BOOT
(R34, R277, R343; log entries 3 to 6). -/
def State.reset : State :=
  { pending := [], free := 0,
    tb := { count := 0, shadow := none, torn := false, ports := Vector.replicate 8 { shadow := none, data := 0 } },
    tick := { sel := 0, running := false, dev := 0, clk := .c400, pendClk := none, count := 0, boundary := 0, pulse := false,
              pulsePrev := true, began := false, thCycles := 0,
              phase3 := false, silentT := false, centre := 0, half := 500 },
    tmu := { ch := Vector.replicate 32 TmuCh.reset, per := 0, lead := 0 },
    host := { kept := none, miso := [], data := 0, guard := none, keyFails := 0, irq := 1, irqEn := 0, indAddr := 0,
              domOff := false, posShadow := Vector.replicate 16 none, modStat := 0 },
    mbx := [],
    lull := { active := false, cause := 0, stamp := 0, trig := { a := 0, b := 0, c := 0 }, argLo := { a := 0, b := 0, c := 0 },
              argHi := { a := 0, b := 0, c := 0 }, ecc := 0, matched := 0, phase := 0, fromMode := 0 },
    scrubs := 0, mirror := Mirror.reset, buf := IndBuf.reset,
    ev := { chFlags := 0, inEvt := 0, outEvt := 0, anEvt := 0, axEvt := 0, moEvt := 0, netA := 0, netB := 0, slate := 0,
            pwr := 0, wth := 0 },
    mode := .boot, bootStep := 1, resetHeld := false, resetCause := 0, want := none, hPend := none, restart := none,
    faults := [], unlisted := [], lockWin := none, gableE := EngineSt.reset, n0 := EngineSt.reset, n1 := EngineSt.reset,
    w := EngineSt.reset, ridgeB := EngineSt.reset, gable := Gable.reset,
    flash := { cfgA := Bank.erased, cfgB := Bank.erased, fwA := Bank.delivered, fwB := Bank.erased, log := [], hours := 0 },
    active := { valid := false, bankB := false, gen := 0, crc := 0, image := Image.empty },
    slate := Slate.reset, bk := Backup.reset, pwr := { Power.reset with domains := 0 }, wth := Weather.reset, ridge := Chan.reset .p,
    thatch := Chan.reset .t, pair := Pair.reset, tcm := { instrA := [], dataA := [], instrB := [], dataB := [], ded := [] },
    thatchMem := { rows := [], scan := 0 }, laneP := LaneFc.reset, laneT := LaneFc.reset, field := FieldSt.reset,
    fa := Fa.reset, motion := Motion.reset, portA := PortSt.reset, portB := PortSt.reset, ptp := Ptp.reset,
    cas := Cascade.reset, cvu := Vector.replicate 4 Cvu.reset }

end Sys2Proof.Machine
end

