-- ==== Sys2Proof/Machine/Codes.lean ====
section
/-! DEFINITION. The codes of the manual: fault codes with their classes and reactions (Table 12.7), mode codes (Table 12.1),
mailbox commands with their levels, modes and logging (Table 11.6), status codes (Table 11.8), time in timebase units. -/

namespace Sys2Proof.Machine

/-! ## Fault codes (Table 12.7) -/

/-- RIDGE_LOCKSTEP_MISMATCH, class H. -/
abbrev fcRidgeLockstepMismatch : BitVec 16 := 0x0101

/-- RIDGE_ECC_DED, class H. -/
abbrev fcRidgeEccDed : BitVec 16 := 0x0102

/-- CROSS_MISMATCH, class H. -/
abbrev fcCrossMismatch : BitVec 16 := 0x0103

/-- CROSS_RESULT_MISSING, class H. -/
abbrev fcCrossResultMissing : BitVec 16 := 0x0104

/-- TICK_OVERRUN_RG, class H. -/
abbrev fcTickOverrunRg : BitVec 16 := 0x0105

/-- TICK_OVERRUN_TH, class H. -/
abbrev fcTickOverrunTh : BitVec 16 := 0x0106

/-- TICK_GEN_MISMATCH, class H. -/
abbrev fcTickGenMismatch : BitVec 16 := 0x0107

/-- IMAGE_DIGEST_MISMATCH, class H. -/
abbrev fcImageDigestMismatch : BitVec 16 := 0x0108

/-- IMAGE_VECTOR_FAIL, class H. -/
abbrev fcImageVectorFail : BitVec 16 := 0x0109

/-- THATCH_CFG_UPSET, class H. -/
abbrev fcThatchCfgUpset : BitVec 16 := 0x010A

/-- THATCH_CANARY_FAIL, class H. -/
abbrev fcThatchCanaryFail : BitVec 16 := 0x010B

/-- SPLIT_COMPARE_FAIL, class H. -/
abbrev fcSplitCompareFail : BitVec 16 := 0x010C

/-- JOIN_COMPARE_FAIL, class H. -/
abbrev fcJoinCompareFail : BitVec 16 := 0x010D

/-- LANE_SCHED_MISMATCH, class H. -/
abbrev fcLaneSchedMismatch : BitVec 16 := 0x010E

/-- EAVE_LANE_FAULT, class H. -/
abbrev fcEaveLaneFault : BitVec 16 := 0x010F

/-- REGULATOR_FAULT, class H. -/
abbrev fcRegulatorFault : BitVec 16 := 0x0110

/-- SELFTEST_FAIL, class H. -/
abbrev fcSelftestFail : BitVec 16 := 0x0111

/-- SLATE_FAULT, class H. -/
abbrev fcSlateFault : BitVec 16 := 0x0112

/-- DISCREPANCY, class P. -/
abbrev fcDiscrepancy : BitVec 16 := 0x0201

/-- WIRE_BREAK, class P. -/
abbrev fcWireBreak : BitVec 16 := 0x0202

/-- BAND_INDETERMINATE, class P. -/
abbrev fcBandIndeterminate : BitVec 16 := 0x0203

/-- GUST_FOLLOW_FAIL, class P. -/
abbrev fcGustFollowFail : BitVec 16 := 0x0204

/-- TPO_OVERLOAD, class P. -/
abbrev fcTpoOverload : BitVec 16 := 0x0205

/-- TPO_STUCK_HIGH, class P. -/
abbrev fcTpoStuckHigh : BitVec 16 := 0x0206

/-- RESET_STUCK, class P. -/
abbrev fcResetStuck : BitVec 16 := 0x0207

/-- FS_TP_LOW, class S. -/
abbrev fcFsTpLow : BitVec 16 := 0x0208

/-- FS_TP_LOST, class S. -/
abbrev fcFsTpLost : BitVec 16 := 0x0209

/-- INPUT_VIEW_MISMATCH, class H. -/
abbrev fcInputViewMismatch : BitVec 16 := 0x020A

/-- INPUT_MEAS_FAULT, class H. -/
abbrev fcInputMeasFault : BitVec 16 := 0x020B

/-- MUTING_SEQ, class P. -/
abbrev fcMutingSeq : BitVec 16 := 0x0301

/-- MUTING_TIME, class P. -/
abbrev fcMutingTime : BitVec 16 := 0x0302

/-- MUTING_LAMP, class P. -/
abbrev fcMutingLamp : BitVec 16 := 0x0303

/-- LOCK_TIMEOUT, class P. -/
abbrev fcLockTimeout : BitVec 16 := 0x0304

/-- LOCK_LOST, class P. -/
abbrev fcLockLost : BitVec 16 := 0x0305

/-- MODE_IMPLAUSIBLE, class P. -/
abbrev fcModeImplausible : BitVec 16 := 0x0306

/-- EDM_FAULT, class P. -/
abbrev fcEdmFault : BitVec 16 := 0x0307

/-- START_TEST_PENDING, class P. -/
abbrev fcStartTestPending : BitVec 16 := 0x0308

/-- SWITCH_STUCK, class H. -/
abbrev fcSwitchStuck : BitVec 16 := 0x0401

/-- OUT_CLOSE_FAIL, class P. -/
abbrev fcOutCloseFail : BitVec 16 := 0x0402

/-- OUT_OVERLOAD, class P. -/
abbrev fcOutOverload : BitVec 16 := 0x0403

/-- OUT_BYPASS, class P. -/
abbrev fcOutBypass : BitVec 16 := 0x0404

/-- OUT_OPEN_LOAD, class P. -/
abbrev fcOutOpenLoad : BitVec 16 := 0x0405

/-- OUT_EXT_VOLTAGE, class P. -/
abbrev fcOutExtVoltage : BitVec 16 := 0x0406

/-- BRIGHT_DUE, class P. -/
abbrev fcBrightDue : BitVec 16 := 0x0407

/-- BRIGHT_OVERDUE, class P. -/
abbrev fcBrightOverdue : BitVec 16 := 0x0408

/-- BRK_OPEN_COIL, class P. -/
abbrev fcBrkOpenCoil : BitVec 16 := 0x0409

/-- GROUP_OVERCURRENT, class P. -/
abbrev fcGroupOvercurrent : BitVec 16 := 0x040A

/-- FS_LOW, class S. -/
abbrev fcFsLow : BitVec 16 := 0x0410

/-- SUPPLY_LOST, class S. -/
abbrev fcSupplyLost : BitVec 16 := 0x0411

/-- SUPPLY_VIEW_MISMATCH, class H. -/
abbrev fcSupplyViewMismatch : BitVec 16 := 0x0412

/-- ENC_AMPLITUDE, class P. -/
abbrev fcEncAmplitude : BitVec 16 := 0x0501

/-- ENC_SIGNAL, class P. -/
abbrev fcEncSignal : BitVec 16 := 0x0502

/-- ENC_OVERSPEED, class P. -/
abbrev fcEncOverspeed : BitVec 16 := 0x0503

/-- ENC_SSI, class P. -/
abbrev fcEncSsi : BitVec 16 := 0x0504

/-- ENC_INDEX, class P. -/
abbrev fcEncIndex : BitVec 16 := 0x0505

/-- ENC_SUPPLY, class P. -/
abbrev fcEncSupply : BitVec 16 := 0x0506

/-- AXIS_CROSS_MISMATCH, class H. -/
abbrev fcAxisCrossMismatch : BitVec 16 := 0x0507

/-- MOTION_ENGINE_SILENT, class H. -/
abbrev fcMotionEngineSilent : BitVec 16 := 0x0508

/-- ENVELOPE_EXCEEDED, class P. -/
abbrev fcEnvelopeExceeded : BitVec 16 := 0x0509

/-- SOS_EXCEEDED, class P. -/
abbrev fcSosExceeded : BitVec 16 := 0x050A

/-- SLS_EXCEEDED, class P. -/
abbrev fcSlsExceeded : BitVec 16 := 0x050B

/-- SDI_EXCEEDED, class P. -/
abbrev fcSdiExceeded : BitVec 16 := 0x050C

/-- SLP_EXCEEDED, class P. -/
abbrev fcSlpExceeded : BitVec 16 := 0x050D

/-- BRAKE_TEST_FAIL, class P. -/
abbrev fcBrakeTestFail : BitVec 16 := 0x050E

/-- BRAKE_OUTPUT_FAULT, class P. -/
abbrev fcBrakeOutputFault : BitVec 16 := 0x050F

/-- BRAKE_TEST_DUE, class P. -/
abbrev fcBrakeTestDue : BitVec 16 := 0x0510

/-- BRAKE_TEST_OVERDUE, class P. -/
abbrev fcBrakeTestOverdue : BitVec 16 := 0x0511

/-- AN_DISAGREE, class P. -/
abbrev fcAnDisagree : BitVec 16 := 0x0601

/-- AN_STALE, class P. -/
abbrev fcAnStale : BitVec 16 := 0x0602

/-- AN_LOW_ALARM, class P. -/
abbrev fcAnLowAlarm : BitVec 16 := 0x0603

/-- AN_HIGH_ALARM, class P. -/
abbrev fcAnHighAlarm : BitVec 16 := 0x0604

/-- AN_RANGE, class P. -/
abbrev fcAnRange : BitVec 16 := 0x0605

/-- AN_OPEN_SENSOR, class P. -/
abbrev fcAnOpenSensor : BitVec 16 := 0x0606

/-- AN_CJ_FAULT, class P. -/
abbrev fcAnCjFault : BitVec 16 := 0x0607

/-- AN_OPEN_LOOP, class P. -/
abbrev fcAnOpenLoop : BitVec 16 := 0x0608

/-- AN_COMPLIANCE, class P. -/
abbrev fcAnCompliance : BitVec 16 := 0x0609

/-- AN_OUT_DEVIATION, class P. -/
abbrev fcAnOutDeviation : BitVec 16 := 0x060A

/-- AN_OUT_OVERLOAD, class P. -/
abbrev fcAnOutOverload : BitVec 16 := 0x060B

/-- AN_SUPPLY, class P. -/
abbrev fcAnSupply : BitVec 16 := 0x060C

/-- FS_AN_LOW, class S. -/
abbrev fcFsAnLow : BitVec 16 := 0x060D

/-- FS_AN_LOST, class S. -/
abbrev fcFsAnLost : BitVec 16 := 0x060E

/-- CONN_SINGLE, class C. -/
abbrev fcConnSingle : BitVec 16 := 0x0701

/-- CONN_DISAGREE, class C. -/
abbrev fcConnDisagree : BitVec 16 := 0x0702

/-- CONN_STALE, class C. -/
abbrev fcConnStale : BitVec 16 := 0x0703

/-- CONN_TIMEOUT, class C. -/
abbrev fcConnTimeout : BitVec 16 := 0x0704

/-- CONN_LEE_EXPIRED, class C. -/
abbrev fcConnLeeExpired : BitVec 16 := 0x0705

/-- CONN_NOT_STARTED, class C. -/
abbrev fcConnNotStarted : BitVec 16 := 0x0706

/-- CSF_WDG, class C. -/
abbrev fcCsfWdg : BitVec 16 := 0x0707

/-- LINK_DOWN_A, class C. -/
abbrev fcLinkDownA : BitVec 16 := 0x0708

/-- LINK_DOWN_B, class C. -/
abbrev fcLinkDownB : BitVec 16 := 0x0709

/-- LINK_DUPLEX_A, class C. -/
abbrev fcLinkDuplexA : BitVec 16 := 0x070A

/-- LINK_DUPLEX_B, class C. -/
abbrev fcLinkDuplexB : BitVec 16 := 0x070B

/-- TIME_WARN, class C. -/
abbrev fcTimeWarn : BitVec 16 := 0x070C

/-- TIME_STALE, class C. -/
abbrev fcTimeStale : BitVec 16 := 0x070D

/-- CAS_MEMBER_ABSENT, class C. -/
abbrev fcCasMemberAbsent : BitVec 16 := 0x070E

/-- CAS_MEMBER_LOCKOUT, class C. -/
abbrev fcCasMemberLockout : BitVec 16 := 0x070F

/-- CAS_CFG_MISMATCH, class C. -/
abbrev fcCasCfgMismatch : BitVec 16 := 0x0710

/-- CAS_FW_MISMATCH, class C. -/
abbrev fcCasFwMismatch : BitVec 16 := 0x0711

/-- CAS_IDENT_MISMATCH, class C. -/
abbrev fcCasIdentMismatch : BitVec 16 := 0x0712

/-- VERSION_SKEW, class C. -/
abbrev fcVersionSkew : BitVec 16 := 0x0713

/-- CVU_FAIL_0, class C. -/
abbrev fcCvuFail0 : BitVec 16 := 0x0801

/-- ENGINE_DOWN, class C. -/
abbrev fcEngineDown : BitVec 16 := 0x0901

/-- EVT_LOST, class C. -/
abbrev fcEvtLost : BitVec 16 := 0x0902

/-- LPLUS_LOW, class S. -/
abbrev fcLplusLow : BitVec 16 := 0x0903

/-- LPLUS_SHUTDOWN, class S. -/
abbrev fcLplusShutdown : BitVec 16 := 0x0904

/-- TEMP_HIGH, class S. -/
abbrev fcTempHigh : BitVec 16 := 0x0905

/-- TEMP_LIMIT, class S. -/
abbrev fcTempLimit : BitVec 16 := 0x0906

/-- VBAT_LOW, class S. -/
abbrev fcVbatLow : BitVec 16 := 0x0907

/-- BK_LOST, class S. -/
abbrev fcBkLost : BitVec 16 := 0x0908

/-- MARGIN_REJECTED, class S. -/
abbrev fcMarginRejected : BitVec 16 := 0x0909

/-- MARGIN_EXHAUSTED, class S. -/
abbrev fcMarginExhausted : BitVec 16 := 0x090A

/-- NO_CONFIG, class S. -/
abbrev fcNoConfig : BitVec 16 := 0x090B

/-- RIDGE_DEBUG_DIVERGED, class S. -/
abbrev fcRidgeDebugDiverged : BitVec 16 := 0x090C

/-- SLATE_INCOMPLETE, class S. -/
abbrev fcSlateIncomplete : BitVec 16 := 0x090D

/-- SLATE_WEAK, class S. -/
abbrev fcSlateWeak : BitVec 16 := 0x090E

/-- SLATE_DRIFT, class S. -/
abbrev fcSlateDrift : BitVec 16 := 0x090F

/-- MODULE_RETIRED, class S. -/
abbrev fcModuleRetired : BitVec 16 := 0x0910

/-- Class of a fault code (Table 12.7). -/
def faultClass (code : BitVec 16) : FClass :=
  if code.toNat / 256 = 1 then .h
  else if code ∈ [fcInputViewMismatch, fcInputMeasFault, fcSwitchStuck, fcSupplyViewMismatch, fcAxisCrossMismatch,
      fcMotionEngineSilent] then .h
  else if code ∈ [fcFsTpLow, fcFsTpLost, fcFsLow, fcSupplyLost, fcFsAnLow, fcFsAnLost] then .s
  else if code.toNat / 256 = 7 ∨ code.toNat / 256 = 8 ∨ code = fcEngineDown ∨ code = fcEvtLost then .c
  else if code.toNat / 256 = 9 then .s
  else .p

/-- Faults whose reaction is a report only (Table 12.7). Margin exhaustion, whose reaction depends on its margin, is given at
its raising. -/
def isWarning (code : BitVec 16) : Bool :=
  code ∈ [fcFsTpLow, fcStartTestPending, fcBrightDue, fcFsLow, fcBrakeTestDue, fcFsAnLow, fcConnNotStarted, fcLinkDownA,
    fcLinkDownB, fcLinkDuplexA, fcLinkDuplexB, fcTimeWarn, fcVersionSkew, fcEngineDown, fcEvtLost, fcLplusLow, fcTempHigh,
    fcVbatLow, fcBkLost, fcMarginRejected, fcSlateDrift] || code.toNat / 256 == 8

/-- Faults whose reaction is SAFE_HOLD, module-wide, unless they stand as a warning (Table 12.7). -/
def isHoldCode (code : BitVec 16) : Bool :=
  code ∈ [fcTempLimit, fcMarginExhausted, fcNoConfig, fcRidgeDebugDiverged, fcSlateIncomplete, fcSlateWeak, fcModuleRetired]

/-- The flag of CH_FLAGS that a fault sets (Table 3.7). -/
def chFlagOf (code : BitVec 16) : Option Nat :=
  if code = fcSplitCompareFail ∨ code = fcJoinCompareFail then some 10
  else if code = fcImageVectorFail then some 9
  else if code = fcImageDigestMismatch then some 8
  else if code = fcCrossMismatch then some 7
  else if code = fcCrossResultMissing then some 6
  else if code = fcRidgeLockstepMismatch then some 5
  else if code = fcRidgeEccDed then some 4
  else if code = fcThatchCfgUpset then some 3
  else if code = fcThatchCanaryFail then some 2
  else if code = fcInputViewMismatch then some 1
  else none

/-- Number of an FClass in GET_FAULTS: 0 C, 1 P, 2 S, 3 H (Table 11.7). -/
def FClass.code (k : FClass) : Nat :=
  match k with
  | .c => 0
  | .p => 1
  | .s => 2
  | .h => 3

/-! ## Modes (Table 12.1) -/

/-- Code of a mode. -/
def Mode.code (m : Mode) : Nat :=
  match m with
  | .off => 0
  | .backup => 1
  | .boot => 2
  | .selftest => 3
  | .configure => 4
  | .verify => 5
  | .safeHold => 6
  | .run => 7
  | .lee => 8
  | .lockout => 9
  | .service => 10
  | .lull => 11

/-- RUN or LEE. -/
def Mode.runs (m : Mode) : Bool := m == .run || m == .lee

/-- Modes in which the channels evaluate a configuration (Table 12.1). -/
def Mode.evaluates (m : Mode) : Bool :=
  m ∈ [Mode.configure, .verify, .safeHold, .run, .lee, .lockout, .service]

/-! ## Time in timebase units of 10 ns (R34) -/

/-- One microsecond. -/
abbrev tUs : Nat := 100

/-- One millisecond. -/
abbrev tMs : Nat := 100000

/-- One second. -/
abbrev tSec : Nat := 100000000

/-! ## Mailbox status codes (Table 11.8) -/

/-- OK. -/
abbrev stOk : Byte := 0x00

/-- ACCESS_DENIED. -/
abbrev stAccessDenied : Byte := 0x01

/-- WRONG_MODE. -/
abbrev stWrongMode : Byte := 0x02

/-- BUSY. -/
abbrev stBusy : Byte := 0x03

/-- TIMEOUT. -/
abbrev stTimeout : Byte := 0x04

/-- TAG_CONFLICT. -/
abbrev stTagConflict : Byte := 0x05

/-- BAD_CRC. -/
abbrev stBadCrc : Byte := 0x06

/-- BAD_LENGTH. -/
abbrev stBadLength : Byte := 0x07

/-- UNKNOWN_COMMAND. -/
abbrev stUnknownCommand : Byte := 0x08

/-- BAD_PARAMETER. -/
abbrev stBadParameter : Byte := 0x09

/-- BACKOFF. -/
abbrev stBackoff : Byte := 0x0A

/-- BAD_PASSWORD. -/
abbrev stBadPassword : Byte := 0x0B

/-- PASSWORD_UNSET. -/
abbrev stPasswordUnset : Byte := 0x0C

/-- OUT_OF_ORDER. -/
abbrev stOutOfOrder : Byte := 0x0D

/-- INCOMPLETE. -/
abbrev stIncomplete : Byte := 0x0E

/-- IMAGE_DIGEST_MISMATCH. -/
abbrev stImageDigestMismatch : Byte := 0x0F

/-- STRUCTURE. -/
abbrev stStructure : Byte := 0x10

/-- CLAMPS_NOT_ACCEPTED. -/
abbrev stClampsNotAccepted : Byte := 0x11

/-- REPORT_MISMATCH. -/
abbrev stReportMismatch : Byte := 0x12

/-- NOT_VERIFIED. -/
abbrev stNotVerified : Byte := 0x13

/-- VERIFY_FAILED. -/
abbrev stVerifyFailed : Byte := 0x14

/-- SPLIT_DENIED. -/
abbrev stSplitDenied : Byte := 0x15

/-- FLASH_FAIL. -/
abbrev stFlashFail : Byte := 0x16

/-- ACK_MISSING. -/
abbrev stAckMissing : Byte := 0x17

/-- SLATE_DENIED. -/
abbrev stSlateDenied : Byte := 0x18

/-- SLATE_BIT_FAILED. -/
abbrev stSlateBitFailed : Byte := 0x19

/-- FW_INCOMPATIBLE. -/
abbrev stFwIncompatible : Byte := 0x1A

/-- FW_IMAGE_BAD. -/
abbrev stFwImageBad : Byte := 0x1B

/-- NOT_AVAILABLE. -/
abbrev stNotAvailable : Byte := 0x1C

/-! ## Mailbox command codes (Table 11.6) -/

/-- GET_STATUS. -/
abbrev ccGetStatus : BitVec 16 := 0x0101

/-- GET_FAULTS. -/
abbrev ccGetFaults : BitVec 16 := 0x0102

/-- CFG_BEGIN. -/
abbrev ccCfgBegin : BitVec 16 := 0x0201

/-- CFG_BLOCK. -/
abbrev ccCfgBlock : BitVec 16 := 0x0202

/-- CFG_END. -/
abbrev ccCfgEnd : BitVec 16 := 0x0203

/-- CFG_ACCEPT_CLAMPS. -/
abbrev ccCfgAcceptClamps : BitVec 16 := 0x0204

/-- VERIFY_START. -/
abbrev ccVerifyStart : BitVec 16 := 0x0205

/-- VERIFY_REPORT. -/
abbrev ccVerifyReport : BitVec 16 := 0x0206

/-- COMMIT. -/
abbrev ccCommit : BitVec 16 := 0x0207

/-- LOGIN. -/
abbrev ccLogin : BitVec 16 := 0x0301

/-- LOGOUT. -/
abbrev ccLogout : BitVec 16 := 0x0302

/-- SET_PASSWORD. -/
abbrev ccSetPassword : BitVec 16 := 0x0303

/-- LOG_READ. -/
abbrev ccLogRead : BitVec 16 := 0x0401

/-- CLEAR_LOCKOUT. -/
abbrev ccClearLockout : BitVec 16 := 0x0501

/-- SLATE_READ. -/
abbrev ccSlateRead : BitVec 16 := 0x0601

/-- SLATE_PROGRAM_BIT. -/
abbrev ccSlateProgramBit : BitVec 16 := 0x0602

/-- SLATE_LOCK. -/
abbrev ccSlateLock : BitVec 16 := 0x0603

/-- RIDGE_SPLIT. -/
abbrev ccRidgeSplit : BitVec 16 := 0x0701

/-- RIDGE_JOIN. -/
abbrev ccRidgeJoin : BitVec 16 := 0x0702

/-- WEATHER_REPORT. -/
abbrev ccWeatherReport : BitVec 16 := 0x0801

/-- CASCADE_STATUS. -/
abbrev ccCascadeStatus : BitVec 16 := 0x0901

/-- FW_UPDATE_BLOCK. -/
abbrev ccFwUpdateBlock : BitVec 16 := 0x0A01

/-- FW_ACTIVATE. -/
abbrev ccFwActivate : BitVec 16 := 0x0A02

/-- LULL_ARM. -/
abbrev ccLullArm : BitVec 16 := 0x0B01

/-- Is the code listed in Table 11.6? -/
def knownCommand (code : BitVec 16) : Bool :=
  code ∈ [ccGetStatus, ccGetFaults, ccCfgBegin, ccCfgBlock, ccCfgEnd, ccCfgAcceptClamps, ccVerifyStart, ccVerifyReport,
    ccCommit, ccLogin, ccLogout, ccSetPassword, ccLogRead, ccClearLockout, ccSlateRead, ccSlateProgramBit, ccSlateLock,
    ccRidgeSplit, ccRidgeJoin, ccWeatherReport, ccCascadeStatus, ccFwUpdateBlock, ccFwActivate, ccLullArm]

/-- Level that a command needs: 0 Observe, 1 Maintain, 2 Integrate (Table 11.6). -/
def commandLevel (code : BitVec 16) : Nat :=
  if code ∈ [ccGetStatus, ccGetFaults, ccLogin, ccLogout, ccLogRead, ccWeatherReport, ccCascadeStatus] then 0
  else if code ∈ [ccVerifyReport, ccSetPassword, ccSlateRead] then 1
  else 2

/-- Modes in which a command is accepted (Table 11.6); "All" is BOOT to SERVICE. VERIFY_START
passes in VERIFY too, where R262 has it answered with BUSY. -/
def commandMode (code : BitVec 16) (confirm : Bool) (m : Mode) : Bool :=
  if code = ccCfgBegin then m ∈ [Mode.safeHold, .configure] || (confirm && m.runs)
  else if code ∈ [ccCfgBlock, ccCfgEnd, ccCfgAcceptClamps, ccCommit] then m == .configure
  else if code = ccVerifyStart then m ∈ [Mode.configure, .verify]
  else if code = ccVerifyReport then m ∈ [Mode.configure, .verify]
  else if code = ccClearLockout then m == .lockout
  else if code ∈ [ccSlateProgramBit, ccSlateLock, ccFwUpdateBlock, ccFwActivate] then m == .service
  else if code = ccRidgeSplit then m ∈ [Mode.run, .safeHold]
  else if code = ccRidgeJoin then m ∈ [Mode.run, .lee, .safeHold]
  else m ∉ [Mode.off, .backup, .lull]

/-- Default timeout of a command in timebase units (Table 11.6). -/
def commandTimeout (code : BitVec 16) : Nat :=
  if code = ccCfgEnd then 10 * tSec
  else if code = ccVerifyStart then 5 * tSec
  else if code = ccCommit then 30 * tSec
  else if code = ccClearLockout then 12 * tSec
  else if code = ccFwActivate then 60 * tSec
  else 2 * tSec

end Sys2Proof.Machine
end

