-- ==== Sys2Proof/Machine/Crc.lean ====
section
/-! DEFINITION. CRCs by the parameter model of R229 to R231 and the parameter sets of Table 10.1. The running value is held in
the orientation of POLY. -/

namespace Sys2Proof.Machine

/-- Parameters of a CRC (R229). -/
structure CrcSet where
  width : Nat
  poly : Nat
  init : Nat
  refin : Bool
  refout : Bool
  xorV : Nat
  deriving DecidableEq, Repr

/-- One bit into the running value of `w` bits. -/
def crcBit (w poly reg : Nat) (b : Bool) : Nat :=
  let sh := (reg * 2) % 2 ^ w
  if (reg.testBit (w - 1) != b) then sh ^^^ (poly % 2 ^ w) else sh

/-- The order in which the bits of a byte enter: least significant first with REFIN (R229). -/
def bitOrder (refin : Bool) : List Nat :=
  if refin then [0, 1, 2, 3, 4, 5, 6, 7] else [7, 6, 5, 4, 3, 2, 1, 0]

/-- One byte into the running value. -/
def crcByte (w poly : Nat) (refin : Bool) (reg : Nat) (x : Byte) : Nat :=
  (bitOrder refin).foldl (fun r k => crcBit w poly r (x.toNat.testBit k)) reg

/-- Bytes into the running value. -/
def crcBytes (w poly : Nat) (refin : Bool) (reg : Nat) (l : List Byte) : Nat :=
  l.foldl (crcByte w poly refin) reg

/-- A number of `w` bits with its bits reversed (REFOUT). -/
def bitRev (w n : Nat) : Nat :=
  match w with
  | 0 => 0
  | k + 1 => (if n.testBit 0 then 2 ^ k else 0) + bitRev k (n / 2)

/-- The result from the running value: output reflection, then the final XOR (R229). -/
def CrcSet.result (c : CrcSet) (reg : Nat) : Nat :=
  ((if c.refout then bitRev c.width reg else reg) ^^^ c.xorV) % 2 ^ c.width

/-- The CRC of a fold-in prefix and data: that of the prefix bytes followed by the data (R231). -/
def CrcSet.crc (c : CrcSet) (pre data : List Byte) : Nat :=
  c.result (crcBytes c.width c.poly c.refin (c.init % 2 ^ c.width) (pre ++ data))

/-- Set SPI of Table 10.1. -/
def crcSpi : CrcSet := { width := 16, poly := 0x1021, init := 0xFFFF, refin := false, refout := false, xorV := 0 }

/-- Sets MBX, SHINGLE, IMAGE, ANCHOR and CSF of Table 10.1, which differ in their prefix only. -/
def crcMbx : CrcSet :=
  { width := 32, poly := 0x04C11DB7, init := 0xFFFFFFFF, refin := true, refout := true, xorV := 0xFFFFFFFF }

/-- Set CTT of Table 10.1. -/
def crcCtt : CrcSet :=
  { width := 32, poly := 0x1EDC6F41, init := 0xFFFFFFFF, refin := true, refout := true, xorV := 0xFFFFFFFF }

/-- MBX CRC-32 of a message (R245), of an image (IMAGE set), of a frame or a record (R236). -/
def crc32 (data : List Byte) : W32 := BitVec.ofNat 32 (crcMbx.crc [] data)

end Sys2Proof.Machine
end

