-- ==== Sys2Proof/Machine/Sha.lean ====
section
/-! DEFINITION. SHA-256 (FIPS 180-4), which the manual names for report, image and password digests (R49, R254, R260, R262,
R268). Its constants are formed as the standard defines them, from roots of the first primes. -/

namespace Sys2Proof.Machine

/-- The first 32 bits of the fraction of the `k`-th root of `p`, found bit by bit from bit `n - 1` down: the largest `x` below
2^(n + 32) with x^k at most p · 2^(32 k). -/
def rootBits (k p n x : Nat) : Nat :=
  match n with
  | 0 => x
  | m + 1 => rootBits k p m (if (x + 2 ^ m) ^ k ≤ p * 2 ^ (32 * k) then x + 2 ^ m else x)

/-- A number that no smaller one above 1 divides. -/
def isPrime (n : Nat) : Bool := 2 ≤ n && (List.range n).all (fun d => d < 2 || n % d != 0)

/-- The first 64 primes are those below 312. -/
def shaPrimes : List Nat := (List.range 312).filter isPrime

/-- Fraction bits of the `k`-th root of a prime below 312; its whole part lies below 32. -/
def rootWord (k p : Nat) : W32 := BitVec.ofNat 32 (rootBits k p 37 0)

/-- The 64 round constants: cube roots. -/
def shaConsts : List W32 := shaPrimes.map (rootWord 3)

/-- The eight chaining words at the start: square roots. -/
def shaStart : List W32 := (shaPrimes.take 8).map (rootWord 2)

/-- Exclusive or of a word rotated right by each of these counts. -/
def rotXor (counts : List Nat) (w : W32) : W32 := counts.foldl (fun acc k => acc ^^^ w.rotateRight k) 0

/-- One round with the sum of its round constant and its schedule word, on the working variables a to h in order. -/
def shaRound (v : List W32) (kw : W32) : List W32 :=
  match v with
  | [a, b, c, d, e, f, g, h] =>
    let pick := bitsIf e f g
    let add := h + rotXor [6, 11, 25] e + pick + kw
    [add + rotXor [2, 13, 22] a + most a b c, a, b, c, d + add, e, f, g]
  | other => other
where
  /-- Each bit from `x` where the selector holds 1, else from `y`. -/
  bitsIf (sel x y : W32) : W32 := (sel &&& x) ||| (~~~sel &&& y)
  /-- Each bit that at least two of the words hold. -/
  most (x y z : W32) : W32 := (x &&& (y ||| z)) ||| (y &&& z)

/-- The schedule of a block, grown by `n` words: word t is formed of the words t - 2, t - 7, t - 15 and t - 16. -/
def shaSchedule (n : Nat) (ws : List W32) : List W32 :=
  match n with
  | 0 => ws
  | k + 1 =>
    let back (d : Nat) : W32 := ws.getD (ws.length - d) 0
    let low := rotXor [7, 18] (back 15) ^^^ (back 15 >>> 3)
    let high := rotXor [17, 19] (back 2) ^^^ (back 2 >>> 10)
    shaSchedule k (ws ++ [high + back 7 + low + back 16])

/-- A message cut into pieces of `k` items, at most `n` of them. -/
def pieces {α : Type} (k n : Nat) (l : List α) : List (List α) :=
  (List.range n).map (fun j => (l.drop (k * j)).take k)

/-- A block of 64 bytes into the chaining words. -/
def shaAbsorb (chain : List W32) (block : List Byte) : List W32 :=
  let words := (pieces 4 16 block).map (fun b => BitVec.ofNat 32 (ofBe b))
  let mixed := (shaConsts.zip (shaSchedule 48 words)).foldl (fun v x => shaRound v (x.1 + x.2)) chain
  (chain.zip mixed).map (fun x => x.1 + x.2)

/-- Padding: a 1 bit, zeros, and the length in bits in 64 bits. -/
def shaPad (l : List Byte) : List Byte :=
  l ++ [0x80] ++ List.replicate ((119 - l.length % 64) % 64) 0 ++ be 8 (l.length * 8)

/-- The digest of a byte string, as 32 bytes. -/
def sha256 (l : List Byte) : List Byte :=
  let p := shaPad l
  ((pieces 64 (p.length / 64) p).foldl shaAbsorb shaStart).flatMap (fun w => be 4 w.toNat)

/-- The digest as a number of 256 bits. -/
def shaNum (l : List Byte) : BitVec 256 := BitVec.ofNat 256 (ofBe (sha256 l))

end Sys2Proof.Machine
end

