-- ==== Sys2Proof/Machine/Ops.lean ====
section
/-! DEFINITION. The shared operations: vectors, voted words, the mailbox memory, interrupt events, the event mailbox, the
Shingle log, the fault table, and the mode. -/

namespace Sys2Proof.Machine

/-! ## Vectors by plain numbers -/

/-- The vector whose element `k` is `f k`. -/
def vtab {α : Type} (n : Nat) (f : Nat → α) : Vector α n :=
  ⟨((List.range n).map f).toArray, by simp⟩

/-- Element by element. -/
def vmap {α β : Type} {n : Nat} (f : α → β) (v : Vector α n) : Vector β n :=
  ⟨(v.toList.map f).toArray, by simp⟩

/-- The indices `0 .. n - 1`. -/
def idxs (n : Nat) : List (Fin n) := List.finRange n

/-- The word of `n` bits whose bit `k` is `f k`. -/
def bitsOf (n : Nat) (f : Nat → Bool) : BitVec n :=
  BitVec.ofNat n ((List.range n).foldl (fun a k => a + bit (f k) k) 0)

/-- A register word from a number. -/
def w32 (n : Nat) : W32 := BitVec.ofNat 32 n

/-- The first 32 bits of a bit field, from bit `lo` on. -/
def word32 {n : Nat} (v : BitVec n) (lo : Nat) : W32 := w32 (fld v lo 32)

/-! ## Voted words (R340) -/

/-- The value of a voted word: for each bit the two copies that agree. -/
def Voted.val {n : Nat} (v : Voted n) : BitVec n := (v.a &&& v.b) ||| (v.a &&& v.c) ||| (v.b &&& v.c)

/-- A voted word just written: three equal copies. -/
def Voted.of {n : Nat} (x : BitVec n) : Voted n := { a := x, b := x, c := x }

/-! ## The mailbox memory (Table 15.2: 0x400 to 0xFFF of the window) -/

/-- Canonical form from address `lo` on: addresses rise strictly, and no entry holds 0, which an unlisted byte reads as. -/
def Memory.wfFrom (lo : Nat) (m : List Host.Cell) : Bool :=
  match m with
  | [] => true
  | c :: t => decide (lo ≤ c.1) && c.2 != 0 && Memory.wfFrom (c.1 + 1) t

/-- The canonical form of the mailbox memory. -/
def Memory.wf (m : List Host.Cell) : Bool := Memory.wfFrom 0 m

/-- A byte; 0 where nothing is listed, the reset value of Table 15.2. -/
def memRead (m : List Host.Cell) (a : Nat) : Byte :=
  match m with
  | [] => 0
  | c :: t => if c.1 = a then c.2 else memRead t a

/-- Write a byte; writing 0 unlists the address. -/
def memWrite (m : List Host.Cell) (a : Nat) (b : Byte) : List Host.Cell :=
  match m with
  | [] => if b = 0 then [] else [(a, b)]
  | c :: t =>
    if c.1 < a then c :: memWrite t a b
    else if c.1 = a then (if b = 0 then t else (a, b) :: t)
    else if b = 0 then c :: t else (a, b) :: c :: t

/-- Write bytes at ascending addresses. -/
def memWriteBytes (m : List Host.Cell) (a : Nat) (l : List Byte) : List Host.Cell :=
  match l with
  | [] => m
  | b :: t => memWriteBytes (memWrite m a b) (a + 1) t

/-- Read `n` bytes at ascending addresses. -/
def memReadBytes (m : List Host.Cell) (a n : Nat) : List Byte := (List.range n).map (fun k => memRead m (a + k))

/-- The register word at an address: its byte 0 is bits [31:24] (R245). -/
def memReadWord (m : List Host.Cell) (a : Nat) : W32 := BitVec.ofNat 32 (ofBe (memReadBytes m a 4))

/-- The request mailbox. -/
abbrev reqBase : Nat := 0x400

/-- The response mailbox. -/
abbrev rspBase : Nat := 0x800

/-- The event mailbox. -/
abbrev evtBase : Nat := 0xC00

/-! ## Interrupt events (R344, Table 15.5) -/

/-- Set a bit of IRQ_STATUS. -/
def irqSet (k : Nat) (s : State) : State := { s with host := { s.host with irq := setBit s.host.irq k true } }

/-! ## Event mailbox (R250) -/

/-- The sixteen bytes of an event entry. -/
def eventBytes (seq : BitVec 16) (kind : Nat) (code : BitVec 16) (arg : W32) (tb : W64) : List Byte :=
  be 2 seq.toNat ++ be 2 (kind % 4 * 16384 + code.toNat % 16384) ++ be 4 arg.toNat ++ be 8 tb.toNat

/-- Write an entry at slot SEQ mod 64. -/
def writeEvent (kind : Nat) (code : BitVec 16) (arg : W32) (s : State) : State :=
  irqSet 2 { s with
    mbx := memWriteBytes s.mbx (evtBase + 16 * (s.gable.evtSeq.toNat % 64))
      (eventBytes s.gable.evtSeq kind code arg s.tb.count)
    gable := { s.gable with evtSeq := s.gable.evtSeq + 1, evtPending := s.gable.evtPending + 1 } }

/-- An armed trigger that a fault meets: 1 any class H fault, 2 the fault of ARG, where object 0xFFFF is any; a fault of another class is
matched when Gable enters it in the fault table (R352). -/
def trigMatch (entered : Bool) (code : BitVec 16) (arg : W32) (s : State) : State :=
  let lo := s.lull.argLo.val.toNat
  let hit := match s.lull.trig.val.toNat % 4 with
    | 1 => faultClass code == .h
    | 2 => (faultClass code == .h || (entered && s.gable.up)) && lo % 65536 == code.toNat
        && (lo / 65536 == 0xFFFF || lo / 65536 == arg.toNat % 65536)
    | _ => false
  if hit && s.lull.matched == 0 then { s with lull := { s.lull with matched := code } } else s

/-- Put a fault into the table (R286): in a full table the entry replaces that of the oldest warning, whose fault stays present;
without one the fault is counted only. IRQ_STATUS.FAULT tells of a change of the table (Table 15.5). -/
def listFault (e : FaultEntry) (s : State) : State :=
  if s.faults.length < 512 then trigMatch true e.code e.arg (irqSet 4 { s with faults := s.faults ++ [e] })
  else if s.faults.any (fun f => f.warning) then
    trigMatch true e.code e.arg (irqSet 4 { s with
      faults := s.faults.eraseP (fun f => f.warning) ++ [e]
      unlisted := s.unlisted ++ (s.faults.find? (fun f => f.warning)).toList })
  else trigMatch false e.code e.arg { s with unlisted := s.unlisted ++ [e] }

/-- Same fault: code and object number (ARG bits [15:0], R286). -/
def FaultEntry.isFault (e : FaultEntry) (code : BitVec 16) (obj : Nat) : Bool :=
  e.code == code && e.arg.toNat % 65536 == obj

/-- Is the fault present, listed or only counted? -/
def hasFault (s : State) (code : BitVec 16) (obj : Nat) : Bool :=
  (s.faults ++ s.unlisted).any (fun e => e.isFault code obj)

/-- Is the fault present at any object? -/
def hasCode (s : State) (code : BitVec 16) : Bool := (s.faults ++ s.unlisted).any (fun e => e.code == code)

/-- Drop an event entry: EVT_LOST is set, and stands in the fault table until the next acknowledge (R250). -/
def dropEvent (s : State) : State :=
  let t := { s with gable := { s.gable with evtLost := true,
                                            evtDropped := BitVec.ofNat 32 (min max32 (s.gable.evtDropped.toNat + 1)) } }
  if hasFault s fcEvtLost 0 then t
  else listFault { code := fcEvtLost, arg := 0, cls := .c, warning := true, time := s.tb.count } t

/-- The entry EVT_LOST with the number of entries dropped, the first one written once there is room again (R250, R316). -/
def flushLost (s : State) : State :=
  if s.gable.evtDropped = 0 || 64 ≤ s.gable.evtPending then s
  else
    let t := writeEvent 0 fcEvtLost s.gable.evtDropped s
    { t with gable := { t.gable with evtDropped := 0 } }

/-- An event entry from Gable, while it serves: shed or full, the entry is dropped; USB receives the same entries while it is
attached (R250, R316). Kind: 0 fault raised, 1 fault cleared, 2 mode change, 3 MSG. -/
def postEvent (kind : Nat) (code : BitVec 16) (arg : W32) (s : State) : State :=
  if !s.gable.up then s
  else
    let u := if s.gable.usbAttached && !s.pwr.shedEvt then
        { s with gable := { s.gable with
            usbEvents := s.gable.usbEvents ++ [eventBytes s.gable.usbSeq kind code arg s.tb.count]
            usbSeq := s.gable.usbSeq + 1 } }
      else s
    if u.pwr.shedEvt || 64 ≤ u.gable.evtPending then dropEvent u
    else
      let v := flushLost u
      if 64 ≤ v.gable.evtPending then dropEvent v else writeEvent kind code arg v

/-! ## The Shingle log (R268 to R270) -/

/-- The bytes in a slot, if any. -/
def slotRead (log : List (Nat × List Byte)) (slot : Nat) : Option (List Byte) := log.lookup slot

/-- The fields of an entry that the writer gives. -/
structure LogFields where
  level : Nat
  source : Nat
  code : BitVec 16
  kind : Nat
  status : Byte
  before : List Byte
  after : List Byte
  arg : List Byte
  deriving DecidableEq, Repr

/-- The first `n` bytes of a field padded with zeros. -/
def padTo (n : Nat) (l : List Byte) : List Byte := (l ++ List.replicate n 0).take n

/-- The 64 bytes of entry `c` that chains over `prev` (Table 11.10). -/
def entryBytes (f : LogFields) (c : Nat) (prev : List Byte) (tb : W64) (sec : W32) (sub : BitVec 15) : List Byte :=
  be 8 tb.toNat ++ be 4 sec.toNat ++ be 2 sub.toNat ++ be 1 f.level ++ be 1 f.source ++ be 2 f.code.toNat ++ be 1 f.kind
    ++ [f.status] ++ be 4 c ++ padTo 8 f.before ++ padTo 8 f.after ++ padTo 20 f.arg
    ++ be 4 (crcMbx.crc (be 4 c) prev)

/-- Program entry `c` over `prev`: NEXT_COUNT is raised first, and the first slot of a sector erases it (R268, R270). -/
def logAppend (f : LogFields) (c : Nat) (prev : List Byte) (s : State) : State :=
  let slot := c % 8192
  let kept := if slot % 64 = 0 then s.flash.log.filter (fun e => e.1 / 64 != slot / 64)
    else s.flash.log.filter (fun e => e.1 != slot)
  { s with
    bk := { s.bk with nextCount := BitVec.ofNat 32 (c + 1) }
    flash := { s.flash with
      log := kept ++ [(slot, entryBytes f c prev s.tb.count s.bk.rtcSec s.bk.rtcSub)] } }

/-- The entry with count `c`, as the chain of the next one covers it: 64 zero bytes before count 0 (R269). -/
def prevEntry (s : State) (c : Nat) : List Byte :=
  if c = 0 then List.replicate 64 0
  else padTo 64 ((slotRead s.flash.log ((c - 1) % 8192)).getD [])

/-- Have flash writes been closed, 6 ms after the boundary b1 of an ordered shutdown (Table 14.3)? -/
def flashClosed (s : State) : Bool :=
  s.pwr.shutdown.isSome && (match s.pwr.b1 with
    | some b => decide (b.toNat + 600000 ≤ s.tb.count.toNat)
    | none => false)

/-- Program an entry with the next count. -/
def logNext (f : LogFields) (s : State) : State := logAppend f s.bk.nextCount.toNat (prevEntry s s.bk.nextCount.toNat) s

/-- Append an entry with the next count, while flash is open to writes (R317). -/
def logWrite (f : LogFields) (s : State) : State := if flashClosed s then s else logNext f s

/-- An event entry of the module (Table 11.11), written while Gable serves (R291). -/
def logEvent (code : BitVec 16) (arg : List Byte) (s : State) : State :=
  if s.gable.up then
    logWrite { level := 3, source := 2, code := code, kind := 0, status := 0, before := [], after := [], arg := arg } s
  else s

/-- COUNT of an entry's bytes. -/
def entryCount (e : List Byte) : Nat := beAt e 20 4

/-- CODE of an entry's bytes. -/
def entryCode (e : List Byte) : Nat := beAt e 16 2

/-- STATUS of an entry's bytes. -/
def entryStatus (e : List Byte) : Nat := beAt e 19 1

/-- The highest count among the entries that satisfy `p`, plus 1; 0 if none does. -/
def newestCount (log : List (Nat × List Byte)) (p : List Byte → Bool) : Nat :=
  log.foldl (fun m e => if p e.2 then max m (entryCount e.2 + 1) else m) 0

/-- Does the log hold an 0xE002 entry with a higher count than the last CLEAR_LOCKOUT entry with STATUS OK (R282)? -/
def logLockoutOpen (s : State) : Bool :=
  newestCount s.flash.log (fun e => entryCode e == ccClearLockout.toNat && entryStatus e == 0)
    < newestCount s.flash.log (fun e => entryCode e == 0xE002)

/-- Is a lock-out record open (R282)? -/
def lockoutOpen (s : State) : Bool := s.bk.lockFlag.val == 1 || logLockoutOpen s

/-! ## The fault table (R286) -/

/-- The lock-out flag that AO sets in BK (R282). -/
def setLockFlag (s : State) : State := { s with bk := { s.bk with lockFlag := Voted.of 1 } }

/-- A class H fault (R64, R282, R318, R351): its log entry, the flag and the cause of the episode in BK, and LOCKOUT at the next boundary
that the forced commands reach (R24: 1 µs). After the start of an ordered shutdown it opens no record. -/
def classH (code : BitVec 16) (arg : W32) (s : State) : State :=
  if s.pwr.shutdown.isSome then s
  else
    let t := setLockFlag (logEvent 0xE002 (be 2 code.toNat ++ be 4 arg.toNat) s)
    let u := if t.bk.lockCause.val = 0 then { t with bk := { t.bk with lockCause := Voted.of code } } else t
    if u.mode = .lockout || u.hPend.isSome then u else { u with hPend := some (u.tb.count.toNat + tUs) }

/-- The value of a field, or its default where the image does not hold it. -/
def look (cfg : Config.Image) (p : Config.Param) (index elem : Nat) (dflt : Int) : Int :=
  match cfg.fields.find? (fun f => f.param == p && f.index == index && f.elem == elem) with
  | some f => f.value
  | none => dflt

/-- A field of the image as a natural number. -/
def lookN (cfg : Config.Image) (p : Config.Param) (index elem dflt : Nat) : Nat := (look cfg p index elem dflt).toNat

/-- The axis of a motion fault: its argument, or the axis of the block that it names (R176, Table 12.7). -/
def faultAxis (cfg : Config.Image) (code : BitVec 16) (obj : Nat) : Nat := if 9 ≤ code.toNat % 256 then lookN cfg .bAxis obj 0 0 else obj

/-- The event registers that show a new fault on an input, an output, an axis, a motion engine or an analogue channel (R98,
R147, R178, R200). -/
def objEvent (cfg : Config.Image) (code : BitVec 16) (obj : Nat) (e : Events) : Events :=
  if code ∈ [fcWireBreak, fcBandIndeterminate, fcGustFollowFail, fcResetStuck, fcInputViewMismatch, fcInputMeasFault] then
    { e with inEvt := setBit e.inEvt obj true }
  else if code = fcGroupOvercurrent then
    { e with outEvt := e.outEvt ||| bitsOf 28 (fun o => (if 24 ≤ o then 4 else o / 6) == obj) }
  else if code.toNat / 256 = 4 && code.toNat % 256 ≤ 9 && code != fcBrightDue then
    { e with outEvt := setBit e.outEvt obj true }
  else if code.toNat / 256 = 5 && code.toNat % 256 ≤ 17 && code != fcMotionEngineSilent then
    { e with axEvt := setBit e.axEvt (faultAxis cfg code obj) true }
  else if code = fcMotionEngineSilent then { e with moEvt := setBit e.moEvt obj true }
  else if code.toNat / 256 = 6 && code.toNat % 256 ≤ 12 then { e with anEvt := setBit e.anEvt obj true }
  else e

/-- Does the fault table stand still: in reset, in LULL and without power (R281, R350)? -/
def tableStill (s : State) : Bool := s.resetHeld || s.mode ∈ [Mode.off, .backup, .lull]

/-- A class H fault that is present already is found again by a SELFTEST, and ends it (R278). -/
def foundAgain (code : BitVec 16) (s : State) : State :=
  if faultClass code = .h && s.mode = .selftest && s.hPend.isNone && s.pwr.shutdown.isNone then
    { s with hPend := some (s.tb.count.toNat + tUs) }
  else s

/-- Raise a fault that is not present yet: fault table, triggers, fault-raised event, channel flag, reaction of class H. -/
def raiseW (warning : Bool) (code : BitVec 16) (arg : W32) (s : State) : State :=
  if tableStill s then s
  else if hasFault s code (arg.toNat % 65536) then foundAgain code s
  else
    let e : FaultEntry := { code := code, arg := arg, cls := faultClass code, warning := warning, time := s.tb.count }
    let p := postEvent 0 code arg (listFault e s)
    let t := { p with ev := objEvent s.active.image code (arg.toNat % 65536) p.ev }
    let u := match chFlagOf code with
      | some k => { t with ev := { t.ev with chFlags := setBit t.ev.chFlags k true } }
      | none => t
    if faultClass code = .h then classH code arg u else u

/-- Raise a fault with the reaction of Table 12.7. -/
def raise (code : BitVec 16) (arg : Nat) (s : State) : State := raiseW (isWarning code) code (BitVec.ofNat 32 arg) s

/-- Remove one entry and post its fault-cleared event; IRQ_STATUS.FAULT tells of it where the table held it (R286, Table 15.5). -/
def dropFault (e : FaultEntry) (s : State) : State :=
  let t := { s with faults := s.faults.filter (fun f => f != e), unlisted := s.unlisted.filter (fun f => f != e) }
  postEvent 1 e.code e.arg (if s.faults.any (fun f => f == e) then irqSet 4 t else t)

/-- Remove every entry that satisfies `p`. -/
def clearWhere (p : FaultEntry → Bool) (s : State) : State :=
  ((s.faults ++ s.unlisted).filter p).foldl (fun t e => dropFault e t) s

/-- A fault clears; class H entries stay until the deliberate reset (R286). -/
def clearFault (code : BitVec 16) (obj : Nat) (s : State) : State :=
  if tableStill s || faultClass code == .h then s else clearWhere (fun e => e.isFault code obj) s

/-- A fault stands exactly while its condition holds. -/
def setFault (cond : Bool) (code : BitVec 16) (arg : Nat) (s : State) : State :=
  if cond then raise code arg s else clearFault code (arg % 65536) s

/-- Is a class H fault present? -/
def anyClassH (s : State) : Bool := (s.faults ++ s.unlisted).any (fun e => e.cls == .h)

/-- Is a module-wide class S condition present (Table 12.6, reaction SAFE_HOLD)? -/
def holdCond (s : State) : Bool := (s.faults ++ s.unlisted).any (fun e => isHoldCode e.code && !e.warning)

/-! ## Modes -/

/-- Change the mode: event entry, log entry 0xE001, IRQ_STATUS.MODE and .LOCKOUT, the lock-out flag (R250, R282, Table 15.5). -/
def setMode (m : Mode) (s : State) : State :=
  if s.mode = m then s
  else
    let old := s.mode
    let t := irqSet 5 { s with mode := m }
    let u := logEvent 0xE001 (be 1 old.code ++ be 1 m.code)
      (postEvent 2 (BitVec.ofNat 16 m.code) (BitVec.ofNat 32 old.code) t)
    if m = .lockout then setLockFlag (irqSet 6 u) else u

/-- The RTC after 10 ns: it counts in 1/32 768 s (R322; log entry 1). -/
def rtcClock (b : Backup) : Backup :=
  if b.rtcFrac + 32768 < tSec then { b with rtcFrac := b.rtcFrac + 32768 }
  else
    let n := b.rtcSec.toNat * 32768 + b.rtcSub.toNat + 1
    { b with rtcFrac := b.rtcFrac + 32768 - tSec, rtcSec := BitVec.ofNat 32 (n / 32768), rtcSub := BitVec.ofNat 15 n }

/-- Has a timebase deadline come? -/
def due (s : State) (t : Nat) : Bool := t ≤ s.tb.count.toNat

end Sys2Proof.Machine
end

