-- ==== Sys2Proof/Machine/Cvu.lean ====
section
/-! DEFINITION. The check-value units (R229 to R238, Tables 10.3 to 10.5). -/

namespace Sys2Proof.Machine

/-- A unit. -/
def cvuAt (u : Fin 4) (s : State) : Cvu := s.cvu[u.val]

/-- Change a unit. -/
def cvuUpd (u : Fin 4) (f : Cvu → Cvu) (s : State) : State := { s with cvu := vupd s.cvu u f }

/-- MODE: 0 PLAIN, 1 APPEND, 2 CHECK (Table 10.5). -/
def Cvu.mode (c : Cvu) : Nat := fld c.ctrl 30 2

/-- WIDTH. -/
def Cvu.width (c : Cvu) : Nat := fld c.ctrl 0 7

/-- REFIN. -/
def Cvu.refin (c : Cvu) : Bool := c.ctrl.getLsbD 29

/-- PREFIX_B. -/
def Cvu.prefixB (c : Cvu) : Nat := fld c.ctrl 24 4

/-- The parameters of R229; bits above WIDTH - 1 are ignored. -/
def Cvu.set (c : Cvu) : CrcSet :=
  { width := c.width, poly := c.poly.toNat, init := c.init.toNat, refin := c.refin, refout := c.ctrl.getLsbD 28,
    xorV := c.xor.toNat }

/-- Bytes of a check value (R232). -/
def Cvu.checkBytes (c : Cvu) : Nat := ceilDiv c.width 8

/-- Bytes into the running value with the parameters as they stand. -/
def Cvu.take (c : Cvu) (l : List Byte) : W64 :=
  BitVec.ofNat 64 (crcBytes c.width c.poly.toNat c.refin (c.value.toNat % 2 ^ c.width) l)

/-- Does the unit's owner run: Gable, N0, N1, the SPI port (R15)? -/
def cvuOn (u : Fin 4) (s : State) : Bool :=
  match u.val with
  | 0 => s.gableE.up
  | 1 => s.n0.up
  | 2 => s.n1.up
  | _ => s.pwr.aoOn && !s.resetHeld

/-- A CHECK frame shorter than its check value, which is refused (R232). -/
def Cvu.short (c : Cvu) (len : Nat) : Bool := c.mode == 2 && decide (len < c.checkBytes)

/-- Write CVU_CTRL: refused with CFG_REJ for MODE 3, WIDTH 0 or above 64, PREFIX_B above 8 (R234), and where it would make a frame in
progress a CHECK frame whose CVU_LENGTH is below its check value (R232). -/
def writeCvuCtrl (v : W32) (c : Cvu) : Cvu :=
  let d := { c with ctrl := v &&& 0xFF00007F, midframe := c.midframe || c.busy }
  if fld v 30 2 = 3 || fld v 0 7 = 0 || 64 < fld v 0 7 || 8 < fld v 24 4 || (c.busy && d.short c.total.toNat) then { c with rej := true }
  else d

/-- CVU_CTRL_WRITE. -/
def execCvuCtrlWrite (u : Fin 4) (v : W32) (s : State) : Host.Outcome State Fault Refusal :=
  .next (if cvuOn u s then cvuUpd u (writeCvuCtrl v) s else s)

/-- A 64-bit register with its low word replaced. -/
def setLo (w : W64) (v : W32) : W64 := BitVec.ofNat 64 (w.toNat / 2 ^ 32 * 2 ^ 32 + v.toNat)

/-- A 64-bit register with its high word replaced. -/
def setHi (w : W64) (v : W32) : W64 := BitVec.ofNat 64 (v.toNat * 2 ^ 32 + w.toNat % 2 ^ 32)

/-- Write a parameter register: it acts from the next byte; CVU_VALUE_LO is held until CVU_VALUE_HI is written; a CVU_LENGTH below the check
value of a frame in progress is refused (R232 to R234). -/
def writeCvuParam (reg : CvuReg) (v : W32) (c : Cvu) : Cvu :=
  let d := { c with midframe := c.midframe || c.busy }
  match reg with
  | .polyLo => { d with poly := setLo c.poly v }
  | .polyHi => { d with poly := setHi c.poly v }
  | .initLo => { d with init := setLo c.init v }
  | .initHi => { d with init := setHi c.init v }
  | .xorLo => { d with xor := setLo c.xor v }
  | .xorHi => { d with xor := setHi c.xor v }
  | .prefixLo => { d with prefixV := setLo c.prefixV v }
  | .prefixHi => { d with prefixV := setHi c.prefixV v }
  | .valueLo => { c with heldLo := some v }
  | .length => if c.busy && c.short v.toNat then { c with rej := true } else { d with length := v, total := v }

/-- CVU_PARAM_WRITE. -/
def execCvuParamWrite (u : Fin 4) (reg : CvuReg) (v : W32) (s : State) : Host.Outcome State Fault Refusal :=
  .next (if cvuOn u s then cvuUpd u (writeCvuParam reg v) s else s)

/-- A value written to CVU_VALUE replaces the running value at the next beat (R233). -/
def Cvu.beat (c : Cvu) : Cvu := { c with value := c.next.getD c.value, next := none }

/-- Take up to four bytes of a data word (R230): those of the data into the running value, those of a check value aside. -/
def cvuData (v : W32) (x : Cvu) : Cvu :=
  if !x.busy || x.length = 0 then { x with lenErr := true }
  else
    let c := x.beat
    let n := c.length.toNat
    let l := (be 4 v.toNat).take (min 4 n)
    let k := if c.mode = 2 then n - c.checkBytes else n
    let data := l.take k
    { c with
      value := c.take data, length := BitVec.ofNat 32 (n - l.length), tail := c.tail ++ l.drop k,
      emitted := if c.mode = 0 then c.emitted else c.emitted ++ data }

/-- CVU_DATA_WRITE. -/
def execCvuDataWrite (u : Fin 4) (v : W32) (s : State) : Host.Outcome State Fault Refusal :=
  .next (if cvuOn u s then cvuUpd u (cvuData v) s else s)

/-- CMD = START: INIT, then the prefix, most significant byte first; a frame in progress is discarded (R231, R234). In CHECK a
length below the check value is refused (R232). Without a new CVU_LENGTH the frame takes the bytes that CVU_LENGTH reads, those remaining
(DESIGN CHOICE, log entry 213). -/
def cvuStart (c : Cvu) : Cvu :=
  let d := { c with restarted := c.restarted || c.busy }
  if c.short c.length.toNat then { d with rej := true, busy := false }
  else
    let e := { d with next := none, value := BitVec.ofNat 64 (c.init.toNat % 2 ^ c.width), busy := true, tail := [], emitted := [],
                      total := c.length }
    { e with value := e.take (be c.prefixB (c.prefixV.toNat % 2 ^ (8 * c.prefixB))) }

/-- CVU_START. -/
def execCvuStart (u : Fin 4) (s : State) : Host.Outcome State Fault Refusal :=
  .next (if cvuOn u s then cvuUpd u cvuStart s else s)

/-- CMD = RESUME: a frame from the written value and length, without INIT and prefix (R233). In CHECK a length below the check value is
refused (R232). -/
def cvuResume (c : Cvu) : Cvu :=
  if c.short c.length.toNat then { c with rej := true }
  else { c.beat with busy := true, total := c.length, tail := [], emitted := [] }

/-- CVU_RESUME. -/
def execCvuResume (u : Fin 4) (s : State) : Host.Outcome State Fault Refusal :=
  .next (if cvuOn u s then cvuUpd u cvuResume s else s)

/-- CVU_ABORT: BUSY = 0 and DONE = 0 (R233). -/
def execCvuAbort (u : Fin 4) (s : State) : Host.Outcome State Fault Refusal :=
  .next (if cvuOn u s then cvuUpd u (fun c => { c with busy := false, done := false }) s else s)

/-- CVU_STAT (Table 10.5). -/
def cvuStat (c : Cvu) : W32 :=
  BitVec.ofNat 32 (bit c.busy 7 + bit c.restarted 6 + bit c.selfFail 5 + bit c.rej 4 + bit c.midframe 3 + bit c.lenErr 2
    + bit c.checkFail 1 + bit c.done 0)

/-- An owner's read (R233, R238): CVU_VALUE_LO copies bits [63:32] into the shadow, which the next read of CVU_VALUE_HI returns and
empties; CVU_STAT clears but for BUSY. -/
def cvuRead (reg : CvuRead) (c : Cvu) : Cvu :=
  match reg with
  | .ctrl => { c with data := c.ctrl }
  | .polyLo => { c with data := word32 c.poly 0 }
  | .polyHi => { c with data := word32 c.poly 32 }
  | .initLo => { c with data := word32 c.init 0 }
  | .initHi => { c with data := word32 c.init 32 }
  | .xorLo => { c with data := word32 c.xor 0 }
  | .xorHi => { c with data := word32 c.xor 32 }
  | .prefixLo => { c with data := word32 c.prefixV 0 }
  | .prefixHi => { c with data := word32 c.prefixV 32 }
  | .valueLo => { c with data := word32 c.value 0, shadow := some (word32 c.value 32) }
  | .valueHi => { c with data := c.shadow.getD (word32 c.value 32), shadow := none }
  | .length => { c with data := c.length }
  | .stat =>
    { c with
      data := cvuStat c, done := false, checkFail := false, lenErr := false, midframe := false, rej := false, selfFail := false
      restarted := false }
  | .resultLo => { c with data := word32 c.result 0 }
  | .resultHi => { c with data := word32 c.result 32 }

/-- CVU_VALUE_LO_READ. -/
def execCvuValueLoRead (u : Fin 4) (reg : CvuRead) (s : State) : Host.Outcome State Fault Refusal :=
  .next (if cvuOn u s then cvuUpd u (cvuRead reg) s else s)

/-- CVU_VALUE_HI_WRITE: with the held low word it replaces the running value at the next beat (R233). -/
def execCvuValueHiWrite (u : Fin 4) (v : W32) (s : State) : Host.Outcome State Fault Refusal :=
  .next (if cvuOn u s then cvuUpd u (fun c => { c with
    next := some (setHi (setLo c.value (c.heldLo.getD (word32 c.value 0))) v), heldLo := none }) s else s)

/-- The end of a frame (R232): DONE; in APPEND the check value follows the data; in CHECK it is compared with the bytes that came. -/
def cvuDone (x : Cvu) : Cvu :=
  let c := x.beat
  let r := c.set.result (c.value.toNat % 2 ^ c.width)
  let check := be c.checkBytes r
  { c with
    busy := false, done := true, result := BitVec.ofNat 64 r,
    emitted := if c.mode = 1 then c.emitted ++ check else c.emitted,
    checkFail := c.checkFail || (c.mode == 2 && c.tail != check) }

/-- CVU_FRAME_DONE: one clock after the last beat (R235). -/
def execCvuFrameDone (u : Fin 4) (s : State) : Host.Outcome State Fault Refusal :=
  .next (if cvuOn u s && (cvuAt u s).busy && (cvuAt u s).length == 0 then cvuUpd u cvuDone s else s)

/-- A unit with its owner's own set (Table 10.1): MBX, CTT for both ports, SPI. -/
def cvuOwnSet (u : Nat) (c : Cvu) : Cvu :=
  match u with
  | 0 => { c with ctrl := 0x30000020, poly := 0x04C11DB7, init := 0xFFFFFFFF, xor := 0xFFFFFFFF }
  | 3 => { c with ctrl := 0x00000010, poly := 0x1021, init := 0xFFFF, xor := 0 }
  | _ => { c with ctrl := 0x30000020, poly := 0x1EDC6F41, init := 0xFFFFFFFF, xor := 0xFFFFFFFF }

/-- The vector "123456789" through a unit (R237, Table 10.2). -/
def cvuVector (u : Nat) (c : Cvu) : Cvu :=
  let d := cvuStart { cvuOwnSet u c with length := 9 }
  cvuDone (cvuData 0x39000000 (cvuData 0x35363738 (cvuData 0x31323334 d)))

/-- A vector run (R237): a unit that is not sound leaves a wrong result, SELFTEST_FAIL and CVU_FAIL_u; a right one clears the fault. -/
def cvuCheck (u : Fin 4) (sound : Bool) (s : State) : State :=
  let run (c : Cvu) : Cvu :=
    let d := cvuVector u.val c
    { d with selfFail := !sound, result := if sound then d.result else Config.wrongCrc s.free, vecAt := s.tb.count }
  setFault (!sound) (fcCvuFail0 + BitVec.ofNat 16 u.val) 0 { cvuUpd u run s with free := s.free + 1 }

/-- CVU_SELF_CHECK: every 10 s while the unit is idle (R237). -/
def execCvuSelfCheck (u : Fin 4) (sound : Bool) (s : State) : Host.Outcome State Fault Refusal :=
  if cvuOn u s && !(cvuAt u s).busy && due s ((cvuAt u s).vecAt.toNat + 10 * tSec) then .next (cvuCheck u sound s)
  else .next s

end Sys2Proof.Machine
end

