-- ==== Sys2Proof/Machine/Operands.lean ====
section
/-! DEFINITION. Operand forms: fields of a mailbox payload, and fields of a configuration image with their defaults. -/

namespace Sys2Proof

/-! ## Payload fields (Table 11.7) -/

/-- Payload field as a number. -/
def Req.num (r : Req) (off len : Nat) : Nat := beAt r.payload off len

/-- FLAGS bit 0 (Table 11.3). -/
def Req.confirm (r : Req) : Bool := r.flags.toNat % 2 == 1

/-- FLAGS bits [15:1] are zero (R245). -/
def Req.flagsOk (r : Req) : Bool := r.flags.toNat / 2 == 0

end Sys2Proof

namespace Sys2Proof.Machine

/-- Length of a password field padded to a multiple of 4. -/
def padded (n : Nat) : Nat := (n + 3) / 4 * 4

/-! ## Arithmetic of the images (R51) -/

/-- A sum held in `n` bits, saturating. -/
def addW (n : Nat) (a b : Int) : Int := satInt n (a + b)

/-- A difference held in `n` bits, saturating. -/
def subW (n : Nat) (a b : Int) : Int := satInt n (a - b)

/-- A product held in `n` bits, saturating. -/
def mulW (n : Nat) (a b : Int) : Int := satInt n (a * b)

/-- An absolute value held in `n` bits, saturating. -/
def absW (n : Nat) (a : Int) : Int := satInt n a.natAbs

/-- A quotient held in `n` bits, truncated towards zero; by zero it is the largest value of the result's sign (R51). -/
def divW (n : Nat) (a b : Int) : Int :=
  if b = 0 then (if a < 0 then -(2 ^ (n - 1) : Int) else (2 ^ (n - 1) : Int) - 1) else satInt n (a.tdiv b)

/-! ## Configuration fields -/

/-- The same as a flag. -/
def lookB (cfg : Config.Image) (p : Config.Param) (index : Nat) (dflt : Bool) : Bool :=
  look cfg p index 0 (if dflt then 1 else 0) != 0

/-- Does the image hold the field? -/
def given (cfg : Config.Image) (p : Config.Param) (index : Nat) : Bool :=
  cfg.fields.any (fun f => f.param == p && f.index == index)

/-- Does the image hold the field's element? -/
def givenElem (cfg : Config.Image) (p : Config.Param) (index elem : Nat) : Bool :=
  cfg.fields.any (fun f => f.param == p && f.index == index && f.elem == elem)

/-- OUT.DT_TIME in µs (Table 6.9). -/
def cfgDtTime (cfg : Config.Image) (n : Nat) : Nat := lookN cfg .outDtTime n 0 200

/-- OUT.DT_TIME_MAX in µs (Table 6.9). -/
def cfgDtMax (cfg : Config.Image) (n : Nat) : Nat := lookN cfg .outDtTimeMax n 0 (cfgDtTime cfg n)

/-- OUT.DT_INTERVAL in µs (Table 6.9). -/
def cfgDtInt (cfg : Config.Image) (n : Nat) : Nat := lookN cfg .outDtInterval n 0 10000000

/-- OUT.DT_INTERVAL_MIN in µs (Table 6.9). -/
def cfgDtIntMin (cfg : Config.Image) (n : Nat) : Nat := lookN cfg .outDtIntervalMin n 0 (cfgDtInt cfg n)

/-- TPO.WIDTH in µs: 200 µs to 1 000 µs in steps of 50 µs (R82, Table 4.7; a value between two steps: log entry 144). -/
def cfgWidth (cfg : Config.Image) (n : Nat) : Nat := max 200 (min 1000 (ceilDiv (lookN cfg .tpoWidth n 0 300) 50 * 50))

/-- TPO.WIDTH_MAX in µs (Table 14.8). -/
def cfgWidthMax (cfg : Config.Image) (n : Nat) : Nat :=
  max (cfgWidth cfg n) (min 1000 (ceilDiv (lookN cfg .tpoWidthMax n 0 (cfgWidth cfg n)) 50 * 50))

/-- WTH.TICK_TOL_MIN in 0.01 % (Table 14.8). -/
def cfgTolMin (cfg : Config.Image) : Nat := lookN cfg .wthTickTolMin 0 0 200

/-- WTH.ENABLE (Table 14.8). -/
def cfgWth (cfg : Config.Image) : Bool := lookB cfg .wthEnable 0 true

/-- WTH.EXHAUST_ACTION is SAFE_HOLD (Table 14.8). -/
def cfgExhaustHold (cfg : Config.Image) : Bool := lookB cfg .wthExhaust 0 false

/-- Tick period in timebase units for a TICK_SEL code (Table 2.8). -/
def tickUnits (sel : Nat) : Nat :=
  match sel with
  | 0 => 25000
  | 1 => 50000
  | 2 => 100000
  | _ => 200000

/-- Tick period in µs. -/
def tickUs (s : State) : Nat := tickUnits s.tick.sel.toNat / 100

/-- Ticks that a time of `us` µs takes, rounded up (R104). -/
def ticksOf (T us : Nat) : Nat := ceilDiv us T

/-- Is the analogue channel configured? -/
def uacUsed (cfg : Config.Image) : Bool := (List.range 8).any (fun n => lookN cfg .uacMode n 0 0 != 0)

/-- Is any axis configured? -/
def axisUsed (cfg : Config.Image) : Bool := (List.range 8).any (fun n => lookB cfg .axisEnable n false)

/-- Is this module a cascade member? -/
def casUsed (cfg : Config.Image) : Bool := lookN cfg .casId 0 0 0 != 0

/-- Does the configuration use a network port: CTT connections and the cascade use both, a CSF connection its own, PTP its own, and a
follower the other one as well, to which it moves (Table 1.5, R203, R204, R217; log entry 151)? -/
def portUsed (cfg : Config.Image) (b : Bool) : Bool :=
  let role := lookN cfg .ptpRole 0 0 0
  (List.range 128).any (fun n => given cfg .connDir n
      && (lookN cfg .connProto n 0 0 != 1 || (lookN cfg .csfPort n 0 0 == 1) == b))
    || casUsed cfg || role == 1 || role == 3 || (role == 2 && (lookN cfg .ptpPort 0 0 0 == 1) == b)

end Sys2Proof.Machine
end

