-- ==== Sys2Proof/Machine/Params.lean ====
section
/-! DEFINITION. Configuration parameters: ranges, clamps and structural conditions (R103, R259, R260; Tables 4.7, 5.4 to 5.11,
6.9, 7.6 to 7.8, 8.9, 9.9, 14.8). -/

namespace Sys2Proof.Machine

/-! ## Stagger groups (R44, R45, R47) -/

/-- Tick period of a configuration in µs (R22). -/
def cfgT (cfg : Config.Image) : Nat := tickUnits (lookN cfg .modTick 0 0 2) / 100

/-- The TPO that feeds an input, if any. -/
def inTpoOf (cfg : Config.Image) (n : Nat) : Option Nat :=
  if given cfg .inTpo n then some (lookN cfg .inTpo n 0 0) else none

/-- Filter time of an input in 0.1 µs: 1 ms to 20 ms for OSSD (R75, R80). -/
def cfgFilter (cfg : Config.Image) (n : Nat) : Nat :=
  if lookN cfg .inMode n 0 0 = 3 then max 10000 (min 200000 (lookN cfg .inFilter n 0 10000))
  else min 200000 (lookN cfg .inFilter n 0 30000)

/-- A period within the range of Table 4.7. -/
def period0 (cfg : Config.Image) (m : Nat) : Nat := max 2000 (min 500000 (ceilDiv (lookN cfg .tpoPeriod m 0 20000) 10 * 10))

/-- Is the TPO PULSED? -/
def pulsed (cfg : Config.Image) (m : Nat) : Bool := lookN cfg .tpoMode m 0 0 == 2

/-- Widest pulse that the envelope of a TPO allows (R45, R47). -/
def widest (cfg : Config.Image) (m : Nat) : Nat := max (cfgWidth cfg m) (cfgWidthMax cfg m)

/-- The TPOs of the stagger group of period `P`, in ascending order (R44). -/
def staggerGroup (cfg : Config.Image) (per : List Nat) (P : Nat) : List Nat :=
  (List.range 16).filter (fun m => pulsed cfg m && per.getD m 0 == P)

/-- Does the TPO feed an input that may feed a safety function (Table 4.1)? -/
def feedsSafety (cfg : Config.Image) (m : Nat) : Bool :=
  (List.range 48).any (fun n => inTpoOf cfg n == some m && lookN cfg .inMode n 0 0 ∈ [1, 2, 3, 4])

/-- The greater of the two minima for the period of a group (R45, R47), rounded up to 10 µs. -/
def groupMin (cfg : Config.Image) (g : List Nat) : Nat :=
  let w := (g.map (widest cfg)).foldl max 0
  let f := ((List.range 48).map (fun n => match inTpoOf cfg n with
    | some m => if g.contains m then cfgFilter cfg n else 0
    | none => 0)).foldl max 0
  let pMin := 625 + max (ceilDiv f 625 * 625) 625 + 20 * cfgT cfg + 1000 + 20 * (w + 150) + 500
  max (g.length * (w + 350)) (if g.any (feedsSafety cfg) then max 2000 (ceilDiv pMin 100 * 10) else 0)

/-- One pass of the clamps over all periods. -/
def periodPass (cfg : Config.Image) (per : List Nat) : List Nat :=
  (List.range 16).map (fun m => let P := per.getD m 0
                                if pulsed cfg m then max P (groupMin cfg (staggerGroup cfg per P)) else P)

/-- The periods after every clamp: groups that a clamp makes equal are one group (R44), so that the clamps are applied until
nothing changes, which sixteen passes reach. -/
def periods (cfg : Config.Image) : List Nat :=
  (List.range 16).foldl (fun per _ => periodPass cfg per) ((List.range 16).map (period0 cfg))

/-! ## Analogue limits (Table 8.7) -/

/-- TOL_MIN and 10 % of the range span, in steps of x. -/
def tolLimits (mode rtd tc : Nat) : Nat × Nat :=
  match mode with
  | 1 => (40000, 2000000)
  | 2 => (48000, 2400000)
  | 3 => (48000, 2400000)
  | 4 => (40000, 2000000)
  | 5 => if rtd = 0 then (130, 10500) else if rtd = 1 then (110, 10500) else (110, 3100)
  | 6 => (if tc = 2 then 330 else 400,
          match tc with
          | 0 => 14000
          | 1 => 15720
          | 2 => 6000
          | 3 => 12000
          | _ => 15000)
  | 7 => (3200, 400000)
  | _ => (0, 4294967295)

/-- Limits of a channel's TOL. -/
def cfgTolLimits (cfg : Config.Image) (n : Nat) : Nat × Nat :=
  tolLimits (lookN cfg .uacMode n 0 0) (lookN cfg .uacRtdType n 0 0) (lookN cfg .uacTcType n 0 1)

/-- Range of a mode in steps of x (Table 8.1). -/
def modeRange (mode rtd tc : Nat) : Int × Int :=
  match mode with
  | 1 => (-10000000, 10000000)
  | 2 => (0, 24000000)
  | 3 => (0, 24000000)
  | 4 => (-10000000, 10000000)
  | 5 => if rtd = 2 then (-6000, 25000) else (-20000, 85000)
  | 6 => (-20000, match tc with
      | 0 => 120000
      | 1 => 137200
      | 2 => 40000
      | 3 => 100000
      | _ => 130000)
  | 7 => (0, 4000000)
  | _ => (0, 0)

/-- Range of a channel. -/
def cfgRange (cfg : Config.Image) (n : Nat) : Int × Int :=
  modeRange (lookN cfg .uacMode n 0 0) (lookN cfg .uacRtdType n 0 0) (lookN cfg .uacTcType n 0 1)

/-- The permitted conversion times of a mode in µs (R197). -/
def convTimes (mode : Nat) : List Nat := if mode ∈ [5, 6, 7] then [20000, 100000] else [250, 500, 1000, 2000, 20000, 100000]

/-- The permitted time nearest to `t`, the shorter of two equally near ones. -/
def nearest (l : List Nat) (t : Int) : Nat :=
  l.foldl (fun (a b : Nat) => if ((b : Int) - t).natAbs < ((a : Int) - t).natAbs then b else a) (l.headD 0)

/-! ## Ranges -/

/-- One hour in µs. -/
abbrev hourUs : Nat := 3600000000

/-- Longest BRIGHT_MAX for the declared target, which is 3 where the configuration omits it (Table 6.6, R68). -/
def brightLimit (cfg : Config.Image) : Nat :=
  match lookN cfg .declTarget 0 0 3 with
  | 1 => 720 * hourUs
  | 2 => 168 * hourUs
  | _ => 24 * hourUs

/-- A field's value within bounds. -/
def inRange (cfg : Config.Image) (p : Config.Param) (i : Nat) (dflt lo hi : Nat) : Nat :=
  max lo (min hi (lookN cfg p i 0 dflt))

/-- OUT.DT_TIME as used, in µs (Table 6.9). -/
def usedDt (cfg : Config.Image) (o : Nat) : Nat := max 100 (min 300 (ceilDiv (lookN cfg .outDtTime o 0 200) 10 * 10))

/-- Largest 31-bit value. -/
abbrev big31 : Int := 2147483647

/-- Does connection `c` consume? -/
def consumes (cfg : Config.Image) (c : Nat) : Bool := given cfg .connDir c && lookN cfg .connDir c 0 0 == 1

/-- A CONN.T_P as used: the least of the four values of T that is not below it (Table 9.9; log entry 144). -/
def listed4 (t : Nat) : Nat := ([250, 500, 1000].find? (fun w => decide (t ≤ w))).getD 2000

/-- CONN.C as used, in µs: in range, and rounded up to whole ticks of the producer, which CONN.T_P gives for a consuming connection
(R207). -/
def usedC (cfg : Config.Image) (c : Nat) : Nat :=
  let tp := if consumes cfg c then (listed4 (lookN cfg .connTP c 0 (cfgT cfg))) else cfgT cfg
  ceilDiv (inRange cfg .connC c 1000 250 1000000) tp * tp

/-- CONN.W as used, in µs: 250 µs to CONN.C, rounded up to whole ticks of the consumer (R207, Table 9.9). -/
def usedW (cfg : Config.Image) (c : Nat) : Nat :=
  ceilDiv (inRange cfg .connW c (usedC cfg c) 250 (usedC cfg c)) (cfgT cfg) * cfgT cfg

/-- The least CONN.TIMEOUT in µs: CONN.C + CONN.W + T, formed with the consumer's T (R207, Table 9.9). -/
def leastTimeout (cfg : Config.Image) (c : Nat) : Nat := usedC cfg c + usedW cfg c + cfgT cfg

/-- The tick periods of the cascade members that a configuration knows: its own, and CONN.T_P of the connections that CTT_IN blocks
mark with a MEMBER (R123, R207; log entry 156). -/
def memberTs (cfg : Config.Image) : List Nat :=
  cfgT cfg :: cfg.insts.zipIdx.filterMap (fun q =>
    if q.1.typ = 0x14 && given cfg .bMember q.2 then
      some (listed4 (lookN cfg .connTP (lookN cfg .bConn q.2 0 0) 0 (cfgT cfg)))
    else none)

/-- The resolution of CAS.CYCLE: the largest member T (Table 9.9). -/
def casRes (cfg : Config.Image) : Nat := (memberTs cfg).foldl max 1

/-- CAS.CYCLE as used, in µs: whole multiples of its resolution (Table 9.9). -/
def casCycleUs (cfg : Config.Image) : Nat := ceilDiv (lookN cfg .casCycle 0 0 1000) (casRes cfg) * casRes cfg

/-- Range of a field, if its parameter has one: least and greatest value. DECL_TARGET has none: a value other than 1, 2 and 3 is neither
clamped nor refused; it permits the split below 3, and takes the limit of BRIGHT_MAX of 3 (R68; DESIGN CHOICE, log entry 187). -/
def limits (cfg : Config.Image) (f : Config.Field) : Option (Int × Int) :=
  let i := f.index
  let T := cfgT cfg
  match f.param with
  | .inFilter => some (if lookN cfg .inMode i 0 0 = 3 then 10000 else 0, 200000)
  | .inTDisc => some (10000, 3000000)
  | .inXset => some (0, 15)
  | .tpoWidth => some (200, 1000)
  | .tpoWidthMax => some (cfgWidth cfg i, 1000)
  | .tpoPeriod => some ((periods cfg).getD i 2000, (periods cfg).getD i 2000)
  | .outDtTime => some (100, 300)
  | .outDtTimeMax => some (usedDt cfg i, 300)
  | .outDtInterval => some (1000000, 60000000)
  | .outDtIntervalMin => some (1000000, inRange cfg .outDtInterval i 10000000 1000000 60000000)
  | .outBrightMax => some (hourUs, brightLimit cfg)
  | .brkIMin => some (50, 1500)
  | .brkTPull => some (20000, 1000000)
  | .axisNumA => some (1, big31)
  | .axisNumB => some (1, big31)
  | .axisDenA => some (1, big31)
  | .axisDenB => some (1, big31)
  | .axisOffA => some (-(2 ^ 63), 2 ^ 63 - 1)
  | .axisOffB => some (-(2 ^ 63), 2 ^ 63 - 1)
  | .axisVSs => some (1, big31)
  | .axisVMax => some (max 1 (min big31 (look cfg .axisVSs i 0 1000)), big31)
  | .axisTolPos => some (1, big31)
  | .axisTolSpd => some (1, big31)
  | .axisTolAcc => some (1, big31)
  | .axisTolTicks => some (1, 16)
  | .axisNetJitter => some (0, 100)
  | .encLines => some (1, 65535)
  | .ssiBits => some (13, 32)
  | .ssiClk => some (350000, 2000000)
  | .ssiTMono => some (5, 30)
  | .ssiErrBit => some (0, inRange cfg .ssiBits i 25 13 32 - 1)
  | .uacRLead => some (0, 5000)
  | .uacTol => some ((cfgTolLimits cfg i).1, (cfgTolLimits cfg i).2)
  | .uacTRange => some (0, 10000000)
  | .uacTAlarm => some (0, 10000000)
  | .uacXLo => some (-big31 - 1, big31)
  | .uacXHi => some (-big31 - 1, big31)
  | .uacEuLo => some (-big31 - 1, big31)
  | .uacEuHi => some (-big31 - 1, big31)
  | .uacCutoff => some (0, 200)
  | .uacOutFix => some (-big31 - 1, big31)
  | .uacOutPre => some (-big31 - 1, big31)
  | .uacTolOut => some (if lookN cfg .uacMode i 0 0 = 4 then 50000 else 60000, (cfgTolLimits cfg i).2)
  | .netEtCtt => some (0x600, 0xFFFF)
  | .netEtCsf => some (0x600, 0xFFFF)
  | .netUdpCtt => some (1024, 65535)
  | .netUdpCsf => some (1024, 65535)
  | .ptpDomain => some (0, 127)
  | .ptpLogSync => some (-5, 0)
  | .connId => some (1, 0xFFFFFFFE)
  | .connC => some (250, 1000000)
  | .connLen => some (if lookN cfg .connProto i 0 0 = 1 then (2, 32) else (8, 56))
  | .connD => some (20, 100000)
  | .connAgeMax => some (100, 1000000)
  | .connW => some (250, usedC cfg i)
  | .connTimeout => some (leastTimeout cfg i, 10000000)
  | .connLeeTime => some (100000, 600000000)
  | .csfWdg => some (4000, 10000000)
  | .casId => some (1, 16777215)
  | .casSelf => some (0, 7)
  | .casCycle => some (250, 10000)
  | .casAgeMax => some (100, 10000)
  | .estopCat | .bStartAck | .bStartTest | .msModeAck | .s1EarlySto | .axisEnable | .encZCheck | .uacLoopPwr | .uacNe43
  | .uacRemoteSense | .wthEnable | .wthExhaust => some (0, 1)
  | .uacWires => some (2, 4)
  | .bMember => some (0, 7)
  | .estopTStop => some (10000, 300000000)
  | .glTLock => some (100000, 10000000)
  | .glTUnlockMax => some (1000000, 600000000)
  | .curT12 => some (50000, 4000000)
  | .curTSync => some (50000, 3000000)
  | .curTMuteMax => some (1000000, 600000000)
  | .en3TMax => if f.value = 0 then none else some (1000000, 3600000000)
  | .msTChange => some (50000, 2000000)
  | .edmTPick => some (10000, 1000000)
  | .edmTDrop => some (10000, 1000000)
  | .timPt => some (0, 86400000000)
  | .atLimit =>
    let ch := lookN cfg .atChannel i 0 0
    let lo := look cfg .uacEuLo ch 0 0
    let hi := look cfg .uacEuHi ch 0 10000
    some (min lo hi, max lo hi)
  | .atHyst =>
    let ch := lookN cfg .atChannel i 0 0
    some (0, (look cfg .uacEuHi ch 0 10000 - look cfg .uacEuLo ch 0 0).natAbs)
  | .atTDelay => some (0, 10000000)
  | .s1TStop => some (10000, 300000000)
  | .tBrake => some (0, 500000)
  | .tR => some (T + 100, 1000000)
  | .tJ => some (0, 500000)
  | .aM => some (1, big31)
  | .vTol => some (0, big31)
  | .sosWin => some (1, big31)
  | .sosVMax => some (1, big31)
  | .sosTDelay => some (0, 10000000)
  | .slsLimit => some (1, big31)
  | .sdiTol => some (1, big31)
  | .slpLo => some (-(2 ^ 63), 2 ^ 63 - 1)
  | .slpHi => some (-(2 ^ 63), 2 ^ 63 - 1)
  | .slpTR => some (T + 100, 1000000)
  | .slpABrake => some (1, big31)
  | .sbcTRel => some (0, 2000000)
  | .sbtWin => some (1, big31)
  | .sbtTTest => some (100000, 5000000)
  | .sbtInterval => if f.value = 0 then none else some (hourUs, 168 * hourUs)
  | .modTick => some (0, 3)
  | .splitPermitted => some (0, if lookN cfg .declTarget 0 0 3 ≤ 2 then 1 else 0)
  | .wthTickTolMin => some (100, 500)
  | .mbxTimeout => some (100000, 600000000)
  | _ => none

/-- The step of a field with a resolution of its own (Tables 4.7, 6.9, 7.6, 7.8, 9.9, 14.8). -/
def resolution (cfg : Config.Image) (f : Config.Field) : Int :=
  match f.param with
  | .tpoWidth | .tpoWidthMax => 50
  | .tpoPeriod | .outDtTime | .outDtTimeMax | .brkIMin => 10
  | .outBrightMax | .sbtInterval => hourUs
  | .ssiClk => 10000
  | .wthTickTolMin => 10
  | .connLen => if lookN cfg .connProto f.index 0 0 = 1 then 2 else 4
  | .casCycle => casRes cfg
  | _ => 1

/-- A value rounded up to its field's resolution (log entry 144). -/
def coarse (cfg : Config.Image) (f : Config.Field) : Int := (f.value + resolution cfg f - 1) / resolution cfg f * resolution cfg f

/-- The permitted values of a field that has a list of them: AXIS.N_V and N_A, CONN.T_P (Tables 7.6, 9.9). -/
def valueList (p : Config.Param) : List Int :=
  match p with
  | .axisNV | .axisNA => [1, 2, 4, 8, 16]
  | .connTP => [250, 500, 1000, 2000]
  | _ => []

/-- The least permitted value that is not below `v`, the greatest one above them all (log entry 144). -/
def listed (l : List Int) (v : Int) : Int := (l.find? (fun w => decide (v ≤ w))).getD (l.getLastD v)

/-- The value used for a field (R103, R197). -/
def clampOf (cfg : Config.Image) (f : Config.Field) : Int :=
  if f.param = .uacTConv then nearest (convTimes (lookN cfg .uacMode f.index 0 0)) f.value
  else if !(valueList f.param).isEmpty then listed (valueList f.param) f.value
  else
    match limits cfg f with
    | some (lo, hi) => max lo (min hi (coarse cfg f))
    | none => f.value

/-- SECTION of a parameter in a clamp report entry (R260). -/
def sectionOf (p : Config.Param) : Nat :=
  match p with
  | .inMode | .inFilter | .inTpo | .inPair | .inPairType | .inTDisc | .inXset | .inAckRole => 1
  | .tpoMode | .tpoWidth | .tpoPeriod | .tpoWidthMax => 2
  | .outKind | .outStdState | .outTest | .outDtTime | .outDtTimeMax | .outDtInterval | .outDtIntervalMin | .outBrightMax
  | .outCont | .brkIMin | .brkTPull => 3
  | .axisEnable | .axisSrcB | .axisNumA | .axisNumB | .axisDenA | .axisDenB | .axisOffA | .axisOffB | .axisNV | .axisNA
  | .axisVSs | .axisVMax | .axisTolPos | .axisTolSpd | .axisTolAcc | .axisTolTicks | .axisNetJitter | .axisStoOut
  | .axisNetConn | .axisNetOff | .encType | .encLines | .encZCheck | .ssiBits | .ssiCode | .ssiClk | .ssiCheck | .ssiTMono
  | .ssiErrBit | .encPwrMode => 4
  | .uacMode | .uacRtdType | .uacWires | .uacRLead | .uacTcType | .uacCjSrc | .uacLoopPwr | .uacNe43 | .uacTConv | .uacTol
  | .uacTRange | .uacTAlarm | .uacChar | .uacXLo | .uacXHi | .uacEuLo | .uacEuHi | .uacCutoff | .uacTblX | .uacTblY
  | .uacAlmDir | .uacVAlarm | .uacRemoteSense | .uacOutSrc | .uacOutFix | .uacOutPre | .uacOutEn | .uacOutSel0
  | .uacOutSel1 | .uacTolOut | .uacNetConn | .uacNetOff => 5
  | .netEtCtt | .netEtCsf | .netIpA | .netIpB | .netMaskA | .netMaskB | .netUdpCtt | .netUdpCsf | .ptpRole
  | .ptpDomain | .ptpPort | .ptpTransport | .ptpLogSync | .connProto | .connDir | .connId | .connTransport | .connDst
  | .connC | .connTP | .connLen | .connD | .connAgeMax | .connW | .connTimeout | .connLeeTime | .connPhase | .csfPort
  | .csfWdg | .casId | .casSelf | .casListNum | .casListSerial | .casListSeed | .casCycle | .casAgeMax | .casDst => 6
  | .modTick | .modStartMode | .declTarget | .splitPermitted | .wthEnable | .wthTickTolMin | .wthExhaust | .mbxTimeout
  | .mirrorList => 8
  | _ => 7

/-- PATH from its parts: SECTION, INDEX, PARAM, ELEMENT (R260). -/
def pathMk (sec index : Nat) (param : BitVec 16) (elem : Nat) : W64 :=
  BitVec.ofNat 64 (sec * 2 ^ 48 + index % 65536 * 2 ^ 32 + param.toNat * 2 ^ 16 + elem % 65536)

/-- PATH of a field. -/
def pathOf (f : Config.Field) : W64 := pathMk (sectionOf f.param) f.index (Config.paramNo f.param) f.elem

/-- The PULSED TPOs whose omitted period a stagger rule raises above its default (R45, R47). -/
def raisedPeriods (cfg : Config.Image) : List Nat :=
  (List.range 16).filter (fun m => pulsed cfg m && !given cfg .tpoPeriod m && 20000 < (periods cfg).getD m 0)

/-- The clamp report of an image, in candidate order (R260); a default that is raised has no place in the candidate and comes last
(log entry 146). -/
def clampsOf (cfg : Config.Image) : List Clamp :=
  cfg.fields.filterMap (fun f =>
      if clampOf cfg f = f.value then none else some { path := pathOf f, given := f.value, used := clampOf cfg f })
    ++ (raisedPeriods cfg).map (fun m =>
      { path := pathMk 2 m (Config.paramNo .tpoPeriod) 0, given := 20000, used := (periods cfg).getD m 0 })

/-- The image as it is used: every field at its clamped value. -/
def clamped (cfg : Config.Image) : Config.Image :=
  { cfg with fields := cfg.fields.map (fun f => { f with value := clampOf cfg f }) }

/-- The configuration that the bytes of an image spell, as the module uses it. -/
def cfgOf (bytes : List Byte) : Config.Image := clamped (Config.image bytes)

/-- The active configuration as the channels evaluate it: the candidate during VERIFY (R262, R271). -/
def evalCfg (s : State) : Config.Image :=
  match s.mode, s.gable.cand with
  | .verify, some c => cfgOf c.data
  | _, _ => s.active.image

/-! ## Pairs, outputs, lists -/

/-- The partner of a paired input. -/
def partnerOf (cfg : Config.Image) (n : Nat) : Option Nat :=
  if given cfg .inPair n then some (lookN cfg .inPair n 0 0)
  else (List.range 48).find? (fun m => given cfg .inPair m && lookN cfg .inPair m 0 0 == n)

/-- The declared cross-check set of an input (R87). -/
def xsetDecl (cfg : Config.Image) (n : Nat) : List Nat :=
  if given cfg .inXset n then
    (List.range 48).filter (fun m => given cfg .inXset m && lookN cfg .inXset m 0 0 == lookN cfg .inXset n 0 0)
  else [n]

/-- May an input be a member of a cross-check set: GUST, or WIREBREAK fed from a PULSED TPO (R87)? -/
def checkable (cfg : Config.Image) (n : Nat) : Bool :=
  lookN cfg .inMode n 0 0 == 2 || (lookN cfg .inMode n 0 0 == 4 && (inTpoOf cfg n).any (pulsed cfg))

/-- The inputs that an input is cross-checked with: its declared set, and its partner, where both may be members: such a pair forms a
set of two without any declaration (R87). -/
def xsetOf (cfg : Config.Image) (n : Nat) : List Nat :=
  xsetDecl cfg n ++ (match partnerOf cfg n with
    | some m => if checkable cfg n && checkable cfg m then [m] else []
    | none => [])

/-- The outputs that the LAMP of curtain `k` drives, those of the OUT blocks that take it directly; a LAMP that goes through a logic block
does not count as linked, which the manual leaves open (R115; DESIGN CHOICE, log entry 164). -/
def lampOut (cfg : Config.Image) (k : Nat) : List Nat :=
  cfg.insts.zipIdx.filterMap (fun q => if q.1.typ == 0x13 && q.1.ins.head? == some (.sig k 1) then some (lookN cfg .bOutput q.2 0 0) else none)

/-- The outputs that muting lamps use. -/
def lampOuts (cfg : Config.Image) : List Nat :=
  cfg.insts.zipIdx.flatMap (fun q => if q.1.typ = 0x05 && lookN cfg .curMuting q.2 0 0 != 0 then lampOut cfg q.2 else [])

/-- Does the configuration use an output: by an OUT block, or by a parameter of its own? -/
def outUsed (cfg : Config.Image) (o : Nat) : Bool :=
  cfg.insts.zipIdx.any (fun q => q.1.typ == 0x13 && lookN cfg .bOutput q.2 0 0 == o)
    || [Config.Param.outKind, .outStdState, .outTest, .outDtTime, .outDtTimeMax, .outDtInterval, .outDtIntervalMin, .outBrightMax,
        .outCont, .brkIMin, .brkTPull].any (fun p => given cfg p o)

/-- OUT.CONT, ON_OFF by default on a brake output (R144, Table 6.9). An output that the configuration does not use gets no
OUTPUT entry, and so no bias (R21, R129): it counts as NONE (log entry 147). -/
def cfgCont (cfg : Config.Image) (o : Nat) : Nat := lookN cfg .outCont o 0 (if 24 ≤ o && outUsed cfg o then 2 else 0)

/-- OUT.TEST: 0 DARK, 1 BRIGHT_ONLY, 2 NONE (Table 6.9). -/
def cfgTest (cfg : Config.Image) (o : Nat) : Nat := lookN cfg .outTest o 0 (if lookN cfg .outKind o 0 0 = 1 then 2 else 0)

/-- UAC.NE43 (Table 8.9). -/
def cfgNe43 (cfg : Config.Image) (n : Nat) : Bool := lookB cfg .uacNe43 n (lookN cfg .uacMode n 0 0 ∈ [2, 3])

/-- Is the module a cascade member (Table 9.9)? -/
def member (cfg : Config.Image) : Bool := given cfg .casSelf 0 || given cfg .casId 0

/-- Numbers of the cascade member list. -/
def casNums (cfg : Config.Image) : List Nat :=
  (cfg.fields.filter (fun f => f.param == .casListNum)).map (fun f => f.value.toNat)

/-- Connections of a configuration. -/
def conns (cfg : Config.Image) : List Nat := (List.range 128).filter (fun c => given cfg .connDir c)

/-- Does connection `c` produce? -/
def produces (cfg : Config.Image) (c : Nat) : Bool := given cfg .connDir c && lookN cfg .connDir c 0 0 == 0

/-- Is connection `c` a CSF connection? -/
def isCsf (cfg : Config.Image) (c : Nat) : Bool := lookN cfg .connProto c 0 0 == 1

/-! ## Structural conditions (R259, step 3) -/

/-- A failed condition at an element of a parameter. -/
def refuseElem (cond : Bool) (p : Config.Param) (index elem reason : Nat) : List (W64 × Nat) :=
  if cond then [(pathMk (sectionOf p) index (Config.paramNo p) elem, reason)] else []

/-- A failed condition at a parameter. -/
def refuse (cond : Bool) (p : Config.Param) (index reason : Nat) : List (W64 × Nat) := refuseElem cond p index 0 reason

/-- Inputs (Table 4.7, R44, R80, R87). -/
def inputFaults (cfg : Config.Image) (n : Nat) : List (W64 × Nat) :=
  let mode := lookN cfg .inMode n 0 0
  let tpo := inTpoOf cfg n
  let tmode (m : Nat) : Nat := lookN cfg .tpoMode m 0 0
  let per (k : Nat) : Option Nat := (inTpoOf cfg k).map (fun m => (periods cfg).getD m 0)
  let role := lookN cfg .inAckRole n 0 0
  let set := xsetDecl cfg n
  refuse (match tpo with
      | none => mode ∈ [2, 4]
      | some m => tmode m == 0 || (mode == 2 && tmode m == 1)) .inTpo n 7
    ++ (match partnerOf cfg n with
        | none => refuse (mode == 3) .inPair n 7
        | some m =>
          refuse (lookN cfg .inMode m 0 0 != mode || mode ∈ [0, 5]
              || (mode == 3 && lookN cfg .inPairType (min n m) 0 0 + lookN cfg .inPairType (max n m) 0 0 != 0)
              || m == n || (tpo.isSome && tpo == inTpoOf cfg m)) .inPair n 7)
    ++ refuse (given cfg .inXset n && (16 < set.length
          || !checkable cfg n
          || set.any (fun m => per m != per n))) .inXset n 7
    ++ refuse (role != 0 && ((partnerOf cfg n).isSome || mode ∈ [3, 4, 5] || (role == 2
          && (List.range n).any (fun m => lookN cfg .inAckRole m 0 0 == 2)))) .inAckRole n 7

/-- A TPO with the input of a pair whose partner's TPO has another period (Table 4.7, R44). -/
def tpoFaults (cfg : Config.Image) (t : Nat) : List (W64 × Nat) :=
  refuse ((List.range 48).any (fun n => inTpoOf cfg n == some t
    && (match partnerOf cfg n with
        | some m => (match inTpoOf cfg m with
          | some u => (periods cfg).getD t 0 != (periods cfg).getD u 0
          | none => false)
        | none => false))) .tpoPeriod t 7

/-- Outputs (Table 6.9). -/
def outputFaults (cfg : Config.Image) (o : Nat) : List (W64 × Nat) :=
  let std := lookN cfg .outKind o 0 0 == 1
  refuse (given cfg .outStdState o && (!std || 24 ≤ o)) .outStdState o 7
    ++ refuse (if std then cfgTest cfg o != 2 else cfgTest cfg o == 2) .outTest o 7
    ++ refuse ((lampOuts cfg).contains o && cfgCont cfg o != 2) .outCont o 7

/-- Encoder type of an interface: 2n for ENCna, 2n + 1 for ENCnb. -/
def cfgEnc (cfg : Config.Image) (i : Nat) : Nat := lookN cfg .encType i 0 0

/-- SSI transfer time in ns, rounded up (R151). -/
def ssiTime (cfg : Config.Image) (i : Nat) : Nat :=
  let one := ceilDiv ((lookN cfg .ssiBits i 0 25 + 1) * 1000000000) (lookN cfg .ssiClk i 0 1000000)
  if lookN cfg .ssiCheck i 0 1 = 2 then 2 * one + 1000 * lookN cfg .ssiTMono i 0 20 else one

/-- Is source b of the axis a CTT position? -/
def srcNet (cfg : Config.Image) (a : Nat) : Bool := lookN cfg .axisSrcB a 0 0 == 1

/-- Axes and encoders (Table 7.6, R150, R151). -/
def axisFaults (cfg : Config.Image) (a : Nat) : List (W64 × Nat) :=
  let inc (i : Nat) : Bool := cfgEnc cfg i ∈ [1, 2]
  let used := lookB cfg .axisEnable a false
  let sto := lookN cfg .axisStoOut a 0 0
  refuse (srcNet cfg a && !(given cfg .axisNetConn a && given cfg .axisNetOff a
        && consumes cfg (lookN cfg .axisNetConn a 0 0) && !isCsf cfg (lookN cfg .axisNetConn a 0 0))) .axisSrcB a 7
    ++ refuse (given cfg .axisOffA a && inc (2 * a)) .axisOffA a 7
    ++ refuse (given cfg .axisOffB a && !srcNet cfg a && inc (2 * a + 1)) .axisOffB a 7
    ++ refuse ((used && !given cfg .axisStoOut a)
        || (given cfg .axisStoOut a && (24 ≤ sto || lookN cfg .outKind sto 0 0 == 1))) .axisStoOut a 7
    ++ refuse (used && cfgEnc cfg (2 * a) == 0) .encType (2 * a) 7
    ++ refuse (used && !srcNet cfg a && cfgEnc cfg (2 * a + 1) == 0) .encType (2 * a + 1) 7
    ++ refuse (cfgEnc cfg (2 * a) == 3 && decide (40000 < ssiTime cfg (2 * a))) .ssiClk (2 * a) 7
    ++ refuse (cfgEnc cfg (2 * a + 1) == 3 && decide (40000 < ssiTime cfg (2 * a + 1))) .ssiClk (2 * a + 1) 7

/-- The points of a channel's TABLE. -/
def tblOf (cfg : Config.Image) (n : Nat) : List (Int × Int) :=
  (cfg.fields.filter (fun f => f.param == .uacTblX && f.index == n)).map (fun f => (f.value, look cfg .uacTblY n f.elem 0))

/-- The place of the first number that is not above the one before it. -/
def notRising (l : List Int) : Option Nat :=
  (List.range l.length).find? (fun k => decide (1 ≤ k) && decide (l.getD k 0 ≤ l.getD (k - 1) 0))

/-- The points of a TABLE: too few or too many, or one that is not above the one before it, in x or, for an output, in y (R187). -/
def tblFaults (cfg : Config.Image) (n : Nat) (out : Bool) : List (W64 × Nat) :=
  let tbl := tblOf cfg n
  let elems := (cfg.fields.filter (fun f => f.param == .uacTblX && f.index == n)).map (fun f => f.elem)
  let at_ (p : Config.Param) (l : List Int) : List (W64 × Nat) :=
    match notRising l with
    | some k => refuseElem true p n (elems.getD k k) 7
    | none => []
  refuseElem (tbl.length < 2) .uacTblX n tbl.length 7 ++ refuseElem (32 < tbl.length) .uacTblX n (elems.getD 32 32) 7
    ++ at_ .uacTblX (tbl.map (fun q => q.1)) ++ (if out then at_ .uacTblY (tbl.map (fun q => q.2)) else [])

/-- Analogue channels (Table 8.9, R187). -/
def uacFaults (cfg : Config.Image) (n : Nat) : List (W64 × Nat) :=
  let mode := lookN cfg .uacMode n 0 0
  let out := mode == 3 || mode == 4
  let char := lookN cfg .uacChar n 0 0
  let cj := lookN cfg .uacCjSrc n 0 0
  refuse (given cfg .uacRLead n && lookN cfg .uacWires n 0 4 != 2) .uacRLead n 7
    ++ refuse (cj != 0 && (cj - 1 == n || lookN cfg .uacMode (cj - 1) 0 0 != 5)) .uacCjSrc n 7
    ++ refuse (lookB cfg .uacNe43 n false && !(mode == 2 || mode == 3)) .uacNe43 n 7
    ++ refuse (mode != 0 && char == 1 && (out || 5 ≤ mode)) .uacChar n 7
    ++ refuse (mode != 0 && (look cfg .uacXLo n 0 (cfgRange cfg n).1 == look cfg .uacXHi n 0 (cfgRange cfg n).2))
        (if given cfg .uacXLo n then .uacXLo else .uacXHi) n 7
    ++ (if mode != 0 && char == 2 then tblFaults cfg n out else [])
    ++ refuse (out && lookN cfg .uacOutSrc n 0 0 == 2 && !(given cfg .uacNetConn n && given cfg .uacNetOff n
          && consumes cfg (lookN cfg .uacNetConn n 0 0) && !isCsf cfg (lookN cfg .uacNetConn n 0 0))) .uacOutSrc n 7
    ++ refuse (out && !given cfg .uacOutEn n) .uacOutEn n 7

/-- Does a value field of 4 bytes at `off` lie inside the payload of connection `c` (R208)? -/
def fieldInside (cfg : Config.Image) (c off : Nat) : Bool := 8 ≤ off && off % 4 == 0 && off + 4 ≤ lookN cfg .connLen c 0 8

/-- The elements of CONN.DST that a producing connection lacks, on the ports that it uses: a MAC address (elements 0 and 1: ports A and B),
and an IPv4 address (elements 2 and 3) for UDP (R203, Table 9.9; log entry 155). -/
def dstMissing (cfg : Config.Image) (c : Nat) : List Nat :=
  let udp := lookN cfg .connTransport c 0 0 == 1
  ([0, 1].filter (fun p => !(isCsf cfg c && lookN cfg .csfPort c 0 0 != p))).flatMap (fun p =>
    [p, 2 + p].filter (fun e => (e < 2 || udp) && !givenElem cfg .connDst c e))

/-- One connection (Table 9.9, R207, R208, R219). -/
def connFaults (cfg : Config.Image) (c : Nat) : List (W64 × Nat) :=
  let id := lookN cfg .connId c 0 0
  let cas := lookN cfg .casId 0 0 0
  if !given cfg .connDir c then []
  else
    refuse (!given cfg .connId c || (List.range c).any (fun d => given cfg .connDir d && lookN cfg .connId d 0 0 == id)
        || (member cfg && id / 256 == cas && ((casNums cfg).contains (id % 256)
              || (casNums cfg).contains (id % 256 - 128) && 128 ≤ id % 256))) .connId c 7
      ++ (if produces cfg c then (dstMissing cfg c).flatMap (fun e => refuseElem true .connDst c e 7) else [])
      ++ refuse (produces cfg c && given cfg .connTP c) .connTP c 7
      ++ refuse (!isCsf cfg c && lookN cfg .ptpRole 0 0 (if member cfg then 3 else 0) == 0) .ptpRole 0 7
      ++ refuse ((List.range 8).any (fun a => lookB cfg .axisEnable a false && srcNet cfg a
            && lookN cfg .axisNetConn a 0 0 == c && !fieldInside cfg c (lookN cfg .axisNetOff a 0 0))
          || (List.range 8).any (fun n => lookN cfg .uacMode n 0 0 ∈ [3, 4] && lookN cfg .uacOutSrc n 0 0 == 2
            && lookN cfg .uacNetConn n 0 0 == c && !fieldInside cfg c (lookN cfg .uacNetOff n 0 0))) .connLen c 7

/-- Is an address no IPv4 unicast address, or a mask none? For these ranges, which have no nearest limit, the configuration is refused
(Table 9.9; DESIGN CHOICE, log entry 198). -/
def badIp (a : Nat) : Bool := !(1 ≤ a / 2 ^ 24 && a / 2 ^ 24 ≤ 223)

/-- Is a mask not a run of ones followed by zeros? -/
def badMask (m : Nat) : Bool :=
  let x : W32 := ~~~(BitVec.ofNat 32 m)
  x &&& (x + 1) != 0

/-- Is a MAC address a group address? -/
def groupMac (mac : Nat) : Bool := mac / 2 ^ 40 % 2 == 1

/-- Is CAS.CYCLE, as the configuration gives it within its range, smaller than a member's T (Table 9.9)? The rounding up to whole multiples
comes after it. -/
def casCycleLow (raw cfg : Config.Image) : Bool :=
  (memberTs cfg).any (fun t => decide (inRange raw .casCycle 0 1000 250 10000 < t))

/-- Networks and the cascade (Table 9.9); `raw` is the configuration as it was given. -/
def netFaults (raw cfg : Config.Image) : List (W64 × Nat) :=
  let et1 := lookN cfg .netEtCtt 0 0 0x88B5
  let et2 := lookN cfg .netEtCsf 0 0 0x88B6
  let u1 := lookN cfg .netUdpCtt 0 0 52400
  let u2 := lookN cfg .netUdpCsf 0 0 52401
  let ctt := (conns cfg).any (fun c => lookN cfg .connTransport c 0 0 == 1 && !isCsf cfg c)
  let csfOn (port : Nat) : Bool := (conns cfg).any (fun c => lookN cfg .connTransport c 0 0 == 1 && isCsf cfg c
    && lookN cfg .csfPort c 0 0 == port)
  let role := lookN cfg .ptpRole 0 0 (if member cfg then 3 else 0)
  let ptpUdp (port : Nat) : Bool := lookN cfg .ptpTransport 0 0 0 == 1
    && (role == 1 || role == 3 || (role == 2 && lookN cfg .ptpPort 0 0 0 == port))
  refuse (et1 == et2 || et1 == 0x88F7) .netEtCtt 0 7 ++ refuse (et2 == 0x88F7) .netEtCsf 0 7
    ++ [Config.Param.netIpA, .netMaskA].flatMap (fun p => refuse ((ctt || csfOn 0 || ptpUdp 0) && !given cfg p 0) p 0 7)
    ++ [Config.Param.netIpB, .netMaskB].flatMap (fun p => refuse ((ctt || csfOn 1 || ptpUdp 1) && !given cfg p 0) p 0 7)
    ++ [Config.Param.netIpA, .netIpB].flatMap (fun p => refuse (given cfg p 0 && badIp (lookN cfg p 0 0 0)) p 0 7)
    ++ [Config.Param.netMaskA, .netMaskB].flatMap (fun p => refuse (given cfg p 0 && badMask (lookN cfg p 0 0 0)) p 0 7)
    ++ refuse (u1 == u2 || u1 ∈ [319, 320]) .netUdpCtt 0 7 ++ refuse (u2 ∈ [319, 320]) .netUdpCsf 0 7
    ++ refuse ((role == 3) != member cfg) .ptpRole 0 7
    ++ (((conns cfg).filter (produces cfg)).drop 64 ++ ((conns cfg).filter (consumes cfg)).drop 64
      ++ (cfg.fields.filter (fun f => f.param == .connDir && 128 ≤ f.index)).map (fun f => f.index)).flatMap
        (fun c => refuse true .connDir c 4)
    ++ (conns cfg).flatMap (connFaults cfg)
    ++ (if member cfg then
          refuse (!given cfg .casId 0) .casId 0 7
            ++ refuse (!given cfg .casSelf 0 || !(casNums cfg).contains (lookN cfg .casSelf 0 0 0)) .casSelf 0 7
            ++ ((casNums cfg).zipIdx).flatMap (fun q =>
                refuseElem (((casNums cfg).take q.2).contains q.1 || 8 ≤ q.2) .casListNum 0 q.2 7)
            ++ refuse (casCycleLow raw cfg) .casCycle 0 7
            ++ refuse (!given cfg .casDst 0 || !groupMac (lookN cfg .casDst 0 0 0)) .casDst 0 7
        else [])

/-- Is the link one to an instance of one of these types, of the output `out` if given? -/
def linkTyp (cfg : Config.Image) (l : Option Config.Link) (typs : List Nat) : Bool :=
  match l with
  | some (.sig i _) =>
    match cfg.insts[i]? with
    | some x => typs.contains x.typ
    | none => false
  | _ => false

/-- Is a link present? -/
def linked (l : Option Config.Link) : Bool :=
  match l with
  | some (.sig _ _) => true
  | some (.pin _) => true
  | _ => false

/-- Default reset behaviour of a type: 0 AUTO, 1 MANUAL, 2 MONITORED (Tables 5.4 to 5.11, 7.7). -/
def cfgReset (cfg : Config.Image) (k typ : Nat) : Nat :=
  lookN cfg .bReset k 0 (if typ ∈ [0x02, 0x03, 0x04, 0x05] then 1 else 0)

/-- START_ACK of a block (R109). -/
def cfgStartAck (cfg : Config.Image) (k : Nat) : Bool := lookB cfg .bStartAck k true

/-- Number of links that a type must have at least, and the positions that must hold a link (Tables 5.1, 7.4). -/
def mandatory (cfg : Config.Image) (k typ : Nat) : List Nat :=
  match typ with
  | 0x01 => [0, 1]
  | 0x04 => (if lookN cfg .glMonitor k 0 0 = 1 then [0, 1, 2] else [0, 2]) ++ (if lookN cfg .glReqSrc k 0 0 = 1 then [3] else [])
  | 0x05 => (match lookN cfg .curMuting k 0 0 with
      | 0 => [0]
      | 1 => [0, 1, 2]
      | _ => [0, 1, 2, 3, 4])
  | 0x06 => [0, 1]
  | 0x08 => [0, 1]
  | 0x09 => [0, 1]
  | 0x0D => [0, 1]
  | 0x0E => [0, 1]
  | 0x0F => [0, 1]
  | 0x11 => [0, 1]
  | 0x12 => []
  | 0x14 => []
  | 0x15 => []
  | 0x16 => []
  | 0x17 => []
  | 0x25 => [0, 1, 2]
  | 0x26 => [0]
  | 0x27 => [0, 1]
  | 0x28 => [0, 1]
  | _ => [0]

/-- Known block types (Tables 5.1 and 7.4). -/
def knownType (t : Nat) : Bool := (1 ≤ t && t ≤ 0x19) || (0x20 ≤ t && t ≤ 0x28)

/-- Must RESET be linked (R107, R109, R112, R114, R118, R119, R160)? -/
def needsReset (cfg : Config.Image) (k typ : Nat) : Bool :=
  let beh := cfgReset cfg k typ
  (typ ∈ [0x02, 0x03, 0x04, 0x05, 0x12] && (beh != 0 || cfgStartAck cfg k))
    || (typ == 0x04 && lookN cfg .glReqSrc k 0 0 == 0) || (typ == 0x05 && lookN cfg .curMuting k 0 0 != 0)
    || typ == 0x08 || typ == 0x09 || (0x20 ≤ typ && typ ≤ 0x28)

/-- The largest number of inputs that a type takes, RESET apart (Tables 5.1, 7.4; 64 signals of a connection by R123). -/
def mostLinks (typ : Nat) : Nat :=
  match typ with
  | 0x01 | 0x06 | 0x07 | 0x0F | 0x11 | 0x27 | 0x28 => 2
  | 0x04 => 4
  | 0x05 => 5
  | 0x08 | 0x0D | 0x0E => 8
  | 0x09 | 0x25 => 3
  | 0x15 | 0x17 => 64
  | 0x12 | 0x14 | 0x16 => 0
  | _ => 1

/-- Is a link a non-safe signal, where `non` says which instances have non-safe outputs (R95, R100)? MUTED of a CURTAIN is a status
signal (R114). -/
def nonSafeLink (cfg : Config.Image) (non : List Bool) (l : Config.Link) : Bool :=
  match l with
  | .sig i o => non.getD i false || (o == 2 && (cfg.insts[i]?).any (fun x => x.typ == 0x05))
  | .pin n => lookN cfg .inMode n 0 0 == 5
  | .none => false

/-- One pass over the instances: MSG, CTU and every block fed by a non-safe signal are non-safe, AND only where all its inputs are
(R100; log entry 157). -/
def nonSafePass (cfg : Config.Image) (non : List Bool) : List Bool :=
  cfg.insts.map (fun x =>
    let bad := x.ins.map (nonSafeLink cfg non)
    match x.typ with
    | 0x18 | 0x19 => true
    | 0x0D => x.ins.any (fun l => l != .none) && (x.ins.zip bad).all (fun q => q.1 == .none || q.2)
    | _ => bad.any id)

/-- The instances whose outputs are non-safe (R100). -/
def nonSafeInsts (cfg : Config.Image) : List Bool :=
  (List.range cfg.insts.length).foldl (fun l _ => nonSafePass cfg l) (List.replicate cfg.insts.length false)

/-- The inputs of the PAIR that a link names. -/
def pairPins (cfg : Config.Image) (l : Option Config.Link) : List Nat :=
  match l with
  | some (.sig i _) =>
    (match cfg.insts[i]? with
      | some p => if p.typ != 0x01 then [] else p.ins.filterMap (fun q => match q with
          | .pin n => some n
          | _ => none)
      | none => [])
  | _ => []

/-- Is an input of an antivalent pair (R90)? -/
def antiPin (cfg : Config.Image) (n : Nat) : Bool :=
  lookN cfg .inPairType n 0 0 == 1 || (match partnerOf cfg n with
    | some m => lookN cfg .inPairType m 0 0 == 1
    | none => false)

/-- Is a link an unpaired single input in PLAIN or GUST mode (R114, R118, R119)? -/
def singlePin (cfg : Config.Image) (l : Option Config.Link) : Bool :=
  match l with
  | some (.pin n) => (partnerOf cfg n).isNone && lookN cfg .inMode n 0 0 ∈ [1, 2]
  | _ => false

/-- Number of outputs of a type (Tables 5.1, 7.4): up to 64 signals of a connection (R123), none of OUT, CTT_OUT and CSF_OUT. -/
def numOuts (typ : Nat) : Nat :=
  match typ with
  | 0x02 | 0x04 | 0x25 | 0x26 | 0x27 | 0x28 => 2
  | 0x05 | 0x20 | 0x24 => 3
  | 0x08 => 8
  | 0x13 | 0x15 | 0x17 => 0
  | 0x14 | 0x16 => 64
  | 0x21 | 0x22 | 0x23 => 4
  | _ => 1

/-- Does a link name a safe input, or an output that its instance has? -/
def linkExists (cfg : Config.Image) (l : Option Config.Link) : Bool :=
  match l with
  | some (.sig i o) => (cfg.insts[i]?).any (fun x => o < numOuts x.typ)
  | some (.pin n) => n < 48
  | _ => true

/-- Is the input linked as RESET one that acknowledges functions: role FUNC_RESET (R92, R107)? -/
def resetOk (cfg : Config.Image) (x : Config.Inst) : Bool :=
  match x.reset with
  | some n => n < 48 && lookN cfg .inAckRole n 0 0 == 1
  | none => true

/-- Does a network block name a connection of its direction and protocol (R123)? -/
def connRight (cfg : Config.Image) (k typ : Nat) : Bool :=
  let c := lookN cfg .bConn k 0 0
  c < 128 && (if typ ∈ [0x14, 0x16] then consumes cfg c else produces cfg c) && isCsf cfg c == decide (typ ∈ [0x16, 0x17])

/-- Does an A_THRESH name a universal channel in use (R121)? -/
def channelRight (cfg : Config.Image) (k : Nat) : Bool :=
  lookN cfg .atChannel k 0 0 < 8 && lookN cfg .uacMode (lookN cfg .atChannel k 0 0) 0 0 != 0

/-- Is a reset behaviour one that the type has: ESTOP knows no AUTO, the stop blocks no MONITORED, and the types without a reset behaviour
none (R103; Tables 5.1, 7.7)? -/
def resetAllowed (cfg : Config.Image) (k typ : Nat) : Bool :=
  let beh := cfgReset cfg k typ
  match typ with
  | 0x02 => beh ∈ [1, 2]
  | 0x03 | 0x04 | 0x05 | 0x12 => beh ≤ 2
  | 0x20 | 0x21 | 0x22 | 0x23 | 0x24 => beh ≤ 1
  | _ => !given cfg .bReset k

/-- Is the link of the right kind for position `j` of instance `k` (R100, R110 to R122, R158; Tables 5.1, 7.4)? The image has no mark for
an AND input that R100 lets a non-safe signal feed: every AND input fed by one counts as marked (DESIGN CHOICE, log entry 206). -/
def rightKind (cfg : Config.Image) (non : List Bool) (k typ j : Nat) (l : Option Config.Link) : Bool :=
  let pair := linkTyp cfg l [0x01]
  let safe := !nonSafeLink cfg non (l.getD .none)
  let pin := match l with
    | some (.pin _) => true
    | _ => false
  if !linked l then true
  else if !linkExists cfg l then false
  else
    match typ, j with
    | 0x01, _ => pin
    | 0x02, _ => pair || linkTyp cfg l [0x14, 0x16]
    | 0x03, _ => pair
    | 0x04, 0 => pair
    | 0x04, 1 => pair
    | 0x04, 2 => safe
    | 0x04, _ => true
    | 0x05, 0 => pair && (pairPins cfg l).all (fun n => lookN cfg .inMode n 0 0 == 3)
    | 0x05, _ => singlePin cfg l
    | 0x06, _ => pair && (pairPins cfg l).all (antiPin cfg)
    | 0x07, 0 => pair && (pairPins cfg l).all (fun n => !antiPin cfg n)
    | 0x08, _ => singlePin cfg l
    | 0x09, 0 => safe
    | 0x09, _ => singlePin cfg l
    | 0x0D, _ => true
    | 0x13, _ => safe || lookN cfg .outKind (lookN cfg .bOutput k 0 0) 0 0 == 1
    | 0x18, _ => true
    | 0x19, _ => true
    | _, _ => safe

/-- Are the two inputs of a PAIR partners of each other in IN.PAIR (R90)? -/
def pairLinked (cfg : Config.Image) (x : Config.Inst) : Bool :=
  match x.ins with
  | [.pin a, .pin b] => partnerOf cfg a == some b
  | _ => false

/-- Have the four inputs of a TWO_HAND one filter time (R116)? -/
def twoHandOk (cfg : Config.Image) (x : Config.Inst) : Bool :=
  let pins := x.ins.flatMap (fun l => pairPins cfg (some l))
  pins.all (fun n => cfgFilter cfg n == cfgFilter cfg (pins.headD 0))

/-- A missing field of an instance. -/
def missing (cfg : Config.Image) (k : Nat) (p : Config.Param) : List (W64 × Nat) := refuse (!given cfg p k) p k 1

/-- A missing element of a field of an instance. -/
def missingElem (cfg : Config.Image) (k : Nat) (p : Config.Param) (e : Nat) : List (W64 × Nat) :=
  if givenElem cfg p k e then [] else [(pathMk (sectionOf p) k (Config.paramNo p) e, 1)]

/-- A failed condition on a link, whose ELEMENT is the input's position. -/
def refuseLink (cond : Bool) (k j reason : Nat) : List (W64 × Nat) := if cond then [(pathMk 7 k 0 j, reason)] else []

/-- Is the output of an OUT block none of SDO0 to SDO23 and BRK0 to BRK3, or one that an OUT block before it drives (R122)? -/
def outTaken (cfg : Config.Image) (k : Nat) : Bool :=
  let o := lookN cfg .bOutput k 0 0
  28 ≤ o || (cfg.insts.take k).zipIdx.any (fun q => q.1.typ == 0x13 && lookN cfg .bOutput q.2 0 0 == o)

/-- One instance (R103, R107, R109, R110, R116, R160; Tables 5.1, 7.4, 7.7, 7.8). -/
def instFaults (cfg : Config.Image) (non : List Bool) (k : Nat) (x : Config.Inst) : List (W64 × Nat) :=
  refuseLink (!knownType x.typ) k 0 2
    ++ (mandatory cfg k x.typ).flatMap (fun j => refuseLink (!linked x.ins[j]?) k j 1)
    ++ (List.range x.ins.length).flatMap (fun j => refuseLink (!rightKind cfg non k x.typ j x.ins[j]?) k j 2)
    ++ refuseLink (mostLinks x.typ < x.ins.length) k (mostLinks x.typ) 4
    ++ refuseLink (x.typ == 0x01 && x.ins.length == 2 && !pairLinked cfg x) k 0 2
    ++ refuseLink (x.typ == 0x06 && !twoHandOk cfg x) k 0 2
    ++ refuseLink (needsReset cfg k x.typ && x.reset.isNone) k 0xFFFF 1
    ++ refuseLink (x.typ == 0x05 && lookN cfg .curMuting k 0 0 != 0 && (lampOut cfg k).isEmpty) k 0xFFFE 1
    ++ refuseLink (!resetOk cfg x) k 0xFFFF 2
    ++ refuse (!resetAllowed cfg k x.typ) .bReset k 3
    ++ (if x.typ = 0x13 then missing cfg k .bOutput ++ refuse (outTaken cfg k) .bOutput k 2 else [])
    ++ (if x.typ ∈ [0x14, 0x15, 0x16, 0x17] then missing cfg k .bConn ++ refuse (given cfg .bConn k && !connRight cfg k x.typ) .bConn k 2
        else [])
    ++ (if x.typ = 0x12 then missing cfg k .atChannel ++ refuse (given cfg .atChannel k && !channelRight cfg k) .atChannel k 2
        else [])
    ++ (if 0x20 ≤ x.typ then
          missing cfg k .bAxis ++ refuse (given cfg .bAxis k && !lookB cfg .axisEnable (lookN cfg .bAxis k 0 0) false) .bAxis k 2
        else [])
    ++ (if x.typ ∈ [0x22, 0x23, 0x25] then missing cfg k .aM else [])
    ++ (if x.typ = 0x27 then
          missing cfg k .slpABrake ++ [0, 1].flatMap (fun e => missingElem cfg k .slpLo e ++ missingElem cfg k .slpHi e)
            ++ [0, 1].flatMap (fun e => refuseElem (decide (look cfg .slpHi k e 0 ≤ look cfg .slpLo k e 0)) .slpLo k e 7)
        else [])

/-- A non-safe signal at OUT_EN, OUT_SEL0 or OUT_SEL1 of an output channel (R190). -/
def uacLinkFaults (cfg : Config.Image) (non : List Bool) (n : Nat) : List (W64 × Nat) :=
  [Config.Param.uacOutEn, .uacOutSel0, .uacOutSel1].flatMap (fun p =>
    refuse (given cfg p n && nonSafeLink cfg non (.sig (lookN cfg p n 0 0) (lookN cfg p n 1 0))) p n 2)

/-- Cycle counts of the Ridge image at 200 MHz (Table 2.2). -/
def cyclesOver (cfg : Config.Image) : Bool :=
  let T := cfgT cfg
  decide ((T - 75) * 200 < cfg.cyc12) || decide (10000 < cfg.cyc3) || decide (160 * T < cfg.cyc12 + cfg.cyc3)

/-- The failed structural conditions of an image, in the order of the sections of R260; `raw` is the image as it was given. -/
def structureFaults (raw cfg : Config.Image) : List (W64 × Nat) :=
  (List.range 48).flatMap (inputFaults cfg) ++ (List.range 16).flatMap (tpoFaults cfg) ++ (List.range 28).flatMap (outputFaults cfg)
    ++ (List.range 8).flatMap (axisFaults cfg) ++ (List.range 8).flatMap (uacFaults cfg) ++ netFaults raw cfg
    ++ refuseLink (2048 < cfg.insts.length) 2048 0 4
    ++ (cfg.insts.zipIdx).flatMap (fun q => instFaults cfg (nonSafeInsts cfg) q.2 q.1)
    ++ (List.range 8).flatMap (uacLinkFaults cfg (nonSafeInsts cfg))
    ++ refuse (lookN cfg .modStartMode 0 0 0 == 1
        && !(List.range 48).any (fun n => lookN cfg .inAckRole n 0 0 == 2)) .modStartMode 0 7
    ++ (if cyclesOver cfg then [(pathMk 8 0 0 0, 5)] else [])
    ++ (if cfg.vectors.isEmpty then [(pathMk 8 0 0 0, 6)] else if 64 < cfg.vectors.length then [(pathMk 8 0 0 0, 4)] else [])

/-- The first structural fault of an image, as it is used: PATH and REASON (R259). -/
def structureFault (raw : Config.Image) : Option (W64 × Nat) := (structureFaults raw (clamped raw)).head?

/-- UAC.T_CONV in µs (Table 8.9). -/
def cfgConv (cfg : Config.Image) (n : Nat) : Nat :=
  lookN cfg .uacTConv n 0 (if lookN cfg .uacMode n 0 0 ∈ [5, 6, 7] then 20000 else 1000)

end Sys2Proof.Machine
end

