-- ==== Sys2Proof/Machine/SlateOps.lean ====
section
/-! DEFINITION. The Slate (R292 to R312): readings of its cells, fields, life state, anchors, locks, and what BOOT step 3 takes
from it. -/

namespace Sys2Proof.Machine

/-- The logical bits of the Slate. -/
abbrev SlateWord := BitVec 8192

/-- Readings of one physical copy: reference 0 normal, 1 tight-high, 2 tight-low (R307). -/
def cellRead (v : Vector (BitVec 8192) 6) (copy ref : Nat) : SlateWord := vget v (3 * copy + ref) 0

/-- The OR of the two copies at normal reference (R292). -/
def slateValue (v : Vector (BitVec 8192) 6) : SlateWord := cellRead v 0 0 ||| cellRead v 1 0

/-- The cells of a copy whose reading differs across the references (R307). -/
def copyWeak (v : Vector (BitVec 8192) 6) (copy : Nat) : SlateWord :=
  (cellRead v copy 0 ^^^ cellRead v copy 1) ||| (cellRead v copy 0 ^^^ cellRead v copy 2)

/-- Logical bits with a weak copy, and with both copies weak (R307, R308). -/
def slateWeak (v : Vector (BitVec 8192) 6) : SlateWord := copyWeak v 0 ||| copyWeak v 1

/-- Logical bits of LIFE, ANCHOR and CFG (Table 13.1). -/
def guardedMask : SlateWord := BitVec.ofNat 8192 (2 ^ 4192 - 2 ^ 1536)

/-- Bits that raise SLATE_WEAK: both copies weak, in LIFE, ANCHOR or CFG (R308). -/
def slateBoth (v : Vector (BitVec 8192) 6) : SlateWord := copyWeak v 0 &&& copyWeak v 1 &&& guardedMask

/-- Number of bits set. -/
def popCount {n : Nat} (w : BitVec n) : Nat := ((List.range n).filter (fun k => w.getLsbD k)).length

/-- Byte-oriented field: `n` bytes from logical bit `lo` (R292). -/
def slateBytes (w : SlateWord) (lo n : Nat) : List Byte :=
  (List.range n).map (fun j => BitVec.ofNat 8 (fld w (lo + 8 * j) 8))

/-- A LIFE group counts as set when 4 or more of its 8 bits read 1 (R295). -/
def lifeGroup (w : SlateWord) (k : Nat) : Bool := 4 ≤ popCount (BitVec.ofNat 8 (fld w (1536 + 8 * k) 8))

/-- Life state: 0 BLANK, 1 VENDOR, 2 SHIPPED, 3 FIELD, 4 RETIRED (R295, Table 13.6). -/
def lifeState (w : SlateWord) : Nat :=
  if lifeGroup w 3 then 4 else if lifeGroup w 2 then 3 else if lifeGroup w 1 then 2 else if lifeGroup w 0 then 1 else 0

/-- A set group above a group that is not set (R295). -/
def lifeInvalid (w : SlateWord) : Bool :=
  (lifeGroup w 1 && !lifeGroup w 0) || (lifeGroup w 2 && !(lifeGroup w 0 && lifeGroup w 1))
    || (lifeGroup w 3 && !(lifeGroup w 0 && lifeGroup w 1 && lifeGroup w 2))

/-- Bytes of an ANCHOR slot (Table 13.1). -/
def slotBytes (w : SlateWord) (k : Nat) : List Byte := slateBytes w (1600 + 256 * k) 32

/-- A slot is complete when its CRC is correct (R294). -/
def slotOk (w : SlateWord) (k : Nat) : Bool :=
  crcMbx.crc (be 1 k) ((slotBytes w k).take 28) == beAt (slotBytes w k) 28 4

/-- The newest complete slot (R294). -/
def newestSlot (w : SlateWord) : Option Nat := [7, 6, 5, 4, 3, 2, 1, 0].find? (fun k => slotOk w k)

/-- Is a region lock set: 0 TRIM, 1 IDENT, 2 LIFE, 3 ANCHOR, 4 CFG? -/
def regionLock (w : SlateWord) (k : Nat) : Bool := w.getLsbD (8184 + k)

/-- Is a slot lock set? -/
def slotLock (w : SlateWord) (k : Nat) : Bool := w.getLsbD (3648 + k)

/-- SEAL_REQUIRED. -/
def sealRequired (w : SlateWord) : Bool := w.getLsbD 3688

/-- The value of a one-hot field, if exactly one bit is set (R296). -/
def oneHot (w : SlateWord) (lo n : Nat) : Option Nat :=
  match (List.range n).filter (fun k => w.getLsbD (lo + k)) with
  | [k] => some k
  | _ => none

/-- TRIM_CRC and IDENT_CRC correct (Table 13.1). -/
def trimOk (w : SlateWord) : Bool := crcMbx.crc [] (slateBytes w 0 124) == fld w 992 32

/-- IDENT_CRC correct. -/
def identOk (w : SlateWord) : Bool := crcMbx.crc [] (slateBytes w 1024 60) == fld w 1504 32

/-- Region of a logical bit; 5 for the lock bits and the reserved bits outside the regions. -/
def regionOf (b : Nat) : Nat :=
  if b < 1024 then 0 else if b < 1536 then 1 else if b < 1600 then 2 else if b < 3680 then 3 else if b < 4192 then 4 else 5

/-- Reserved bits, which read 0 and are never programmed (R292, Table 13.1). -/
def reservedBit (b : Nat) : Bool :=
  (1232 ≤ b && b < 1504) || (1568 ≤ b && b < 1600) || (3656 ≤ b && b < 3680) || (3689 ≤ b && b < 8184) || 8189 ≤ b

/-- First word and number of words of a region (Table 13.1). -/
def regionWords (k : Nat) : Nat × Nat :=
  match k with
  | 0 => (0, 32)
  | 1 => (32, 16)
  | 2 => (48, 2)
  | 3 => (50, 65)
  | _ => (115, 16)

/-- The bytes of a region, for the digests of the log. -/
def regionBytes (w : SlateWord) (k : Nat) : List Byte :=
  let r := regionWords k
  slateBytes w (32 * r.1) (4 * r.2)

/-- Bytes of the active configuration image (R265, R306). -/
def activeBytes (s : State) : List Byte := if s.active.bankB then s.flash.cfgB.image else s.flash.cfgA.image

/-- Does the newest complete slot of `w` anchor the active configuration (R306)? -/
def anchored (w : SlateWord) (s : State) : Bool :=
  match newestSlot w with
  | none => false
  | some k =>
    s.active.valid && ((slotBytes w k).take 24 == (sha256 (activeBytes s)).take 24)
      && decide (beAt (slotBytes w k) 24 4 ≤ s.active.gen.toNat)

/-- Debug access by the life state and the policy of R297 (R71, Table 13.2). -/
def debugOpen (w : SlateWord) : Bool :=
  match lifeState w with
  | 0 => true
  | 1 => true
  | 4 => false
  | _ => w.getLsbD 3686 && !w.getLsbD 3687

/-- The shadow as the vote gives it. -/
def shadowOf (s : State) : SlateWord := s.slate.shadow.val

/-- SLATE_INCOMPLETE and MODULE_RETIRED stand by the shadow and the active configuration (R298, R299, R306). -/
def sealCheck (s : State) : State :=
  let w := shadowOf s
  let arg := if lifeState w < 2 then 3
    else if !sealRequired w || anchored w s then 0
    else if (newestSlot w).isNone then 1 else 2
  let t := clearWhere (fun e => e.code == fcSlateIncomplete && e.arg.toNat != arg) s
  let u := if arg = 0 then t else raise fcSlateIncomplete arg t
  if lifeState w = 4 then raise fcModuleRetired 0 u else u

/-- A Slate event in the Shingle log: kind of Table 13.7, region, bit (Table 11.11). -/
def slateEvent (kind bitNo : Nat) (s : State) : State :=
  logEvent 0xE00E (be 2 (Config.eventCode kind).toNat ++ be 1 (regionOf bitNo) ++ be 2 bitNo) s

/-- BOOT step 3: what the cells read is latched (R303, R307). -/
def slateLatch (s : State) : State :=
  { s with slate := { s.slate with
      bootCells := s.slate.cells, shadow := Voted.of (slateValue s.slate.cells), weak := slateWeak s.slate.cells,
      both := slateBoth s.slate.cells, readDone := true } }

/-- SLATE_VPP, judged where the cells are latched: from SHIPPED on a voltage above 3 V is ignored and sets VPP_IGNORED (R300). -/
def vppCheck (mv : Nat) (s : State) : State :=
  if 2 ≤ lifeState (shadowOf s) && 3000 < mv then { s with ev := { s.ev with slate := setBit s.ev.slate 1 true } } else s

/-- The WEAK bits that the last BOOT did not find (R308). -/
def newWeak (old w : SlateWord) : List Nat := (List.range 8192).filter (fun k => w.getLsbD k && !old.getLsbD k)

/-- A group of LIFE with some but not all bits set, and one-hot fields with more than one bit set, are reported at each BOOT
(R295, R296); the first bit of the group or field stands for it. -/
def slateOdd (w : SlateWord) : List Nat :=
  ([1536, 1544, 1552, 1560].filter (fun b => fld w b 8 != 0 && fld w b 8 != 255))
    ++ (if 1 < popCount (BitVec.ofNat 4 (fld w 3680 4)) then [3680] else [])
    ++ (if fld w 3684 2 == 3 then [3684] else [])

/-- SLATE_FAULT in the cases of R310 that the latched shadow shows; a deliberate reset finds them again. -/
def slateHard (s : State) : State :=
  let w := shadowOf s
  let later := decide (2 ≤ lifeState w)
  let t4 := if !s.slate.readDone then raise fcSlateFault 1 s else s
  let t5 := if later && !trimOk w then raise fcSlateFault 2 t4 else t4
  let t6 := if later && !identOk w then raise fcSlateFault 3 t5 else t5
  if lifeInvalid w then raise fcSlateFault 4 t6 else t6

/-- The faults of BOOT step 5 that come from the Slate (R295, R296, R308 to R310); `old` is the weak map of the BOOT before. -/
def slateFaults (old : SlateWord) (s : State) : State :=
  let t0 := (newWeak old s.slate.weak).foldl (fun t b => slateEvent 2 b t) s
  let t1 := (slateOdd (shadowOf s)).foldl (fun t b => slateEvent 8 b t) t0
  let t2 := if (newWeak old s.slate.weak).isEmpty then t1
    else { t1 with ev := { t1.ev with slate := setBit t1.ev.slate 2 true } }
  sealCheck (slateHard (setFault (s.slate.both != 0) fcSlateWeak 0 (clearFault fcSlateDrift 0 t2)))

/-- Set a bit in both copies at every reference: a programming whose margin verify passes (R301). -/
def cellsProgrammed (v : Vector (BitVec 8192) 6) (b : Nat) : Vector (BitVec 8192) 6 := vmap (fun w => setBit w b true) v

/-- Do both copies of a bit read 1 at the tight-high reference, so that a margin verify passes (R301)? -/
def verifies (v : Vector (BitVec 8192) 6) (b : Nat) : Bool := (cellRead v 0 1).getLsbD b && (cellRead v 1 1).getLsbD b

/-- The cells of a bit after four failed rounds: what they read is open, but no cell goes back, and not both copies are 1 at tight-high
(R301; log entry 31). -/
def cellsFailed (v : Vector (BitVec 8192) 6) (b : Nat) (x : BitVec 6) : Vector (BitVec 8192) 6 :=
  let old (k : Nat) : Bool := (vget v k 0).getLsbD b
  let high1 := old 4 || (x.getLsbD 4 && !old 1)
  vtab 6 (fun k => setBit (vget v k 0) b (match k with
    | 1 => old 1 || (x.getLsbD 1 && !high1)
    | 4 => high1
    | _ => old k || x.getLsbD k))

/-- The cells of a bit whose pulse was cut: both copies partly programmed and WEAK, read 0 or 1 at normal reference (Table 13.4). -/
def cellsCut (v : Vector (BitVec 8192) 6) (b : Nat) (x : BitVec 6) : Vector (BitVec 8192) 6 :=
  let old (k : Nat) : Bool := (vget v k 0).getLsbD b
  vtab 6 (fun k => setBit (vget v k 0) b (match k % 3 with
    | 0 => old k || x.getLsbD k
    | 1 => old k
    | _ => true))

/-- Raw programming through the factory test port, in BLANK and VENDOR alone (R298, R305). -/
def testPortBits (l : List (Fin 8192)) (s : State) : State :=
  l.foldl (fun t b =>
    if lifeState (slateValue t.slate.cells) < 2 then
      { t with slate := { t.slate with cells := cellsProgrammed t.slate.cells b.val } }
    else t) s

end Sys2Proof.Machine
end

