-- ==== Sys2Proof/Machine/Boot.lean ====
section
/-! DEFINITION. Boot, restarts and SELFTEST as shared operations (R264 to R270, R277 to R282, R319, R330). -/

namespace Sys2Proof.Machine

/-! ## Bank selection (R264 to R267) -/

/-- GEN and GEN_N make a valid generation (R264). -/
def Bank.validGen (b : Bank) : Bool := b.gen != 0xFFFFFFFF && b.genN == ~~~b.gen

/-- The image CRC of a configuration bank verifies (R265). -/
def Bank.cfgOk (b : Bank) : Bool := crc32 b.image == b.crc

/-- LENGTH of a firmware header (R266). -/
def fwLength (img : List Byte) : Nat := beAt img 8 4

/-- CRC of a firmware image: the IMAGE set over bytes 32 to LENGTH - 1 (R266). -/
def fwCrc (img : List Byte) : W32 := crc32 ((img.take (fwLength img)).drop 32)

/-- The image of a firmware bank verifies (R266). -/
def Bank.fwOk (b : Bank) : Bool :=
  b.image.length == fwLength b.image && fwCrc b.image == b.crc && beAt b.image 12 4 == b.crc.toNat

/-- BOOTED programmed (R264). -/
def Bank.isBooted (b : Bank) : Bool := b.booted == 0

/-- The banks with a valid generation, highest first. -/
def bankOrder (a b : Bank) : List (Bool × Bank) :=
  let l := [(false, a), (true, b)].filter (fun x => x.2.validGen)
  if a.validGen && b.validGen && decide (a.gen.toNat < b.gen.toNat) then l.reverse else l

/-- Log entries of a code and kind that name a generation, and a CRC unless none is asked for (ARG: generation, bank, CRC). -/
def logNames (s : State) (code kind gen : Nat) (crc : Option Nat) (e : Nat × List Byte) : Bool :=
  let b := e.2
  entryCode b == code && beAt b 18 1 == kind && beAt b 40 4 == gen
    && (match crc with
      | some c => beAt b 45 4 == c
      | none => true) && decide (entryCount b < s.bk.nextCount.toNat + 1)

/-- Does the log hold a pending entry for a bank's generation and CRC (R265)? -/
def pendingFor (s : State) (code : BitVec 16) (b : Bank) : Bool :=
  s.flash.log.any (logNames s code.toNat 1 b.gen.toNat (some b.crc.toNat))

/-- The bank that boot takes, and the generation that it abandons (R265). -/
def chooseBank (ok logged : Bank → Bool) (l : List (Bool × Bank)) : Option (Bool × Bank) × Option W32 :=
  match l with
  | [] => (none, none)
  | x :: rest =>
    if ok x.2 && (x.2.isBooted || logged x.2) then (some x, none)
    else
      match rest with
      | y :: _ => if ok y.2 then (some y, some x.2.gen) else (none, none)
      | [] => (none, none)

/-- Selection of the configuration bank (R265). -/
def chooseCfg (s : State) : Option (Bool × Bank) × Option W32 :=
  chooseBank Bank.cfgOk (pendingFor s ccCommit) (bankOrder s.flash.cfgA s.flash.cfgB)

/-- Selection of the firmware bank without the attempts of R267. -/
def chooseFw0 (s : State) : Option (Bool × Bank) × Option W32 :=
  chooseBank Bank.fwOk (pendingFor s ccFwActivate) (bankOrder s.flash.fwA s.flash.fwB)

/-- Entries into BOOT from a bank without BOOTED, as BK counts them; a BK that has lost its contents counts none (R267, R321). -/
def fwTries (s : State) : Nat := if s.bk.valid then s.bk.fwAttempts else 0

/-- Selection of the firmware bank (R266, R267): after three entries into BOOT from a bank without BOOTED the other bank is
taken, and the failed one stays unused. The flag and the generation abandoned are those of the fourth entry itself. -/
def chooseFw (s : State) : Option (Bool × Bank) × Option W32 × Bool :=
  match chooseFw0 s with
  | (some x, ab) =>
    if x.2.isBooted || fwTries s < 3 then (some x, ab, false)
    else
      let other := if x.1 then s.flash.fwA else s.flash.fwB
      if other.validGen && other.fwOk then (some (!x.1, other), if fwTries s = 3 then some x.2.gen else none, fwTries s == 3)
      else (none, ab, fwTries s == 3)
  | (none, ab) => (none, ab, false)

/-- A generation pending in the log that neither bank carries as a valid generation with that CRC, and that no later entry
settles: the COMMIT that a reset interrupted in its step 4 (R265). -/
def tornPending (s : State) (code : BitVec 16) (a b : Bank) (interrupted : Nat) : Option Nat :=
  (s.flash.log.find? (fun e =>
    let g := beAt e.2 40 4
    let c := beAt e.2 45 4
    entryCode e.2 == code.toNat && beAt e.2 18 1 == 1
      && !([a, b].any (fun k => k.validGen && k.gen.toNat == g && k.crc.toNat == c))
      && !(s.flash.log.any (fun f => decide (entryCount e.2 < entryCount f.2) && beAt f.2 40 4 == g
            && ((entryCode f.2 == code.toNat && 2 ≤ beAt f.2 18 1) || entryCode f.2 == interrupted))))).map
    (fun e => beAt e.2 40 4)

/-! ## The log at boot (R269, R270) -/

/-- Does the chain of an entry verify? A LOG_TRUNCATED entry chains over the entry that its ARG names (R269). -/
def chainOk (log : List (Nat × List Byte)) (e : List Byte) : Bool :=
  let c := entryCount e
  let at_ (k : Nat) : List Byte := padTo 64 ((slotRead log (k % 8192)).getD [])
  let prev := if c = 0 then List.replicate 64 0
    else if entryCode e = 0xE006 then at_ (beAt e 40 4) else at_ (c - 1)
  crcMbx.crc (be 4 c) prev == beAt e 60 4

/-- The highest count whose slot holds that count and whose chain verifies (R270). -/
def newestValid (log : List (Nat × List Byte)) : Option Nat :=
  match newestCount (log.filter (fun e => e.1 == entryCount e.2 % 8192)) (chainOk log) with
  | 0 => none
  | n + 1 => some n

/-- The event fields of the module in the log (Table 11.11). -/
def evFields (code : BitVec 16) (arg : List Byte) : LogFields :=
  { level := 3, source := 2, code := code, kind := 0, status := 0, before := [], after := [], arg := arg }

/-- The log scan of BOOT step 5 (R270): a whole log, LOG_TRUNCATED, or BK_LOST. -/
def logScan (s : State) : State :=
  let next := match newestValid s.flash.log with
    | some n => n + 1
    | none => 0
  if !s.bk.valid || s.bk.nextCount.toNat < next then
    raise fcBkLost 0 (logAppend (evFields 0xE005 (be 4 next)) next (prevEntry s next) s)
  else if next < s.bk.nextCount.toNat then
    let c := s.bk.nextCount.toNat
    logAppend (evFields 0xE006 (be 4 (next + max32) ++ be 4 (c - next))) c (prevEntry s next) s
  else s

/-! ## Power-on and reset -/

/-- An engine stopped by a reset: its restarts are counted from power-on (Table 9.11). -/
def EngineSt.cold (e : EngineSt) : EngineSt := { EngineSt.reset with restarts := e.restarts }

/-- A lane's field controller under the reset level; its error counts go on from power-on (R129, R348). -/
def laneReset (l : LaneFc) : LaneFc := { LaneFc.reset with rejected := l.rejected, failed := l.failed }

/-- The field side under the reset level: its supplies are measured on (R129), a TPO switched off by TPO_OVERLOAD is restarted
(R88). -/
def fieldReset (now : W64) (f : FieldSt) : FieldSt :=
  { FieldSt.reset with
    sup := f.sup
    tpo := vmap (fun x => if x.overload then { TpoFc.reset with overload := true, restart := some now } else TpoFc.reset) f.tpo }

/-- Everything that no reset or power-on leaves as it was gets its reset value; flash, the Slate cells, BK, the passwords and
their failure count, and what is counted from power-on stay, and a TPO_OVERLOAD until its restart has proved good (R88, R242,
R249, R255, R281, R303, R348, R352; log entry 3). -/
def coldReset (s : State) : State :=
  { State.reset with
    pending := s.pending
    free := s.free
    tb := { State.reset.tb with count := s.tb.count }
    faults := s.faults.filter (fun e => e.code == fcTpoOverload)
    unlisted := s.unlisted.filter (fun e => e.code == fcTpoOverload)
    field := fieldReset s.tb.count s.field
    gable := { Gable.reset with
      maintain := s.gable.maintain, integrate := s.gable.integrate, fails := s.gable.fails,
      backoffEnd := s.gable.backoffEnd, backoffLen := s.gable.backoffLen, backoffHeld := s.gable.backoffHeld }
    flash := s.flash
    slate := { s.slate with readDone := false, drift := 0, prog := 0 }
    bk := s.bk
    pair := { Pair.reset with diverged := s.pair.diverged }
    gableE := s.gableE.cold, n0 := s.n0.cold, n1 := s.n1.cold, w := s.w.cold, ridgeB := s.ridgeB.cold
    laneP := laneReset s.laneP, laneT := laneReset s.laneT
    pwr := { Power.reset with
      lplus := s.pwr.lplus, hold := s.pwr.hold, vbat := s.pwr.vbat, vbatNow := s.pwr.vbatNow, die := s.pwr.die
      fieldSide := s.pwr.fieldSide }
    wth := { s.wth with snapLoaded := false, exhausted := [], rejected := false, sum := Weather.reset.sum } }

/-- Clock step that a voltage of L+ in mV allows (Table 14.2). -/
def stepOf (mv : Nat) : ClkStep := if 20000 ≤ mv then .c400 else if 18500 ≤ mv then .c300 else .c200

/-- Services shed at a clock step (Table 14.2). -/
def shedFor (c : ClkStep) (p : Power) : Power :=
  { p with shedUsb := c != .c400, shedEvt := c != .c400, shedMirror := c == .c200, shedWrep := c == .c200 }

/-- BOOT step 1: reset released, the strap read (R193, R277). -/
def bootStep1 (cause : BitVec 8) (almOpen : Bool) (s : State) : State :=
  let t := coldReset s
  { t with resetCause := cause, fa := { t.fa with almOpen := almOpen } }

/-- A reading of L+ in mV. HOLD follows it less 0.4 V; below 16.0 V, in a ride-through and in a shutdown the module runs on the charge of
C_H, which L+ tops up through the ideal diode (Table 14.1, R314, R317). -/
def lplusAt (mv : Nat) (s : State) : State :=
  let onHold := s.pwr.ride.isSome || s.pwr.shutdown.isSome || decide (mv < 16000)
  { s with pwr := { s.pwr with lplus := mv, hold := if onHold then max s.pwr.hold (mv - 400) else mv - 400 } }

/-- BOOT step 2: PLL locked; the main clock at the step that L+ allows. -/
def bootStep2 (env : BootEnv) (s : State) : State :=
  let c := stepOf env.lplus
  let t := lplusAt env.lplus { s with bootStep := 2, tick := { s.tick with clk := c }, pwr := shedFor c s.pwr }
  setFault (c != .c400) fcLplusLow 0 t

/-- BOOT step 3: the Slate read, if its limit is kept, with what the factory test port has set before (R305, R307). -/
def bootStep3 (env : BootEnv) (s : State) : State :=
  let p := testPortBits env.testPort s
  let t := if env.slateInTime then vppCheck env.slateVpp (slateLatch p) else p
  { t with bootStep := 3 }

/-- BOOT step 4 with a bank: Gable started (R267, R342). -/
def bootStep4 (bankB : Bool) (b : Bank) (attempts : Nat) (s : State) : State :=
  { s with
    bootStep := 4
    bk := { s.bk with fwAttempts := attempts }
    gable := { s.gable with fwActive := bankB, fwVer := BitVec.ofNat 32 (beAt b.image 4 4) }
    gableE := { s.gableE with up := true }
    pwr := { s.pwr with domains := setBit s.pwr.domains 5 true } }

/-! ## Regulator faults (Table 1.5, R288, R319) -/

/-- A channel whose latch holds the zero gust schedule: with the other channel stopped neither lane carries a pulse (R272). -/
def noPulse (c : Chan) : Chan := { c with latch := { c.latch with gust := Latch.safe.gust } }

/-- A port without power: its link, if it had one, is gone, which NETx_EVT bit 2 tells of (Table 9.10). -/
def portDark (p : NetPort) (s : State) : State :=
  match p with
  | .a => { s with
      portA := { s.portA with link := false, duplex := false }
      ev := if s.portA.link || s.portA.duplex then { s.ev with netA := setBit s.ev.netA 2 true } else s.ev }
  | .b => { s with
      portB := { s.portB with link := false, duplex := false }
      ev := if s.portB.link || s.portB.duplex then { s.ev with netB := setBit s.ev.netB 2 true } else s.ev }

/-- What stops with a domain: each channel, the field side, the analogue stages, the motion engines, the network engines. -/
def domainStops (dom : Nat) (s : State) : State :=
  match dom with
  | 0 => { s with fa := { s.fa with silentP := true, silentT := true } }
  | 1 => { s with laneP := laneReset s.laneP, laneT := laneReset s.laneT }
  | 2 => { s with motion := { s.motion with silent0 := true, silent1 := true } }
  | 3 => portDark .b s
  | 4 => portDark .a s
  | 6 => { s with thatch := { noPulse s.thatch with frozen := true }, ridge := noPulse s.ridge }
  | 7 => { s with ridge := { noPulse s.ridge with frozen := true }, thatch := noPulse s.thatch }
  | _ => s

/-- PWR_EVT tells of a regulator fault (Table 14.10). -/
def regulatorEvt (s : State) : State := { s with ev := { s.ev with pwr := setBit s.ev.pwr 0 true } }

/-- The reaction of Table 1.5 to a regulator fault of FA, FD, MO, NB, NA, TH or RG. -/
def regulatorAct (dom : Nat) (s : State) : State :=
  let t := domainStops dom (regulatorEvt s)
  match dom with
  | 4 => raise fcLinkDownA 0 t
  | 3 => raise fcLinkDownB 0 t
  | _ => raise fcRegulatorFault dom { t with pwr := { t.pwr with domains := setBit t.pwr.domains dom false } }

/-- A domain that is not switched on, because one before it is not in regulation (R319). -/
def domainOff (s : State) (dom : Nat) : State :=
  let t := domainStops dom s
  { t with
    n0 := if dom = 4 then { t.n0 with up := false } else t.n0
    n1 := if dom = 3 then { t.n1 with up := false } else t.n1
    pwr := { t.pwr with domains := setBit t.pwr.domains dom false } }

/-- FD, in regulation before any other, and the domains of BOOT step 6 in their order: RG, TH, MO, FA, NA, NB (R319). -/
def bootDomains : List Nat := [1, 7, 6, 2, 0, 4, 3]

/-- The domains that stay off, with the one that is not in regulation at their head (R319). -/
def domainsFail (bad used : BitVec 10) : List Nat :=
  (bootDomains.filter (fun k => used.getLsbD k)).dropWhile (fun k => !bad.getLsbD k)

/-- The regulators of BOOT step 6 or of a restart: the first that fails has its reaction, and the domains after it stay off (R277,
R319). -/
def bootRegulators (bad : BitVec 10) (s : State) : State :=
  match domainsFail bad s.pwr.domains with
  | [] => s
  | k :: rest => regulatorAct k (rest.foldl domainOff s)

/-- ARG of the entries 0xE007 to 0xE009: generation abandoned, generation used. -/
def genArg (a b : Nat) : List Byte := be 4 a ++ be 4 b

/-- Load the configuration that R265 selects, with its entries in the log. -/
def loadConfig (s : State) : State :=
  let sel := chooseCfg s
  let cls := (if s.gable.fwActive then s.flash.fwB else s.flash.fwA).image
  let used := match sel.1 with
    | some x => x.2.gen.toNat
    | none => 0
  let t1 := match sel.2 with
    | some g => logEvent 0xE007 (genArg g.toNat used) s
    | none => s
  let t2 := match tornPending t1 ccCommit t1.flash.cfgA t1.flash.cfgB 0xE007 with
    | some g => if sel.2 == some (BitVec.ofNat 32 g) then t1 else logEvent 0xE007 (genArg g used) t1
    | none => t1
  match sel.1 with
  | none => raise fcNoConfig 0 { t2 with active := State.reset.active }
  | some x =>
    let img := cfgOf x.2.image
    let settled := t2.flash.log.any (fun e => entryCode e.2 == ccCommit.toNat && 2 ≤ beAt e.2 18 1
      && beAt e.2 40 4 == x.2.gen.toNat)
    let t3 := if !x.2.isBooted && !settled then
        logWrite { level := 3, source := 2, code := ccCommit, kind := 3, status := 0, before := [], after := [],
                   arg := be 4 x.2.gen.toNat ++ be 1 (if x.1 then 1 else 0) ++ be 4 x.2.crc.toNat } t2
      else t2
    if img.fwClass != beAt cls 0 2 then raise fcNoConfig 0 { t3 with active := State.reset.active }
    else
      clearFault fcNoConfig 0
        { t3 with active := { valid := true, bankB := x.1, gen := x.2.gen, crc := x.2.crc, image := img } }

/-- TICK_SEL of the active configuration, or the default of the Slate, or 1 000 µs (R22, R296). -/
def tickSelOf (s : State) : BitVec 2 :=
  let dflt := (oneHot (shadowOf s) 3680 4).getD 2
  if s.active.valid then BitVec.ofNat 2 (lookN s.active.image .modTick 0 0 2) else BitVec.ofNat 2 dflt

/-- BK after a loss of its contents: not initialised fields at zero, its integrity word good again (R320 to R322). -/
def bkFresh (s : State) : Backup :=
  if s.bk.valid then s.bk else { Backup.reset with valid := true, fwAttempts := s.bk.fwAttempts, nextCount := s.bk.nextCount }

/-- VBAT_LOW below 2.2 V; it clears at 2.3 V (R321). -/
def vbatCheck (mv : Nat) (s : State) : State :=
  let t := { s with pwr := { s.pwr with vbat := mv, vbatNow := mv } }
  if mv < 2200 then raise fcVbatLow 0 t else if 2300 ≤ mv then clearFault fcVbatLow 0 t else t

/-- A back-off that was in force at a power-on starts again in full when GABLE_UP becomes 1 (R255). -/
def backoffRestart (s : State) : State :=
  if s.gable.backoffHeld then
    { s with gable := { s.gable with
        backoffHeld := false, backoffEnd := some (s.tb.count + BitVec.ofNat 64 (s.gable.backoffLen * tSec)) } }
  else s

/-- Vector runs of the units that BOOT comes to, with those that come out wrong (R237). -/
def cvuChecks (bad : BitVec 4) (units : List (Fin 4)) (s : State) : State :=
  units.foldl (fun t u => cvuCheck u (!bad.getLsbD u.val) t) s

/-- PTP.ROLE: 0 NONE, 1 SLAVE, 2 MASTER, 3 CASCADE (Table 9.9). -/
def ptpRoleOf (cfg : Config.Image) : Nat := lookN cfg .ptpRole 0 0 (if member cfg then 3 else 0)

/-- The RTC reading in units of 10 ns (R205). -/
def rtcUnits (b : Backup) : Nat := (b.rtcSec.toNat * 32768 + b.rtcSub.toNat) * tSec / 32768

/-- The constant of the synchronised time, fixed in BOOT step 5 (R205). -/
def timeConst (s : State) : W64 := BitVec.ofNat 64 (rtcUnits s.bk) - s.tb.count

/-- The synchronised time at a timebase value: the constant, and for a follower the rate that its servo has corrected since the last Sync
(R205; log entry 160). -/
def syncAt (s : State) (t : W64) : W64 :=
  t + s.ptp.const + BitVec.ofInt 64 (divW 64 (((t.toNat : Int) - s.ptp.lastSync.toNat) * s.ptp.freq) 1000000000)

/-- Offset of the last boundary of a member from its multiple of T, on the synchronised time. -/
def memberOff (s : State) : Int :=
  let u := tickUnits s.tick.sel.toNat
  let r := (syncAt s s.tick.boundary).toNat % u
  if 2 * r ≤ u then r else (r : Int) - u

/-- The timebase at which the next boundary falls: T after the last one, for a cascade member moved by at most 1 µs towards its multiple on
the synchronised time (R206). -/
def boundaryAt (s : State) : Nat :=
  let b := s.tick.boundary.toNat + tickUnits s.tick.sel.toNat
  if member s.active.image then ((b : Int) - max (-100) (min 100 (memberOff s))).toNat else b

/-- The boundary that follows on the time scale of the boundaries (R22, R206). -/
def nextBoundary (s : State) : Nat :=
  let b := s.tick.boundary.toNat + tickUnits s.tick.sel.toNat
  if member s.active.image then (syncAt s (BitVec.ofNat 64 b)).toNat else b

/-- The alarm code of a channel in a mode (R184). -/
def alarmCode (mode : Nat) : BitVec 16 := if mode = 3 then 0xFFFF else if mode = 4 then 0x8000 else 0

/-- The alarm code on every output channel (R53). -/
def alarmSetpts (cfg : Config.Image) : Vector (BitVec 16) 8 := vtab 8 (fun n => alarmCode (lookN cfg .uacMode n 0 0))

/-- The instant up to which a class H reaction acts on the coming frame: 1 µs before the next boundary (R24). -/
def tooLate (s : State) : Bool :=
  s.tick.running && decide (s.tick.boundary.toNat + tickUnits s.tick.sel.toNat < s.tb.count.toNat + tUs)

/-- A channel's latch forced: in the last microsecond before the boundary the coming frame still carries what stood (R24). -/
def forceLatch (s : State) (l : Latch) (c : Chan) : Chan :=
  { c with latch := l, late := if tooLate s then some (c.late.getD c.latch) else c.late }

/-- PTP at a restart, back on PTP.PORT (R204, R205). In role NONE or MASTER the time is the timebase plus the constant of BOOT step 5, a
MASTER's LOCKED with an offset of 0; a follower whose role is new starts acquiring, without a master. -/
def ptpRestart (cfg : Config.Image) (p : Ptp) : Ptp :=
  let r := ptpRoleOf cfg
  let q := { p with onB := lookN cfg .ptpPort 0 0 0 == 1, role := r }
  if r = 0 then { q with state := 0, const := p.boot, freq := 0 }
  else if r = 2 then { q with state := 2, offset := 0, const := p.boot, freq := 0 }
  else if p.role = r then { q with state := if p.state = 0 then 1 else p.state }
  else { q with state := 1, best := none, good := 0, warnGood := 0 }

/-- TIME_STALE while UNLOCKED, until LOCKED again (R205); role NONE has no servo. -/
def timeFaults (s : State) : State :=
  if ptpRoleOf s.active.image = 0 then clearFault fcTimeStale 0 s
  else if s.ptp.state = 0 then raise fcTimeStale 0 s
  else if s.ptp.state = 2 then clearFault fcTimeStale 0 s else s

/-- The time faults at a restart: neither a MASTER, whose offset is 0, nor a module without a servo holds TIME_WARN (R205, R226). -/
def timeStart (s : State) : State :=
  timeFaults (if ptpRoleOf s.active.image ∈ [0, 2] then clearFault fcTimeWarn 0 s else s)

/-- GABLE_UP changes (Table 15.5). -/
def setGableUp (b : Bool) (s : State) : State :=
  if s.gable.up = b then s else irqSet 7 { s with gable := { s.gable with up := b } }

/-- A largest value kept by a number. -/
def peakAt (k v : Nat) (l : List (Nat × Nat)) : List (Nat × Nat) :=
  if l.any (fun e => e.1 == k) then l.map (fun e => if e.1 = k then (k, max e.2 v) else e) else l ++ [(k, v)]

/-- What two stretches have together: the larger values, and the flash bits of both. -/
def Peaks.join (a b : Peaks) : Peaks :=
  { off := vtab 56 (fun k => max (vget a.off k 0) (vget b.off k 0))
    ron := vtab 56 (fun k => max (vget a.ron k 0) (vget b.ron k 0))
    edge := vtab 48 (fun k => max (vget a.edge k 0) (vget b.edge k 0))
    edm := b.edm.foldl (fun l e => peakAt e.1 e.2 l) a.edm
    delta := max a.delta b.delta
    flash := vtab 4 (fun k => vget a.flash k 0 + vget b.flash k 0)
    weak := max a.weak b.weak
    reserve := match a.reserve, b.reserve with
      | .some x, .some y => .some (max x y)
      | .some x, .none => .some x
      | .none, y => y }

/-- What W takes from a boot: the weak bits of the Slate as BOOT step 3 has found them, and after a power-on the reserve of the last
ordered shutdown (Table 14.6). -/
def bootPeaks (s : State) (p : Peaks) : Peaks :=
  { p with
    weak := max p.weak (popCount s.slate.weak)
    reserve := if s.resetCause == 0 && s.bk.hasReserve then some (100 * s.bk.reserve.toNat) else p.reserve }

/-- Weathering after BOOT: the equivalent-hour count comes from the BK snapshot, or from flash after BK_LOST (R330). -/
def hoursAtBoot (s : State) (bkWasValid : Bool) : Nat :=
  if s.resetCause != 0 then s.wth.hours
  else if bkWasValid && s.bk.hasSnap then s.bk.snapHours else s.flash.hours

/-- BOOT step 5 (R237, R265, R270, R277, R322): GABLE_UP, the log, the firmware and configuration entries, the boot entry, the faults that
boot finds, BK_LOST as long as the RTC has not been set, the vectors of CVU0 and CVU3. `old` is the weak map before step 3, `fb` and `ab`
what step 4 chose. -/
def bootStep5 (env : BootEnv) (old : SlateWord) (ab : Option W32) (fb : Bool) (s : State) : State :=
  let was := s.bk.valid
  let t0 := logScan (setGableUp true s)
  let t1 := { t0 with
    bk := bkFresh t0, pwr := { t0.pwr with holdup := (bkFresh t0).reserve, bkGood := was }, wth := { t0.wth with
      hours := hoursAtBoot s was, cur := bootPeaks { t0 with bk := bkFresh t0 } t0.wth.cur }
    bootStep := 5
    ptp := { t0.ptp with freq := 0, const := timeConst { t0 with bk := bkFresh t0 }, boot := timeConst { t0 with bk := bkFresh t0 } } }
  let fw := if t1.gable.fwActive then t1.flash.fwB else t1.flash.fwA
  let t2 := match ab with
    | some g => logEvent (if fb then 0xE009 else 0xE008) (genArg g.toNat fw.gen.toNat) t1
    | none => t1
  let settled := t2.flash.log.any (fun e => entryCode e.2 == ccFwActivate.toNat && 2 ≤ beAt e.2 18 1
    && beAt e.2 40 4 == fw.gen.toNat)
  let t3 := if pendingFor t2 ccFwActivate fw && !settled then
      logWrite { level := 3, source := 2, code := ccFwActivate, kind := 3, status := 0, before := [], after := [],
                 arg := be 4 fw.gen.toNat ++ be 1 (if t2.gable.fwActive then 1 else 0) ++ be 4 fw.crc.toNat } t2
    else t2
  let t4 := match tornPending t3 ccFwActivate t3.flash.fwA t3.flash.fwB 0xE008 with
    | some g => logEvent 0xE008 (genArg g fw.gen.toNat) t3
    | none => t3
  let t5 := loadConfig t4
  let t6 := { t5 with tick := { t5.tick with sel := tickSelOf t5 } }
  let t7 := slateFaults old t6
  let cause := if fb then 3 else t7.resetCause.toNat
  let t8 := logEvent 0xE003 (be 1 cause ++ be 4 t7.active.gen.toNat ++ be 4 fw.gen.toNat) t7
  let t9 := if t8.pair.diverged then raise fcRidgeDebugDiverged 0 t8 else t8
  let t10 := if t9.bk.rtcValid then t9 else raise fcBkLost 0 t9
  vbatCheck env.vbat (backoffRestart (cvuChecks env.cvuBad [0, 3] t10))

/-- BACKUP with VBAT, otherwise OFF (Table 12.2); BK keeps its contents down to 1.8 V (R321). -/
def restMode (s : State) : Mode := if 1800 ≤ s.pwr.vbatNow then .backup else .off

/-- AO in power-on reset: everything but flash, the Slate cells and BK is gone; BK keeps its contents while VBAT holds, and while L+
is present (R6, R129, R317, R321). With L+ the module stands at the start of BOOT (Table 14.5). -/
def powerOff (lplus : Bool) (s : State) : State :=
  let t := coldReset s
  let kept := lplus || decide (1800 ≤ s.pwr.vbatNow)
  { t with
    faults := [], unlisted := []
    field := FieldSt.reset
    mode := if lplus then .boot else restMode s
    bootStep := if lplus then 1 else 0
    bk := if kept then s.bk else { s.bk with valid := false }
    pwr := { Power.reset with aoOn := false, vbatNow := s.pwr.vbatNow, domains := if kept then 0x200 else 0 }
    host := { t.host with irq := 0 } }

/-- BOOT step 4 (R267, R319): GB comes up in regulation, or BOOT stays at step 3; then Gable is started and step 5 follows, or without a
valid bank the boot ROM alone serves. `old` is the weak map of the BOOT before. -/
def bootGable (env : BootEnv) (old : SlateWord) (t : State) : State :=
  if env.badDomains.getLsbD 5 then vbatCheck env.vbat (regulatorEvt t)
  else
    let c := chooseFw t
    match c.1 with
    | none => vbatCheck env.vbat { t with pwr := { t.pwr with domains := setBit t.pwr.domains 5 true } }
    | some x =>
      let n := if x.2.isBooted && !(c.2.1.isSome && 3 ≤ fwTries t) then fwTries t else min 4 (fwTries t + 1)
      bootStep5 env old c.2.1 c.2.2 (bootStep4 x.1 x.2 n t)

/-- BOOT steps 2 to 5, as far as they succeed (R277, R319): none without AO, which stays in reset, or FD, none after step 1 without PLL
lock; a BK regulator fault loses the contents of BK; VBAT is measured at every boot (R321). -/
def bootSteps (env : BootEnv) (s : State) : State :=
  let b := if env.badDomains.getLsbD 9 then regulatorEvt { s with bk := { s.bk with valid := false } } else s
  if env.badDomains.getLsbD 8 then powerOff true b
  else if !b.pwr.domains.getLsbD 1 then vbatCheck env.vbat b
  else if env.badDomains.getLsbD 1 then vbatCheck env.vbat (regulatorAct 1 b)
  else if !env.pllOk then vbatCheck env.vbat b
  else bootGable env s.slate.weak (bootStep3 env (bootStep2 env b))

/-- Does the boot ROM alone serve, because no firmware bank is valid (Table 12.4, step 4)? -/
def romServes (s : State) : Bool := s.mode == .boot && s.bootStep == 3 && s.pwr.domains.getLsbD 5

/-! ## SELFTEST -/

/-- The margins that SELFTEST loads (R330): those of the BK snapshot when its generation matches and every value lies within
its bounds, else the configured ones. -/
def snapshotFits (s : State) : Bool :=
  let cfg := s.active.image
  s.bk.hasSnap && s.active.valid && cfgWth cfg && s.bk.snapGen == s.active.gen
    && (List.range 56).all (fun k => decide (cfgDtTime cfg (k / 2) ≤ vget s.bk.snapDt k 0)
          && decide (vget s.bk.snapDt k 0 ≤ cfgDtMax cfg (k / 2)))
    && (List.range 28).all (fun k => decide (cfgDtIntMin cfg k ≤ vget s.bk.snapInt k 0)
          && decide (vget s.bk.snapInt k 0 ≤ cfgDtInt cfg k))
    && (List.range 16).all (fun k => decide (cfgWidth cfg k ≤ vget s.bk.snapWidth k 0)
          && decide (vget s.bk.snapWidth k 0 ≤ cfgWidthMax cfg k))
    && decide (cfgTolMin cfg ≤ s.bk.snapHalf) && decide (s.bk.snapHalf + s.bk.snapCentre.natAbs ≤ 500)

/-- Margins at SELFTEST. -/
def loadMargins (s : State) : State :=
  let cfg := s.active.image
  if snapshotFits s then
    { s with
      wth := { s.wth with
        dt := s.bk.snapDt, interval := s.bk.snapInt, width := s.bk.snapWidth, nextDt := s.bk.snapDt, nextInt := s.bk.snapInt,
        nextWidth := s.bk.snapWidth, nextCentre := s.bk.snapCentre, snapLoaded := true }
      tick := { s.tick with centre := s.bk.snapCentre, half := s.bk.snapHalf } }
  else
    { s with
      wth := { s.wth with
        dt := vtab 56 (fun k => cfgDtTime cfg (k / 2)), interval := vtab 28 (cfgDtInt cfg),
        width := vtab 16 (cfgWidth cfg), nextDt := vtab 56 (fun k => cfgDtTime cfg (k / 2)), nextInt := vtab 28 (cfgDtInt cfg),
        nextWidth := vtab 16 (cfgWidth cfg), nextCentre := 0, snapLoaded := false }
      tick := { s.tick with centre := 0, half := 500 } }

/-- An engine started afresh; its misses no longer count (R290). -/
def EngineSt.fresh (e : EngineSt) : EngineSt := { e with up := true, down := false, misses := [] }

/-- Domains after BOOT step 6 or a restart: RG, TH, and those that the configuration uses (Table 1.5, R319). -/
def domainsFor (cfg : Config.Image) : BitVec 10 :=
  bitsOf 10 (fun k => match k with
    | 0 => uacUsed cfg
    | 2 => axisUsed cfg
    | 3 => portUsed cfg true
    | 4 => portUsed cfg false
    | _ => true)

/-- Faults that the reloaded channels, the restarted engines and the reinitialised field side no longer hold (R280, R290):
class P but TPO_OVERLOAD (R88), connections, field supplies, ENGINE_DOWN. -/
def restartClears (e : FaultEntry) : Bool :=
  (e.cls == .p && e.code != fcTpoOverload)
    || e.code ∈ [fcConnSingle, fcConnDisagree, fcConnStale, fcConnTimeout, fcConnLeeExpired, fcConnNotStarted, fcCsfWdg,
                 fcFsLow, fcSupplyLost, fcFsTpLow, fcFsTpLost, fcFsAnLow, fcFsAnLost, fcEngineDown]

/-- A channel reloaded with the active configuration. -/
def chanLoad (l : Lane) (cfg : Config.Image) : Chan :=
  { Chan.reset l with blk := cfg.insts.map (fun _ => Blk.reset) }

/-- Does a row of the Thatch configuration verify against the CRC stored with the image: CRC-32 over its bytes (R58; log entry 153)? -/
def rowOk (r : Config.ThatchRow) : Bool := r.crc == crc32 (be 32 r.bits.toNat)

/-- The tightly coupled memories as SELFTEST loads them: the Ridge code for both cores, data memories of zeros (R54, R70). -/
def Tcm.load (code : List Byte) : Tcm :=
  { instrA := memWriteBytes [] 0 code, dataA := [], instrB := memWriteBytes [] 0 code, dataB := [], ded := [] }

/-- The pair at an entry into SELFTEST: joined, nothing loaded or checked yet; the break of R71 stands until a power-on. -/
def Pair.restart (p : Pair) : Pair :=
  { p with
    ridgeLoaded := false, thatchLoaded := false, vecOk := false, digestOk := false, vecDone := 0, split := false, splitBusy := false
    joinBusy := false, splitAt := none, splitReq := none, joinBad := false, firewall := false, msgArea := []
    lockAck := InCh.reset, startOk := 0, faultLine := p.diverged, ackPress := false, startAck := false }

/-- Gable serves again: GABLE_UP, and the faults that came while it was down are entered, where an armed trigger meets them; one of class H
met it when it was raised (R290, R352). -/
def gableBack (s : State) : State :=
  if s.gable.up || !s.gableE.up then s
  else (s.faults.filter (fun e => e.cls != .h && decide ((s.gableE.misses.getLastD 0).toNat ≤ e.time.toNat))).foldl
    (fun t e => trigMatch true e.code e.arg t) (setGableUp true s)

/-- Entry into SELFTEST, from BOOT or by a restart (R278, R280): both channels, the motion engines and the field side start
afresh under the reset level; AO, BK, GB, NA and NB keep running. -/
def startSelftest (s : State) : State :=
  let t := loadMargins (clearWhere restartClears s)
  let cfg := t.active.image
  slateHard (gableBack (setMode .selftest (timeStart
    { t with
      ridge := chanLoad .p cfg
      thatch := chanLoad .t cfg
      pair := t.pair.restart
      tcm := Tcm.load cfg.ridgeCode
      thatchMem := { rows := cfg.rows, scan := 0 }
      laneP := laneReset t.laneP
      laneT := laneReset t.laneT
      field := fieldReset t.tb.count t.field
      fa := { Fa.reset with almOpen := t.fa.almOpen, everAccepted := t.fa.everAccepted }
      motion := Motion.reset
      ptp := ptpRestart cfg t.ptp
      cas := { t.cas with hbSeq := 0, agreeSeq := 0, selfRounds := 0 }
      tick := { t.tick with
        running := true, pulse := false, pulsePrev := true, began := false, phase3 := false, silentT := false }
      gableE := t.gableE.fresh
      n0 := { t.n0 with up := portUsed cfg false, down := false, misses := [] }
      n1 := { t.n1 with up := portUsed cfg true, down := false, misses := [] }
      w := t.w.fresh
      ridgeB := { t.ridgeB with up := false, down := false, misses := [] }
      pwr := { t.pwr with domains := domainsFor cfg }
      gable := { t.gable with cand := none, verify := none, owner := none, fwData := [] }
      want := none
      hPend := none
      restart := none
      lockWin := none })))

/-- The units of the engines that a restart into SELFTEST starts again: CVU0 of Gable, CVU1 and CVU2 of N0 and N1 (R237, R290). -/
def freshUnits (before after : State) : List (Fin 4) :=
  (if !before.gableE.up && after.gableE.up then [0] else []) ++ (if !before.n0.up && after.n0.up then [1] else [])
    ++ (if !before.n1.up && after.n1.up then [2] else [])

/-- The domains that do not come into regulation at a restart: FD, which no restart switches, where it is off, and of those that stand off
the ones whose regulators fail again (R319; log entry 216). -/
def restartBad (s : State) : BitVec 10 :=
  bitsOf 10 (fun k => !s.pwr.domains.getLsbD k && (k == 1 || !Config.regulates k s.tb.count.toNat))

/-- A restart into SELFTEST: the domains come on in order, each after the one before it is in regulation (R319), and the units of the engines
started again run their vectors (R237; log entry 217). -/
def selftestAgain (s : State) : State :=
  let t := bootRegulators (restartBad s) (startSelftest s)
  (freshUnits s t).foldl (fun u k => cvuCheck k (Config.cvuSound u.free) u) t

/-- A restart into SELFTEST (R280), which needs Gable's reset to have been released and no shutdown in progress. -/
def restartSelftest (s : State) : State :=
  if s.resetHeld || s.pwr.shutdown.isSome || s.mode ∈ [Mode.off, .backup, .boot, .lull] then s else selftestAgain s

/-- A deliberate reset (R283): class H entries go, and SELFTEST finds again what is still present. -/
def deliberateRestart (s : State) : State := restartSelftest (clearWhere (fun e => e.cls == .h) s)

end Sys2Proof.Machine
end

