-- ==== Sys2Proof/Machine/Service.lean ====
section
/-! DEFINITION. Gable's mailbox service as shared operations: messages, sessions, checks, responses, kept requests and the log
entry of a command (R245 to R256). -/

namespace Sys2Proof.Machine

/-! ## Messages (Table 11.3) -/

/-- Bytes 2 to the end of the CRC of a request, which R248 compares. -/
def reqBody (code : BitVec 16) (r : Req) : List Byte :=
  let head := be 2 r.tag.toNat ++ be 2 code.toNat ++ be 2 r.payload.length ++ be 2 r.flags.toNat ++ r.payload
  (head ++ be 4 (crc32 head).toNat).drop 2

/-- A response message. -/
def rspMsg (tag code : BitVec 16) (flags : Nat) (st : Byte) (payload : List Byte) : List Byte :=
  let head := be 2 tag.toNat ++ be 2 code.toNat ++ be 2 payload.length ++ be 1 flags ++ [st] ++ payload
  head ++ be 4 (crc32 head).toNat

/-- What a command answers, and its entry in the log: ARG, BEFORE, AFTER; `wrote` if it has written its own entries,
`later` if its response follows once the operation has ended. -/
structure Answer where
  st : Byte
  payload : List Byte
  more : Bool
  before : List Byte
  after : List Byte
  arg : List Byte
  wrote : Bool
  later : Bool
  deriving DecidableEq, Repr

/-- A status with no payload. -/
def answer (st : Byte) : Answer :=
  { st := st, payload := [], more := false, before := [], after := [], arg := [], wrote := false, later := false }

/-- No response yet: a split or join has begun (R66, R69). -/
def answerLater : Answer := { answer stOk with later := true }

/-- OK with a payload. -/
def answerOk (payload : List Byte) : Answer := { answer stOk with payload := payload }

/-! ## Sessions (R253 to R256) -/

/-- The session of a port. -/
def sessionOf (p : Port) (s : State) : Session :=
  match p with
  | .spi => s.gable.spi
  | .usb => s.gable.usb

/-- Replace the session of a port. -/
def setSession (p : Port) (x : Session) (s : State) : State :=
  match p with
  | .spi => { s with gable := { s.gable with spi := x } }
  | .usb => { s with gable := { s.gable with usb := x } }

/-- SOURCE of a port in the log (Table 11.10). -/
def portSource (p : Port) : Nat :=
  match p with
  | .spi => 0
  | .usb => 1

/-- The other port. -/
def otherPort (p : Port) : Port :=
  match p with
  | .spi => .usb
  | .usb => .spi

/-- Does ending the Integrate session restart the module? It entered SERVICE, or owns CONFIGURE or VERIFY (R256). -/
def ownsMode (s : State) : Bool :=
  s.mode ∈ [Mode.configure, .verify, .service] || s.want ∈ [some Mode.configure, some Mode.verify, some Mode.service]

/-- A higher event of R275 already stands against a change of mode: a class H fault, or in RUN and LEE a module-wide class S
condition. -/
def overtaken (s : State) : Bool := s.hPend.isSome || (s.mode.runs && holdCond s)

/-- A session goes to a lower level; an Integrate session that owns the mode restarts the module into SELFTEST, and a change
of mode it asked for is dropped (R253, R256). -/
def lowerSession (p : Port) (level : BitVec 2) (s : State) : State :=
  let was := (sessionOf p s).level
  let t := setSession p { sessionOf p s with level := level, service := false, unsetOnly := false } s
  if was = 2 && decide (level.toNat < 2) && ownsMode s then
    if s.mode ∈ [Mode.configure, .verify, .service] then restartSelftest t
    else { t with want := none, gable := { t.gable with cand := none, verify := none } }
  else t

/-- Seconds of back-off remaining, rounded up; one that waits for GABLE_UP stands in full. -/
def backoffLeft (s : State) : Nat :=
  match s.gable.backoffEnd with
  | some e => if s.gable.backoffHeld then s.gable.backoffLen else ceilDiv (e.toNat - s.tb.count.toNat) tSec
  | none => 0

/-- A failed attempt (R255): the fifth starts a back-off of 60 s, each one after a back-off has ended doubles the last, up to 1 h. A wrong
old password during a back-off is counted only. -/
def countFailure (s : State) : State :=
  let n := s.gable.fails + 1
  let len := if n ≤ 5 then 60 else if s.gable.backoffLen = 0 then 60 else min 3600 (2 * s.gable.backoffLen)
  if n < 5 || s.gable.backoffEnd.isSome then { s with gable := { s.gable with fails := n } }
  else
    { s with gable := { s.gable with
        fails := n, backoffLen := len, backoffEnd := some (s.tb.count + BitVec.ofNat 64 (len * tSec)) } }

/-- The password of a level: 1 Maintain, 2 Integrate. -/
def passwordOf (level : Nat) (s : State) : Option Password :=
  if level = 2 then s.gable.integrate else s.gable.maintain

/-- SHA-256 of salt followed by password (R254). -/
def passDigest (salt : BitVec 128) (pw : List Byte) : BitVec 256 := shaNum (be 16 salt.toNat ++ pw)

/-- Is the password correct? Where none is set, only the empty one is (R254). -/
def passwordOk (level : Nat) (pw : List Byte) (s : State) : Bool :=
  match passwordOf level s with
  | some p => passDigest p.salt pw == p.digest
  | none => pw.isEmpty

/-! ## Checks before execution (R251, R254) -/

/-- The commands that the boot ROM serves over USB without a valid firmware bank (Table 12.4, step 4). -/
def romCommand (code : BitVec 16) : Bool := code ∈ [ccGetStatus, ccLogin, ccFwUpdateBlock, ccFwActivate]

/-- The status that turns a request away before its command is looked at: level, then mode; the boot ROM serves its four commands alone
(Table 12.4). -/
def preCheck (code : BitVec 16) (r : Req) (s : State) : Option Byte :=
  let x := sessionOf r.port s
  if !r.flagsOk then some stBadParameter
  else if x.level.toNat < commandLevel code then some stAccessDenied
  else if x.unsetOnly && s.gable.integrate.isNone && !(code == ccLogout || (code == ccSetPassword && r.num 0 1 == 2)) then
    some stAccessDenied
  else if !(if romServes s then romCommand code else commandMode code r.confirm s.mode) then some stWrongMode
  else none

/-- Is the request one whose execution is logged (Table 11.6)? -/
def isLogged (code : BitVec 16) (r : Req) : Bool :=
  if code = ccCfgEnd || code = ccFwUpdateBlock then r.num 0 4 == 0
  else code ∈ [ccCfgBegin, ccCfgAcceptClamps, ccVerifyStart, ccCommit, ccLogin, ccLogout, ccSetPassword, ccClearLockout,
    ccSlateProgramBit, ccSlateLock, ccRidgeSplit, ccRidgeJoin, ccFwActivate, ccLullArm]

/-! ## Responses (R246, R248) -/

/-- Post a response: into the response mailbox, or onto bulk IN. -/
def postRsp (p : Port) (msg : List Byte) (st : Byte) (s : State) : State :=
  match p with
  | .spi =>
    irqSet 1 { s with
      mbx := memWriteBytes s.mbx rspBase msg
      gable := { s.gable with rspReady := true, reqBusy := false, lastStatus := BitVec.ofNat 8 st.toNat } }
  | .usb => { s with gable := { s.gable with usbRsp := s.gable.usbRsp ++ [msg] } }

/-- The last sixteen kept requests of a port. -/
def keepIn (l : List Kept) (k : Kept) : List Kept := (l ++ [k]).drop (l.length + 1 - 16)

/-- Keep a request with its response. -/
def keepRsp (p : Port) (k : Kept) (s : State) : State :=
  match p with
  | .spi => { s with gable := { s.gable with keptSpi := keepIn s.gable.keptSpi k } }
  | .usb => { s with gable := { s.gable with keptUsb := keepIn s.gable.keptUsb k } }

/-- Kept requests of a port. -/
def keptOf (p : Port) (s : State) : List Kept :=
  match p with
  | .spi => s.gable.keptSpi
  | .usb => s.gable.keptUsb

/-- A request leaves the queue when it has been answered; if it was the one in execution, the next starts to execute. -/
def dequeue (code : BitVec 16) (r : Req) (s : State) : State :=
  { s with gable := { s.gable with
      queue := s.gable.queue.erase (code, r)
      started := if s.gable.queue.head? = some (code, r) || !s.gable.queue.contains (code, r) then s.tb.count else s.gable.started } }

/-- ARG of a command's entry as far as the request alone gives it: the level of LOGIN and SET_PASSWORD, the bit of SLATE_PROGRAM_BIT, to
which no pulse has been driven (Table 11.10). -/
def argOf (code : BitVec 16) (r : Req) : List Byte :=
  if code ∈ [ccLogin, ccSetPassword] then be 1 (r.num 0 1)
  else if code = ccSlateProgramBit then be 2 (r.num 0 2) ++ be 1 0
  else []

/-- The log entry of an executed command (R251, Table 11.10). -/
def logCommand (code : BitVec 16) (r : Req) (level : BitVec 2) (a : Answer) (s : State) : State :=
  logWrite { level := level.toNat, source := portSource r.port, code := code, kind := 0, status := a.st,
             before := a.before, after := a.after, arg := if a.arg.isEmpty then argOf code r else a.arg } s

/-- A payload filled up to a multiple of 4 bytes (R245). -/
def pad4 (l : List Byte) : List Byte := padTo (padded l.length) l

/-- End a command: its log entry, its response, the request kept, the queue moved on. -/
def finishOne (code : BitVec 16) (r : Req) (level : BitVec 2) (a : Answer) (s : State) : State :=
  let entry := isLogged code r && !a.wrote
  let t := if entry then logCommand code r level a s else s
  let flags := (if a.more then 64 else 0) + (if isLogged code r then 32 else 0)
  let msg := rspMsg r.tag code flags a.st (pad4 a.payload)
  keepRsp r.port { tag := r.tag, body := reqBody code r, rsp := msg } (postRsp r.port msg a.st (dequeue code r t))

/-- A response that neither executes nor is kept: bad messages, TAG_CONFLICT, a kept response (R245, R248). -/
def replyOnly (p : Port) (tag code : BitVec 16) (st : Byte) (s : State) : State :=
  postRsp p (rspMsg tag code 0 st []) st s

/-- A kept response again, with DUPLICATE set and its CRC anew (R248). -/
def dupMsg (m : List Byte) : List Byte :=
  let head := m.take 6 ++ [m.getD 6 0 ||| 0x80] ++ (m.drop 7).take (m.length - 11)
  head ++ be 4 (crc32 head).toNat

/-- Take a request message in its turn: checks in the order LENGTH, CRC, FLAGS, kept TAG, CODE; a good request waits for Gable (R245, R248,
R251). -/
def takeNow (p : Port) (m : List Byte) (s : State) : State :=
  let tag : BitVec 16 := BitVec.ofNat 16 (beAt m 0 2)
  let code : BitVec 16 := BitVec.ofNat 16 (beAt m 2 2)
  let n := beAt m 4 2
  let flags : BitVec 16 := BitVec.ofNat 16 (beAt m 6 2)
  if m.length < 12 || 1012 < n || n % 4 != 0 || m.length < 12 + n || (p == .usb && m.length != 12 + n) then
    replyOnly p tag code stBadLength s
  else if beAt m (8 + n) 4 != (crc32 (m.take (8 + n))).toNat then replyOnly p tag code stBadCrc s
  else if flags.toNat / 2 != 0 then replyOnly p tag code stBadParameter s
  else
    match (keptOf p s).find? (fun k => k.tag == tag) with
    | some k =>
      if k.body == (m.take (12 + n)).drop 2 then postRsp p (dupMsg k.rsp) (k.rsp.getD 7 0) s
      else replyOnly p tag code stTagConflict s
    | none =>
      let r : Req := { port := p, tag := tag, flags := flags, payload := (m.drop 8).take n }
      if knownCommand code then
        { s with gable := { s.gable with
            queue := s.gable.queue ++ [(code, r)]
            started := if s.gable.queue.isEmpty then s.tb.count else s.gable.started } }
      else finishOne code r (sessionOf p s).level (answer stUnknownCommand) s

/-- Take a request message that has arrived (R246): one that is not to be executed is answered in its turn, behind a request of the other
port that came before it. -/
def takeRequest (p : Port) (m : List Byte) (s : State) : State :=
  let t := takeNow p m s
  if s.gable.queue.isEmpty || s.gable.queue.length < t.gable.queue.length then t
  else { s with gable := { s.gable with parked := some (p, m) } }

/-- A request on port `p` has ended: with no other before it, a message of the other port that waits for its answer has its turn (R246). -/
def settleMbx (p : Port) (s : State) : State :=
  match s.gable.parked with
  | some (q, m) =>
    if q = otherPort p && s.gable.queue.isEmpty then takeNow q m { s with gable := { s.gable with parked := none } } else s
  | none => s

/-- End a command, and take what waits behind it. -/
def finish (code : BitVec 16) (r : Req) (level : BitVec 2) (a : Answer) (s : State) : State :=
  settleMbx r.port (finishOne code r level a s)

/-- A request on a port keeps its session alive (R253); one that SPI takes with nothing before it clears OVERRUN (Table 11.5). -/
def touch (p : Port) (s : State) : State :=
  let t := if p == .spi && s.gable.queue.isEmpty then { s with gable := { s.gable with overrun := false } } else s
  setSession p { sessionOf p s with lastReq := s.tb.count } t

/-- Gable serves: it runs, or the boot ROM alone does (Table 12.4); one request at a time, so none while the lock-out window of
CLEAR_LOCKOUT is open, a split or join awaits its response or a change of mode its boundary; and none after the start of an ordered
shutdown (R66, R69, R246, R275, R283, R318). -/
def serves (s : State) : Bool :=
  (s.gable.up || romServes s) && s.lockWin.isNone && s.pair.splitReq.isNone && s.gable.held.isNone && s.pwr.shutdown.isNone

/-- Is a request next in turn: the first of those that wait, or, where none waits and its port is free, one that comes now (R244, R246; log
entry 19)? The boot ROM serves USB alone. -/
def inTurn (code : BitVec 16) (r : Req) (s : State) : Bool :=
  (r.port == .usb || s.gable.up)
    && (match s.gable.queue with
        | q :: _ => q == (code, r)
        | [] => match r.port with
          | .spi => !s.gable.reqBusy && !s.gable.rspReady
          | .usb => s.gable.usbAttached)

/-- A request that stays in execution: it stands first among those that wait. -/
def occupy (code : BitVec 16) (r : Req) (s : State) : State :=
  if s.gable.queue.isEmpty then
    { s with gable := { s.gable with
        queue := [(code, r)], started := s.tb.count, reqBusy := s.gable.reqBusy || r.port == .spi } }
  else s

/-- FLAGS with a reserved bit set: BAD_PARAMETER, neither logged nor kept (R245). -/
def refuseFlags (code : BitVec 16) (r : Req) (s : State) : State :=
  settleMbx r.port (postRsp r.port (rspMsg r.tag code 0 stBadParameter []) stBadParameter (dequeue code r s))

/-- What becomes of a request that comes now, with nothing before it, without being executed: BUSY on USB before the last response has been
read, the kept response of a duplicate, TAG_CONFLICT (R244, R248; log entry 19). -/
def turnedAway (code : BitVec 16) (r : Req) (s : State) : Option State :=
  if !s.gable.queue.isEmpty || !r.flagsOk then none
  else if r.port == .usb && !s.gable.usbRsp.isEmpty then some (replyOnly .usb r.tag code stBusy s)
  else
    match (keptOf r.port s).find? (fun k => k.tag == r.tag) with
    | some k =>
      if k.body == reqBody code r then some (postRsp r.port (dupMsg k.rsp) (k.rsp.getD 7 0) s)
      else some (replyOnly r.port r.tag code stTagConflict s)
    | none => none

/-- Execute a mailbox command: checks, its own effect, its end. While Gable does not serve, or serves another request, nothing happens. -/
def serve (code : BitVec 16) (r : Req) (body : State → State × Answer) (s : State) : State :=
  if !serves s || !inTurn code r s then s
  else if !r.flagsOk then refuseFlags code r (touch r.port s)
  else
    let t := touch r.port s
    let level := (sessionOf r.port t).level
    match turnedAway code r t with
    | some u => u
    | none =>
      match preCheck code r t with
      | some st => finish code r level (answer st) t
      | none =>
        let res := body t
        if res.2.later then res.1 else finish code r level res.2 res.1

/-! ## Commands that change the mode at the next boundary (R275) -/

/-- A command whose change of mode waits for the next boundary: refused as it comes, or held, with no effect yet (R275; log entry 41). -/
def heldBody (code : BitVec 16) (r : Req) (body : State → State × Answer) (s : State) : State × Answer :=
  let res := body s
  if res.2.st = stOk then
    let t := occupy code r s
    ({ t with gable := { t.gable with held := some (code, r) } }, answerLater)
  else res

/-- At the boundary a held command takes effect, or is answered with WRONG_MODE where a higher event overtakes it (R275). -/
def heldEnd (code : BitVec 16) (r : Req) (body : State → State × Answer) (s : State) : State :=
  let t := { s with gable := { s.gable with held := none } }
  let level := (sessionOf r.port t).level
  if overtaken t then finish code r level (answer stWrongMode) t
  else
    match preCheck code r t with
    | some st => finish code r level (answer st) t
    | none =>
      let res := body t
      finish code r level res.2 res.1

end Sys2Proof.Machine
end

