-- ==== Sys2Proof/Machine/Session.lean ====
section
/-! DEFINITION. Status, session, password and log commands (R251 to R256, R283), and Gable's own timers of them. -/

namespace Sys2Proof.Machine

/-- A command whose request has no payload. -/
def noPayload (r : Req) (body : State → State × Answer) (s : State) : State × Answer :=
  if r.payload.isEmpty then body s else (s, answer stBadLength)

/-! ## GET_STATUS and GET_FAULTS -/

/-- Is the last VERIFY run one that COMMIT takes: passed, and started after the clamps were accepted where there are any
(R263)? -/
def verifyTaken (s : State) : Bool :=
  match s.gable.cand, s.gable.verify with
  | some c, some v => c.ended && v.state == 1 && (c.clamps.isEmpty || v.afterAccept)
  | _, _ => false

/-- CFG_STATE of GET_STATUS (Table 11.7). -/
def cfgState (s : State) : Nat :=
  match s.gable.cand with
  | none => 0
  | some c =>
    if !c.ended then 1
    else if verifyTaken s then 5
    else if c.clamps.isEmpty then 2
    else if c.accepted then 4 else 3

/-- The first class H code in the log after the last CLEAR_LOCKOUT with STATUS OK (R282). -/
def logCause (s : State) : Nat :=
  let last := newestCount s.flash.log (fun e => entryCode e == ccClearLockout.toNat && entryStatus e == 0)
  let later := s.flash.log.filter (fun e => entryCode e.2 == 0xE002 && decide (last ≤ entryCount e.2))
  match later.foldl (fun (m : Option (Nat × Nat)) e =>
      match m with
      | none => some (entryCount e.2, beAt e.2 40 2)
      | some x => if entryCount e.2 < x.1 then some (entryCount e.2, beAt e.2 40 2) else some x) none with
  | some x => x.2
  | none => 0

/-- The fault code that caused LOCKOUT, or 0 (R282). -/
def lockCauseOf (s : State) : Nat :=
  if s.bk.lockCause.val != 0 then s.bk.lockCause.val.toNat else logCause s

/-- Number of faults present (Table 11.7). -/
def faultCount (s : State) : Nat := s.faults.length + s.unlisted.length

/-- Payload of GET_STATUS (Table 11.7). -/
def statusPayload (p : Port) (s : State) : List Byte :=
  be 1 s.mode.code ++ be 1 (sessionOf p s).level.toNat ++ be 1 (cfgState s)
    ++ be 1 (bit s.w.down 3 + bit s.n1.down 2 + bit s.n0.down 1 + bit s.pair.split 0)
    ++ be 4 s.active.gen.toNat ++ be 4 s.active.crc.toNat ++ be 4 s.gable.fwVer.toNat
    ++ be 2 (min 65535 (faultCount s)) ++ be 2 (lockCauseOf s) ++ be 4 (backoffLeft s) ++ be 4 s.bk.nextCount.toNat
    ++ be 4 s.tick.count.toNat

/-- GET_STATUS (Table 11.7). -/
def execGetStatus (r : Req) (s : State) : Host.Outcome State Fault Refusal :=
  .next (serve ccGetStatus r (noPayload r fun t => (t, answerOk (statusPayload r.port t))) s)

/-- An entry of GET_FAULTS (Table 11.7). -/
def faultBytes (e : FaultEntry) : List Byte :=
  be 2 e.code.toNat ++ be 1 e.cls.code ++ be 1 (1 + bit e.warning 1) ++ be 4 e.arg.toNat ++ be 8 e.time.toNat

/-- GET_FAULTS: up to 62 entries from FIRST (R286). -/
def execGetFaults (r : Req) (s : State) : Host.Outcome State Fault Refusal :=
  .next (serve ccGetFaults r (fun t =>
    let first := r.num 0 4
    if r.payload.length != 4 then (t, answer stBadLength)
    else if t.faults.length < first then (t, answer stBadParameter)
    else
      (t, { answerOk (be 4 t.faults.length ++ ((t.faults.drop first).take 62).flatMap faultBytes) with
            more := decide (first + 62 < t.faults.length) })) s)

/-! ## LOGIN and LOGOUT (R253 to R256) -/

/-- Response payload of LOGIN. -/
def loginPayload (p : Port) (s : State) : List Byte :=
  be 1 (sessionOf p s).level.toNat ++ be 1 s.mode.code ++ be 2 (min 65535 s.gable.fails) ++ be 4 (backoffLeft s)

/-- A LOGIN's answer: its payload as the session stands after it, ARG the level asked for. -/
def loginAnswer (p : Port) (st : Byte) (level : Nat) (s : State) : State × Answer :=
  (s, { answer st with payload := loginPayload p s, arg := be 1 level })

/-- A password checked and found correct sets the count to 0 and the next back-off to 60 s (R255). -/
def clearFailures (s : State) : State :=
  { s with gable := { s.gable with fails := 0, backoffLen := 0, backoffEnd := none } }

/-- Grant a level; SERVICE = 1 takes the module into SERVICE at the next boundary (R256, Table 12.2). -/
def grant (p : Port) (level : Nat) (service unsetOnly : Bool) (s : State) : State :=
  let t := if level < (sessionOf p s).level.toNat then lowerSession p (BitVec.ofNat 2 level) s else s
  let u := setSession p { sessionOf p t with
    level := BitVec.ofNat 2 level, service := (sessionOf p t).service || service, unsetOnly := unsetOnly } t
  if service then { u with want := some .service } else u

/-- Effect of LOGIN (R253 to R256); a change to SERVICE that a higher event overtakes is refused (R275). -/
def loginBody (r : Req) (s : State) : State × Answer :=
  let level := r.num 0 1
  let service := r.num 1 1
  let n := r.num 2 1
  let pw := (r.payload.drop 4).take n
  let cur := (sessionOf r.port s).level.toNat
  if r.payload.length < 4 || r.payload.length != 4 + padded n then (s, answer stBadLength)
  else if 2 < level || 1 < service || r.num 3 1 != 0 || (n != 0 && (n < 8 || 64 < n)) || (service == 1 && level != 2) then
    (s, answer stBadParameter)
  else if s.gable.backoffEnd.isSome then loginAnswer r.port stBackoff level s
  else if service == 1 && (!(s.mode ∈ [Mode.safeHold, .lockout]) || overtaken s) then loginAnswer r.port stWrongMode level s
  else if level = 2 && (sessionOf (otherPort r.port) s).level = 2 then loginAnswer r.port stBusy level s
  else if level = 0 || level < cur then loginAnswer r.port stOk level (grant r.port level false false s)
  else
    match passwordOf level s with
    | none =>
      if level = 2 && r.port == .usb && n = 0 then
        loginAnswer r.port stOk level (grant r.port level (service == 1) true s)
      else loginAnswer r.port stPasswordUnset level s
    | some _ =>
      if passwordOk level pw s then
        loginAnswer r.port stOk level (grant r.port level (service == 1) false (clearFailures s))
      else loginAnswer r.port stBadPassword level (countFailure s)

/-- LOGIN; one with SERVICE = 1 changes the mode (R256, R275). -/
def execLogin (r : Req) (s : State) : Host.Outcome State Fault Refusal :=
  .next (serve ccLogin r (if r.num 1 1 = 1 then heldBody ccLogin r (loginBody r) else loginBody r) s)

/-- LOGOUT: the session returns to Observe; one that owns the mode restarts the module (R253, R256). -/
def execLogout (r : Req) (s : State) : Host.Outcome State Fault Refusal :=
  .next (serve ccLogout r (noPayload r fun t => (lowerSession r.port 0 t, answer stOk)) s)

/-! ## SET_PASSWORD (R254) -/

/-- One record of the password store, for the digests of the log (log entry 34). -/
def storeRecord (p : Option Password) : List Byte :=
  match p with
  | some x => be 16 x.salt.toNat ++ be 32 x.digest.toNat
  | none => List.replicate 48 0xFF

/-- First 8 bytes of the SHA-256 digest of an object (Table 11.10). -/
def digest8 (l : List Byte) : List Byte := (sha256 l).take 8

/-- The password store as one object. -/
def passwordStore (s : State) : List Byte := storeRecord s.gable.maintain ++ storeRecord s.gable.integrate

/-- Store or clear a password; the salt is drawn from the noise source (R254; log entry 12). -/
def storePassword (level : Nat) (pw : List Byte) (s : State) : State :=
  let salt := Config.noise s.free
  let p := if pw.isEmpty then none else some { salt := salt, digest := passDigest salt pw }
  let g := if level = 2 then { s.gable with integrate := p } else { s.gable with maintain := p }
  { s with gable := g, free := s.free + 1 }

/-- Effect of SET_PASSWORD; `flashOk`: the flash took the new record. -/
def setPasswordBody (r : Req) (flashOk : Bool) (s : State) : State × Answer :=
  let level := r.num 0 1
  let o := r.num 1 1
  let n := r.num 2 1
  let old := (r.payload.drop 4).take o
  let new := (r.payload.drop (4 + padded o)).take n
  let a := { answer stOk with arg := be 1 level }
  if r.payload.length < 4 || r.payload.length != 4 + padded o + padded n then (s, answer stBadLength)
  else if !(level = 1 || level = 2) || r.num 3 1 != 0 || 64 < o || (n != 0 && (n < 8 || 64 < n)) || (n = 0 && level = 2) then
    (s, answer stBadParameter)
  else if (sessionOf r.port s).level.toNat < 2 && level != 1 then (s, { a with st := stAccessDenied })
  else if (sessionOf r.port s).level.toNat < 2 && !passwordOk 1 old s then (countFailure s, { a with st := stBadPassword })
  else if !flashOk then (s, { a with st := stFlashFail })
  else
    let t := storePassword level new s
    (t, { a with before := digest8 (passwordStore s), after := digest8 (passwordStore t) })

/-- SET_PASSWORD. -/
def execSetPassword (r : Req) (flashOk : Bool) (s : State) : Host.Outcome State Fault Refusal :=
  .next (serve ccSetPassword r (setPasswordBody r flashOk) s)

/-! ## LOG_READ (R268, R270) -/

/-- The raw bytes of a slot; erased flash reads 0xFF (R264). -/
def rawSlot (s : State) (c : Nat) : List Byte :=
  match slotRead s.flash.log (c % 8192) with
  | some b => padTo 64 b
  | none => List.replicate 64 0xFF

/-- The oldest count that the log holds; NEXT_COUNT of an empty log. -/
def oldestCount (s : State) : Nat :=
  s.flash.log.foldl (fun m e => min m (entryCount e.2)) s.bk.nextCount.toNat

/-- LOG_READ. -/
def execLogRead (r : Req) (s : State) : Host.Outcome State Fault Refusal :=
  .next (serve ccLogRead r (fun t =>
    let n := r.num 4 4
    if r.payload.length != 8 then (t, answer stBadLength)
    else if n < 1 || 15 < n then (t, answer stBadParameter)
    else (t, answerOk (be 4 (oldestCount t) ++ be 4 t.bk.nextCount.toNat ++ be 4 n
      ++ (List.range n).flatMap (fun k => rawSlot t (r.num 0 4 + k))))) s)

/-! ## CLEAR_LOCKOUT (R283, R284) -/

/-- CLEAR_LOCKOUT accepted opens a window of 10 s; its response comes with the acknowledge or the end of the window. -/
def clearLockoutOpen (r : Req) (s : State) : State :=
  { occupy ccClearLockout r (touch r.port s) with
    pair := { s.pair with ackPress := false }
    lockWin := some { req := r, opened := s.tb.count, ends := s.tb.count + BitVec.ofNat 64 (10 * tSec) } }

/-- CLEAR_LOCKOUT. -/
def execClearLockout (r : Req) (s : State) : Host.Outcome State Fault Refusal :=
  .next
    (if serves s && inTurn ccClearLockout r s && (turnedAway ccClearLockout r s).isNone && (preCheck ccClearLockout r s).isNone
        && r.payload.isEmpty then clearLockoutOpen r s
     else serve ccClearLockout r (noPayload r fun t => (t, answer stOk)) s)

/-- End CLEAR_LOCKOUT with its response, whose payload is the cause. -/
def endClearLockout (w : LockWindow) (st : Byte) (s : State) : State :=
  finish ccClearLockout w.req (sessionOf w.req.port s).level
    { answer st with payload := be 2 (lockCauseOf s), arg := be 2 (lockCauseOf s) } s

/-- A valid press and release of the LOCKOUT_ACK input inside the window (`ackPress`, judged at each refresh of the mirrored
inputs): OK with the cause, BK flag cleared, the entry logged,
a restart into SELFTEST to follow (R283). -/
def execLockoutAckRelease (s : State) : Host.Outcome State Fault Refusal :=
  match s.lockWin with
  | none => .next s
  | some w =>
    if s.gable.up && s.pair.ackPress && !due s w.ends.toNat then
      let t := endClearLockout w stOk s
      .next { t with
        lockWin := none
        bk := { t.bk with lockFlag := Voted.of 0, lockCause := Voted.of 0 }
        restart := some { kind := .lockout, port := w.req.port, due := t.tb.count + BitVec.ofNat 64 tSec } }
    else .next s

/-- No valid release within the window: ACK_MISSING, and the module stays in LOCKOUT (R283). -/
def execAckMissing (s : State) : Host.Outcome State Fault Refusal :=
  match s.lockWin with
  | none => .next s
  | some w =>
    if s.gable.up && due s w.ends.toNat then .next { endClearLockout w stAckMissing s with lockWin := none } else .next s

/-- The restart that follows the deliberate reset (R283). -/
def execLockoutRestart (s : State) : Host.Outcome State Fault Refusal :=
  match s.restart with
  | some x =>
    if x.kind = .lockout && due s x.due.toNat && s.pwr.shutdown.isNone && !tableStill s then
      .next (deliberateRestart { s with restart := none })
    else .next s
  | none => .next s

/-! ## Gable's timers -/

/-- Ten minutes without a request on a port: the session, which the boot ROM too may have granted, returns to Observe; logged as LOGOUT,
KIND 1 (R253, Table 11.10). -/
def execSessionInactivityTimeout (port : Port) (s : State) : Host.Outcome State Fault Refusal :=
  let x := sessionOf port s
  if (s.gable.up || romServes s) && x.level != 0 && due s (x.lastReq.toNat + 600 * tSec) then
    .next (lowerSession port 0
      (logWrite { level := x.level.toNat, source := portSource port, code := ccLogout, kind := 1, status := 0, before := [],
                  after := [], arg := [] } s))
  else .next s

/-- A back-off has run out (R255). -/
def execLoginBackoffEnd (s : State) : Host.Outcome State Fault Refusal :=
  match s.gable.backoffEnd with
  | some e => if !s.gable.backoffHeld && due s e.toNat then .next { s with gable := { s.gable with backoffEnd := none } } else .next s
  | none => .next s

/-- Timeout of a command in timebase units: MBX.TIMEOUT, else the default (R247). -/
def timeoutOf (s : State) (code : BitVec 16) : Nat :=
  match look s.active.image .mbxTimeout code.toNat 0 0 with
  | .ofNat 0 => commandTimeout code
  | us => us.toNat * tUs

/-- A split or join given up before its step 2; a Ridge B that a join has halted stays halted (R69, R70). -/
def splitAbort (p : Pair) : Pair := { p with splitBusy := false, joinBusy := false, splitAt := none, splitReq := none, joinBad := false }

/-- Has a split or join not begun its step 2, the boundary before its last one (R66, R69, R70)? -/
def beforeStep2 (s : State) : Bool :=
  match s.pair.splitAt with
  | some x => decide (s.tick.count.toNat + 1 < x.toNat) || (s.pair.splitBusy && !s.pair.firewall)
  | none => true

/-- The timeout of the request in execution runs out: TIMEOUT without effect (R247). A split or join is aborted by it before step 2;
from then on it runs to its end, and its response reports the outcome (R70). -/
def execMailboxCommandTimeout (s : State) : Host.Outcome State Fault Refusal :=
  match s.pair.splitReq with
  | some (code, r) =>
    if s.gable.up && due s (s.gable.started.toNat + timeoutOf s code) && beforeStep2 s then
      .next (finish code r (sessionOf r.port s).level (answer stTimeout) { s with pair := splitAbort s.pair })
    else .next s
  | none =>
    match s.gable.queue with
    | [] => .next s
    | (code, r) :: _ =>
      if s.gable.up && due s (s.gable.started.toNat + timeoutOf s code) then
        .next (finish code r (sessionOf r.port s).level (answer stTimeout)
          { s with lockWin := none, gable := { s.gable with held := none } })
      else .next s

/-- USB detached: its session ends, and its requests are gone, with the lock-out window of one; the request that thereby becomes first
starts to execute (R244, R246, R247, R253). -/
def usbOff (s : State) : State :=
  let t := lowerSession .usb 0 s
  let q := t.gable.queue.filter (fun q => q.2.port != .usb)
  settleMbx .usb { t with
    lockWin := t.lockWin.filter (fun w => w.req.port != .usb)
    gable := { t.gable with
      usbAttached := false, usbRsp := [], usbEvents := [], queue := q, parked := t.gable.parked.filter (fun q => q.1 != .usb)
      started := if q.head? == t.gable.queue.head? then t.gable.started else t.tb.count
      held := t.gable.held.filter (fun q => q.2.port != .usb) } }

/-- USB_DETACH. -/
def execUsbDetach (s : State) : Host.Outcome State Fault Refusal :=
  if s.gable.usbAttached then .next (usbOff s) else .next s

/-- USB_ATTACH: the port enumerates while L+ is present and USB is not shed (R244, R316). -/
def execUsbAttach (s : State) : Host.Outcome State Fault Refusal :=
  if s.pwr.aoOn && !s.pwr.shedUsb && (s.gable.up || romServes s) then
    .next { s with gable := { s.gable with usbAttached := true } }
  else .next s

end Sys2Proof.Machine
end

