-- ==== Sys2Proof/Machine/Download.lean ====
section
/-! DEFINITION. Configuration download, VERIFY, COMMIT and firmware update (R257 to R267). -/

namespace Sys2Proof.Machine

/-- Does this port's session own the candidate, or CONFIGURE where CFG_END has discarded it? Configuration commands from the other port are
answered with BUSY (R257, R259). -/
def ownedBy (p : Port) (s : State) : Bool :=
  match s.gable.cand with
  | some c => c.owner == p
  | none => !(s.mode ∈ [Mode.configure, .verify]) || s.gable.owner == none || s.gable.owner == some p

/-- Replace the candidate. -/
def setCand (c : Option Candidate) (s : State) : State := { s with gable := { s.gable with cand := c } }

/-- Run a configuration command for the port that owns the candidate. -/
def owned (r : Req) (body : State → State × Answer) (s : State) : State × Answer :=
  if ownedBy r.port s then body s else (s, answer stBusy)

/-- A new candidate of TOTAL_LEN bytes (R257). -/
def newCandidate (p : Port) (len : Nat) (crc : W32) : Candidate :=
  { owner := p, totalLen := len, totalCrc := crc, data := [], ended := false, clamps := [], digest := 0, accepted := false,
    endedAt := 0 }

/-- Effect of CFG_BEGIN: a new candidate; CONFIGURE at the next boundary. In CONFIGURE a VERIFY run that has not begun goes with the old
candidate (R257). -/
def cfgBeginBody (r : Req) (s : State) : State × Answer :=
  let len := r.num 0 4
  if r.payload.length != 8 then (s, answer stBadLength)
  else if len < 64 || 1048576 < len || len % 4 != 0 then (s, answer stBadParameter)
  else if overtaken s then (s, answer stWrongMode)
  else
    let t := { s with gable := { s.gable with
      cand := some (newCandidate r.port len (BitVec.ofNat 32 (r.num 4 4))), owner := some r.port, verify := none } }
    ({ t with want := if s.mode = .configure then none else some .configure }, answer stOk)

/-- CFG_BEGIN; outside CONFIGURE it changes the mode (R257, R275). -/
def execCfgBegin (r : Req) (s : State) : Host.Outcome State Fault Refusal :=
  let body := owned r (cfgBeginBody r)
  .next (serve ccCfgBegin r (if s.mode = .configure then body else heldBody ccCfgBegin r body) s)

/-- Effect of CFG_BLOCK: the block in order; the fields that it completes are range-checked and clamped (R103, R258). -/
def cfgBlockBody (r : Req) (s : State) : State × Answer :=
  match s.gable.cand with
  | none => (s, answer stOutOfOrder)
  | some c =>
    let data := r.payload.drop 4
    if r.payload.length < 8 || 1012 < r.payload.length then (s, answer stBadLength)
    else if r.num 0 4 != c.data.length then (s, answer stOutOfOrder)
    else if c.totalLen < c.data.length + data.length then (s, answer stBadLength)
    else
      let d := c.data ++ data
      let cl := clampsOf (Config.image d)
      (setCand (some { c with data := d, clamps := cl }) s, answerOk (be 4 d.length ++ be 4 cl.length))

/-- CFG_BLOCK. -/
def execCfgBlock (r : Req) (s : State) : Host.Outcome State Fault Refusal :=
  .next (serve ccCfgBlock r (owned r (cfgBlockBody r)) s)

/-- A signed 64-bit number, most significant byte first. -/
def beInt (x : Int) : List Byte := be 8 (BitVec.ofInt 64 x).toNat

/-- The 24 bytes of a clamp report entry (R260). -/
def clampBytes (c : Clamp) : List Byte := be 8 c.path.toNat ++ beInt c.given ++ beInt c.used

/-- REPORT_DIGEST (R260). -/
def reportDigest (l : List Clamp) : BitVec 256 := shaNum (l.flatMap clampBytes)

/-- A page of the clamp report (Table 11.7). -/
def reportPage (c : Candidate) (page : Nat) : Answer :=
  let part := (c.clamps.drop (40 * page)).take 40
  { answerOk (be 4 c.clamps.length ++ be 32 c.digest.toNat ++ be 4 page ++ be 4 part.length ++ part.flatMap clampBytes) with
    more := decide (40 * (page + 1) < c.clamps.length) }

/-- Refuse the candidate and discard it (R259). -/
def refuseCand (st : Byte) (payload : List Byte) (s : State) : State × Answer :=
  (setCand none s, { answer st with payload := payload })

/-- CFG_END with PAGE 0: the checks of R259 in order. -/
def closeCand (c : Candidate) (s : State) : State × Answer :=
  let img := Config.image c.data
  if c.data.length != c.totalLen || crc32 c.data != c.totalCrc then refuseCand stIncomplete [] s
  else if img.ridgeDigest != img.thatchDigest then refuseCand stImageDigestMismatch [] s
  else if 4096 < c.clamps.length then refuseCand stStructure (be 8 0 ++ be 4 4) s
  else
    match structureFault img with
    | some (path, reason) => refuseCand stStructure (be 8 path.toNat ++ be 4 reason) s
    | none =>
      let d := { c with ended := true, digest := reportDigest c.clamps, endedAt := s.tb.count }
      (setCand (some d) s, reportPage d 0)

/-- Effect of CFG_END: PAGE above 0 only returns that page of an ended candidate's report. -/
def cfgEndBody (r : Req) (s : State) : State × Answer :=
  let page := r.num 0 4
  if r.payload.length != 4 then (s, answer stBadLength)
  else
    match s.gable.cand with
    | none => (s, answer stIncomplete)
    | some c =>
      if page = 0 then (if c.ended then (s, reportPage c 0) else closeCand c s)
      else if !c.ended || c.clamps.length ≤ 40 * page then (s, answer stBadParameter)
      else (s, reportPage c page)

/-- CFG_END. -/
def execCfgEnd (r : Req) (s : State) : Host.Outcome State Fault Refusal :=
  .next (serve ccCfgEnd r (owned r (cfgEndBody r)) s)

/-- Effect of CFG_ACCEPT_CLAMPS (R261). -/
def acceptBody (r : Req) (s : State) : State × Answer :=
  if r.payload.length != 32 then (s, answer stBadLength)
  else
    match s.gable.cand with
    | none => (s, answer stReportMismatch)
    | some c =>
      if !c.ended then (s, answer stReportMismatch)
      else if c.clamps.isEmpty then (s, answer stOk)
      else if r.num 0 32 != c.digest.toNat then (s, answer stReportMismatch)
      else (setCand (some { c with accepted := true }) s, answer stOk)

/-- CFG_ACCEPT_CLAMPS. -/
def execCfgAcceptClamps (r : Req) (s : State) : Host.Outcome State Fault Refusal :=
  .next (serve ccCfgAcceptClamps r (owned r (acceptBody r)) s)

/-- Is a VERIFY run going on or about to start? -/
def verifyBusy (s : State) : Bool :=
  s.mode == .verify || s.want == some .verify ||
    (match s.gable.verify with
     | some v => v.state == 0
     | none => false)

/-- Effect of VERIFY_START: VERIFY at the next boundary, where the candidate is loaded and its run of DURATION begins (R262). -/
def verifyStartBody (r : Req) (s : State) : State × Answer :=
  let ms := r.num 0 4
  if r.payload.length != 4 then (s, answer stBadLength)
  else if ms < 1000 || 600000 < ms then (s, answer stBadParameter)
  else if verifyBusy s then (s, answer stBusy)
  else
    match s.gable.cand with
    | none => (s, answer stIncomplete)
    | some c =>
      if !c.ended then (s, answer stIncomplete)
      else if overtaken s then (s, answer stWrongMode)
      else
        let run : VerifyRun :=
          { state := 0, afterAccept := c.accepted, lost := false, vectors := 0, startTick := s.tick.count, ticks := 0
            dur := BitVec.ofNat 64 (ms * tMs), ends := 0, entries := [] }
        ({ s with gable := { s.gable with verify := some run }, want := some .verify }, answer stOk)

/-- VERIFY_START, which changes the mode (R262, R275). -/
def execVerifyStart (r : Req) (s : State) : Host.Outcome State Fault Refusal :=
  .next (serve ccVerifyStart r (heldBody ccVerifyStart r (owned r (verifyStartBody r))) s)

/-- DURATION is over: the run passes, and the module returns to CONFIGURE at the next boundary (R262). -/
def execVerifyRunEnd (s : State) : Host.Outcome State Fault Refusal :=
  match s.gable.verify with
  | some v =>
    if s.mode = .verify && v.state = 0 && due s v.ends.toNat then
      .next { s with gable := { s.gable with verify := some { v with state := 1 } }, want := some .configure }
    else .next s
  | none => .next s

/-- An entry of the VERIFY report (Table 11.7). -/
def verifyEntryBytes (e : VerifyEntry) : List Byte :=
  be 2 e.code.toNat ++ be 2 e.inst.toNat ++ be 4 e.first.toNat ++ be 4 e.count.toNat

/-- The head of the report, with a digest and a page of entries (Table 11.7). -/
def verifyHead (v : VerifyRun) (digest : Nat) (n : Nat) : List Byte :=
  be 1 v.state.toNat ++ be 1 (bit v.afterAccept 1 + bit v.lost 0) ++ be 2 v.vectors.toNat ++ be 4 v.ticks.toNat
    ++ be 32 digest ++ be 4 v.entries.length ++ be 4 n

/-- VERIFY_DIGEST: SHA-256 over the report from byte 0 with the digest field zero, and over every entry (R262). -/
def verifyDigest (v : VerifyRun) : BitVec 256 :=
  shaNum (verifyHead v 0 (min 80 v.entries.length) ++ v.entries.flatMap verifyEntryBytes)

/-- VERIFY_REPORT: a page of up to 80 entries; STATE 3 without a report. -/
def verifyReportBody (r : Req) (s : State) : State × Answer :=
  let page := r.num 0 4
  if r.payload.length != 4 then (s, answer stBadLength)
  else
    match s.gable.verify with
    | none => if page = 0 then (s, answerOk (be 1 3 ++ List.replicate 47 0)) else (s, answer stBadParameter)
    | some v =>
      if page != 0 && v.entries.length ≤ 80 * page then (s, answer stBadParameter)
      else
        let part := (v.entries.drop (80 * page)).take 80
        (s, { answerOk (verifyHead v (verifyDigest v).toNat part.length ++ part.flatMap verifyEntryBytes) with
              more := decide (80 * (page + 1) < v.entries.length) })

/-- VERIFY_REPORT. -/
def execVerifyReport (r : Req) (s : State) : Host.Outcome State Fault Refusal :=
  .next (serve ccVerifyReport r (owned r (verifyReportBody r)) s)

/-! ## COMMIT (R263, R264) -/

/-- One more than the highest valid generation of two banks (R264). -/
def nextGen (a b : Bank) : Nat :=
  1 + max (if a.validGen then a.gen.toNat else 0) (if b.validGen then b.gen.toNat else 0)

/-- ARG of the entries of COMMIT and FW_ACTIVATE: generation, bank, CRC (log entry 35). -/
def commitArg (g : Nat) (bankB : Bool) (crc : W32) : List Byte := be 4 g ++ be 1 (if bankB then 1 else 0) ++ be 4 crc.toNat

/-- A pending (1) or done (2) entry (Table 11.9). -/
def commitEntry (code : BitVec 16) (r : Req) (kind : Nat) (before after arg : List Byte) (s : State) : State :=
  logWrite { level := (sessionOf r.port s).level.toNat, source := portSource r.port, code := code, kind := kind, status := 0,
             before := before, after := after, arg := arg } s

/-- A bank as steps 1 to 4 of Table 11.9 leave it: image, GEN and GEN_N programmed, BOOTED erased. -/
def committedBank (g : Nat) (crc : W32) (img : List Byte) : Bank :=
  { gen := BitVec.ofNat 32 g, genN := ~~~(BitVec.ofNat 32 g), booted := 0xFFFFFFFF, crc := crc, image := img }

/-- A restart is due 1 s after the response was posted, unless RSP_ACK makes it earlier (R264, R283). -/
def restartDue (k : RestartKind) (p : Port) (s : State) : State :=
  { s with restart := some { kind := k, port := p, due := s.tb.count + BitVec.ofNat 64 tSec } }

/-- A bank as the first `k` steps of Table 11.9 leave it: erased, with the image, with GEN of a torn pair, or whole (log entry 20). -/
def bankAfter (k g : Nat) (crc : W32) (img : List Byte) : Bank :=
  if k = 0 then Bank.erased
  else if k < 3 then { Bank.erased with crc := crc, image := img }
  else if k = 3 then { Bank.erased with gen := BitVec.ofNat 32 g, crc := crc, image := img }
  else committedBank g crc img

/-- The flash steps of Table 11.9 as far as the `k`-th: the pending entry, the bank, the done entry. -/
def flashSteps (code : BitVec 16) (r : Req) (k : Nat) (before after arg : List Byte) (bank : State → State) (s : State) : State :=
  let t1 := bank (if 3 ≤ k then commitEntry code r 1 before after arg s else s)
  if 5 ≤ k then commitEntry code r 2 before after arg t1 else t1

/-- The inactive configuration bank with a new content. -/
def setCfgInactive (b : Bank) (s : State) : State :=
  { s with flash := if s.active.valid && !s.active.bankB then { s.flash with cfgB := b } else { s.flash with cfgA := b } }

/-- Steps 1 to 5 of a COMMIT of candidate `c` as they go (Table 11.9): to the end, to a read-back that fails twice, or cut without a
response. -/
def commitSteps (r : Req) (run : FlashRun) (c : Candidate) (s : State) : State × Answer :=
  let bankB := s.active.valid && !s.active.bankB
  let g := nextGen s.flash.cfgA s.flash.cfgB
  let before := if s.active.valid then digest8 (activeBytes s) else []
  let arg := commitArg g bankB c.totalCrc
  let steps (k : Nat) : State :=
    flashSteps ccCommit r k before (digest8 c.data) arg (setCfgInactive (bankAfter k g c.totalCrc c.data)) s
  match run with
  | .failed => (s, answer stFlashFail)
  | .cut k => (dequeue ccCommit r (steps k.val), answerLater)
  | .done => (restartDue .commit r.port (steps 5), { answerOk (be 4 g ++ be 1 (if bankB then 1 else 0)) with wrote := true })

/-- The status that refuses a COMMIT, in the order of R263. -/
def commitRefusal (r : Req) (s : State) : Option Byte :=
  match s.gable.cand with
  | none => some stNotVerified
  | some c =>
    if !c.ended then some stNotVerified
    else if !c.clamps.isEmpty && !c.accepted then some stClampsNotAccepted
    else
      match s.gable.verify with
      | none => some stNotVerified
      | some v =>
        if v.state = 0 || v.state = 3 then some stNotVerified
        else if !c.clamps.isEmpty && !v.afterAccept then some stNotVerified
        else if v.state = 2 then some stVerifyFailed
        else if r.num 0 4 != c.totalCrc.toNat || r.num 4 32 != (verifyDigest v).toNat then some stReportMismatch
        else none

/-- Effect of COMMIT. -/
def commitBody (r : Req) (run : FlashRun) (s : State) : State × Answer :=
  if r.payload.length != 36 then (s, answer stBadLength)
  else
    match commitRefusal r s, s.gable.cand with
    | some st, _ => (s, answer st)
    | none, none => (s, answer stNotVerified)
    | none, some c => commitSteps r run c s

/-- COMMIT. -/
def execCommit (r : Req) (run : FlashRun) (s : State) : Host.Outcome State Fault Refusal :=
  .next (serve ccCommit r (owned r (commitBody r run)) s)

/-- Step 6 of COMMIT: the new configuration is loaded, and the module restarts into SELFTEST (R22, R264, R306). -/
def commitRestart (s : State) : State :=
  let t := loadConfig { s with restart := none }
  selftestAgain (sealCheck { t with tick := { t.tick with sel := tickSelOf t } })

/-- Step 6 of FW_ACTIVATE: restart into BOOT, cause 2 (R266, R277); BOOT_COMPLETE then runs the further steps. -/
def fwRestart (s : State) : State := bootStep1 2 s.fa.almOpen s

/-- COMMIT_RESTART: 100 ms after RSP_ACK, or 1 s after the response (R264). -/
def execCommitRestart (s : State) : Host.Outcome State Fault Refusal :=
  match s.restart with
  | some x =>
    if due s x.due.toNat && s.pwr.shutdown.isNone && !tableStill s then
      match x.kind with
      | .commit => .next (commitRestart s)
      | .fwActivate => .next (fwRestart s)
      | .lockout => .next s
    else .next s
  | none => .next s

/-! ## Firmware update (R266, R267) -/

/-- The inactive firmware bank with its image replaced, its generation erased. -/
def setFwInactive (b : Bank) (s : State) : State :=
  { s with flash := if s.gable.fwActive then { s.flash with fwA := b } else { s.flash with fwB := b } }

/-- Effect of FW_UPDATE_BLOCK: in order; the block at OFFSET 0 erases the bank and carries the header (R258, R266). The attempts counted for
a bank that fell back end when it is written again (R267). -/
def fwBlockBody (r : Req) (flashOk : Bool) (s : State) : State × Answer :=
  let data := r.payload.drop 4
  let have_ := s.gable.fwData
  let d := have_ ++ data
  if r.payload.length < 8 || 1012 < r.payload.length then (s, answer stBadLength)
  else if r.num 0 4 != have_.length then (s, answer stOutOfOrder)
  else if d.length < 32 || fwLength d < d.length then (s, answer stBadLength)
  else if !flashOk then (s, answer stFlashFail)
  else
    let old := (if s.gable.fwActive then s.flash.fwA else s.flash.fwB).image
    let failed := match (chooseFw0 s).1 with
      | some x => x.1 != s.gable.fwActive
      | none => false
    let t := setFwInactive { Bank.erased with image := d } s
    ({ t with gable := { t.gable with fwData := d }, bk := if failed then { t.bk with fwAttempts := 0 } else t.bk },
      { answerOk (be 4 d.length) with before := digest8 old, after := digest8 d })

/-- FW_UPDATE_BLOCK. -/
def execFwUpdateBlock (r : Req) (flashOk : Bool) (s : State) : Host.Outcome State Fault Refusal :=
  .next (serve ccFwUpdateBlock r (fwBlockBody r flashOk) s)

/-- Steps 2 to 5 of Table 11.9 on the firmware banks as they go, the image being in the bank already (R266); with its generation in place
the bank has its three attempts before it (R267; log entry 49). -/
def activateSteps (r : Req) (run : FlashRun) (s : State) : State × Answer :=
  let d := s.gable.fwData
  let crc := fwCrc d
  let g := nextGen s.flash.fwA s.flash.fwB
  let bankB := !s.gable.fwActive
  let cur := (if s.gable.fwActive then s.flash.fwB else s.flash.fwA).image
  let arg := commitArg g bankB crc
  let fresh (k : Nat) (t : State) : State := if 4 ≤ k then { t with bk := { t.bk with fwAttempts := 0 } } else t
  let steps (k : Nat) : State := fresh k <|
    flashSteps ccFwActivate r k (digest8 cur) (digest8 d) arg (if k < 3 then id else setFwInactive (bankAfter k g crc d)) s
  match run with
  | .failed => (s, answer stFlashFail)
  | .cut k => (dequeue ccFwActivate r (steps k.val), answerLater)
  | .done =>
    let t := steps 5
    (restartDue .fwActivate r.port t,
      { answerOk (be 4 g ++ be 1 (if bankB then 1 else 0)) with wrote := true })

/-- Effect of FW_ACTIVATE: the checks of R266, then the steps. -/
def fwActivateBody (r : Req) (run : FlashRun) (s : State) : State × Answer :=
  let d := s.gable.fwData
  if r.payload.length != 4 then (s, answer stBadLength)
  else if d.length < 32 || d.length != fwLength d || beAt d 12 4 != r.num 0 4 || (fwCrc d).toNat != r.num 0 4 then
    (s, answer stFwImageBad)
  else if s.active.valid && beAt d 0 2 != s.active.image.fwClass && !r.confirm then (s, answer stFwIncompatible)
  else activateSteps r run s

/-- FW_ACTIVATE. -/
def execFwActivate (r : Req) (run : FlashRun) (s : State) : Host.Outcome State Fault Refusal :=
  .next (serve ccFwActivate r (fwActivateBody r run) s)

end Sys2Proof.Machine
end

