-- ==== Sys2Proof/Machine/SlateCmd.lean ====
section
/-! DEFINITION. The Slate commands and its ten-minute re-check (R293, R298 to R304, R306, R309). -/

namespace Sys2Proof.Machine

/-- SLATE_READ: words of the shadow of a region, then their WEAK flags (Table 11.7). -/
def slateReadBody (r : Req) (s : State) : State × Answer :=
  let reg := r.num 0 1
  let first := r.num 2 2
  let n := r.num 4 4
  let rw := regionWords reg
  if r.payload.length != 8 then (s, answer stBadLength)
  else if 4 < reg || r.num 1 1 != 0 || n < 1 || 120 < n || rw.2 < first + n then (s, answer stBadParameter)
  else
    let at_ (w : SlateWord) (k : Nat) : List Byte := be 4 (fld w (32 * (rw.1 + first + k)) 32)
    (s, answerOk (be 4 n ++ (List.range n).flatMap (at_ (shadowOf s)) ++ (List.range n).flatMap (at_ s.slate.weak)))

/-- SLATE_READ. -/
def execSlateRead (r : Req) (s : State) : Host.Outcome State Fault Refusal :=
  .next (serve ccSlateRead r (slateReadBody r) s)

/-- The LIFE group of a bit, 0 to 3 (Table 13.1). -/
def groupOf (b : Nat) : Nat := (b - 1536) / 8

/-- Is a LIFE group partly set? -/
def partlySet (w : SlateWord) (k : Nat) : Bool := fld w (1536 + 8 * k) 8 != 0 && fld w (1536 + 8 * k) 8 != 255

/-- May the bit be programmed in this life state (Table 13.2)? A bit of a group of LIFE that is partly set always may (R299). `w` is a live
read. -/
def lifeAllows (w : SlateWord) (b : Nat) : Bool :=
  (regionOf b == 2 && partlySet w (groupOf b)) || (match lifeState w, regionOf b with
  | 1, 0 => true
  | 1, 1 => true
  | 1, 2 => groupOf b < 2
  | 2, 2 => 2 ≤ groupOf b
  | 3, 2 => groupOf b == 3
  | 2, 3 => true
  | 3, 3 => true
  | 2, 4 => true
  | 3, 4 => true
  | _, _ => false)

/-- Does a lock stop the programming of the bit (R303)? -/
def lockStops (w : SlateWord) (b : Nat) : Bool :=
  (regionOf b < 5 && regionLock w (regionOf b)) || (1600 ≤ b && b < 3648 && slotLock w ((b - 1600) / 256))

/-- Is the bit a lock bit, which SLATE_LOCK alone programs (R304)? -/
def lockBit (b : Nat) : Bool := (3648 ≤ b && b < 3656) || (8184 ≤ b && b < 8189)

/-- Does a bit read 1 on both copies at all three references (R301)? -/
def alreadySet (s : State) (b : Nat) : Bool := s.slate.cells.toList.all (fun w => w.getLsbD b)

/-- A refresh (R302): shadow 1, and WEAK or read as 1 at normal but not at tight-high reference. -/
def isRefresh (s : State) (b : Nat) : Bool :=
  let c := s.slate.cells
  (shadowOf s).getLsbD b && (s.slate.weak.getLsbD b
    || ((slateValue c).getLsbD b && !((cellRead c 0 1).getLsbD b && (cellRead c 1 1).getLsbD b)))

/-- The refusal of a programming, from a live read (R298 to R304, R306). RETIRED refuses a refresh, and completes a partly set group. A bit
that is set already drives no pulse, so that no life state stands against it, nor a lock where its shadow is 1 (R301, R302; log entry
177). -/
def programRefusal (r : Req) (b : Nat) (s : State) : Option Byte :=
  let w := slateValue s.slate.cells
  if reservedBit b || (lifeState w = 4 && isRefresh s b && !lifeAllows w b) then some stSlateDenied
  else if isRefresh s b || ((shadowOf s).getLsbD b && alreadySet s b) then none
  else if regionOf b = 2 && !r.confirm then some stBadParameter
  else if lockStops w b then some stSlateDenied
  else if alreadySet s b then none
  else if lockBit b || !lifeAllows w b then some stSlateDenied
  else if b = 3688 && !anchored w s then some stSlateDenied
  else none

/-- The round whose margin verify passes, 0 for none: the first where both copies read 1 at tight-high already (R301). -/
def passOf (b : Nat) (p : SlatePulse) (s : State) : Nat :=
  if verifies s.slate.cells b then 1 else if p.passRound ≤ 4 then p.passRound else 0

/-- The cells and the Slate registers after rounds of pulses on a bit; `pass` 0: the margin verify failed four times (R301, Table 13.5). -/
def programCells (b pass : Nat) (s : State) : State :=
  let ok := pass != 0
  let cells := if ok then cellsProgrammed s.slate.cells b else cellsFailed s.slate.cells b (Config.failedCell s.free)
  let both := if ok then setBit s.slate.both b false else s.slate.both
  let t := { s with
    free := if ok then s.free else s.free + 1
    slate := { s.slate with cells := cells, both := both }
    ev := { s.ev with slate := setBit (setBit s.ev.slate 0 true) 4 (!ok || s.ev.slate.getLsbD 4) } }
  let u := if ok then t else slateEvent 4 b t
  if ok && both == 0 then clearFault fcSlateWeak 0 u else u

/-- A pulse that a reset or a loss of L+ cuts: the cells are left weak, the command ends without a response and without an entry (R311,
Table 13.4). -/
def cutPulse (code : BitVec 16) (r : Req) (b : Nat) (s : State) : State × Answer :=
  (dequeue code r { s with
    free := s.free + 1
    slate := { s.slate with cells := cellsCut s.slate.cells b (Config.failedCell s.free) } }, answerLater)

/-- SLATE_PROG after SLATE_PROGRAM_BIT: result, rounds, bit (Table 13.5). -/
def setProg (result rounds b : Nat) (s : State) : State :=
  { s with slate := { s.slate with prog := BitVec.ofNat 32 (result * 2 ^ 30 + rounds * 2 ^ 24 + b) } }

/-- Effect of SLATE_PROGRAM_BIT (R300 to R302). -/
def programBody (r : Req) (p : SlatePulse) (x : State) : State × Answer :=
  let s := vppCheck p.vppMv x
  let b := r.num 0 2
  let width := r.num 2 1
  if r.payload.length != 4 then (x, answer stBadLength)
  else if 8191 < b || width < 10 || 50 < width || r.num 3 1 != 0 then (x, answer stBadParameter)
  else
    let reg := regionOf b
    let before := digest8 (regionBytes (slateValue s.slate.cells) reg)
    let a := { answer stOk with before := before, after := before, arg := be 2 b ++ be 1 0 }
    match programRefusal r b s with
    | some st => (s, { a with st := st })
    | none =>
      if alreadySet s b then
        (setProg 2 0 b { s with ev := { s.ev with slate := setBit s.ev.slate 0 true } },
          { a with payload := [0, 1, 0, 0] })
      else if p.cut then cutPulse ccSlateProgramBit r b s
      else
        let pass := passOf b p s
        let n := if pass = 0 then 4 else pass
        let t := setProg (if pass = 0 then 3 else 1) n b (programCells b pass s)
        (t, { a with
          st := if pass = 0 then stSlateBitFailed else stOk, payload := [BitVec.ofNat 8 n, 0, 0, 0],
          after := digest8 (regionBytes (slateValue t.slate.cells) reg), arg := be 2 b ++ be 1 n })

/-- SLATE_PROGRAM_BIT. -/
def execSlateProgramBit (r : Req) (pulse : SlatePulse) (s : State) : Host.Outcome State Fault Refusal :=
  .next (serve ccSlateProgramBit r (programBody r pulse) s)

/-- Regions whose bits the life state lets a command program, their locks among them (Table 13.2; log entry 178). -/
def lockRegion (life reg : Nat) : Bool :=
  match life with
  | 1 => reg < 3
  | 2 => reg == 3 || reg == 4
  | 3 => reg == 3 || reg == 4
  | _ => false

/-- The conditions of Table 13.3 for a lock; a slot lock lies in the ANCHOR region. -/
def lockAllowed (reg slot : Nat) (s : State) : Bool :=
  let w := slateValue s.slate.cells
  if !lockRegion (lifeState w) reg then false
  else if slot != 0xFF then slotOk w slot && !regionLock w 3
  else if reg = 3 then
    (List.range 8).all (fun k => (slotOk w k && slotLock w k) || (slotBytes w k).all (fun x => x == 0))
      && (!sealRequired w || (newestSlot w).isSome)
  else if reg = 4 then
    popCount (BitVec.ofNat 4 (fld w 3680 4)) ≤ 1 && popCount (BitVec.ofNat 2 (fld w 3684 2)) ≤ 1
      && (!sealRequired w || anchored w s)
  else true

/-- Effect of SLATE_LOCK (R300, R301, R304). -/
def slateLockBody (r : Req) (p : SlatePulse) (x : State) : State × Answer :=
  let s := vppCheck p.vppMv x
  let reg := r.num 0 1
  let slot := r.num 1 1
  if r.payload.length != 4 then (x, answer stBadLength)
  else if 4 < reg || r.num 2 2 != 0 || (slot != 0xFF && (7 < slot || reg != 3)) then (x, answer stBadParameter)
  else
    let b := if slot = 0xFF then 8184 + reg else 3648 + slot
    let before := digest8 (regionBytes (slateValue s.slate.cells) reg)
    let a := { answer stOk with before := before, after := before }
    if !lockAllowed reg slot s then (s, { a with st := stSlateDenied })
    else if alreadySet s b then ({ s with ev := { s.ev with slate := setBit s.ev.slate 0 true } }, a)
    else if p.cut then cutPulse ccSlateLock r b s
    else
      let pass := passOf b p s
      let t := programCells b pass s
      (t, { a with st := if pass = 0 then stSlateBitFailed else stOk,
                   after := digest8 (regionBytes (slateValue t.slate.cells) reg) })

/-- SLATE_LOCK. -/
def execSlateLock (r : Req) (pulse : SlatePulse) (s : State) : Host.Outcome State Fault Refusal :=
  .next (serve ccSlateLock r (slateLockBody r pulse) s)

/-- The first logical bit at which two sets of readings differ. -/
def firstDrift (a b : Vector (BitVec 8192) 6) : Option Nat :=
  (List.range 8192).find? (fun k => (List.range 6).any (fun j => (vget a j 0).getLsbD k != (vget b j 0).getLsbD k))

/-- W reads every cell again: a cell that reads otherwise than at BOOT raises SLATE_DRIFT, which clears after a re-check in
which every cell reads as it did (R309). -/
def execSlateRecheck (cells : Vector (BitVec 8192) 6) (dieTemp : Int) (s : State) : Host.Outcome State Fault Refusal :=
  if !s.w.up || !s.slate.readDone then .next s
  else
    let t := { s with slate := { s.slate with cells := cells } }
    match firstDrift s.slate.bootCells cells with
    | none => .next (clearFault fcSlateDrift 0 t)
    | some b =>
      let temp := (BitVec.ofInt 16 dieTemp).toNat
      let u := { t with
        slate := { t.slate with drift := BitVec.ofNat 32 (temp * 65536 + b) }
        ev := if hasFault t fcSlateDrift 0 then t.ev else { t.ev with slate := setBit t.ev.slate 3 true } }
      .next (raise fcSlateDrift 0 u)

end Sys2Proof.Machine
end

