-- ==== Sys2Proof/Machine/Timers.lean ====
section
/-! DEFINITION. Timebase reads and the timer unit (R34 to R43, Tables 2.6 to 2.12). -/

namespace Sys2Proof.Machine

/-- The word that the last host read returned (log entry 24). -/
def setData (w : W32) (s : State) : State := { s with host := { s.host with data := w } }

/-! ## The timebase (R35) -/

/-- Timebase [31:0]. -/
def tbLo (s : State) : W32 := BitVec.ofNat 32 s.tb.count.toNat

/-- Timebase [63:32]. -/
def tbHi (s : State) : W32 := BitVec.ofNat 32 (s.tb.count.toNat / 2 ^ 32)

/-- A read of TB_LO through the SPI port captures [63:32] into its shadow. -/
def readTbLo (s : State) : W32 × State := (tbLo s, { s with tb := { s.tb with shadow := some (tbHi s) } })

/-- A read of TB_HI returns and empties the shadow, or is live and sets TB_TORN_RISK. -/
def readTbHi (s : State) : W32 × State :=
  match s.tb.shadow with
  | some w => (w, { s with tb := { s.tb with shadow := none } })
  | none => (tbHi s, { s with tb := { s.tb with torn := true } })

/-- The SPI port answers: AO out of reset (R281). -/
def portUp (s : State) : Bool := s.pwr.aoOn && !s.resetHeld

/-- A host read: the word read stands in `host.data`. -/
def hostRead (f : State → W32 × State) (s : State) : State :=
  if portUp s then
    let x := f s
    setData x.1 x.2
  else s

/-- The port of an engine; the SPI port has none of these. -/
def tbPortNo (who : TbReader) : Option (Fin 8) :=
  match who with
  | .spi => none
  | .ridgeA => some 0
  | .ridgeB => some 1
  | .gable => some 2
  | .n0 => some 3
  | .n1 => some 4
  | .m0 => some 5
  | .m1 => some 6
  | .w => some 7

/-- A read by an engine through its own port, which disturbs no other reader's shadow (R35): the low word with a capture, or
the shadow, once, and after that the live high word. -/
def portRead (high : Bool) (k : Fin 8) (s : State) : State :=
  let p := s.tb.ports[k]
  let q : TbPort := if high then { shadow := none, data := p.shadow.getD (tbHi s) } else { shadow := some (tbHi s), data := tbLo s }
  if s.pwr.aoOn then { s with tb := { s.tb with ports := s.tb.ports.set k.val q k.isLt } } else s

/-- A read of the timebase by the host or by an engine (R35). -/
def tbRead (high : Bool) (who : TbReader) (s : State) : State :=
  match tbPortNo who with
  | some k => portRead high k s
  | none => hostRead (if high then readTbHi else readTbLo) s

/-- TB_LO_READ. -/
def execTbLoRead (s : State) (who : TbReader := .spi) : Host.Outcome State Fault Refusal := .next (tbRead false who s)

/-- TB_HI_READ. -/
def execTbHiRead (s : State) (who : TbReader := .spi) : Host.Outcome State Fault Refusal := .next (tbRead true who s)

/-! ## Timer channels -/

/-- SRC of TMUn_CTRL (Table 2.11). -/
def TmuCh.src (c : TmuCh) : Nat := fld c.ctrl 24 4

/-- EN. -/
def TmuCh.en (c : TmuCh) : Bool := c.ctrl.getLsbD 31

/-- MAXPOL is STICK. -/
def TmuCh.stick (c : TmuCh) : Bool := c.ctrl.getLsbD 22

/-- The channel counts the overflows of the one below it (R38). -/
def TmuCh.chained (c : TmuCh) : Bool := c.src == 8

/-- Channel by number. -/
def tmuAt (s : State) (n : Nat) : TmuCh := vget s.tmu.ch n TmuCh.reset

/-- Change a channel by number. -/
def tmuUpd (n : Nat) (f : TmuCh → TmuCh) (s : State) : State :=
  { s with tmu := { s.tmu with ch := vmod s.tmu.ch n f } }

/-- Does channel `n` feed a chain (R38)? -/
def feeds (s : State) (n : Nat) : Bool := n < 31 && (tmuAt s (n + 1)).chained

/-- Does the channel pass 0xFFFF_FFFF only by wrapping? A channel that feeds a chain always wraps (R38, R39). -/
def sticks (s : State) (n : Nat) : Bool := (tmuAt s n).stick && !feeds s n

/-- A match (R40, R42): CMP sets and the channel is disarmed, unless the advance re-arms it. -/
def tmuFire (n : Nat) (s : State) : State :=
  let c := tmuAt s n
  let again := c.ctrl.getLsbD 20 && c.adv != 0
  let t := tmuUpd n (fun x => { x with
    cmpF := true, fire := false, armed := again, cmp := if again then x.cmp + x.adv else x.cmp }) s
  if c.ctrl.getLsbD 18 then irqSet 3 t else t

/-- Judge a compare value V against the count N (R40). Once set, CMP_LATE stands until TMUn_STAT is read, also after a compare
write that lies ahead; a channel that feeds a chain always wraps (R38), so it is judged as one with MAXPOL = WRAP (DESIGN CHOICE,
log entry 140). -/
def tmuJudge (n : Nat) (v cnt : W32) (s : State) : State :=
  let d := (v - cnt).toNat
  let stk := sticks s n
  let ahead := 1 ≤ d && d < 2 ^ 31 && !(stk && decide (v.toNat < cnt.toNat))
  let wrapPol := (tmuAt s n).ctrl.getLsbD 21 && !stk
  tmuUpd n (fun x => { x with
    armed := ahead || wrapPol, fire := !ahead && !wrapPol, late := x.late || !ahead }) s

/-- Channels above `n` in its chain, up to the top; the first argument bounds the walk. -/
def chainAbove (fuel : Nat) (s : State) (n : Nat) : List Nat :=
  match fuel with
  | 0 => []
  | k + 1 => if feeds s n then (n + 1) :: chainAbove k s (n + 1) else []

/-- The top channel of a chain holds under STICK: every channel of the chain stands at its largest value (R39). -/
def chainHolds (s : State) (n : Nat) : Bool :=
  let up := chainAbove 32 s n
  let top := up.getLastD n
  (tmuAt s top).stick && (n :: up).all (fun k => (tmuAt s k).count == 0xFFFFFFFF)

/-- Move the counter to a value, and fire where it is an armed compare value. -/
def tmuMove (n : Nat) (w : W32) (s : State) : State :=
  let t := tmuUpd n (fun x => { x with count := w }) s
  if (tmuAt s n).armed && w == (tmuAt s n).cmp then tmuFire n t else t

/-- Step channel `n` by one (R38, R39): hold, wrap with OVF into the chained channel above, or advance. A chained channel with
EN = 0 does not take the overflow; at its largest value it holds the chain under STICK all the same (DESIGN CHOICE, log entry
141). -/
def tmuStepBy (fuel n : Nat) (s : State) : State :=
  match fuel with
  | 0 => s
  | k + 1 =>
    let c := tmuAt s n
    if c.count != 0xFFFFFFFF then tmuMove n (c.count + 1) s
    else if chainHolds s n then tmuUpd ((chainAbove 32 s n).getLastD n) (fun x => { x with sat := true }) s
    else if sticks s n then tmuUpd n (fun x => { x with sat := true }) s
    else
      let t := tmuMove n 0 (tmuUpd n (fun x => { x with ovf := true }) s)
      let u := if c.ctrl.getLsbD 19 then irqSet 3 t else t
      if feeds s n && (tmuAt s (n + 1)).en then tmuStepBy k (n + 1) u else u

/-- The length of an output step that begins with this accumulator: N input cycles, and one more where adding F will carry (R37). -/
def prescLen (presc : W32) (acc : BitVec 8) : Nat := fld presc 16 16 + (acc.toNat + fld presc 0 8) / 256

/-- The prescaler's output step: F is added to the accumulator; a carry past 255 has lengthened this step (R37). -/
def tmuPresc (n : Nat) (s : State) : State :=
  tmuUpd n (fun x =>
    let a := x.acc + BitVec.ofNat 8 (fld x.presc 0 8)
    { x with acc := a, stepLen := prescLen x.presc a }) s

/-- Is the channel's source a land TIN0 to TIN3, and does it count on falling edges (Table 2.11)? -/
def TmuCh.tin (c : TmuCh) : Bool := 4 ≤ c.src && c.src ≤ 7

/-- TIN_EDGE is falling. -/
def TmuCh.falling (c : TmuCh) : Bool := c.ctrl.getLsbD 23

/-- Sources that the timebase clock carries along: itself, the crystal it is multiplied from, and the RTC; the Thatch oscillator
and the lands are independent of it (Table 2.11, Table 14.4). -/
def TmuCh.carried (c : TmuCh) : Bool := c.src == 0 || c.src == 1 || c.src == 3

/-- One output step of the prescaler: the counter steps, and the next step begins. -/
def tmuStep (n : Nat) (s : State) : State := tmuStepBy 32 n (tmuPresc n (tmuUpd n (fun x => { x with inCnt := 0 }) s))

/-- One input cycle of the source of a running channel that is not chained: the prescaler divides (R37). -/
def tmuInput (n : Nat) (s : State) : State :=
  let c := tmuAt s n
  if !s.pwr.aoOn || !c.en || c.chained then s
  else if c.stepLen ≤ c.inCnt + 1 then tmuStep n s
  else tmuUpd n (fun x => { x with inCnt := x.inCnt + 1 }) s

/-- An input cycle from outside the timebase: a cycle of the Thatch oscillator, or an edge of a land in the counting direction. -/
def tmuOuter (n : Nat) (falling : Bool) (s : State) : State :=
  let c := tmuAt s n
  if c.carried || (c.tin && c.falling != falling) then s else tmuInput n s

/-- TMU_COUNT_STEP: an input cycle of the channel's source, for a land an edge of this direction (R37; log entry 142). -/
def execTmuCountStep (n : Fin 32) (s : State) (falling : Bool := false) : Host.Outcome State Fault Refusal :=
  .next (tmuOuter n falling s)

/-- TMU_OVERFLOW: a counted input cycle of a counter at 0xFFFF_FFFF (R39). -/
def execTmuOverflow (n : Fin 32) (s : State) : Host.Outcome State Fault Refusal :=
  if (tmuAt s n).count = 0xFFFFFFFF then .next (tmuOuter n (tmuAt s n).falling s) else .next s

/-- TMU_MATCH: the input cycle that takes an armed counter to its compare value, or the firing of a late compare within one
timebase clock of its write (R40). -/
def execTmuMatch (n : Fin 32) (s : State) : Host.Outcome State Fault Refusal :=
  let c := tmuAt s n
  if c.fire && s.pwr.aoOn then .next (tmuFire n s)
  else if c.armed && c.count + 1 == c.cmp then .next (tmuOuter n c.falling s)
  else .next s

/-- Does a source that the timebase carries have a cycle in the clock that ends at this count: the timebase clock always, the
crystal at every fourth, the RTC where it has stepped (Table 2.11)? -/
def srcTicks (rtcStepped : Bool) (count : Nat) (c : TmuCh) : Bool :=
  match c.src with
  | 0 => true
  | 1 => count % 4 == 0
  | 3 => rtcStepped
  | _ => false

/-- One timebase clock of the timer unit: a late compare fires, and the channels whose source has a cycle take it (R37, R40). -/
def tmuClock (rtcStepped : Bool) (s : State) : State :=
  if s.tmu.ch.toList.all (fun c => !c.en && !c.fire) then s
  else (List.range 32).foldl (fun t n =>
    let u := if (tmuAt t n).fire then tmuFire n t else t
    if (tmuAt u n).en && srcTicks rtcStepped u.tb.count.toNat (tmuAt u n) then tmuInput n u else u) s

/-- A timebase clock without a command (R34, R41, R322; log entry 1): while AO runs the timebase, the timer unit and the RTC move
on, and without AO the RTC alone, as long as BK has power, and what is left of the 10 ms for which AO holds itself in reset (R318). -/
def clockTick (s : State) : State :=
  let b := rtcClock s.bk
  if s.pwr.aoOn then
    tmuClock (b.rtcSub != s.bk.rtcSub || b.rtcSec != s.bk.rtcSec)
      { s with tb := { s.tb with count := s.tb.count + 1 }, bk := b }
  else
    let h := { s with pwr := { s.pwr with aoHold := s.pwr.aoHold - 1 } }
    if s.pwr.domains.getLsbD 9 then { h with bk := b } else h

/-- A read of TMUn_COUNT: at the foot of a chain it captures the channels above, above it takes the shadow, or is live and
sets TORN (R38). -/
def readTmuCount (n : Nat) (s : State) : W32 × State :=
  let c := tmuAt s n
  if c.chained then
    match c.shadow with
    | some w => (w, tmuUpd n (fun x => { x with shadow := none }) s)
    | none => (c.count, tmuUpd n (fun x => { x with torn := true }) s)
  else
    (c.count, (chainAbove 32 s n).foldl (fun t k => tmuUpd k (fun x => { x with shadow := some x.count }) t) s)

/-- TMU_COUNT_READ. -/
def execTmuCountRead (n : Fin 32) (s : State) : Host.Outcome State Fault Refusal := .next (hostRead (readTmuCount n) s)

/-- May this writer write the channel: the host 0 to 27, Gable 28 to 31 (R36)? -/
def tmuWritable (who : Agent) (n : Nat) (s : State) : Bool :=
  match who with
  | .host => n < 28 && portUp s
  | .gable => 28 ≤ n && s.gableE.up

/-- Write TMUn_COUNT; an armed channel is judged again (R40). -/
def writeTmuCount (n : Nat) (v : W32) (s : State) : State :=
  let c := tmuAt s n
  let t := tmuUpd n (fun x => { x with count := v }) s
  if c.armed then tmuJudge n c.cmp v t else t

/-- Write TMUn_CMP (R40). -/
def writeTmuCmp (n : Nat) (v : W32) (s : State) : State :=
  tmuJudge n v (tmuAt s n).count (tmuUpd n (fun x => { x with cmp := v }) s)

/-- Write TMUn_CTRL: a reserved SRC, or CHAIN on TMU0, is refused with CFG_REJ (R38, Table 2.11). -/
def writeTmuCtrl (n : Nat) (v : W32) (s : State) : State :=
  let src := fld v 24 4
  if 8 < src || (src == 8 && n == 0) then tmuUpd n (fun x => { x with rej := true }) s
  else tmuUpd n (fun x => { x with ctrl := v &&& 0x8FFC0000 }) s

/-- Write TMUn_PRESC: N = 0 is stored as 1, and the accumulator clears (R37); the output step begins anew (DESIGN CHOICE, log entry 204). -/
def writeTmuPresc (n : Nat) (v : W32) (s : State) : State :=
  let w := v &&& 0xFFFF00FF
  let p := if fld w 16 16 = 0 then w ||| 0x00010000 else w
  tmuUpd n (fun x => { x with presc := p, acc := 0, stepLen := fld p 16 16, inCnt := 0 }) s

/-- Write TMUn_ADV. -/
def writeTmuAdv (n : Nat) (v : W32) (s : State) : State := tmuUpd n (fun x => { x with adv := v }) s

/-- TMU_COUNT_WRITE. -/
def execTmuCountWrite (who : Agent) (n : Fin 32) (v : W32) (s : State) : Host.Outcome State Fault Refusal :=
  .next (if tmuWritable who n s then writeTmuCount n v s else s)

/-- TMU_CMP_WRITE. -/
def execTmuCmpWrite (who : Agent) (n : Fin 32) (v : W32) (s : State) : Host.Outcome State Fault Refusal :=
  .next (if tmuWritable who n s then writeTmuCmp n v s else s)

/-- TMU_CTRL_WRITE. -/
def execTmuCtrlWrite (who : Agent) (n : Fin 32) (v : W32) (s : State) : Host.Outcome State Fault Refusal :=
  .next (if tmuWritable who n s then writeTmuCtrl n v s else s)

/-- TMU_PRESC_WRITE. -/
def execTmuPrescWrite (who : Agent) (n : Fin 32) (v : W32) (s : State) : Host.Outcome State Fault Refusal :=
  .next (if tmuWritable who n s then writeTmuPresc n v s else s)

/-- Channel FIRST + k of a stagger group of n (R43). The prescaler that it takes is that of FIRST as it stands in that clock, with
its accumulator and its running step, so that the group steps together (DESIGN CHOICE, log entry 143). -/
def staggerOne (first n k : Nat) (base : TmuCh) (per lead : W32) (s : State) : State :=
  let c := base.count
  let m := c + lead + BitVec.ofNat 32 (k * per.toNat / n)
  let ctrl := (setBit (setBit ((tmuAt s (first + k)).ctrl &&& 0xF0FFFFFF ||| (base.ctrl &&& 0x0F000000)) 20 true) 31 true)
  let t := tmuUpd (first + k) (fun x => { x with
    ctrl := ctrl, presc := base.presc, acc := base.acc, stepLen := base.stepLen, inCnt := base.inCnt, count := c, cmp := m, adv := per }) s
  tmuJudge (first + k) m c t

/-- Write TMU_STAGGER (R43, Table 2.12). -/
def writeTmuStagger (v : W32) (s : State) : State :=
  let first := fld v 8 5
  let n := fld v 0 5 + 1
  if !v.getLsbD 31 then s
  else if 27 < first + (n - 1) || s.tmu.per.toNat < n then tmuUpd first (fun x => { x with rej := true }) s
  else
    (List.range n).foldl (fun t k => staggerOne first n k (tmuAt s first) s.tmu.per s.tmu.lead t) s

/-- TMU_STAGGER. -/
def execTmuStagger (v : W32) (s : State) : Host.Outcome State Fault Refusal :=
  .next (if portUp s then writeTmuStagger v s else s)

/-- TMUn_STAT (Table 2.12). -/
def tmuStat (c : TmuCh) : W32 :=
  BitVec.ofNat 32 (bit c.armed 6 + bit c.rej 5 + bit c.torn 4 + bit c.sat 3 + bit c.late 2 + bit c.cmpF 1 + bit c.ovf 0)

/-- A read of TMUn_STAT clears its flags; ARMED is live (R336). -/
def clearTmuStat (n : Nat) (s : State) : State :=
  tmuUpd n (fun x => { x with rej := false, torn := false, sat := false, late := false, cmpF := false, ovf := false }) s

end Sys2Proof.Machine
end

