-- ==== Sys2Proof/Machine/Mailbox.lean ====
section
/-! DEFINITION. The mailbox transport of the two ports: doorbell, response and event acknowledges, USB transfers (R244 to R250). -/

namespace Sys2Proof.Machine

/-- MBX_DOORBELL.REQ = 1: taken, or ignored with OVERRUN (R246, Table 11.5). -/
def doorbellReq (s : State) : State :=
  if !portUp s then s
  else if !s.gable.up || s.gable.reqBusy || s.gable.rspReady then { s with gable := { s.gable with overrun := true } }
  else
    takeRequest .spi (memReadBytes s.mbx reqBase 1024)
      (touch .spi { s with gable := { s.gable with overrun := false, reqBusy := true } })

/-- MBX_DOORBELL.RSP_ACK = 1: RSP_READY clears; a restart that waits for the host comes 100 ms later (R246, R264, R283). -/
def doorbellAck (s : State) : State :=
  let t := { s with gable := { s.gable with rspReady := false } }
  if !portUp s then s
  else
    match s.restart with
    | some x =>
      if s.gable.rspReady && x.port == .spi then
        { t with restart := some { x with due := BitVec.ofNat 64 (min x.due.toNat (s.tb.count.toNat + 100 * tMs)) } }
      else t
    | none => t

/-- EVT_ACK_N: entries acknowledged; EVT_LOST clears, and its entry is written where entries had been dropped (R250). -/
def doorbellEvt (n : BitVec 8) (s : State) : State :=
  let k := min n.toNat s.gable.evtPending
  if k = 0 || !portUp s then s
  else
    let t := { s with gable := { s.gable with evtPending := s.gable.evtPending - k, evtLost := false } }
    if s.gable.up && !s.pwr.shedEvt then clearFault fcEvtLost 0 (flushLost t) else t

/-- MBX_REQUEST. -/
def execMbxRequest (s : State) : Host.Outcome State Fault Refusal := .next (doorbellReq s)

/-- MBX_RESPONSE_ACK. -/
def execMbxResponseAck (s : State) : Host.Outcome State Fault Refusal := .next (doorbellAck s)

/-- MBX_EVENT_ACK. -/
def execMbxEventAck (n : BitVec 8) (s : State) : Host.Outcome State Fault Refusal := .next (doorbellEvt n s)

/-- Has a request on USB no response yet? -/
def usbWaits (s : State) : Bool :=
  s.gable.queue.any (fun q => q.2.port == .usb) || s.gable.parked.any (fun q => q.1 == .usb)

/-- A transfer on bulk OUT; `prevRead`: the host has read every response so far. One that comes before that, or before the response
itself, is answered with BUSY, which is not kept (R244). -/
def execUsbRequest (msg : List Byte) (prevRead : Bool) (s : State) : Host.Outcome State Fault Refusal :=
  if !s.gable.usbAttached || !(s.gable.up || romServes s) then .next s
  else
    let t := touch .usb (if prevRead then { s with gable := { s.gable with usbRsp := [] } } else s)
    if t.gable.usbRsp.isEmpty && !usbWaits t then .next (takeRequest .usb msg t)
    else .next (replyOnly .usb (BitVec.ofNat 16 (beAt msg 0 2)) (BitVec.ofNat 16 (beAt msg 2 2)) stBusy t)

end Sys2Proof.Machine
end

