-- ==== Sys2Proof/Machine/Power.lean ====
section
/-! DEFINITION. Power, boot, reset and mode commands, temperature, regulators and engine supervision (R264 to R291, R314 to
R324). -/

namespace Sys2Proof.Machine

/-! ## Power-on and boot -/

/-- The 24 h maxima that a snapshot holds. -/
def snapPeaks (b : Backup) : Peaks :=
  if b.valid && b.hasSnap then b.snapPeaks else Peaks.none

/-- What a power-on adds to a reset: the timebase and what is counted from power-on start from zero, RIDGE_DEBUG_DIVERGED clears,
W's working values are gone but for the BK snapshot, nothing has been measured yet but L+, and a login back-off waits for GABLE_UP (R34,
R71, R255, R330, R333, R348). -/
def powerOn (lplus : Nat) (s : State) : State :=
  { s with
    tb := State.reset.tb
    faults := [], unlisted := []
    field := FieldSt.reset
    pair := { s.pair with diverged := false }
    gableE := EngineSt.reset, n0 := EngineSt.reset, n1 := EngineSt.reset, w := EngineSt.reset, ridgeB := EngineSt.reset
    laneP := LaneFc.reset, laneT := LaneFc.reset
    slate := { s.slate with shadow := Voted.of 0, weak := s.slate.weak, both := 0 }
    wth := { Weather.reset with
      daily := s.wth.daily, hours := s.wth.hours, peak := snapPeaks s.bk, hist := [snapPeaks s.bk] }
    gable := { s.gable with backoffHeld := s.gable.backoffEnd.isSome }
    pwr := { s.pwr with lplus := lplus, hold := lplus - 400, vbat := 0, die := 0, fieldSide := 0 } }

/-- Has L+ stayed at or above 17.5 V for 10 ms, counted from a sample at or above 18.0 V (R318)? -/
def lplusCounted (env : BootEnv) : Bool :=
  decide (18000 ≤ env.lplusFirst) && decide (17500 ≤ env.lplusLeast) && decide (10000 ≤ env.lplusUs) && decide (env.lplusLeast ≤ env.lplus)

/-- Does the module wait for L+: OFF, BACKUP, or at the start of BOOT after a power-on reset? After a shutdown AO holds itself in reset for
10 ms more (R318), and a die that was too hot has to fall below 125 °C (R324). -/
def waitsForPower (s : State) : Bool :=
  (s.mode ∈ [Mode.off, .backup] || (s.mode == .boot && s.bootStep == 1 && s.resetCause == 0)) && !s.resetHeld
    && decide (s.pwr.die < 1250)
    && s.pwr.aoHold == 0 && (match s.pwr.doneAt with
        | some x => due s (x.toNat + 10 * tMs)
        | none => true)

/-- LPLUS_POWER_ON: the power-on reset is released into BOOT, cause 0, and the BOOT steps follow as far as they succeed (R277, R318). -/
def execLplusPowerOn (env : BootEnv) (s : State) : Host.Outcome State Fault Refusal :=
  if waitsForPower s && lplusCounted env then .next (bootSteps env (bootStep1 0 env.almOpen (powerOn env.lplus s)))
  else .next s

/-- The vectors of the ports' units, at the end of BOOT (R237). -/
def cvuPorts (bad : BitVec 4) (s : State) : State :=
  cvuChecks bad ((if s.n0.up then [1] else []) ++ (if s.n1.up then [2] else [])) s

/-- BOOT step 6: the domains on, the tick generators started, SELFTEST begun (R22, R237, R274, R277, R319). -/
def bootStep6 (env : BootEnv) (t : State) : State :=
  cvuPorts env.cvuBad (bootRegulators env.badDomains (startSelftest { t with bootStep := 6 }))

/-- The BOOT steps end: what remains of steps 2 to 5, then step 6 (R277). -/
def execBootComplete (env : BootEnv) (s : State) : Host.Outcome State Fault Refusal :=
  if s.mode = .boot && !s.resetHeld && s.pwr.aoOn then
    let t := if s.bootStep < 5 then bootSteps env s else s
    .next (if t.bootStep = 5 then bootStep6 env t else t)
  else .next s

/-- Fault codes that a SELFTEST step raises from a result of its hardware (Table 12.5); the digests and the reference vectors are
judged by the channels in CROSS_COMPARE (R49, R50). -/
def selftestCode (code : BitVec 16) : Bool :=
  code ∈ [fcSelftestFail, fcRidgeEccDed, fcThatchCfgUpset, fcThatchCanaryFail, fcTickGenMismatch, fcEaveLaneFault, fcSwitchStuck,
    fcInputViewMismatch, fcMotionEngineSilent, fcTpoOverload, fcTpoStuckHigh]

/-- BOOTED is programmed at the end of the first SELFTEST that completes on a bank (R264, R267); the attempts of a bank that the boot has
passed over stand until it is written again. -/
def setBooted (s : State) : State :=
  let mark (b : Bank) : Bank := { b with booted := 0 }
  let f := s.flash
  let f1 := if !s.active.valid then f else if s.active.bankB then { f with cfgB := mark f.cfgB }
    else { f with cfgA := mark f.cfgA }
  let unbooted := !(if s.gable.fwActive then f.fwB else f.fwA).isBooted
  let f2 := if s.gable.fwActive then { f1 with fwB := mark f1.fwB } else { f1 with fwA := mark f1.fwA }
  let own := match (chooseFw0 s).1 with
    | some x => x.1 == s.gable.fwActive
    | none => true
  { s with flash := f2, bk := if unbooted && own then { s.bk with fwAttempts := 0 } else s.bk }

/-- The first conversion window of a channel begins at the first of its strobes b − 31.25 µs + k × T_CONV after the end of SELFTEST (R182;
DEDUCED, log entry 167). -/
def firstWindow (s : State) (n : Nat) : W64 :=
  let now := s.tb.count.toNat
  let b := if now + 3125 < boundaryAt s then boundaryAt s - 3125 else boundaryAt s + tickUnits s.tick.sel.toNat - 3125
  let conv := cfgConv s.active.image n * tUs
  BitVec.ofNat 64 (b - (b - now - 1) / conv * conv)

/-- SELFTEST has ended: the windows of every channel begin (R182). -/
def openWindows (s : State) : State :=
  { s with fa := { s.fa with ch := vtab 8 (fun n => { vget s.fa.ch n AnFa.reset with winAt := some (firstWindow s n) }) } }

/-- What the end of SELFTEST does in one tick (R279): TICK 0, producing connections at SEQ 0, consuming ones in START. -/
def selftestChan (c : Chan) : Chan := { c with conn := vmap (fun _ => Conn.reset) c.conn }

/-- The end of SELFTEST, passed or not (R279): TICK 0, the connections at their start, the SEQs of the cascade at 0, the first windows. -/
def endSelftest (s : State) : State :=
  { openWindows s with
    tick := { s.tick with count := 0 }
    ridge := selftestChan s.ridge
    thatch := selftestChan s.thatch
    cas := { s.cas with hbSeq := 0, agreeSeq := 0 } }

/-- A SELFTEST without a class H failure: the loads and checks stand, and the module goes to SAFE_HOLD, or to LOCKOUT under an
open record, at the next boundary (R278, R279, R282). -/
def selftestPassed (s : State) : State :=
  let t := endSelftest (setBooted s)
  { t with
    pair := { t.pair with
      ridgeLoaded := t.pair.ridgeLoaded || t.active.valid, thatchLoaded := t.pair.thatchLoaded || t.active.valid }
    want := some (if lockoutOpen t then .lockout else .safeHold) }

/-- Failures of step 1 and of step 2 (Table 12.5). -/
def failsStep1 (f : TestFail) : Bool := (f.code == fcSelftestFail && f.arg == 1) || f.code == fcRidgeEccDed

/-- Failures of step 2. -/
def failsStep2 (f : TestFail) : Bool := f.code ∈ [fcThatchCfgUpset, fcThatchCanaryFail]

/-- The failures that a SELFTEST reports, with the readback scrub of step 2 over the rows as loaded (R58, Table 12.5). -/
def selftestFails (fails : List TestFail) (s : State) : List TestFail :=
  let l := fails.filter (fun f => selftestCode f.code)
  if s.thatchMem.rows.all rowOk then l else l ++ [{ code := fcThatchCfgUpset, arg := 0 }]

/-- SELFTEST ends with these failures, and without any not before every reference vector has been evaluated (R50, R278). -/
def execSelftestEnd (fails : List TestFail) (s : State) : Host.Outcome State Fault Refusal :=
  if s.mode = .selftest then
    let l := selftestFails fails s
    let t := l.foldl (fun u f => raise f.code f.arg.toNat u) s
    if t.hPend.isSome then
      let one := !l.any failsStep1 && t.active.valid
      .next { t with
        pair := { t.pair with
          ridgeLoaded := t.pair.ridgeLoaded || one
          thatchLoaded := t.pair.thatchLoaded || (one && !l.any failsStep2) } }
    else if t.active.valid && t.pair.vecDone < t.active.image.vectors.length then .next t
    else .next (selftestPassed t)
  else .next s

/-- The conditions of Table 12.3. -/
def startConditions (s : State) : Bool :=
  let cfg := s.active.image
  s.active.valid && s.pair.vecOk && !anyClassH s && s.hPend.isNone && !holdCond s && !s.pair.diverged
    && (!axisUsed cfg || (8 ≤ s.motion.good0 && 8 ≤ s.motion.good1))
    && (List.range 8).all (fun n => decide (lookN cfg .uacMode n 0 0 ∈ [0, 3, 4])
          || ((vget s.ridge.an n AnCh.reset).seenNew && (vget s.thatch.an n AnCh.reset).seenNew))
    && (!casUsed cfg || !s.cas.blocked)
    && (lookN cfg .modStartMode 0 0 0 == 0 || s.pair.startAck)

/-- Blocks before the first tick of RUN: previous outputs 0, the rest set in that tick (R101, R109, R160, R273); the last input of TP, MSG
and CTU counts as 0, so that one that is 1 in that tick rises (DESIGN CHOICE, log entry 209). -/
def firstTick (c : Chan) : Chan := { c with blk := c.blk.map (fun b => { b with start := true, first := true, out := 0, prev := 0 }) }

/-- SAFE_HOLD to RUN at a tick boundary at which every start condition holds (R274, R276; log entry 36). -/
def execStartRun (s : State) : Host.Outcome State Fault Refusal :=
  if s.mode = .safeHold && s.tick.began && s.tb.count == s.tick.boundary && s.want.isNone && s.pwr.shutdown.isNone && startConditions s then
    .next { setMode .run s with
      ridge := firstTick s.ridge, thatch := firstTick s.thatch, pair := { s.pair with startAck := false } }
  else .next s

/-! ## Squall throttling (R315, R316) -/

/-- The clock step that stands or waits for phase 0. -/
def nowStep (s : State) : ClkStep := s.tick.pendClk.getD s.tick.clk

/-- Order of the clock steps. -/
def ClkStep.num (c : ClkStep) : Nat :=
  match c with
  | .c400 => 0
  | .c300 => 1
  | .c200 => 2

/-- The services of a lower clock step shed, with LPLUS_LOW (Table 14.2). -/
def shedDown (c : ClkStep) (s : State) : State :=
  let t := raise fcLplusLow 0 s
  let u := if t.gable.usbAttached then usbOff t else t
  { u with pwr := shedFor c u.pwr, ev := { u.ev with pwr := setBit u.ev.pwr 3 true } }

/-- The services of a higher clock step restored; at 400 MHz LPLUS_LOW clears, and the dropped events are told of (Table 14.2, R316). -/
def restoreUp (c : ClkStep) (s : State) : State :=
  let t := { s with pwr := shedFor c s.pwr, ev := { s.ev with pwr := setBit s.ev.pwr 2 true } }
  if c = .c400 then clearFault fcLplusLow 0 (flushLost t) else t

/-- The main clock goes to a step, and the services with it (R27, Table 14.2). -/
def clkTo (c : ClkStep) (s : State) : State :=
  let t := { s with tick := { s.tick with clk := c, pendClk := none } }
  if s.tick.clk.num < c.num then shedDown c t else if c.num < s.tick.clk.num then restoreUp c t else t

/-- Change the clock step: in the next phase 0, at once while no tick runs (R27). -/
def setStep (c : ClkStep) (s : State) : State :=
  if s.tick.running then { s with tick := { s.tick with pendClk := some c } } else clkTo c s

/-- Do the supply monitors act on L+? Not without power, in reset, in LULL or after the start of a shutdown (R318, R351). -/
def squallActs (s : State) : Bool :=
  s.pwr.aoOn && !s.resetHeld && s.pwr.shutdown.isNone && !(s.mode ∈ [Mode.off, .backup, .lull])

/-- A reading of L+ that the monitors take while AO runs, in LULL too (Table 15.12). -/
def lplusSeen (mv : Nat) (s : State) : State := if s.pwr.aoOn then lplusAt mv s else s

/-- The highest of three samples, which lies below a threshold where all of them do. -/
def most3 (v : Vector Nat 3) : Nat := max v[0] (max v[1] v[2])

/-- The lowest of three samples. -/
def least3 (v : Vector Nat 3) : Nat := min v[0] (min v[1] v[2])

/-- Three consecutive samples of L+: the thresholds that all of them lie below are crossed downwards, together (R315, Table 14.2). -/
def execSquallStepDown (mv : Vector Nat 3) (s : State) : Host.Outcome State Fault Refusal :=
  let t := lplusSeen mv[2] s
  let c := stepOf (most3 mv)
  if squallActs s && decide ((nowStep s).num < c.num) then
    .next (setStep c { t with pwr := { t.pwr with lowAt := some s.tb.count } })
  else .next t

/-- Have 100 ms passed since an instant, if it ever came? -/
def after100ms (x : Option W64) (s : State) : Bool :=
  match x with
  | some t => due s (t.toNat + 100 * tMs)
  | none => true

/-- The step above the one that stands or waits, with its level in mV (Table 14.2). -/
def stepAbove (c : ClkStep) : Option (ClkStep × Nat) :=
  match c with
  | .c200 => some (.c300, 19000)
  | .c300 => some (.c400, 20500)
  | .c400 => none

/-- A sample of L+ with the least one of the last 100 ms: one step up, where that has been at or above the step's level, and 100 ms have
passed since the step before and since the end of a ride-through (R315). -/
def execSquallStepUp (mv least : Nat) (s : State) : Host.Outcome State Fault Refusal :=
  let t := lplusSeen mv s
  match stepAbove (nowStep s) with
  | some x =>
    if squallActs s && s.pwr.ride.isNone && decide (x.2 ≤ min mv least) && after100ms s.pwr.lastUp s && after100ms s.pwr.lowAt s then
      .next (setStep x.1 { t with pwr := { t.pwr with lastUp := some s.tb.count } })
    else .next t
  | none => .next t

/-- Three consecutive samples of L+ below 16.0 V: the module runs from HOLD at the squall floor (R315, R317). -/
def execRideThroughStart (mv : Vector Nat 3) (s : State) : Host.Outcome State Fault Refusal :=
  let t := lplusSeen mv[2] s
  if squallActs s && decide (most3 mv < 16000) && s.pwr.ride.isNone then
    let u := { t with pwr := { t.pwr with ride := some s.tb.count, lowAt := some s.tb.count } }
    .next (if nowStep s = .c200 then u else setStep .c200 u)
  else .next t

/-- The third consecutive sample at or above 16.5 V ends the ride-through, without effect on clock and services (R317). -/
def execRideThroughEnd (mv : Vector Nat 3) (s : State) : Host.Outcome State Fault Refusal :=
  if squallActs s && decide (16500 ≤ least3 mv) && s.pwr.ride.isSome then
    .next (lplusAt mv[2] { s with
      pwr := { s.pwr with ride := none, lastUp := some s.tb.count }
      ev := { s.ev with pwr := setBit s.ev.pwr 1 true } })
  else .next (lplusSeen mv[2] s)

/-! ## Ordered shutdown (R317, R318, R320, R330) -/

/-- A channel's latch forced: every switch command open, set-points at the alarm code (R24, Table 14.3). -/
def forceOpen (s : State) (c : Chan) : Chan :=
  { forceLatch s { c.latch with cmds := 0, dark := 0, setpt := alarmSetpts s.active.image } c with forced := true }

/-- Instant s of an ordered shutdown (Table 14.3): LPLUS_SHUTDOWN, switch commands forced open, every service shed; a mailbox
command that runs ends without a response, and a split or join goes no further (R318). While no tick runs, b1 is s. -/
def shutdownStart (mv holdMv : Nat) (s : State) : State :=
  let t := irqSet 8 (raise fcLplusShutdown 0 s)
  let u := usbOff { t with restart := none, want := none, pwr := { t.pwr with shutdown := some t.tb.count } }
  { u with
    lockWin := none
    ridge := forceOpen u u.ridge
    thatch := forceOpen u u.thatch
    pair := { u.pair with splitReq := none }
    gable := { u.gable with queue := [], parked := none, reqBusy := false, held := none }
    pwr := { shedFor .c200 u.pwr with
      lplus := mv, hold := holdMv, lplusS := mv, b1 := if u.tick.running then none else some u.tb.count } }

/-- The Weathering snapshot in BK (R330). -/
def snapshotBk (s : State) : Backup :=
  { s.bk with
    hasSnap := true, snapGen := s.active.gen, snapDt := s.wth.dt, snapInt := s.wth.interval, snapWidth := s.wth.width,
    snapCentre := s.tick.centre, snapHalf := s.tick.half, snapHours := s.wth.hours
    snapPeaks := Peaks.join s.wth.peak s.wth.cur }

/-- b1 + 100 µs: FD and FA off; an unpowered field side holds every switch open and every analogue stage off (Table 14.3). -/
def fieldOff (s : State) : State :=
  { s with
    laneP := laneReset s.laneP
    laneT := laneReset s.laneT
    field := fieldReset s.tb.count s.field
    fa := { Fa.reset with almOpen := s.fa.almOpen }
    pwr := { s.pwr with domains := s.pwr.domains &&& 0x3FC } }

/-- b1 + 150 µs: RG, TH and MO off, encoder supplies with them (Table 14.3). -/
def channelsOff (s : State) : State :=
  { s with
    motion := Motion.reset
    tick := { s.tick with running := false }
    ridgeB := { s.ridgeB with up := false }
    pwr := { s.pwr with domains := s.pwr.domains &&& 0x33B } }

/-- b1 + 200 µs: NA and NB off (Table 14.3). -/
def networksOff (s : State) : State :=
  { portDark .a (portDark .b s) with
    n0 := { s.n0 with up := false }
    n1 := { s.n1 with up := false }
    pwr := { s.pwr with domains := s.pwr.domains &&& 0x3E7 } }

/-- b1 + 6 ms: the log entry 0xE004 with the L+ reading taken at s, and the Weathering snapshot, by Gable and W; flash writes are closed
after it (Table 14.3). -/
def shutdownLog (s : State) : State :=
  let t := if s.gable.up then logNext (evFields 0xE004 (be 2 (s.pwr.lplusS / 50))) s else s
  if t.w.up then { t with bk := snapshotBk t } else t

/-- s + 10 ms: GB off, the shutdown complete: BACKUP with VBAT, otherwise OFF (Table 14.3). -/
def shutdownDone (s : State) : State :=
  let t := setGableUp false { s with gableE := { s.gableE with up := false }, w := { s.w with up := false } }
  let u := setMode (restMode t) t
  { u with pwr := { u.pwr with domains := 0x300, ride := none, doneAt := some u.tb.count } }

/-- Is L+ back after a shutdown: its last sample at or above 16.5 V (Table 14.2; DESIGN CHOICE, log entry 219)? -/
def lplusBack (s : State) : Bool := s.pwr.doneAt.isSome && s.pwr.aoOn && decide (16500 ≤ s.pwr.lplus)

/-- L+ returned: after the end of the shutdown AO holds itself in reset for 10 ms, at the start of BOOT (R318). -/
def aoReset (s : State) : State :=
  let t := powerOff true s
  { t with pwr := { t.pwr with lplus := s.pwr.lplus, hold := s.pwr.hold, aoHold := 10 * tMs } }

/-- Does the timebase stand `t` units after an instant? -/
def standsAt (s : State) (x : Option W64) (t : Nat) : Bool :=
  match x with
  | some v => s.tb.count.toNat == v.toNat + t
  | none => false

/-- The steps of Table 14.3 that fall on this timebase clock. -/
def shutdownClock (s : State) : State :=
  if s.pwr.shutdown.isNone then s
  else if lplusBack s then aoReset s
  else if standsAt s s.pwr.b1 (100 * tUs) then fieldOff s
  else if standsAt s s.pwr.b1 (150 * tUs) then channelsOff s
  else if standsAt s s.pwr.b1 (200 * tUs) then networksOff s
  else if standsAt s s.pwr.b1 (6 * tMs) then shutdownLog s
  else if standsAt s s.pwr.shutdown (10 * tMs) then shutdownDone s
  else s

/-- A timebase clock without a command: the clock counts on (log entry 1), and the steps of an ordered shutdown come at their instants
(Table 14.3; log entry 47). -/
def idle (s : State) : State := shutdownClock (clockTick s)

/-- ORDERED_SHUTDOWN: HOLD at 13.0 V with L+ still below 16.0 V, or a ride-through of 50 ms (R317). -/
def execOrderedShutdown (mv holdMv : Nat) (s : State) : Host.Outcome State Fault Refusal :=
  match s.pwr.ride with
  | some x =>
    if squallActs s && ((decide (holdMv ≤ 13000) && decide (mv < 16000)) || due s (x.toNat + 50 * tMs)) then
      .next (shutdownStart mv holdMv s)
    else .next s
  | none => .next s

/-- The shutdown reserve: the time from s, in 100 µs (R325, Table 14.3). -/
def reserveOf (s : State) : BitVec 16 :=
  match s.pwr.shutdown with
  | some x => BitVec.ofNat 16 (min 65535 ((s.tb.count.toNat - x.toNat) / (100 * tUs)))
  | none => s.bk.reserve

/-- HOLD falls to 9.0 V: the shutdown reserve is stored, AO enters power-on reset (Table 14.3, R318); where AO is in reset already, L+ is
gone with it (R321). -/
def execHoldPowerOnReset (holdMv : Nat) (s : State) : Host.Outcome State Fault Refusal :=
  if (s.pwr.aoOn || s.mode = .boot) && decide (holdMv ≤ 9000) then
    .next (powerOff false { s with bk := { s.bk with reserve := reserveOf s, hasReserve := s.bk.hasReserve || s.pwr.shutdown.isSome } })
  else .next s

/-! ## VBAT, tamper, temperature (R320 to R324) -/

/-- VBAT comes: BACKUP where L+ is absent (Table 12.2). -/
def execVbatApplied (mv : Nat) (s : State) : Host.Outcome State Fault Refusal :=
  let t := { s with pwr := { s.pwr with vbatNow := mv } }
  if s.mode = .off && 1800 ≤ mv then
    .next { t with mode := .backup, pwr := { t.pwr with domains := setBit t.pwr.domains 9 true } }
  else .next t

/-- Does BK run from VBAT alone: L+ is gone, and HOLD with it (R320)? -/
def onVbat (s : State) : Bool := !s.pwr.aoOn && s.mode ∈ [Mode.off, .backup]

/-- VBAT goes: without L+, BK loses its contents below 1.8 V and the module is OFF (R321). -/
def execVbatRemoved (mv : Nat) (s : State) : Host.Outcome State Fault Refusal :=
  let t := { s with pwr := { s.pwr with vbatNow := mv } }
  if onVbat s && decide (mv < 1800) then
    .next { t with
      mode := .off, bk := { t.bk with valid := false }, pwr := { t.pwr with domains := setBit t.pwr.domains 9 false } }
  else .next t

/-- VBAT is measured hourly while L+ is present (R321). -/
def execVbatMeasurement (mv : Nat) (s : State) : Host.Outcome State Fault Refusal :=
  if s.pwr.aoOn && !s.resetHeld then .next (vbatCheck mv s) else .next s

/-- TAMPER_N low for 1 ms: the latch and the RTC seconds of the event, wherever BK has power, in BACKUP as well (R322). -/
def execTamperNLow (s : State) : Host.Outcome State Fault Refusal :=
  if !s.pwr.domains.getLsbD 9 then .next s
  else
    .next { s with
      bk := { s.bk with tamper := true, tamperSec := s.bk.rtcSec }
      ev := if s.pwr.aoOn then { s.ev with pwr := setBit s.ev.pwr 4 true } else s.ev }

/-- The first measurement over a limit, while every one since has been over it (R324). -/
def overSince (now : W64) (hot : Bool) (was : Option W64) : Option W64 :=
  if hot then some (was.getD now) else none

/-- Has a condition held for `t` timebase units? -/
def heldFor (s : State) (since : Option W64) (t : Nat) : Bool :=
  match since with
  | some x => due s (x.toNat + t)
  | none => false

/-- The logic die and the field side, every 10 ms, in 0.1 °C (Table 14.5). -/
def execTemperatureMeasurement (die fieldSide : Int) (s : State) : Host.Outcome State Fault Refusal :=
  let p := s.pwr
  let at_ (k : Nat) : Option W64 := vget p.highSince k none
  let now := s.tb.count
  let since : Vector (Option W64) 4 :=
    #v[overSince now (1200 ≤ die) (at_ 0), overSince now (1150 ≤ fieldSide) (at_ 1), overSince now (1300 ≤ die) (at_ 2),
       overSince now (1250 ≤ fieldSide) (at_ 3)]
  let cool := overSince now (decide (die ≤ 1200) && decide (fieldSide ≤ 1150)) p.coolSince
  let t := { s with pwr := { p with die := die, fieldSide := fieldSide, highSince := since, coolSince := cool } }
  if !s.pwr.aoOn then .next { s with pwr := { p with die := die, fieldSide := fieldSide } }
  else if 1450 ≤ die then .next { powerOff true t with pwr := { (powerOff true t).pwr with die := die } }
  else if s.resetHeld || s.mode = .lull then .next t
  else
    let t1 := if heldFor t since[0] tSec || heldFor t since[1] tSec then raise fcTempHigh 0 t
      else if die ≤ 1150 && fieldSide ≤ 1100 then clearFault fcTempHigh 0 t else t
    .next (if heldFor t1 since[2] tSec || heldFor t1 since[3] tSec then raise fcTempLimit 0 t1
      else if heldFor t1 cool (60 * tSec) then clearFault fcTempLimit 0 t1 else t1)

/-! ## RESET_N (R281, R318) -/

/-- Does a low level of RESET_N reset the module? Between 1 µs and 10 µs it may or may not (R281; log entry 15). -/
def resetTakes (lowNs draw : Nat) : Bool := 10000 ≤ lowNs || (1000 ≤ lowNs && Config.shortReset draw)

/-- RESET_N low: the reset level, no engine, no SPI, until the release; a shutdown in progress goes on (R129, R281, R318). -/
def execResetNAssert (lowNs : Nat) (s : State) : Host.Outcome State Fault Refusal :=
  if !s.pwr.aoOn || s.mode ∈ [Mode.off, .backup] then .next s
  else
    let d := { s with free := s.free + 1 }
    if !resetTakes lowNs s.free then .next d
    else if s.pwr.shutdown.isSome then
      .next { d with
        laneP := laneReset d.laneP, laneT := laneReset d.laneT, field := fieldReset d.tb.count d.field
        fa := { Fa.reset with almOpen := d.fa.almOpen } }
    else .next { coldReset d with mode := d.mode, resetHeld := true }

/-! ## Regulators, clocks, engines (Table 1.5, R288, R290, R323) -/

/-- A Gable restart or stop: sessions end, kept requests and mailboxes are gone, GABLE_UP = 0 (R249); the message area of a split
pair, of whose contents then the manual is silent, is cleared (DESIGN CHOICE, log entry 186). -/
def gableStop (s : State) : State :=
  setGableUp false { s with
    mbx := []
    lockWin := none
    pair := { s.pair with splitReq := none, msgArea := [] }  -- log entry 186
    gableE := { s.gableE with up := false }
    gable := { s.gable with
      reqBusy := false, rspReady := false, evtLost := false, overrun := false, evtPending := 0, queue := [], parked := none, owner := none, keptSpi := [],
      keptUsb := [], usbRsp := [], usbEvents := [], usbAttached := false, evtSeq := 0, usbSeq := 0, evtDropped := 0,
      spi := Session.reset, usb := Session.reset, cand := none, verify := none, fwData := [], held := none } }

/-- State of an engine. -/
def engineOf (e : Engine) (s : State) : EngineSt :=
  match e with
  | .gable => s.gableE
  | .n0 => s.n0
  | .n1 => s.n1
  | .w => s.w
  | .ridgeB => s.ridgeB

/-- Replace the state of an engine. -/
def setEngine (e : Engine) (x : EngineSt) (s : State) : State :=
  match e with
  | .gable => { s with gableE := x }
  | .n0 => { s with n0 := x }
  | .n1 => { s with n1 := x }
  | .w => { s with w := x }
  | .ridgeB => { s with ridgeB := x }

/-- ARG of ENGINE_DOWN (R290). -/
def engineNum (e : Engine) : Nat :=
  match e with
  | .gable => 0
  | .n0 => 1
  | .n1 => 2
  | .w => 3
  | .ridgeB => 4

/-- A missed heartbeat: the engine is reset, to be started again; at the fourth within 60 s it stays down, ENGINE_DOWN (R290). -/
def engineMiss (e : Engine) (s : State) : State :=
  let x := engineOf e s
  let recent := x.misses.filter (fun t => decide (s.tb.count.toNat < t.toNat + 60 * tSec)) ++ [s.tb.count]
  let fourth := 4 ≤ recent.length
  let t := setEngine e { x with up := false, down := fourth, misses := recent } (if e = .gable then gableStop s else s)
  if fourth then logEvent 0xE00F (be 1 (engineNum e)) (raise fcEngineDown (engineNum e) t) else t

/-- Is an engine supervised: Gable by the Ridge pair, the others by Gable, Ridge B only while split (R67, R289, R291)? -/
def supervised (e : Engine) (s : State) : Bool :=
  (engineOf e s).up && s.mode != .lull
    && (match e with
        | .gable => !s.ridge.frozen
        | .ridgeB => s.gable.up && s.pair.split
        | _ => s.gable.up)

/-- ENGINE_HEARTBEAT_MISS. -/
def execEngineHeartbeatMiss (e : Engine) (s : State) : Host.Outcome State Fault Refusal :=
  if supervised e s then .next (engineMiss e s) else .next s

/-- The check-value unit of an engine: CVU0 of Gable, CVU1 and CVU2 of N0 and N1. -/
def engineCvu (e : Engine) : Option (Fin 4) :=
  match e with
  | .gable => some 0
  | .n0 => some 1
  | .n1 => some 2
  | .w => none
  | .ridgeB => none

/-- The vector of the unit of an engine that was restarted (R237). -/
def cvuOfEngine (e : Engine) (sound : Bool) (s : State) : State :=
  match engineCvu e with
  | some u => cvuCheck u sound s
  | none => s

/-- May a stopped engine start again? Ridge B only while the pair is split and neither a join nor a class H fault has stopped it (R67, R69,
R290). -/
def mayRestart (e : Engine) (s : State) : Bool :=
  let x := engineOf e s
  !x.up && !x.down && !x.misses.isEmpty && s.mode != .lull && !s.resetHeld && s.pwr.aoOn && (e == .gable || s.gableE.up)
    && (e != .ridgeB || (s.pair.split && !s.pair.joinBusy && s.mode != .lockout && !(s.faults ++ s.unlisted).any (fun f => f.cls == .h)))

/-- An engine that was reset serves again: its restart count rises, and its unit runs its vector; Gable takes CONFIGURE, VERIFY and SERVICE
into SELFTEST (R237, R249, R290); NETA_EVT and NETB_EVT bit 0 (Table 9.10). -/
def execEngineRestarted (e : Engine) (sound : Bool) (s : State) : Host.Outcome State Fault Refusal :=
  let x := engineOf e s
  if !mayRestart e s then .next s
  else
    let t := setEngine e { x with up := true, restarts := BitVec.ofNat 8 (satAdd 255 x.restarts.toNat 1) } s
    let t := cvuOfEngine e sound { t with ev := match e with
      | .n0 => { t.ev with netA := setBit t.ev.netA 0 true }
      | .n1 => { t.ev with netB := setBit t.ev.netB 0 true }
      | _ => t.ev }
    match e with
    | .gable =>
      let u := gableBack t
      .next (if s.mode ∈ [Mode.configure, .verify, .service] then restartSelftest u else u)
    | .ridgeB =>
      .next { t with tcm := { t.tcm with
        instrB := memWriteBytes [] 0 s.active.image.splitCode, dataB := []
        ded := t.tcm.ded.filter (fun a => decide (a < 0x780000)) } }
    | _ => .next t

/-- REGULATOR_FAULT: the reaction of Table 1.5 by domain (R288, R319). -/
def execRegulatorFault (dom : Fin 10) (s : State) : Host.Outcome State Fault Refusal :=
  if !s.pwr.domains.getLsbD dom then .next s
  else
    match dom.val with
    | 9 => .next (regulatorEvt { s with bk := { s.bk with valid := false } })
    | 8 => .next (powerOff true s)
    | 5 =>
      let t := regulatorEvt s
      let u := if t.gableE.up then engineMiss .gable t else t
      .next (if u.w.up then engineMiss .w u else u)
    | k => .next (regulatorAct k s)

/-- Loss of lock of the PLL stops the eight engines; TICK_OVERRUN_RG or CROSS_RESULT_MISSING follows from what no longer arrives, and
neither lane carries a pulse (R272, R323, Table 14.4). -/
def execLossOfLock (s : State) : Host.Outcome State Fault Refusal :=
  if !s.pwr.aoOn || s.resetHeld || s.mode ∈ [Mode.off, .backup, .lull] then .next s
  else
    .next { setGableUp false s with
      ridge := { noPulse s.ridge with frozen := true }
      thatch := noPulse s.thatch
      gableE := { s.gableE with up := false }
      n0 := { s.n0 with up := false }
      n1 := { s.n1 with up := false }
      w := { s.w with up := false }
      ridgeB := { s.ridgeB with up := false }
      motion := { s.motion with silent0 := true, silent1 := true } }

end Sys2Proof.Machine
end

