-- ==== Sys2Proof/Machine/Lanes.lean ====
section
/-! DEFINITION. The Eave link: frames as bits and their CRCs, parameter entries, what a field controller reads of an entry,
acceptance of an outbound frame, the inbound frame (R16 to R18, R21, R129, R130, R139; Tables 1.3, 1.4, 1.9, 6.5). -/

namespace Sys2Proof.Machine

/-! ## Frames as bits -/

/-- Fields, each a width and a value, one after the other, the most significant bit of the first one first. -/
def packBits (l : List (Nat × Nat)) : Nat := l.foldl (fun a f => a * 2 ^ f.1 + f.2 % 2 ^ f.1) 0

/-- An entry as 48 bits (R21). -/
def entryBits (e : ParamEntry) : Nat := (e.item.toNat * 256 + e.index.toNat) * 2 ^ 32 + e.value.toNat

/-- Header of an outbound frame: TYPE [15:12], LANE [11], tick setting [1:0] (Table 1.3; log entry 13). -/
def outHeader (f : OutFrame) : Nat :=
  f.ftype.toNat * 4096 + (if f.lane = .t then 2048 else 0) + f.tickSel.toNat

/-- The 480 bits that the CRC of an outbound frame covers (Table 1.3, R21). -/
def outBits (f : OutFrame) : Nat :=
  if f.ftype = 2 then
    packBits ([(16, outHeader f), (16, f.seq.toNat)] ++ (f.entries.take 9).map (fun e => (48, entryBits e))
      ++ [(16, f.reserved.toNat)])
  else
    packBits ([(16, outHeader f), (16, f.seq.toNat), (28, f.cmds.toNat), (28, f.dark.toNat)]
      ++ f.gust.toList.flatMap (fun g => [(4, g.code.toNat), (8, g.off.toNat)])
      ++ f.setpt.toList.map (fun x => (16, x.toNat)) ++ (f.entries.take 1).map (fun e => (48, entryBits e))
      ++ [(24, f.reserved.toNat)])

/-- CRC-32 of an outbound frame. -/
def outCrc (f : OutFrame) : W32 := crc32 (be 60 (outBits f))

/-- An outbound frame with its CRC. -/
def outSeal (f : OutFrame) : OutFrame := { f with crc := outCrc f }

/-- The 736 bits that the CRC of an inbound frame covers (Table 1.4). -/
def inBits (f : InFrame) : Nat :=
  packBits ([(16, f.header.toNat), (16, f.echo.toNat), (48, f.inputs.toNat), (96, f.bands.toNat), (48, f.follow.toNat),
      (28, f.sw.toNat), (28, f.live.toNat)] ++ f.supplies.toList.map (fun x => (12, x.toNat))
    ++ (f.sd.toList.zip f.sar.toList).flatMap (fun x => [(24, x.1.toNat), (16, x.2.toNat)])
    ++ f.anStat.toList.map (fun x => (4, x.toNat)) ++ [(5, f.groupOver.toNat), (15, f.reserved.toNat)])

/-- CRC-32 of an inbound frame. -/
def inCrc (f : InFrame) : W32 := crc32 (be 92 (inBits f))

/-! ## Parameter entries (Table 1.9) -/

/-- The empty entry. -/
def noEntry : ParamEntry := { item := 0, index := 0, value := 0 }

/-- Is an entry one that makes no frame fail its check: item code not reserved, index in range (R21)? Its VALUE makes no frame fail,
whatever it holds (DESIGN CHOICE, log entry 202). -/
def entryOk (e : ParamEntry) : Bool :=
  match e.item.toNat with
  | 0 => e.index == 0
  | 1 => decide (e.index.toNat < 48)
  | 2 => decide (e.index.toNat < 16)
  | 3 => decide (e.index.toNat < 28)
  | 4 => decide (e.index.toNat < 8)
  | _ => false

/-- INPUT entry of a configuration. -/
def inputEntry (cfg : Config.Image) (n : Nat) : ParamEntry :=
  let tpo := match inTpoOf cfg n with
    | some m => m + 1
    | none => 0
  let set := if given cfg .inXset n then lookN cfg .inXset n 0 0 + 1 else 0
  { item := 1, index := BitVec.ofNat 8 n
    value := BitVec.ofNat 32 (lookN cfg .inMode n 0 0 * 2 ^ 29 + tpo * 2 ^ 24 + set * 2 ^ 19
      + ceilDiv (cfgFilter cfg n) 625 * 2 ^ 10) }

/-- TPO entry with active width `w`. -/
def tpoEntry (cfg : Config.Image) (m w : Nat) : ParamEntry :=
  { item := 2, index := BitVec.ofNat 8 m, value := BitVec.ofNat 32 (lookN cfg .tpoMode m 0 0 * 2 ^ 30 + w % 65536) }

/-- OUTPUT entry with active dark-test time `t`. -/
def outputEntry (cfg : Config.Image) (o t : Nat) : ParamEntry :=
  { item := 3, index := BitVec.ofNat 8 o
    value := BitVec.ofNat 32 (lookN cfg .outKind o 0 0 % 2 * 2 ^ 31 + lookN cfg .outStdState o 0 0 % 4 * 2 ^ 29
      + cfgCont cfg o % 4 * 2 ^ 27 + (if cfgTest cfg o = 0 then t else 0)) }

/-- Code of a conversion time. -/
def convCode (us : Nat) : Nat :=
  match us with
  | 250 => 0
  | 500 => 1
  | 1000 => 2
  | 2000 => 3
  | 20000 => 4
  | _ => 5

/-- ANALOGUE entry. -/
def analogEntry (cfg : Config.Image) (n : Nat) : ParamEntry :=
  let mode := lookN cfg .uacMode n 0 0
  let alarm := if mode = 4 then lookN cfg .uacVAlarm n 0 0 else lookN cfg .uacAlmDir n 0 0
  let sensor := if mode = 6 then 3 + lookN cfg .uacTcType n 0 1 else lookN cfg .uacRtdType n 0 0
  { item := 4, index := BitVec.ofNat 8 n
    value := BitVec.ofNat 32 (mode * 2 ^ 28 + convCode (cfgConv cfg n) * 2 ^ 25 + alarm * 2 ^ 23
      + bit (lookB cfg .uacLoopPwr n false) 22 + bit (lookB cfg .uacRemoteSense n false) 21
      + bit (mode == 6 && lookN cfg .uacCjSrc n 0 0 == 0) 20 + sensor % 16 * 2 ^ 16
      + (lookN cfg .uacWires n 0 4 - 2) % 4 * 2 ^ 14) }

/-- Index of a lane's switch of output `o` in the tables of both lanes' switches. -/
def swIx (l : Lane) (o : Nat) : Nat := 2 * o + (if l = .t then 1 else 0)

/-- Does an OUT block drive the output (R122)? -/
def outBlocked (cfg : Config.Image) (o : Nat) : Bool :=
  cfg.insts.zipIdx.any (fun q => q.1.typ == 0x13 && lookN cfg .bOutput q.2 0 0 == o)

/-- The entries that a channel writes in SELFTEST: every item that the configuration defines, at its active value, and mode and width of
every TPO (R21, R82). -/
def allEntries (l : Lane) (s : State) : List ParamEntry :=
  let cfg := s.active.image
  ((List.range 48).filter (fun n => lookN cfg .inMode n 0 0 != 0)).map (inputEntry cfg)
    ++ (List.range 16).map (fun m => tpoEntry cfg m (vget s.wth.width m 0))
    ++ ((List.range 28).filter (outUsed cfg)).map (fun o => outputEntry cfg o (vget s.wth.dt (swIx l o) 0))
    ++ ((List.range 8).filter (fun n => lookN cfg .uacMode n 0 0 != 0)).map (analogEntry cfg)

/-! ## What a field controller reads of its entries -/

/-- Value of a taken entry; 0 while none has been taken: UNUSED, OFF, SAFE without bias and dark test, OFF (R21, R129). -/
def taken {n : Nat} (v : Vector (Option W32) n) (k : Nat) : Nat :=
  match vget v k none with
  | some x => x.toNat
  | none => 0

/-- IN.MODE of an input. -/
def fcInMode (l : LaneFc) (n : Nat) : Nat := taken l.pIn n / 2 ^ 29

/-- The feeding TPO of an input, plus 1; 0 for none. -/
def fcInTpo (l : LaneFc) (n : Nat) : Nat := taken l.pIn n / 2 ^ 24 % 32

/-- Filter time of an input in samples of 62.5 µs. -/
def fcInFilter (l : LaneFc) (n : Nat) : Nat := taken l.pIn n / 2 ^ 10 % 512

/-- TPO.MODE: 0 OFF, 1 STATIC, 2 PULSED. -/
def fcTpoMode (l : LaneFc) (m : Nat) : Nat := taken l.pTpo m / 2 ^ 30

/-- Active width of a TPO in µs. -/
def fcTpoWidth (l : LaneFc) (m : Nat) : Nat := taken l.pTpo m % 65536

/-- OUT.KIND is STANDARD. -/
def fcStd (l : LaneFc) (o : Nat) : Bool := taken l.pOut o / 2 ^ 31 % 2 == 1

/-- STD_STATE: 0 OFF, 1 ON, 2 HOLD. -/
def fcStdState (l : LaneFc) (o : Nat) : Nat := taken l.pOut o / 2 ^ 29 % 4

/-- OUT.CONT: 0 NONE, 1 ON, 2 ON_OFF. -/
def fcCont (l : LaneFc) (o : Nat) : Nat := taken l.pOut o / 2 ^ 27 % 4

/-- Active dark-test time in µs. -/
def fcDtTime (l : LaneFc) (o : Nat) : Nat := taken l.pOut o % 65536

/-- UAC.MODE of a channel. -/
def fcUacMode (l : LaneFc) (n : Nat) : Nat := taken l.pAn n / 2 ^ 28

/-- The ANALOGUE entries as FA uses them: where both lanes have brought the same one (R192). -/
def faLane (s : State) : LaneFc :=
  { s.laneP with pAn := vtab 8 (fun n => if vget s.laneP.pAn n none == vget s.laneT.pAn n none then vget s.laneP.pAn n none else none) }

/-- The group supply of an output: 0 A, 1 B, 2 C, 3 D, 4 BK (Table 6.1). -/
def groupOfOut (o : Nat) : Nat := if 24 ≤ o then 4 else o / 6

/-! ## Lanes of the state -/

/-- A lane's field controller. -/
def laneOf (l : Lane) (s : State) : LaneFc :=
  match l with
  | .p => s.laneP
  | .t => s.laneT

/-- Replace a lane's field controller. -/
def setLane (l : Lane) (x : LaneFc) (s : State) : State :=
  match l with
  | .p => { s with laneP := x }
  | .t => { s with laneT := x }

/-- A lane's channel: the Ridge pair on P, the Thatch fabric on T (R16). -/
def chanOf (l : Lane) (s : State) : Chan :=
  match l with
  | .p => s.ridge
  | .t => s.thatch

/-- Replace a lane's channel. -/
def setChan (l : Lane) (x : Chan) (s : State) : State :=
  match l with
  | .p => { s with ridge := x }
  | .t => { s with thatch := x }

/-- The other lane. -/
def otherLane (l : Lane) : Lane :=
  match l with
  | .p => .t
  | .t => .p

/-! ## Outbound frames (R16, R17, R21) -/

/-- The checks of a frame apart from its sequence number: CRC, reserved bits, entries (R17, R21). A frame of an undefined type fails
like one whose check fails; the LANE bit is not judged, since each lane has a coupler of its own (DESIGN CHOICE, log entry 148). -/
def outSound (f : OutFrame) : Bool :=
  (f.ftype == 1 || f.ftype == 2) && f.crc == outCrc f && f.reserved == 0 && f.entries.all entryOk

/-- Is the sequence number the next one, or the first after the release of the reset level (R16, R129)? -/
def seqNext (ref : Option (BitVec 16)) (seq : BitVec 16) : Bool :=
  match ref with
  | some r => seq == r + 1
  | none => true

/-- Take one entry (R21). -/
def takeEntry (l : LaneFc) (e : ParamEntry) : LaneFc :=
  match e.item.toNat with
  | 1 => { l with pIn := vmod l.pIn e.index.toNat (fun _ => some e.value) }
  | 2 => { l with pTpo := vmod l.pTpo e.index.toNat (fun _ => some e.value) }
  | 3 => { l with pOut := vmod l.pOut e.index.toNat (fun _ => some e.value) }
  | 4 => { l with pAn := vmod l.pAn e.index.toNat (fun _ => some e.value) }
  | _ => l

/-- The switch commands that a frame carries: a parameter frame commands every switch open (R21). -/
def frameCmds (f : OutFrame) : BitVec 28 := if f.ftype = 2 then 0 else f.cmds

/-- The set-points that a frame carries: a parameter frame sets every output channel to its alarm code (R21). -/
def frameSetpt (l : LaneFc) (f : OutFrame) (n : Nat) : BitVec 16 :=
  if f.ftype = 2 then alarmCode (fcUacMode l n) else vget f.setpt n 0

/-- The gust event that a frame carries for a TPO: none in a parameter frame (R21). -/
def frameGust (f : OutFrame) (m : Nat) : GustEv :=
  if f.ftype = 2 then { code := 0, off := 0 } else vget f.gust m { code := 0, off := 0 }

/-- A tripped switch closes again only after it has been commanded open, and 1 s after the trip (R141). -/
def tripHolds (now : W64) (l : LaneFc) (o : Nat) : Bool :=
  match vget l.trip o none with
  | some t => !(l.tripRel.getLsbD o) || decide (now.toNat < t.toNat + tSec)
  | none => false

/-- Apply the switch commands of an accepted frame (R128, R141): an open command opens, also during a dark test (R48). -/
def applyCmds (now : W64) (f : OutFrame) (l : LaneFc) : LaneFc :=
  let c := frameCmds f
  { l with
    sw := bitsOf 28 (fun o => c.getLsbD o && !tripHolds now l o
        && !(match l.dt with
             | some d => d.opened && d.out.val == o
             | none => false))
    tripRel := bitsOf 28 (fun o => (vget l.trip o none).isSome && (l.tripRel.getLsbD o || !c.getLsbD o)
        && !(c.getLsbD o && !tripHolds now l o))
    trip := vtab 28 (fun o => if c.getLsbD o && !tripHolds now l o then none else vget l.trip o none) }

/-- The output of a lane's dark-test request, if the frame holds one. -/
def darkReq (f : OutFrame) : Option (Fin 28) :=
  if f.ftype = 2 then none else (idxs 28).find? (fun o => f.dark.getLsbD o.val)

/-- DT fields of a header: DT_OUT with DT_SKIP (Table 6.5). -/
def dtSkipHdr (o : Nat) : BitVec 16 := BitVec.ofNat 16 (o * 8 + 4)

/-- Take a dark-test request: skipped for an output commanded off in the same frame or with its supply in DIP or LOST (R133). -/
def takeDark (sup : Vector Supply 7) (f : OutFrame) (l : LaneFc) : LaneFc :=
  match darkReq f with
  | none => l
  | some o =>
    if !f.cmds.getLsbD o.val || 2 ≤ (vget sup (groupOfOut o.val) Supply.reset).st.toNat then
      { l with dtHdr := dtSkipHdr o.val }
    else { l with dt := some { out := o, opened := false } }

/-- A frame accepted: sequence reference, entries, commands, dark-test request; silence counts from the frame's start
detection (R16, R139). -/
def acceptFrame (now start : W64) (sup : Vector Supply 7) (f : OutFrame) (l : LaneFc) : LaneFc :=
  let t := f.entries.foldl takeEntry l
  takeDark sup f (applyCmds now f { t with ref := some f.seq, since := start, accepted := true, frame := some f })

/-- Do the lanes' accepted frames differ in a gust event or a set-point, or do entries that must be the same differ, or is an
event reserved or an offset T or more (R18, R21, R46, R82, R83)? -/
def lanesDiffer (T : Nat) (p t : LaneFc) (fp ft : OutFrame) : Bool :=
  (List.range 16).any (fun m =>
      frameGust fp m != frameGust ft m || 3 ≤ (frameGust fp m).code.toNat
        || ((frameGust fp m).code == 1 && T ≤ (frameGust fp m).off.toNat * 10))
    || (List.range 8).any (fun n => frameSetpt p fp n != frameSetpt t ft n)
    || p.pIn != t.pIn || p.pTpo != t.pTpo || p.pAn != t.pAn

/-- The code that FA holds of a set-point: IOUT codes above 48 000 but the alarm code, and VOUT codes beyond ±21 000 but the alarm code,
clamped; the field of another mode is ignored (R184). -/
def faSetpt (mode : Nat) (old code : BitVec 16) : BitVec 16 :=
  if mode = 3 then (if code != 0xFFFF && 48000 < code.toNat then 48000 else code)
  else if mode = 4 then (if code = 0x8000 then code else BitVec.ofInt 16 (max (-21000) (min 21000 (sgn code))))
  else old

/-- Do the lanes carry the same set-point, and the same ANALOGUE item, for a channel (R18, R21)? -/
def setptAgreed (s : State) (fp ft : OutFrame) (n : Nat) : Bool :=
  frameSetpt s.laneP fp n == frameSetpt s.laneT ft n && vget s.laneP.pAn n none == vget s.laneT.pAn n none

/-- Once both lanes have accepted their frames of the tick: compare them; equal set-points are driven, others held (R18). -/
def lanesMeet (s : State) : State :=
  match s.laneP.accepted, s.laneT.accepted, s.laneP.frame, s.laneT.frame with
  | true, true, some fp, some ft =>
    { s with
      field := { s.field with
        sched := lanesDiffer (tickUs s) s.laneP s.laneT fp ft
        tpo := vtab 16 (fun m => { vget s.field.tpo m TpoFc.reset with
          mismatch := frameGust fp m != frameGust ft m || vget s.laneP.pTpo m none != vget s.laneT.pTpo m none
          offTick := frameGust fp m == frameGust ft m && (frameGust fp m).code == 2 }) }
      fa := { s.fa with
        everAccepted := true
        ch := vtab 8 (fun n => let a := vget s.fa.ch n AnFa.reset
                               if setptAgreed s fp ft n then
                                 { a with setpt := faSetpt (fcUacMode s.laneP n) a.setpt (frameSetpt s.laneP fp n) } else a) } }
  | _, _, _, _ => s

/-- Does the lane's field controller take frames at all: not under the reset level, and not once it is silent (R129, R139)? -/
def takesFrames (l : LaneFc) : Bool := !l.resetLevel && !l.silent

/-! ## Inbound frames (R16, R130, R133, R136) -/

/-- Does the lane hold the read-back of output `o`: under a dark test of its switch, and for 50 µs after it (R133)? -/
def dtHeld (now : W64) (l : LaneFc) (o : Nat) : Bool :=
  l.dtHold.getLsbD o && (l.dt.any (fun d => d.opened && d.out.val == o) || decide (now.toNat < l.dtUntil.toNat))

/-- SW bits: what the sense cells report, 1 while a dark test of the switch is reported as running (R130, R133). -/
def swBits (now : W64) (l : LaneFc) : BitVec 28 := bitsOf 28 (fun o => l.sense.getLsbD o || dtHeld now l o)

/-- A supply reading in the inbound frame (R136). -/
def supplyBits (x : Supply) : BitVec 12 := BitVec.ofNat 12 (x.st.toNat * 1024 + x.volt.toNat)

/-- Band code that an input reports; BREAK's code stands where none is reported. -/
def bandCode (b : Option (BitVec 2)) : Nat :=
  match b with
  | some x => x.toNat
  | none => 0

/-- Is an input ON in one of the senses of Table 4.1: its raw or filtered state, or a reported band CLOSED, which stands while its TPO is
switched off (R78)? -/
def InFc.isOn (x : InFc) : Bool := x.cand || x.filt || x.band == some 2

/-- Is the input ON, and fed by a TPO with a fault: a follow failure for as long as the fault stands (R88)? A STANDARD input takes no part
in it (R95). -/
def tpoFails (l : LaneFc) (tpo : Vector TpoFc 16) (n : Nat) (x : InFc) : Bool :=
  match fcInTpo l n with
  | 0 => false
  | m + 1 => fcInMode l n != 5 && x.isOn && ((vget tpo m TpoFc.reset).overload || (vget tpo m TpoFc.reset).stuck)

/-- The inbound frame that a field controller starts now, with the echo of the last accepted frame (Table 1.4). -/
def inFrameOf (lane : Lane) (s : State) : InFrame :=
  let l := laneOf lane s
  let q := s.field.inp
  let f : InFrame :=
    { header := BitVec.ofNat 16 (4096 + bit (lane = .t) 11 + bit s.field.sched 10) ||| l.dtHdr
      echo := l.ref.getD 0
      inputs := bitsOf 48 (fun n => (vget q n InFc.reset).filt)
      bands := BitVec.ofNat 96 ((List.range 48).foldl (fun a n => a + bandCode (vget q n InFc.reset).band * 4 ^ n) 0)
      follow := bitsOf 48 (fun n => (vget q n InFc.reset).followOk && !tpoFails l s.field.tpo n (vget q n InFc.reset))
      sw := swBits s.tb.count l
      live := bitsOf 28 (fun o => (vget s.field.out o OutFc.reset).live)
      supplies := vmap supplyBits s.field.sup
      sd := vmap AnFa.sd s.fa.ch
      sar := vmap AnFa.sar s.fa.ch
      anStat := vmap AnFa.stat s.fa.ch
      groupOver := l.groupOver
      reserved := 0
      crc := 0 }
  { f with crc := inCrc f }

/-- The NEW bits have been carried once both lanes have started their inbound frames of the tick, or the only lane that sends one
(Table 8.3). -/
def takeNew (s : State) : State :=
  let carried (l : LaneFc) (c : Chan) : Bool := l.inTx.isSome || c.tx.ftype == 0
  if carried s.laneP s.ridge && carried s.laneT s.thatch then
    { s with fa := { s.fa with ch := vmap (fun a => { a with stat := a.stat &&& 7 }) s.fa.ch } }
  else s

/-- Frame-start detection `det` units after the start of the lane's outbound frame, at most 2 µs, and the start of the inbound frame 1 µs
later; the result header has then been carried (R16, R30, R130, R133). -/
def startInbound (lane : Lane) (det : Nat) (s : State) : State :=
  let l := { laneOf lane s with det := (chanOf lane s).txAt + BitVec.ofNat 64 (min det 200) }
  takeNew (setLane lane { l with inTx := some (inFrameOf lane s), dtHdr := 0, accepted := false } s)

/-! ## A frame of the tick (R16, R17, R21, R128) -/

/-- The field controller's check of a frame, and what it does with a good one. -/
def judgeFrame (lane : Lane) (f : OutFrame) (s : State) : State :=
  let l := laneOf lane s
  if !takesFrames l then s
  else if outSound f && seqNext l.ref f.seq then
    lanesMeet (setLane lane (acceptFrame s.tb.count l.det s.field.sup f l) s)
  else setLane lane { l with rejected := BitVec.ofNat 16 (min 65535 (l.rejected.toNat + 1)) } s

/-- A turn-off time of a lane's switch in 2 µs units, for the output's register, and with at least 50 mA before the opening for
Weathering (Tables 6.11, 14.6). -/
def turnOff (lane : Lane) (o t : Nat) (s : State) : State :=
  let x := vget s.field.out o OutFc.reset
  let i := if lane = .p then x.iP else x.iT
  { s with
    field := { s.field with out := vmod s.field.out o (fun y =>
      if lane = .p then { y with offP := min 63 t } else { y with offT := min 63 t }) }
    wth := if 50000 ≤ i then { s.wth with cur := { s.wth.cur with
        off := vmod s.wth.cur.off (swIx lane o) (fun v => max v (2 * t)) } } else s.wth }

/-- The switches that a frame has opened: the turn-off time of each is measured, at a value that no command gives (Tables 6.11, 14.6; free
value, log entry 122). -/
def commandedOffs (lane : Lane) (old s : State) : State :=
  (List.range 28).foldl (fun t o =>
    if (laneOf lane old).sw.getLsbD o && !(laneOf lane s).sw.getLsbD o then
      turnOff lane o (Config.offTime t.free) { t with free := t.free + 1 }
    else t) s

/-- EAVE_OUTBOUND_FRAME: the field controller detects the start of the frame of this tick, starts its inbound frame, and acts on the
frame once it has passed its checks; the switches that it opens are measured (R16, R17, R21, R128). -/
def execEaveOutboundFrame (lane : Lane) (rx : OutRx) (s : State) (det : Nat := 0) : Host.Outcome State Fault Refusal :=
  let f := match rx with
    | .asSent => (chanOf lane s).tx
    | .other g => g
  if (laneOf lane s).resetLevel || (chanOf lane s).tx.ftype = 0 || (laneOf lane s).inTx.isSome then .next s
  else
    let t := startInbound lane det s
    .next (commandedOffs lane t (judgeFrame lane f t))

end Sys2Proof.Machine
end

