-- ==== Sys2Proof/Machine/Field.lean ====
section
/-! DEFINITION. The field side: the 16 kHz sample of inputs, supplies and outputs, filters and bands, gust pulses, the reset
level and lane silence (R60, R75 to R89, R129, R130, R136, R139 to R143). -/

namespace Sys2Proof.Machine

/-! ## Filters and bands (R60, R75 to R79) -/

/-- The filter time of an input in samples: at least one (R75). -/
def filterTicks (l : LaneFc) (n : Nat) : Nat := max (fcInFilter l n) 1

/-- The band time B = max(F, 2 ms) in samples (R77). -/
def bandTicks (l : LaneFc) (n : Nat) : Nat := max (fcInFilter l n) 32

/-- Is the input inside a gust-pulse window of its own TPO (R76, R84)? -/
def inOwnWindow (l : LaneFc) (tpo : Vector TpoFc 16) (n : Nat) : Bool :=
  match fcInTpo l n with
  | 0 => false
  | m + 1 => (vget tpo m TpoFc.reset).phase != 0

/-- Does a TPO drive its land high: its switch is on, and the voltage is at or above 15.0 V (R78)? -/
def tpoHigh (l : LaneFc) (m : Nat) (x : TpoFc) (mv : Nat) : Bool :=
  fcTpoMode l m != 0 && !(x.overload && x.restart.isNone) && !x.offTick && x.phase == 0 && 15000 ≤ mv

/-- Does the band count use this sample: not in an own window, and for WIREBREAK only with the TPO driving high (R77, R78)? -/
def bandCounts (l : LaneFc) (tpo : Vector TpoFc 16) (mv : Vector Nat 16) (n : Nat) : Bool :=
  !inOwnWindow l tpo n
    && (fcInMode l n != 4
        || (match fcInTpo l n with
            | 0 => false
            | m + 1 => tpoHigh l m (vget tpo m TpoFc.reset) (vget mv m 0)))

/-- The band that a current of `ua` µA lies in; in WIREBREAK a current below 1.9 mA is scaled by 24.0 V / V_TPO first, and compared
with every band (Table 4.2, R78). -/
def bandAt (mode ua mv : Nat) : Option (BitVec 2) :=
  let d := if mode = 4 then mv else 24000
  let x := ua * 24000
  if 1900 ≤ ua || 1900 * d ≤ x then some 2
  else if x < 300 * d then some 0
  else if 600 * d ≤ x && x ≤ 1400 * d then some 1
  else none

/-- A disagreement of the comparators under one reported band other than INDETERMINATE, counted in samples (R60). -/
def disagreeStep (agree : Bool) (x : InFc) : InFc :=
  if agree then { x with disagree := 0, disBand := none }
  else if x.band = none || x.band = some 3 then { x with disagree := 0, disBand := none }
  else if x.disBand = x.band then { x with disagree := x.disagree + 1 }
  else { x with disagree := 1, disBand := x.band }

/-- The filter count of one sample (R75, R76). -/
def filterStep (counts raw : Bool) (x : InFc) : InFc :=
  if !counts then x
  else if raw = x.filt then { x with cand := raw, cnt := 0 }
  else { x with cand := raw, cnt := x.cnt + 1 }

/-- The band counts of one sample (R77, R79). -/
def bandStep (mode : Nat) (agree raw : Bool) (b : Option (BitVec 2)) (x : InFc) : InFc :=
  let clash := agree && ((b == some 2 && !raw) || (mode == 4 && b == some 1 && raw))
  { x with
    bandCand := b
    bandCnt := if b.isSome then (if x.bandCand = b then x.bandCnt + 1 else 1) else 0
    outCnt := if b.isSome then 0 else x.outCnt + 1
    onBreak := if agree && raw && b == some 0 then x.onBreak + 1 else 0
    offClosed := if clash then x.offClosed + 1 else 0 }

/-- A comparator at one sample: ON from 10 V, OFF up to 7 V, and in between as its hysteresis has it (R73; log entry 145). -/
def comparator (was : Bool) (mv : Nat) : Bool := 10000 ≤ mv || (7000 < mv && Config.hysteresis was mv)

/-- One input at one sample (R60, R73, R75 to R79); an UNUSED input is not evaluated (R74), a STANDARD one has no band (R95). -/
def inputStep (l : LaneFc) (tpo : Vector TpoFc 16) (q : FieldSample) (n : Nat) (x0 : InFc) : InFc :=
  let mode := fcInMode l n
  let p := comparator x0.cmpP (vget q.landP n 0)
  let t := comparator x0.cmpT (vget q.landT n 0)
  let mv := match fcInTpo l n with
    | 0 => 24000
    | m + 1 => vget q.tpoMv m 0
  let ua := vget q.cur n 0
  let x := { x0 with cmpP := p, cmpT := t, current := ua }
  if mode = 0 then x
  else
    let y := filterStep (p == t && !inOwnWindow l tpo n) p (disagreeStep (p == t) x)
    if mode ≠ 5 && bandCounts l tpo q.tpoMv n then bandStep mode (p == t) p (bandAt mode ua mv) y else y

/-! ## Supplies and outputs (R130, R136) -/

/-- One supply at one sample: the state moves on the mean of both readings; DIP ends in LOST, and LOST in OK, by commands of
their own (Table 6.7). -/
def supplyStep (p t : Nat) (x : Supply) : Supply :=
  let sum := p + t
  let low := decide (sum < 2 * 19200)
  let dip := decide (sum < 2 * 15000)
  let far := decide (sum + 10000 < 100 * (max p t - min p t))
  let y := { x with volt := BitVec.ofNat 10 (min 1023 (sum / 100)), diff := if far then x.diff + 1 else 0 }
  if x.st = 3 then { y with good := if low then 0 else x.good + 1 }
  else if dip then { y with st := 2, dip := if x.st = 2 then x.dip + 1 else 1 }
  else { y with st := if low then 1 else 0, dip := 0 }

/-- LIVE as one lane sees it: current with hysteresis on a closed switch, the return land on an open one (R130, Table 6.3). -/
def liveView (closed was : Bool) (ua : Nat) (land : Bool) : Bool :=
  if closed then (if was then 3000 ≤ ua else 5000 ≤ ua) else land

/-- Is the lane's switch of `o` commanded closed? -/
def cmdClosed (l : LaneFc) (o : Nat) : Bool :=
  match l.frame with
  | some f => (frameCmds f).getLsbD o
  | none => false

/-- Is the lane's switch of `o` held open by its own protection under a close command (R141)? -/
def tripped (l : LaneFc) (o : Nat) : Bool := cmdClosed l o && (vget l.trip o none).isSome

/-- One output at one sample: LIVE by the agreement of both lanes, held under a dark test, and 1 while a switch is tripped under a
close command (R130, R133, R141; log entry 149); the currents of both switches. -/
def outStep (now : W64) (lp lt : LaneFc) (q : FieldSample) (o : Nat) (x : OutFc) : OutFc :=
  if dtHeld now lp o || dtHeld now lt o then x
  else
    let ip := vget q.swP o 0
    let it := vget q.swT o 0
    let vp := liveView (cmdClosed lp o) x.live ip (decide (12000 < vget q.retP o 0))
    let vt := liveView (cmdClosed lt o) x.live it (decide (12000 < vget q.retT o 0))
    { x with
      live := if tripped lp o || tripped lt o then true else if vp = vt then vp else x.live
      load := ip / 1000, iP := ip, iT := it }

/-- Current of a group above which its sum is too high, and its rated current, in µA (Table 6.1, R143). -/
def groupLimit (g : Nat) : Nat × Nat := if g = 4 then (8800000, 8000000) else (4400000, 4000000)

/-- Sum of the currents of a lane's switches in a group, in µA (R143). -/
def groupSum (sw : Vector Nat 28) (g : Nat) : Nat :=
  (List.range 28).foldl (fun a o => if groupOfOut o = g then a + vget sw o 0 else a) 0

/-- A lane at one sample: its sense cells by the agreement of both controllers, and its group sums (R60, R130, R143). -/
def laneSample (sense : Vector (BitVec 28) 2) (sw : Vector Nat 28) (l : LaneFc) : LaneFc :=
  if l.resetLevel then l
  else
    { l with
      sense := bitsOf 28 (fun o => if sense[0].getLsbD o == sense[1].getLsbD o then sense[0].getLsbD o else l.sense.getLsbD o)
      grpHigh := vtab 5 (fun g => if (groupLimit g).1 < groupSum sw g then vget l.grpHigh g 0 + 1 else 0)
      grpOk := vtab 5 (fun g => if groupSum sw g ≤ (groupLimit g).2 then vget l.grpOk g 0 + 1 else 0) }

/-- FIELD_SAMPLE: one 16 kHz sample of both field controllers. Under the reset level inputs stay as the level left them. -/
def execFieldSample (x : FieldSample) (s : State) : Host.Outcome State Fault Refusal :=
  if !s.pwr.domains.getLsbD 1 then .next s
  else
    let f := s.field
    let held := s.laneP.resetLevel || s.laneT.resetLevel
    let field := { f with
      inp := if held then f.inp else vtab 48 (fun n => inputStep s.laneP f.tpo x n (vget f.inp n InFc.reset))
      tpo := vtab 16 (fun m => { vget f.tpo m TpoFc.reset with current := vget x.tpoMa m 0, mv := vget x.tpoMv m 0 })
      sup := vtab 7 (fun k => supplyStep (vget x.supP k 0) (vget x.supT k 0) (vget f.sup k Supply.reset))
      out := vtab 28 (fun o => outStep s.tb.count s.laneP s.laneT x o (vget f.out o OutFc.reset)) }
    .next { s with field := field, laneP := laneSample x.senseP x.swP s.laneP, laneT := laneSample x.senseT x.swT s.laneT }

/-- Change one input's field state. -/
def inpUpd (n : Nat) (g : InFc → InFc) (s : State) : State := { s with field := { s.field with inp := vmod s.field.inp n g } }

/-- FILTER_ACCEPT: the raw state has been the new one for max(F, 62.5 µs), counted from the first sample (R75). -/
def execFilterAccept (n : Fin 48) (s : State) : Host.Outcome State Fault Refusal :=
  let x := s.field.inp[n.val]
  if x.cand != x.filt && filterTicks s.laneP n.val < x.cnt then
    .next (inpUpd n.val (fun y => { y with filt := y.cand, cnt := 0 }) s)
  else .next s

/-- The band that an input is now to report, if any (R77, R79). -/
def bandDue (l : LaneFc) (n : Nat) (x : InFc) : Option (BitVec 2) :=
  let b := bandTicks l n
  if b + 1 < x.offClosed then some 3
  else if x.bandCand.isSome && b < x.bandCnt then x.bandCand
  else if b + 1 < x.outCnt then some 3
  else none

/-- BAND_REPORT (R77, R79). -/
def execBandReport (n : Fin 48) (s : State) : Host.Outcome State Fault Refusal :=
  match bandDue s.laneP n.val s.field.inp[n.val] with
  | some b => .next (inpUpd n.val (fun y => { y with band := some b }) s)
  | none => .next s

/-- INPUT_VIEW_MISMATCH: 80 samples of disagreement under a steady band (R60). -/
def execInputViewMismatch (n : Fin 48) (s : State) : Host.Outcome State Fault Refusal :=
  if 80 ≤ s.field.inp[n.val].disagree then .next (raise fcInputViewMismatch n.val s) else .next s

/-- INPUT_MEAS_FAULT: comparator ON in band BREAK for longer than B (R79). -/
def execInputMeasFault (n : Fin 48) (s : State) : Host.Outcome State Fault Refusal :=
  if bandTicks s.laneP n.val + 1 < s.field.inp[n.val].onBreak then .next (raise fcInputMeasFault n.val s) else .next s

/-- SUPPLY_VIEW_MISMATCH: the readings apart at 80 samples (R136). -/
def execSupplyViewMismatch (k : Fin 7) (s : State) : Host.Outcome State Fault Refusal :=
  if 80 ≤ s.field.sup[k.val].diff then .next (raise fcSupplyViewMismatch k.val s) else .next s

/-- Change one supply. -/
def supUpd (k : Nat) (g : Supply → Supply) (s : State) : State := { s with field := { s.field with sup := vmod s.field.sup k g } }

/-- SUPPLY_LOST: the first sample more than 2 ms after the first one of the DIP, which is the 34th (Table 6.7). -/
def execSupplyLost (k : Fin 7) (s : State) : Host.Outcome State Fault Refusal :=
  if s.field.sup[k.val].st = 2 && 34 ≤ s.field.sup[k.val].dip then
    .next (supUpd k.val (fun x => { x with st := 3, dip := 0, good := 0 }) s)
  else .next s

/-- SUPPLY_RECOVERED: the sample that ends 100 ms at or above 19.2 V, which is the 1 601st (Table 6.7). -/
def execSupplyRecovered (k : Fin 7) (s : State) : Host.Outcome State Fault Refusal :=
  if s.field.sup[k.val].st = 3 && 1601 ≤ s.field.sup[k.val].good then
    .next (supUpd k.val (fun x => { x with st := 0, good := 0 }) s)
  else .next s

/-! ## Reset level and silence (R129, R139, R140) -/

/-- A lane's field controller at the release: no reference, the silence count starts (R129). -/
def laneRelease (now : W64) (l : LaneFc) : LaneFc :=
  { laneReset l with resetLevel := false, since := now }

/-- A channel at the release: from its first frame on it writes its parameter entries (R21). -/
def chanRelease (lane : Lane) (s : State) : State :=
  let c := chanOf lane s
  setChan lane { c with tx := OutFrame.blank lane, echoDue := none, entries := allEntries lane s } s

/-- RESET_LEVEL_RELEASE: once SELFTEST has begun and both channels send (R129, R277, R278). -/
def execResetLevelRelease (s : State) : Host.Outcome State Fault Refusal :=
  if s.mode = .selftest && !s.resetHeld && (s.laneP.resetLevel || s.laneT.resetLevel) then
    let t := chanRelease .p (chanRelease .t s)
    .next { t with laneP := laneRelease t.tb.count t.laneP, laneT := laneRelease t.tb.count t.laneT }
  else .next s

/-- Switches of a silent lane: SAFE and brake outputs open, STANDARD ones in their STD_STATE, but one that its protection has opened
stays open (R140, R141). -/
def silentSw (l : LaneFc) : BitVec 28 :=
  bitsOf 28 (fun o => decide (o < 24) && fcStd l o
    && (match fcStdState l o with
        | 1 => !(vget l.trip o none).isSome
        | 2 => cmdClosed l o && !(vget l.trip o none).isSome
        | _ => false))

/-- 2 × T + 100 µs in timebase units (R139). -/
def silenceTime (s : State) : Nat := 2 * tickUnits s.tick.sel.toNat + 100 * tUs

/-- LANE_SILENCE: no frame accepted for 2 × T + 100 µs; the lane stays silent until the next reset of the field side, and
is marked towards FA (R139, R140). -/
def execLaneSilence (lane : Lane) (s : State) : Host.Outcome State Fault Refusal :=
  let l := laneOf lane s
  if takesFrames l && due s (l.since.toNat + silenceTime s) then
    let t := setLane lane { l with silent := true, sw := silentSw l, dt := none } s
    .next { t with fa := if lane = .p then { t.fa with silentP := true } else { t.fa with silentT := true } }
  else .next s

/-! ## Gust pulses (R46, R81 to R89) -/

/-- Change one TPO. -/
def tpoUpd (m : Nat) (g : TpoFc → TpoFc) (s : State) : State := { s with field := { s.field with tpo := vmod s.field.tpo m g } }

/-- Inputs fed by a TPO. -/
def fedBy (l : LaneFc) (m : Nat) : List (Fin 48) := (idxs 48).filter (fun n => fcInTpo l n.val == m + 1)

/-- Is the follow of an input checked: GUST, or WIREBREAK fed by a pulsing TPO (Table 4.1)? -/
def followChecked (l : LaneFc) (n : Nat) : Bool :=
  fcInMode l n == 2 || (fcInMode l n == 4 && (match fcInTpo l n with
    | 0 => false
    | m + 1 => fcTpoMode l m == 2))

/-- A follow failure of this pulse (R85, R86): TPO_FAIL replaces an earlier kind of the same pulse, nothing else does. -/
def followFail (kind : BitVec 4) (x : InFc) : InFc :=
  { x with followOk := false, failNow := true, kind := if x.failNow && kind != 4 then x.kind else kind }

/-- A TPO fault at an input that it feeds and that was ON: a follow failure of kind TPO_FAIL, which outlasts the fault only where the follow is
checked; no other input has a pulse that could restore it (R88, R95, R96). -/
def tpoFailIn (l : LaneFc) (n : Nat) (x : InFc) : InFc :=
  if fcInMode l n = 5 then x else if followChecked l n then followFail 4 x else { x with kind := 4 }

/-- Apply a change to every input that satisfies `p`. -/
def inpAll (p : Nat → Bool) (g : Nat → InFc → InFc) (s : State) : State :=
  { s with field := { s.field with inp := vtab 48 (fun n =>
      let x := vget s.field.inp n InFc.reset
      if p n then g n x else x) } }

/-- The other members of the cross-check sets of a TPO's inputs, fed from another TPO (R87). -/
def foreignOf (cfg : Config.Image) (l : LaneFc) (m n : Nat) : Bool :=
  fcInTpo l n != m + 1 && followChecked l n && (xsetOf cfg n).any (fun k => k != n && fcInTpo l k == m + 1)

/-- The gust event for a TPO that both lanes' accepted frames of this tick carry, if they carry the same (R18, R46). -/
def agreedGust (s : State) (m : Nat) : Option GustEv :=
  match s.laneP.accepted, s.laneT.accepted, s.laneP.frame, s.laneT.frame with
  | true, true, some fp, some ft => if frameGust fp m = frameGust ft m then some (frameGust fp m) else none
  | _, _, _, _ => none

/-- May the TPO pulse: PULSED with the same width on both lanes, running, and not pulsing already (R82, R88)? -/
def mayPulse (s : State) (m : Nat) : Bool :=
  let x := vget s.field.tpo m TpoFc.reset
  fcTpoMode s.laneP m == 2 && taken s.laneP.pTpo m == taken s.laneT.pTpo m && x.phase == 0 && !x.driven
    && !(x.overload && x.restart.isNone) && !s.laneP.resetLevel

/-- The later of the two lanes' frame-start detections, from which the offsets count (R46, R83). -/
def gustBase (s : State) : Nat := max s.laneP.det.toNat s.laneT.det.toNat

/-- GUST_PULSE_START: the TPO switches off at its offset, window 1 opens for its inputs; `on` are the inputs that are ON at t0 by
their captured edges (R46, R84, R85). -/
def execGustPulseStart (m : Fin 16) (s : State) (on : BitVec 48 := 0) : Host.Outcome State Fault Refusal :=
  match agreedGust s m.val with
  | some g =>
    let off := g.off.toNat * 10
    if g.code = 1 && off < tickUs s && mayPulse s m.val && due s (gustBase s + off * tUs) then
      let cfg := s.active.image
      let t := inpAll (fun n => fcInTpo s.laneP n == m.val + 1
            || (foreignOf cfg s.laneP m.val n && !inOwnWindow s.laneP s.field.tpo n))
          (fun n x => { x with onAtT0 := on.getLsbD n, failNow := false }) s
      .next (tpoUpd m.val (fun x =>
        { x with phase := 1, width := fcTpoWidth s.laneP m.val, driven := true, t0 := s.tb.count }) t)
    else .next s
  | none => .next s

/-- GUST_WINDOW1_END: an input still ON has MISSED the pulse; a foreign input that fell and stays OFF is shorted to this
TPO's wire (Table 4.4). -/
def execGustWindow1End (m : Fin 16) (offSeen foreign : BitVec 48) (delays : Vector Nat 48) (s : State) :
    Host.Outcome State Fault Refusal :=
  let x := s.field.tpo[m.val]
  let l := s.laneP
  if x.phase = 1 && due s (x.t0.toNat + 150 * tUs) then
    let own (n : Nat) : Bool := fcInTpo l n == m.val + 1 && followChecked l n && (vget s.field.inp n InFc.reset).onAtT0
    let t := inpAll own (fun n y =>
        if offSeen.getLsbD n then { y with edgeDly := BitVec.ofNat 8 (min 255 (vget delays n 0)) } else followFail 1 y) s
    let u := inpAll (fun n => foreignOf s.active.image l m.val n && foreign.getLsbD n && !inOwnWindow l s.field.tpo n
        && (vget s.field.inp n InFc.reset).onAtT0) (fun _ y => followFail 3 y) t
    .next (tpoUpd m.val (fun y => { y with phase := 2 }) u)
  else .next s

/-- The failures that the hold interval shows: an input ON in it is CROSS; a land still high, above 12 V, is TPO_FAIL for each input
that was ON (R81, R85, R88). -/
def holdFails (m : Nat) (high : Bool) (onInHold : BitVec 48) (s : State) : State :=
  let l := s.laneP
  let t := inpAll (fun n => fcInTpo l n == m + 1 && followChecked l n && onInHold.getLsbD n) (fun _ y => followFail 2 y) s
  if high then
    inpAll (fun n => fcInTpo l n == m + 1 && ((vget s.field.inp n InFc.reset).onAtT0 || (vget s.field.inp n InFc.reset).isOn)) (tpoFailIn l) t
  else t

/-- TPO_STUCK_HIGH raised at once, or cleared by the second pulse in a row seen low (R88, Table 4.6). -/
def stuckHigh (m low : Nat) (high : Bool) (s : State) : State :=
  if high then raise fcTpoStuckHigh m s else if 2 ≤ low then clearFault fcTpoStuckHigh m s else s

/-- GUST_PULSE_END: the highest land voltage in the hold interval so far and the inputs ON in it. Before t0 + w the row says what has
occurred by then, which counts at that moment (R86; log entry 150); from t0 + w on the TPO switches on again and window 2 opens. -/
def execGustPulseEnd (m : Fin 16) (landMv : Nat) (onInHold : BitVec 48) (s : State) : Host.Outcome State Fault Refusal :=
  let x := s.field.tpo[m.val]
  let high := decide (12000 < landMv)
  if x.phase != 2 then .next s
  else
    let t := holdFails m.val high onInHold s
    if due s (x.t0.toNat + x.width * tUs) then
      let low := if high then 0 else x.lowRun + 1
      .next (stuckHigh m.val low high (tpoUpd m.val (fun y => { y with
        phase := 3, lowRun := low, stuck := high || (y.stuck && decide (low < 2)) }) t))
    else .next (stuckHigh m.val 0 high (tpoUpd m.val (fun y => { y with
      lowRun := if high then 0 else y.lowRun, stuck := high || y.stuck }) t))

/-- GUST_WINDOW2_END: the controllers exchange their results of the pulse; both report the AND (R86). An input that was OFF throughout is
not checked, which reads like a pulse followed (Tables 4.4, 4.8). -/
def execGustWindow2End (m : Fin 16) (okP okT : BitVec 48) (s : State) : Host.Outcome State Fault Refusal :=
  let x := s.field.tpo[m.val]
  let l := s.laneP
  if x.phase = 3 && due s (x.t0.toNat + (x.width + 150) * tUs) then
    let own (n : Nat) : Bool := fcInTpo l n == m.val + 1 && followChecked l n
      && ((vget s.field.inp n InFc.reset).onAtT0 || (vget s.field.inp n InFc.reset).failNow)
    let off (n : Nat) : Bool := fcInTpo l n == m.val + 1 && followChecked l n && !own n
    let t := inpAll own (fun n y =>
        let apart := okP.getLsbD n != okT.getLsbD n
        let z := { y with viewDiff := if apart then y.viewDiff + 1 else 0 }
        if y.failNow then z
        else if okP.getLsbD n && okT.getLsbD n then { z with followOk := true }
        else followFail 1 z) (inpAll off (fun _ y => { y with followOk := true }) s)
    let bad := (idxs 48).filter (fun n => own n.val && 2 ≤ (vget t.field.inp n.val InFc.reset).viewDiff)
    let w := { t with wth := { t.wth with cur := { t.wth.cur with edge := vtab 48 (fun n =>
      let v := vget t.wth.cur.edge n 0
      let y := vget t.field.inp n InFc.reset
      if own n && !y.failNow && y.followOk then max v y.edgeDly.toNat else v) } } }
    .next (bad.foldl (fun u n => raise fcInputViewMismatch n.val u) (tpoUpd m.val (fun y => { y with phase := 0 }) w))
  else .next s

/-- TPO_OVERLOAD: 1 ms in the current limit; the TPO switches off until it is restarted (R88). -/
def execTpoOverload (m : Fin 16) (s : State) : Host.Outcome State Fault Refusal :=
  if fcTpoMode s.laneP m.val = 0 || s.laneP.resetLevel || (s.field.tpo[m.val].overload && s.field.tpo[m.val].restart.isNone) then .next s
  else
    let t := tpoUpd m.val (fun x => { x with overload := true, restart := none, phase := 0 }) s
    let u := inpAll (fun n => fcInTpo s.laneP n == m.val + 1 && (vget s.field.inp n InFc.reset).isOn) (tpoFailIn s.laneP) t
    .next (raise fcTpoOverload m.val u)

/-- TPO_OVERLOAD_CLEAR: 100 ms after the restart without a new overload (R88). -/
def execTpoOverloadClear (m : Fin 16) (s : State) : Host.Outcome State Fault Refusal :=
  match s.field.tpo[m.val].restart with
  | some t =>
    if s.field.tpo[m.val].overload && due s (t.toNat + 100 * tMs) then
      .next (clearFault fcTpoOverload m.val (tpoUpd m.val (fun x => { x with overload := false, restart := none }) s))
    else .next s
  | none => .next s

/-! ## Switch protection and group currents (R141, R143) -/

/-- SWITCH_PROTECTION_TRIP: a closed switch opens itself and is held open (R141). -/
def execSwitchProtectionTrip (lane : Lane) (o : Fin 28) (s : State) : Host.Outcome State Fault Refusal :=
  let l := laneOf lane s
  if l.sw.getLsbD o.val then
    .next (setLane lane { l with
      sw := setBit l.sw o.val false, trip := vmod l.trip o.val (fun _ => some s.tb.count)
      tripRel := setBit l.tripRel o.val false } s)
  else .next s

/-- GROUP_OVERCURRENT: the lane's sum has stayed above the rated current plus 10 % for 100 ms, which its 1 601st sample ends: the
group's bit sets (R143). -/
def execGroupOvercurrent (lane : Lane) (g : Fin 5) (s : State) : Host.Outcome State Fault Refusal :=
  let l := laneOf lane s
  if !l.resetLevel && 1601 ≤ l.grpHigh[g.val] then .next (setLane lane { l with groupOver := setBit l.groupOver g.val true } s)
  else .next s

/-- GROUP_OVERCURRENT_CLEAR: the lane's sum has stayed within the rated current for 1 s: the group's bit clears (R143). -/
def execGroupOvercurrentClear (lane : Lane) (g : Fin 5) (s : State) : Host.Outcome State Fault Refusal :=
  let l := laneOf lane s
  if 16001 ≤ l.grpOk[g.val] then .next (setLane lane { l with groupOver := setBit l.groupOver g.val false } s) else .next s

end Sys2Proof.Machine
end

