-- ==== Sys2Proof/Machine/Outputs.lean ====
section
/-! DEFINITION. Safe outputs in the channels: read-back evaluation, dark tests, proofs of opening, brake coils, the latch
request (R48, R130 to R135, R144; Tables 6.4, 6.5, 6.8). -/

namespace Sys2Proof.Machine

/-! ## Dark-test schedule (R133) -/

/-- Is the output dark-tested: SAFE, DARK, driven by an OUT block (R133, Table 6.9)? -/
def darkTested (cfg : Config.Image) (o : Nat) : Bool :=
  outBlocked cfg o && lookN cfg .outKind o 0 0 == 0 && cfgTest cfg o == 0

/-- N_DT of an output: its active interval in ticks, rounded up (R133, R134). -/
def nDt (s : State) (o : Nat) : Nat := ticksOf (tickUs s) (vget s.wth.interval o 0)

/-- The outputs that share an N_DT, in ascending order. -/
def dtPeers (s : State) (N : Nat) : List Nat :=
  (List.range 28).filter (fun o => darkTested s.active.image o && nDt s o == N)

/-- Is a test of `o` on the lane due in the tick with this TICK count (R133)? -/
def darkDueAt (lane : Lane) (o tick : Nat) (s : State) : Bool :=
  let N := nDt s o
  let peers := dtPeers s N
  let k := peers.idxOf o
  let shift := k * N / peers.length + (if lane = .t then N / 2 else 0)
  darkTested s.active.image o && N != 0 && ((tick : Int) - shift) % N == 0

/-- DARK_TEST_DUE: the test of the tick that follows falls due, in the schedule of this lane that each channel computes (R20, R133). -/
def execDarkTestDue (lane : Lane) (o : Fin 28) (s : State) : Host.Outcome State Fault Refusal :=
  if s.mode.runs && darkDueAt lane o.val (s.tick.count + 1).toNat s then
    let c := chanOf lane s
    let d := chanOf (otherLane lane) s
    .next (setChan (otherLane lane) { d with other := { d.other with due := setBit d.other.due o.val true } }
      (setChan lane { c with own := { c.own with due := setBit c.own.due o.val true } } s))
  else .next s

/-- DARK_TEST_START: 150 µs after frame-start detection the tested switch opens (R48). -/
def execDarkTestStart (lane : Lane) (s : State) : Host.Outcome State Fault Refusal :=
  let l := laneOf lane s
  match l.dt with
  | some d =>
    if !d.opened && takesFrames l && due s (l.det.toNat + 150 * tUs) then
      .next (setLane lane { l with
        dt := some { d with opened := true }
        sw := setBit l.sw d.out.val false
        dtHold := setBit l.dtHold d.out.val true
        dtUntil := s.tb.count + BitVec.ofNat 64 ((fcDtTime l d.out.val + 50) * tUs) } s)
    else .next s
  | none => .next s

/-- Header of a test that has ended (Table 6.5): DT_DONE, DT_PASS, DT_OUT, DT_STUCK. -/
def dtDoneHdr (o : Nat) (sw crossed : Bool) : BitVec 16 :=
  BitVec.ofNat 16 (512 + bit (!sw && crossed) 8 + o * 8 + bit sw 1)

/-- Has the tested land crossed 12 V: below it for a high-side switch, above it for a low-side one (R132)? -/
def landCrossed (lane : Lane) (mv : Nat) : Bool :=
  match lane with
  | .p => decide (mv < 12000)
  | .t => decide (12000 < mv)

/-- DARK_TEST_END: the test time is over; SW and the land's voltage are judged, and the switch follows its command again; its
read-back is held for 50 µs more (R48, R132, R133). -/
def execDarkTestEnd (lane : Lane) (sw : Bool) (landMv turnOff2us : Nat) (s : State) : Host.Outcome State Fault Refusal :=
  let l := laneOf lane s
  match l.dt with
  | some d =>
    if d.opened && due s (l.dtUntil.toNat - 50 * tUs) then
      let o := d.out.val
      .next (turnOff lane o turnOff2us (setLane lane { l with
        dt := none
        dtUntil := s.tb.count + BitVec.ofNat 64 (50 * tUs)
        dtHdr := dtDoneHdr o sw (landCrossed lane landMv)
        sw := setBit l.sw o (sw || (cmdClosed l o && !(vget l.trip o none).isSome)) } s))
    else .next s
  | none => .next s

/-! ## Read-back in a channel (R131 to R135, R144) -/

/-- The result fields of an inbound header: done, passed, output, skipped, stuck (Table 6.5). -/
structure DtResult where
  done : Bool
  pass : Bool
  out : Nat
  skip : Bool
  stuck : Bool
  deriving DecidableEq, Repr

/-- Read the result fields of a header. -/
def dtResult (h : BitVec 16) : DtResult :=
  { done := h.getLsbD 9, pass := h.getLsbD 8, out := fld h 3 5, skip := h.getLsbD 2, stuck := h.getLsbD 1 }

/-- A dark-test result at its output (R132): a pass is a proof of opening; a first failure, or a retest not carried out, brings the
next test forward; a second failure in a row raises OUT_BYPASS, as does the first one of a retest. -/
def dtJudge (r : DtResult) (x : OutCh) : OutCh :=
  if r.skip || !r.done then { x with due := x.due || x.firstFail || x.retest }
  else if r.pass then { x with sinceProof := 0, firstFail := false, retest := false }
  else if r.stuck then x
  else if x.firstFail || x.retest then { x with bypass := true, firstFail := false, retest := false }
  else { x with firstFail := true, due := true }

/-- What one channel reads back of one output in a tick. -/
structure ReadBack where
  cmd : Bool
  sw : Bool
  live : Bool
  cont : Nat
  testing : Bool
  dip : Bool
  overCur : Bool
  signal : Bool
  trip1s : Nat
  deriving DecidableEq, Repr

/-- The evaluation of Table 6.4 in one tick, with the clearing conditions of Table 6.8. LIVE-based checks are suspended in DIP and
LOST, and in the on state in the first tick that reads the switch-on back (R131). The channel counts the second after a trip from the
tick in which it first reads it (R145; log entry 149); a test brought forward waits while the output is off, and the retest of OUT_BYPASS
goes out with the frame that commands the output on again (R132, R145). The time since the last proof of opening stays 0 while the output
is off and reads SW 0 (R135; DESIGN CHOICE, log entry 190). -/
def outStepCh (r : ReadBack) (x : OutCh) : OutCh :=
  let check := !r.testing && !r.dip
  let contOk := r.live && (r.cmd || r.cont == 2)
  let lost := check && !r.live && ((r.cmd && r.sw && r.cont != 0 && 1 ≤ x.onTicks) || (!r.cmd && !r.sw && r.cont == 2))
  let ext := check && !r.cmd && !r.sw && r.live && r.cont != 2
  let trip := check && r.cmd && !r.sw && r.live
  let okT := if contOk then x.okTicks + 1 else 0
  let extT := if !r.cmd && !r.live then x.extOk + 1 else 0
  let proof := !r.cmd && !r.sw && !r.testing
  let again := x.retest || (x.bypass && !r.signal)
  { x with
    cont := contOk
    closeFail := if r.cmd then x.closeFail || (check && !r.sw && !r.live) else false
    overload := trip || (x.overload && !(!r.cmd && decide (r.trip1s ≤ x.sinceTrip)))
    sinceTrip := if trip && !x.overload then 0 else x.sinceTrip + 1
    bypass := x.bypass && r.signal
    openLoad := lost || (x.openLoad && decide (okT < 2))
    extVolt := ext || (x.extVolt && decide (extT < 2))
    coil := x.coil && r.cmd
    bright := x.bright && !proof
    group := r.overCur
    okTicks := okT
    extOk := extT
    openTicks := if r.cmd then 0 else x.openTicks + 1
    onTicks := if r.cmd then x.onTicks + 1 else 0
    sinceProof := if proof then 0 else x.sinceProof + 1
    retest := again
    due := (x.due && (r.cmd || x.firstFail || again)) || (again && !r.testing) }

/-- What a channel reads back of output `o`. -/
def readBack (cfg : Config.Image) (c : Chan) (o : Nat) : ReadBack :=
  let g := groupOfOut o
  { cmd := c.prevCmd.getLsbD o, sw := c.snap.sw.getLsbD o, live := c.snap.live.getLsbD o, cont := cfgCont cfg o
    testing := match c.dtWait with
      | some d => d.val == o
      | none => false
    dip := 2 ≤ (vget c.snap.sup g 0).toNat, overCur := c.snap.groupOver.getLsbD g, signal := c.sig.getLsbD o
    trip1s := ticksOf (cfgT cfg) 1000000 }

/-- The outputs that read back closed while commanded open (R131, Table 6.4). -/
def stuckOuts (cfg : Config.Image) (c : Chan) : List Nat :=
  (List.range 28).filter (fun o => let r := readBack cfg c o
                                   !r.cmd && r.sw && !r.testing)

/-- The read-back of every output, and the dark-test result that the header carries; a test of either schedule that was due is no longer so
once its output is off. -/
def outsEval (cfg : Config.Image) (c : Chan) : Chan :=
  let r := dtResult c.snap.header
  let got := (r.done || r.skip) && (match c.dtWait with
    | some d => d.val == r.out
    | none => false)
  let c1 := if got then { c with dtWait := none, outs := vmod c.outs r.out (dtJudge r) } else c
  { c1 with
    own := { c1.own with due := c1.own.due &&& c1.prevCmd }
    other := { c1.other with due := c1.other.due &&& c1.prevCmd }
    outs := vtab 28 (fun o => outStepCh (readBack cfg c1 o) (vget c1.outs o OutCh.reset)) }

/-- Has the TICK count come to `d`, or gone past it; both wrap (R27)? -/
def tickReached (tick d : W32) : Bool := decide ((tick - d).toNat < 2147483648)

/-- Has the result of the lane's dark test failed to come in the frame that should carry it (R133)? -/
def dtMissing (tick : W32) (c : Chan) : Bool :=
  let r := dtResult c.snap.header
  match c.dtWait with
  | some d => !((r.done || r.skip) && d.val == r.out) && tickReached tick c.dtDue
  | none => false

/-- The outputs whose dark test ended with SW still 1 (R132). -/
def dtStuck (c : Chan) : Option Nat :=
  let r := dtResult c.snap.header
  match c.dtWait with
  | some d => if r.done && !r.pass && r.stuck && d.val == r.out then some r.out else none
  | none => none

/-- Does a class P output fault of the channel act through the output latch (Table 6.8)? -/
def latchFault (x : OutCh) : Bool :=
  x.closeFail || x.overload || x.bypass || x.extVolt || x.bright || x.coil || x.group

/-- The latch request word of a channel (R144). -/
def latchWord (c : Chan) : BitVec 28 := bitsOf 28 (fun o => latchFault (vget c.outs o OutCh.reset))

/-- The next dark-test request of a lane outside its schedule: of the outputs whose test waits, on in the frame to be sent and not barred by
the other lane's schedule, the one with the lowest number (R48, R133; DESIGN CHOICE, log entry 192); none while a result is awaited. -/
def darkPick (c : Chan) (cmds : BitVec 28) (barred : Nat → Bool) : Option (Fin 28) :=
  if c.dtWait.isSome then none
  else (idxs 28).find? (fun o => c.outs[o.val].due && cmds.getLsbD o.val && !barred o.val)

/-- Ticks from the frame with a request to the first inbound frame that starts after the test has ended (R48, R133). -/
def dtTicks (T t : Nat) : Nat := max 1 (ceilDiv (150 + t) T)

/-- May the lane run a test outside its schedule in the tick with this TICK count? Neither channel knows what tests the other one repeats, so
the two lanes take such tests in ticks of their own, so far apart that even the longest ones do not meet (R20, R48; DESIGN CHOICE, log entry
192). -/
def freeSlot (lane : Lane) (T : Nat) (tick : W32) : Bool :=
  let h := if dtTicks T 300 = 1 then 2 else 4
  tick.toNat % (2 * h) == (if lane = .p then 0 else h)

/-! ## Brake coils and proofs of opening (R135, R144) -/

/-- BRK_OPEN_COIL: coil current below BRK.I_MIN on a lane, from BRK.T_PULL after switch-on, not under a dark test (R144). -/
def execBrkOpenCoil (lane : Lane) (k : Fin 4) (ma : Nat) (s : State) : Host.Outcome State Fault Refusal :=
  let cfg := s.active.image
  let o := 24 + k.val
  let c := chanOf lane s
  let x := vget c.outs o OutCh.reset
  if outBlocked cfg o && c.prevCmd.getLsbD o && ticksOf (tickUs s) (lookN cfg .brkTPull o 0 200000) ≤ x.onTicks
      && !dtHeld s.tb.count s.laneP o && !dtHeld s.tb.count s.laneT o && decide (ma < lookN cfg .brkIMin o 0 200) then
    .next (raise fcBrkOpenCoil o (setChan lane { c with outs := vmod c.outs o (fun y => { y with coil := true }) } s))
  else .next s

/-- OUT.BRIGHT_MAX in µs (R135, Table 6.9). -/
def brightMax (cfg : Config.Image) (o : Nat) : Nat := lookN cfg .outBrightMax o 0 (brightLimit cfg)

/-- Has a channel gone `num`/10 of BRIGHT_MAX without a proof of opening of its switch? -/
def brightAt (s : State) (num o : Nat) (c : Chan) : Bool :=
  s.mode.evaluates && outBlocked s.active.image o && cfgTest s.active.image o == 1
    && num * brightMax s.active.image o ≤ 10 * ((vget c.outs o OutCh.reset).sinceProof * tickUs s)

/-- BRIGHT_DUE: 90 % of BRIGHT_MAX, a warning (R135). -/
def execBrightDue (o : Fin 28) (s : State) : Host.Outcome State Fault Refusal :=
  if brightAt s 9 o.val s.ridge || brightAt s 9 o.val s.thatch then .next (raise fcBrightDue o.val s) else .next s

/-- A channel's BRIGHT_OVERDUE. -/
def brightSet (s : State) (o : Nat) (c : Chan) : Chan :=
  if brightAt s 10 o c then { c with outs := vmod c.outs o (fun x => { x with bright := true }) } else c

/-- BRIGHT_OVERDUE: BRIGHT_MAX reached; the output goes off under the output latch (R135). -/
def execBrightOverdue (o : Fin 28) (s : State) : Host.Outcome State Fault Refusal :=
  if brightAt s 10 o.val s.ridge || brightAt s 10 o.val s.thatch then
    .next (raise fcBrightOverdue o.val { s with ridge := brightSet s o.val s.ridge, thatch := brightSet s o.val s.thatch })
  else .next s

end Sys2Proof.Machine
end

