-- ==== Sys2Proof/Machine/Analog.lean ====
section
/-! DEFINITION. Universal analogue channels: result pairs, conversion, characteristics, input zones and faults, outputs and
their checks, cold junctions (R182 to R196). -/

namespace Sys2Proof.Machine

/-! ## Integer arithmetic -/

/-- Integer square root, truncated, of a number below 2^128. -/
def isqrt (n : Nat) : Nat :=
  (List.range 64).foldl (fun r k => if (r + 2 ^ (63 - k)) * (r + 2 ^ (63 - k)) ≤ n then r + 2 ^ (63 - k) else r) 0

/-- Linear interpolation through (x0, y0) and (x1, y1): products of 128 bits, a truncating division, a result of 32 bits (R51,
R187). -/
def interp (x0 y0 x1 y1 x : Int) : Int :=
  addW 32 y0 (divW 128 (mulW 128 (subW 128 x x0) (subW 128 y1 y0)) (subW 128 x1 x0))

/-- A table through its points: constant outside them (R187). -/
def tableAt (l : List (Int × Int)) (x : Int) : Int :=
  match l with
  | [] => 0
  | [p] => p.2
  | p :: q :: t => if x ≤ p.1 then p.2 else if x ≤ q.1 then interp p.1 p.2 q.1 q.2 x else tableAt (q :: t) x

/-! ## Configuration of a channel -/

/-- UAC.X_LO and X_HI. -/
def cfgX (cfg : Config.Image) (n : Nat) : Int × Int :=
  (look cfg .uacXLo n 0 (cfgRange cfg n).1, look cfg .uacXHi n 0 (cfgRange cfg n).2)

/-- UAC.EU_LO and EU_HI. -/
def cfgEu (cfg : Config.Image) (n : Nat) : Int × Int := (look cfg .uacEuLo n 0 0, look cfg .uacEuHi n 0 10000)

/-- UAC.TOL. -/
def cfgTol (cfg : Config.Image) (n : Nat) : Int := look cfg .uacTol n 0 (2 * (cfgTolLimits cfg n).1)

/-- UAC.TOL_OUT. -/
def cfgTolOut (cfg : Config.Image) (n : Nat) : Int :=
  look cfg .uacTolOut n 0 (if lookN cfg .uacMode n 0 0 = 4 then 100000 else 120000)

/-- The characteristic from x to the engineering value y (R187). -/
def charOf (cfg : Config.Image) (n : Nat) (x : Int) : Int :=
  let X := cfgX cfg n
  let E := cfgEu cfg n
  match lookN cfg .uacChar n 0 0 with
  | 0 => interp X.1 E.1 X.2 E.2 x
  | 1 =>
    let r := divW 128 (mulW 128 (subW 128 x X.1) (2 ^ 30)) (subW 128 X.2 X.1)
    if r * 1000 < look cfg .uacCutoff n 0 0 * 2 ^ 30 then E.1
    else addW 32 E.1 (divW 128 (mulW 128 (subW 128 E.2 E.1) (isqrt (r.toNat * 2 ^ 30) : Nat)) (2 ^ 30))
  | _ => tableAt (tblOf cfg n) x

/-- The characteristic of an output from the engineering set-point to the electrical value (R187, R190). -/
def charInv (cfg : Config.Image) (n : Nat) (y : Int) : Int :=
  let X := cfgX cfg n
  let E := cfgEu cfg n
  match lookN cfg .uacChar n 0 0 with
  | 2 => tableAt ((tblOf cfg n).map (fun p => (p.2, p.1))) y
  | _ => interp E.1 X.1 E.2 X.2 y

/-- Is the channel an output? -/
def uacOut (cfg : Config.Image) (n : Nat) : Bool := lookN cfg .uacMode n 0 0 ∈ [3, 4]

/-- Does the channel need FS_AN (Table 8.1)? -/
def needsFsAn (cfg : Config.Image) (n : Nat) : Bool :=
  uacOut cfg n || (lookN cfg .uacMode n 0 0 == 2 && lookB cfg .uacLoopPwr n false)

/-- Zones of an input (Table 8.4): 0 valid, 1 and 2 range below and above, 3 low alarm, 4 high alarm, 5 outside. -/
def zoneOf (cfg : Config.Image) (n : Nat) (x : Int) : Nat :=
  let r := cfgRange cfg n
  let mode := lookN cfg .uacMode n 0 0
  let m : Int × Int := match mode with
    | 1 => (-10500000, 10500000)
    | 2 => (0, 25000000)
    | 7 => (0, 4200000)
    | _ => r
  if mode = 2 && cfgNe43 cfg n then
    if x ≤ 3600000 then 3
    else if 21000000 ≤ x then 4
    else if x < 3800000 then 1
    else if 20500000 < x then 2
    else 0
  else if x < m.1 || m.2 < x then 5
  else if x < r.1 then 1
  else if r.2 < x then 2
  else 0

/-- The row of Table 8.4 of a zone: RANGE below and above is one. -/
def zoneRow (z : Nat) : Nat := if z = 2 then 1 else z

/-- The x whose y is delivered in a zone: the nearest limit of the valid zone (Table 8.4). -/
def zoneX (cfg : Config.Image) (n : Nat) (x : Int) : Int :=
  let r : Int × Int := if lookN cfg .uacMode n 0 0 = 2 && cfgNe43 cfg n then (3800000, 20500000) else cfgRange cfg n
  max r.1 (min r.2 x)

/-! ## Terminals (Table 8.2) -/

/-- What a terminal of a channel is used for (Table 8.2). -/
inductive TermUse where
  | high | senseP | senseM | shunt | common | loopSupply | source | landSense | output | remoteSense | ownSense
  | excitation | excReturn | toExc | toDrv | secondLead | firstLead | tcP | tcM | burnOut
  deriving DecidableEq, Repr

/-- The excitation current in µA of a resistance sensor (Table 8.2). -/
def excitationUa (mode rtd : Nat) : Nat := if mode = 7 then 500 else if rtd = 0 then 1000 else 200

/-- The uses of DRV, SNS_P, SNS_M and EXC of a channel (R180, Table 8.2). -/
def terminals (cfg : Config.Image) (n : Nat) : List TermUse :=
  match lookN cfg .uacMode n 0 0 with
  | 1 => [.high, .senseP, .senseM, .high]
  | 2 => [.high, .shunt, .common, if lookB cfg .uacLoopPwr n false then .loopSupply else .high]
  | 3 => [.source, .landSense, .common, .high]
  | 4 => [.output, if lookB cfg .uacRemoteSense n false then .remoteSense else .ownSense, .common, .high]
  | 5 | 7 =>
    match lookN cfg .uacWires n 0 4 with
    | 2 => [.excReturn, .toExc, .toDrv, .excitation]
    | 3 => [.secondLead, .toExc, .firstLead, .excitation]
    | _ => [.excReturn, .senseP, .senseM, .excitation]
  | 6 => [.high, .tcP, .tcM, .burnOut]
  | _ => [.high, .high, .high, .high]

/-! ## The compared quantity x (R181, R185, R186) -/

/-- Ni1000 in 10⁻²³ mΩ at `t` in 0.01 °C: the characteristic that R186 gives. -/
def niOhm (t : Int) : Int := 10 ^ 29 + 5485 * 10 ^ 21 * t + 665 * 10 ^ 17 * t ^ 2 + 2805 * 10 ^ 7 * t ^ 4 - 2 * t ^ 6

/-- The temperature in 0.01 °C of an Ni1000 resistance in mΩ, between −60.01 °C and 250.01 °C, so that a value outside the range shows
as such: the largest one whose resistance is not above it (R186: accurate to 0.01 °C; DESIGN CHOICE, log entry 170). -/
def niTemp (ohm : Int) : Int :=
  (List.range 15).foldl (fun t k =>
    let u := t + 2 ^ (14 - k)
    if u ≤ 25001 && niOhm u ≤ ohm * 10 ^ 23 then u else t) (-6001)

/-- x of a converter's electrical quantity `q`: the entered lead resistance of a 2-wire connection and the sensor for a resistance, the
external cold junction `cj` in the voltage domain for a thermocouple, 0 °C standing for the internal one, which FA has compensated (R181,
R183, R186). -/
def xOf (cfg : Config.Image) (n : Nat) (q cj : Int) : Int :=
  let lead : Int := if lookN cfg .uacWires n 0 4 = 2 then mulW 32 (look cfg .uacRLead n 0 0) 10 else 0
  let typ := look cfg .uacTcType n 0 1
  match lookN cfg .uacMode n 0 0 with
  | 5 =>
    let r := subW 32 q lead
    if lookN cfg .uacRtdType n 0 0 = 2 then niTemp r else Config.ptTemp (look cfg .uacRtdType n 0 0) r
  | 6 => Config.tcTemp typ (if lookN cfg .uacCjSrc n 0 0 = 0 then q else addW 32 q (Config.tcVolt typ cj))
  | 7 => subW 32 q lead
  | _ => q

/-! ## Faults of a channel (Table 8.11, R189, R195, R198) -/

/-- Does the fault of a code of Table 8.11 stand? -/
def AnCh.has (a : AnCh) (k : Nat) : Bool := a.stand.getLsbD k

/-- The fault code that UACn_STATUS shows: the lowest of those that put the channel in FAULT, else an alarm (DESIGN CHOICE, log entry
168: the manual ranks none). -/
def AnCh.fault (a : AnCh) : Nat := ([1, 2, 5, 6, 7, 8, 9, 10, 11, 12, 13, 3, 4].find? a.has).getD 0

/-- Does a fault stand that puts the channel in FAULT, not in ALARM (R188)? -/
def AnCh.failed (a : AnCh) : Bool := (a.stand &&& 0x3FE7) != 0

/-- Raise faults; the clearing of each starts again. -/
def anRaise (m : BitVec 14) (a : AnCh) : AnCh :=
  { a with stand := a.stand ||| m, clr := vtab 14 (fun k => if m.getLsbD k then 0 else vget a.clr k 0) }

/-- The row of Table 8.6 at which the fault of a code holds an output (R194). -/
def latchRowOf (m : BitVec 14) : Nat := if m.getLsbD 9 then 3 else if m.getLsbD 11 then 4 else 5

/-- Faults latch an output at their level; a latch that stands keeps the row that comes first (R194, R195). -/
def latchOut (cfg : Config.Image) (n : Nat) (a : AnCh) : AnCh :=
  if uacOut cfg n && a.stand != 0 then
    { a with latch := true, latchRow := if a.latch then min a.latchRow (latchRowOf a.stand) else latchRowOf a.stand }
  else a

/-- What a tick brings for one channel: NEW, the three status bits, the FS_AN state, x of both converters, and whether the
cold junction's source is in FAULT, and whether it is not VALID. -/
structure AnTick where
  new : Bool
  stage : Bool
  sensor : Bool
  supply : Bool
  fsAn : Nat
  xSd : Int
  xSar : Int
  cjBad : Bool
  cjOpen : Bool
  deriving DecidableEq, Repr

/-- Do the converters of a pair deviate by more than UAC.TOL (R185)? -/
def deviates (cfg : Config.Image) (n : Nat) (q : AnTick) : Bool := decide (cfgTol cfg n < absW 32 (subW 32 q.xSd q.xSar))

/-- Ticks without NEW after which AN_STALE is raised (R185). -/
def staleAfter (cfg : Config.Image) (n : Nat) (ticks : Nat) : Bool :=
  cfgConv cfg n + cfgT cfg < ticks * cfgT cfg

/-- AN_STALE and AN_SUPPLY clear in two parts: 100 ms of their own, then the 100 ms of R189 or R195 (Table 8.8). -/
def twoPart (k : Nat) : Bool := k == 2 || k == 12

/-- A clearing count at a pair: `own` the fault's own condition is absent, `agree` the converters agree. The count starts at 1 with the
first good pair; the second part of two starts again at a pair without agreement (R189, Table 8.8). -/
def clrStep (T : Nat) (two own agree : Bool) (cnt : Nat) : Nat :=
  let half := 1 + ceilDiv 100000 T
  if !own then 0
  else if two && decide (cnt + 1 < half) then cnt + 1
  else if !agree then (if two then half - 1 else 0)
  else cnt + 1

/-- Has a clearing count come to its end (R189, Table 8.8)? -/
def clrDue (T : Nat) (two : Bool) (cnt : Nat) : Bool :=
  decide (1 ≤ cnt) && decide ((if two then 200000 else 100000) ≤ (cnt - 1) * T)

/-- The standing faults at a pair: the clearing of each, by the condition `gone` of its code, and the faults `m` raised at the pair
(R189, R195). -/
def anFaults (T : Nat) (gone : Nat → Bool) (agree : Bool) (m : BitVec 14) (a : AnCh) : AnCh :=
  let cnt (k : Nat) : Nat := if a.has k then clrStep T (twoPart k) (gone k) agree (vget a.clr k 0) else 0
  let b := { a with
    stand := bitsOf 14 (fun k => a.has k && !clrDue T (twoPart k) (cnt k))
    clr := vtab 14 cnt }
  anRaise m b

/-! ## Inputs in a channel (R185, R186, R188, R189, R196) -/

/-- The fault that the zone of an input raises at a pair (Table 8.4), 0 for none; the IIN alarms of loop-powered channels are
suspended in DIP (R196). -/
def zoneFault (cfg : Config.Image) (n : Nat) (q : AnTick) (zone zoneCnt outCnt : Nat) : Nat :=
  let T := cfgT cfg
  match zone with
  | 3 => if ticksOf T (lookN cfg .uacTAlarm n 0 0) ≤ zoneCnt && !(q.fsAn == 2 && needsFsAn cfg n) then 3 else 0
  | 4 => if ticksOf T (lookN cfg .uacTAlarm n 0 0) ≤ zoneCnt && !(q.fsAn == 2 && needsFsAn cfg n) then 4 else 0
  | 5 => if 3 ≤ outCnt then 5 else 0
  | 0 => 0
  | _ => if ticksOf T (lookN cfg .uacTRange n 0 1000000) ≤ zoneCnt then 5 else 0

/-- The faults that a pair raises on an input: 6 AN_OPEN_SENSOR, 12 AN_SUPPLY, 7 AN_CJ_FAULT, 1 AN_DISAGREE and the zone's (R185, R186,
R188, R196). -/
def inRaised (cfg : Config.Image) (n : Nat) (q : AnTick) (dev zf : Nat) : BitVec 14 :=
  bitsOf 14 (fun k => match k with
    | 0 => false
    | 1 => decide (3 ≤ dev)
    | 6 => q.sensor
    | 7 => lookN cfg .uacMode n 0 0 == 6 && q.cjBad
    | 12 => q.supply && q.fsAn == 0
    | _ => k == zf)

/-- Is the condition of an input's fault absent at a pair in the zone `z` (R188, R189, R196, Table 8.8)? That of an alarm is inside the
valid zone only, so that the channel then returns to VALID. -/
def inGone (q : AnTick) (dv : Bool) (z : Nat) (k : Nat) : Bool :=
  match k with
  | 1 => !dv
  | 3 | 4 => z == 0
  | 5 => !(z == 1 || z == 2 || z == 5)
  | 6 => !q.sensor
  | 7 => !q.cjOpen
  | 12 => !q.supply
  | 13 => q.fsAn == 0
  | _ => true

/-- State and value of an input at a pair in the zone `z`: FAULT with the last VALID y, ALARM with the y of the alarm's limit, RANGE or
VALID; a value outside the measurement range stays VALID, clamped, before its third pair (R188). -/
def zoneState (cfg : Config.Image) (n : Nat) (z : Nat) (a : AnCh) : AnCh :=
  let y := charOf cfg n (zoneX cfg n a.x)
  if a.failed then { a with st := 3, y := a.lastValid }
  else if a.stand != 0 then { a with st := 2, y := if z = 3 || z = 4 then y else a.y }
  else { a with st := if z = 0 || z = 5 then 0 else 1, y := y, lastValid := if z = 0 then y else a.lastValid }

/-- One pair of an input channel (R185, R188, R189). -/
def inputPair (cfg : Config.Image) (n : Nat) (q : AnTick) (a : AnCh) : AnCh :=
  let dv := deviates cfg n q
  let dev := if dv then a.dev + 1 else 0
  let z := zoneOf cfg n q.xSd
  let zc := if zoneRow z = zoneRow a.zone then a.zoneCnt + 1 else 0
  let oc := if z = 5 then a.outCnt + 1 else 0
  let b := { a with x := q.xSd, xSar := q.xSar, dev := dev, zone := z, zoneCnt := zc, outCnt := oc, noNew := 0, seenNew := true }
  zoneState cfg n z (anFaults (cfgT cfg) (inGone q dv z) (!dv) (inRaised cfg n q dev (zoneFault cfg n q z zc oc)) b)

/-- A fault found outside a pair: the channel is in FAULT, an input with its last VALID y, an output latched (R185, R195, R196). -/
def anFail (cfg : Config.Image) (n k : Nat) (a : AnCh) : AnCh :=
  let b := anRaise (BitVec.ofNat 14 (2 ^ k)) a
  latchOut cfg n { b with st := 3, y := if uacOut cfg n then b.y else b.lastValid }

/-- FS_AN lost puts a channel that needs it in FAULT, and FS_AN away from OK keeps it there (R196). -/
def fsAnLost (cfg : Config.Image) (n : Nat) (q : AnTick) (a : AnCh) : AnCh :=
  if q.fsAn = 3 && needsFsAn cfg n then anFail cfg n 13 a
  else if q.fsAn = 0 then a
  else { a with clr := vmod a.clr 13 (fun _ => 0) }

/-- A tick without NEW: the last pair stands. A gap longer than T_CONV + T raises AN_STALE and ends every run of consecutive pairs
(R185, R189). -/
def noPair (cfg : Config.Image) (n : Nat) (a : AnCh) : AnCh :=
  let b := { a with noNew := a.noNew + 1, clr := vmap (fun k => if k = 0 then 0 else k + 1) a.clr }
  if staleAfter cfg n b.noNew then anFail cfg n 2 { b with clr := Vector.replicate 14 0 } else b

/-! ## Outputs in a channel (R190 to R195) -/

/-- Nominal alarm level in steps of x of an output at a row of Table 8.6 (Table 8.5): the low alarm in row 3, 0 V in row 4, else by its
alarm direction. -/
def alarmLevel (mode dir row : Nat) : Int :=
  if mode = 3 then (if row = 3 || dir = 0 then 3550000 else 21050000)
  else if row = 4 then 0
  else match dir with
    | 0 => 0
    | 1 => -10800000
    | _ => 10800000

/-- Alarm direction in the configuration (R192). -/
def alarmDir (cfg : Config.Image) (n : Nat) : Nat :=
  if lookN cfg .uacMode n 0 0 = 4 then lookN cfg .uacVAlarm n 0 0 else lookN cfg .uacAlmDir n 0 0

/-- The row of Table 8.6 at which a channel's faults and its latch hold its output; 5 without either (R194, R195). -/
def holdRow (a : AnCh) : Nat := min (latchRowOf a.stand) (if a.latch then a.latchRow else 5)

/-- Has a condition held at every pair for `us` µs, counted in pairs? -/
def pairsFor (cfg : Config.Image) (n us cnt : Nat) : Bool := 1 ≤ cnt && us ≤ (cnt - 1) * max (cfgT cfg) (cfgConv cfg n)

/-- Which check of R191 an output fails at a pair, by its fault code; 0 for none. -/
def outCheck (cfg : Config.Image) (n : Nat) (q : AnTick) (a : AnCh) : Nat :=
  let tol := cfgTolOut cfg n
  let far := decide (tol < absW 32 (subW 32 q.xSd a.target))
  if lookN cfg .uacMode n 0 0 = 3 then
    if q.stage && decide (1000000 ≤ a.target) && decide (q.xSd < 500000) then 8
    else if q.stage && decide (q.xSd < subW 32 a.target tol) then 9
    else if !q.stage && far then 10
    else 0
  else if q.stage then 11
  else if far then 10
  else 0

/-- A count of R191 at a pair: a pair at which the condition does not hold, or whose converters deviate, restarts it (R191, R197; DEDUCED,
log entry 169). -/
def outCount (hit : Bool) (cnt : Nat) : Nat := if hit then cnt + 1 else 0

/-- One pair of an output channel: the checks of R191 in their order, suspended in DIP (R196), and in LOST too, where their counts start
again (DESIGN CHOICE, log entry 211), and the clearing of R195. -/
def outputPair (cfg : Config.Image) (n : Nat) (q : AnTick) (a : AnCh) : AnCh :=
  let dv := deviates cfg n q
  let dev := if dv then a.dev + 1 else 0
  let far := decide (cfgTolOut cfg n < absW 32 (subW 32 q.xSd a.target))
  let c := if q.fsAn == 0 || q.fsAn == 1 then outCheck cfg n q a else 0
  let oc := outCount (c == 8 && !dv) a.openCnt
  let cc := outCount (c == 11 || (c == 9 && !dv)) a.compCnt
  let dc := outCount (c == 10 && !dv) a.devCnt
  let ovr := if lookN cfg .uacMode n 0 0 = 3 then 9 else 11
  let m := bitsOf 14 (fun k => match k with
    | 1 => decide (3 ≤ dev)
    | 8 => pairsFor cfg n 10000 oc
    | 10 => pairsFor cfg n 10000 dc
    | 12 => q.supply && q.fsAn == 0
    | _ => k == ovr && pairsFor cfg n 10000 cc)
  let gone (k : Nat) : Bool := match k with
    | 1 => !dv
    | 8 => !far
    | 9 | 10 | 11 => !q.stage && !far
    | 12 => !q.supply
    | 13 => q.fsAn == 0
    | _ => true
  let b := { a with x := q.xSd, xSar := q.xSar, dev := dev, openCnt := oc, compCnt := cc, devCnt := dc, noNew := 0, seenNew := true }
  let d := anFaults (cfgT cfg) gone (!dv) m b
  latchOut cfg n { d with st := if d.stand = 0 then 0 else 3 }

/-- What the tick brings for channel `n`: codes and status of the snapshot, converted for both converters. CJ_FAULT counts for the
internal source only; the cold junction of an external source is the value x of that channel, whose FAULT counts, until it is VALID
(R183, R186, Table 8.8; DEDUCED, log entry 171). -/
def anTickOf (cfg : Config.Image) (c : Chan) (n : Nat) : AnTick :=
  let mode := lookN cfg .uacMode n 0 0
  let sensor : Int := if mode = 6 then lookN cfg .uacTcType n 0 1 else lookN cfg .uacRtdType n 0 0
  let ext := if mode = 6 then lookN cfg .uacCjSrc n 0 0 else 0
  let m := vget c.an (ext - 1) AnCh.reset
  let conv (sar : Bool) (code : Int) : Int :=
    xOf cfg n (Config.codeQty mode sensor (lookN cfg .uacWires n 0 4) sar code) m.x
  let st := vget c.snap.anStat n 0
  { new := st.getLsbD 3, stage := st.getLsbD 2, sensor := st.getLsbD 1, supply := st.getLsbD 0
    fsAn := (vget c.snap.sup 6 0).toNat
    xSd := conv false (sgn (vget c.snap.sd n 0)), xSar := conv true (sgn (vget c.snap.sar n 0))
    cjBad := if ext = 0 then st.getLsbD 2 else m.st == 3
    cjOpen := if ext = 0 then st.getLsbD 2 else m.st != 0 }

/-- One channel in one tick. -/
def anStep (cfg : Config.Image) (c : Chan) (n : Nat) : AnCh :=
  let a := vget c.an n AnCh.reset
  let q := anTickOf cfg c n
  if lookN cfg .uacMode n 0 0 = 0 then a
  else if !q.new then fsAnLost cfg n q (noPair cfg n a)
  else fsAnLost cfg n q (if uacOut cfg n then outputPair cfg n q a else inputPair cfg n q a)

/-- Does a channel take its cold junction from another one (R186)? -/
def cjExternal (cfg : Config.Image) (n : Nat) : Bool := lookN cfg .uacMode n 0 0 == 6 && lookN cfg .uacCjSrc n 0 0 != 0

/-- All channels of a safety channel in one tick: those with an external cold junction after their sources (R186). -/
def anEval (cfg : Config.Image) (c : Chan) : Chan :=
  let d := { c with an := vtab 8 (fun n => if cjExternal cfg n then vget c.an n AnCh.reset else anStep cfg c n) }
  { d with an := vtab 8 (fun n => if cjExternal cfg n then anStep cfg d n else vget d.an n AnCh.reset) }

/-- Fault code of Table 12.7 for a code of Table 8.11; FS_AN_LOST is the supply's own fault. -/
def anFaultCode (f : Nat) : Option (BitVec 16) :=
  if 1 ≤ f && f ≤ 12 then some (0x0600 + BitVec.ofNat 16 f) else none

/-! ## Set-points (R184, R190, R194) -/

/-- The code of an electrical set-point (R184). -/
def setptCode (mode : Nat) (x : Int) : BitVec 16 :=
  if mode = 3 then BitVec.ofInt 16 (max 0 (min 65534 (divW 32 x 500)))
  else BitVec.ofInt 16 (max (-32767) (min 32767 (divW 32 x 500)))

/-- The level that FA drives for a set-point, at most 24 mA, at most 10.5 V either way (R184). -/
def drivenX (mode : Nat) (x : Int) : Int := if mode = 3 then max 0 (min 24000000 x) else max (-10500000) (min 10500000 x)

/-- The electrical set-point of an engineering one: NE 43 keeps it off the alarm levels (R190). -/
def setptX (cfg : Config.Image) (n : Nat) (y : Int) : Int :=
  let x := charInv cfg n y
  if lookN cfg .uacMode n 0 0 = 3 && cfgNe43 cfg n then max 3800000 (min 20500000 x) else x

/-- Commit the set-point of an output channel, with the level that FA then drives as its target: `runs` is RUN or LEE, `en`
OUT_EN, `y` the engineering set-point unless its NET source is not valid; a change larger than TOL_OUT restarts the counts of an IOUT channel
(R190, R191, R194, R195). -/
def anCommit (cfg : Config.Image) (n : Nat) (runs en : Bool) (y : Option Int) (a : AnCh) : AnCh :=
  let mode := lookN cfg .uacMode n 0 0
  if !uacOut cfg n then { a with code := 0 }
  else
    let latch := a.latch && !(a.stand == 0 && !en)
    let drive := runs && en && a.stand == 0 && !latch
    match drive, y with
    | true, some v =>
      let x := drivenX mode (setptX cfg n v)
      let moved := mode == 3 && decide (cfgTolOut cfg n < absW 32 (subW 32 x a.target))
      { a with
        latch := latch, code := setptCode mode (setptX cfg n v), target := x, y := v
        openCnt := if moved then 0 else a.openCnt, compCnt := if moved then 0 else a.compCnt
        devCnt := if moved then 0 else a.devCnt }
    | _, _ =>
      let x := alarmLevel mode (alarmDir cfg n) (holdRow { a with latch := latch })
      let moved := mode == 3 && decide (cfgTolOut cfg n < absW 32 (subW 32 x a.target))
      { a with
        latch := latch, code := alarmCode mode, target := x, y := y.getD a.y
        openCnt := if moved then 0 else a.openCnt, compCnt := if moved then 0 else a.compCnt
        devCnt := if moved then 0 else a.devCnt }

/-! ## FA (R182, R186, R193, R194) -/

/-- Has the pair's cold-junction sensor failed its check for 1 s, which takes 51 readings of 20 ms (R186)? -/
def cjFailed (f : Fa) (n : Nat) : Bool := 51 ≤ vget f.cjBad (n / 2) 0

/-- Do the windows of FA run: FA on, after the end of SELFTEST, not frozen (R182)? -/
def faRuns (s : State) : Bool := s.pwr.domains.getLsbD 0 && s.mode.evaluates && !s.fa.inLull

/-- UAC.T_CONV of a channel in timebase units (Table 1.9). -/
def fcConv (l : LaneFc) (n : Nat) : Nat :=
  match taken l.pAn n / 2 ^ 25 % 8 with
  | 0 => 25000
  | 1 => 50000
  | 2 => 100000
  | 3 => 200000
  | 4 => 2000000
  | _ => 10000000

/-- Where the window that ends at `now` at the latest leaves the next one's begin: windows follow one another without gaps (R182). -/
def windowAfter (conv : Nat) (now : W64) (win : Option W64) : Option W64 :=
  match win with
  | some w =>
    if w.toNat + conv ≤ now.toNat then some (w + BitVec.ofNat 64 ((now.toNat - w.toNat) / conv * conv)) else none
  | none => none

/-- SENSOR_OPEN: the stage's own sign for a resistance and for a loop supply, more than 50 mV of burn-out voltage for a thermocouple
(Table 8.3). -/
def sensorOpen (mode : Nat) (loopPwr raw : Bool) (burnMv : Int) : Bool :=
  if mode = 5 || mode = 7 then raw else if mode = 6 then decide (50 < burnMv) else if mode = 2 then loopPwr && raw else false

/-- The status bits of a result pair: NEW, STAGE_LIMIT of an output or CJ_FAULT of a thermocouple, SENSOR_OPEN, SUPPLY (Table 8.3). -/
def pairStat (s : State) (n : Nat) (stat : BitVec 3) (burnMv : Int) : BitVec 4 :=
  let mode := fcUacMode (faLane s) n
  let two := if mode = 3 || mode = 4 then stat.getLsbD 2 else mode == 6 && cjFailed s.fa n
  BitVec.ofNat 4 (8 + bit two 2 + bit (sensorOpen mode (taken (faLane s).pAn n / 2 ^ 22 % 2 == 1) (stat.getLsbD 1) burnMv) 1
    + bit (stat.getLsbD 0) 0)

/-- The voltage in nV that FA adds to a thermocouple's codes: that of the internal cold junction, as one converter type reads it
(R183, R186). -/
def cjVolt (l : LaneFc) (cj : Vector Int 4) (n : Nat) : Int :=
  Config.tcVolt (taken l.pAn n / 2 ^ 16 % 16 - 3 : Int) (vget cj (n / 2) 0)

/-- A code with the cold-junction voltage added, held in the code's width (R183, R186). -/
def withCj {w : Nat} (s : State) (n : Nat) (sar : Bool) (code : BitVec w) : BitVec w :=
  if fcUacMode (faLane s) n = 6 && taken (faLane s).pAn n / 2 ^ 20 % 2 == 1 then
    BitVec.ofInt w (addW w (sgn code) (Config.voltCode sar (cjVolt (faLane s) (if sar then s.fa.cjSar else s.fa.cj) n)))
  else code

/-- Does FA compensate the leads of a resistance sensor in 3-wire connection (R181)? -/
def threeWire (l : LaneFc) (n : Nat) : Bool := (fcUacMode l n = 5 || fcUacMode l n = 7) && taken l.pAn n / 2 ^ 14 % 4 == 1

/-- A code less that of the lead at the two-lead end, to which the lead at the other end is taken as equal, held in the code's width (R181;
DESIGN CHOICE, log entry 200). -/
def lessLead {w : Nat} (s : State) (n : Nat) (lead code : BitVec w) : BitVec w :=
  if threeWire (faLane s) n then BitVec.ofInt w (subW w (sgn code) (sgn lead)) else code

/-- CONVERSION_WINDOW_END: once the running window has ended, its result pair with its status bits; NEW stands until an inbound frame
carries it (R182, R183). -/
def execConversionWindowEnd (ch : Fin 8) (sd : BitVec 24) (sar : BitVec 16) (stat : BitVec 3) (drvMv : Int) (s : State)
    (burnMv : Nat := 0) (leadSd : BitVec 24 := 0) (leadSar : BitVec 16 := 0) :
    Host.Outcome State Fault Refusal :=
  let win := windowAfter (fcConv (faLane s) ch.val) s.tb.count s.fa.ch[ch.val].winAt
  if !faRuns s || fcUacMode (faLane s) ch.val = 0 || win.isNone then .next s
  else
    .next { s with fa := { s.fa with ch := vupd s.fa.ch ch (fun a =>
      { a with sd := lessLead s ch.val leadSd (withCj s ch.val false sd), sar := lessLead s ch.val leadSar (withCj s ch.val true sar)
               stat := pairStat s ch.val stat burnMv, drv := drvMv
               winAt := win }) } }

/-- Median of four readings: the mean of the middle two. -/
def median4 (v : Vector Int 4) : Int :=
  let l := v.toList
  let hi := l.foldl max v[0]
  let lo := l.foldl min v[0]
  (l.foldl (· + ·) 0 - hi - lo) / 2

/-- Does a reading of 0.01 °C fail the check of R186? -/
def cjOut (v : Vector Int 4) (k : Nat) : Bool :=
  let t := vget v k 0
  decide (t < -4500) || decide (10000 < t) || decide (1000 < (t - median4 v).natAbs)

/-- CJ_SENSOR_READ: both converters' readings of each sensor, every 20 ms (R186). -/
def execCjSensorRead (sdTemps sarTemps : Vector Int 4) (s : State) : Host.Outcome State Fault Refusal :=
  if !s.pwr.domains.getLsbD 0 || s.fa.inLull then .next s
  else
    .next { s with fa := { s.fa with
      cj := sdTemps, cjSar := sarTemps
      cjBad := vtab 4 (fun k => if cjOut sdTemps k || cjOut sarTemps k then vget s.fa.cjBad k 0 + 1 else 0) } }

/-- Is AN_STALE due on a channel: does the next tick without NEW exceed its limit (R185)? -/
def staleDue (cfg : Config.Image) (n : Fin 8) (c : Chan) : Bool :=
  lookN cfg .uacMode n.val 0 0 != 0 && staleAfter cfg n.val (c.an[n.val].noNew + 1)

/-- AN_STALE of one channel, where it is due (R185). -/
def anStaleCh (cfg : Config.Image) (n : Fin 8) (c : Chan) : Chan :=
  if staleDue cfg n c then
    { c with an := vupd c.an n (fun b => anFail cfg n.val 2 { b with clr := Vector.replicate 14 0 }) }
  else c

/-- AN_STALE: no NEW for longer than T_CONV + T; both channels put the channel in FAULT (R185). -/
def execAnStale (ch : Fin 8) (s : State) : Host.Outcome State Fault Refusal :=
  let cfg := evalCfg s
  if !s.mode.evaluates then .next s else
  let t := { s with ridge := anStaleCh cfg ch s.ridge, thatch := anStaleCh cfg ch s.thatch }
  if t.ridge.an[ch.val].has 2 || t.thatch.an[ch.val].has 2 then .next (raise fcAnStale ch.val t) else .next t

/-- Source of the alarm direction of IOUT channels: 0 the configuration, 1 the Slate override, 2 the strap (R193). -/
def almSrc (s : State) : Nat :=
  if s.active.valid then 0 else if (oneHot (shadowOf s) 3684 2).isSome then 1 else 2

/-- Is the alarm of an IOUT channel the high one without a configuration (R193)? -/
def almHigh (s : State) : Bool :=
  match oneHot (shadowOf s) 3684 2 with
  | some k => k == 1
  | none => s.fa.almOpen

/-- The row of Table 8.6 that decides what output channel `n` drives: the first that applies to what either channel holds. -/
def faRow (s : State) (n : Nat) : Nat :=
  let p := vget s.ridge.an n AnCh.reset
  let t := vget s.thatch.an n AnCh.reset
  let hold := min (holdRow p) (holdRow t)
  if !s.pwr.aoOn || s.resetHeld || !s.fa.everAccepted then 1
  else if s.fa.inLull then 2
  else if hold < 5 then hold
  else if s.fa.silentP || s.fa.silentT || (vget s.fa.ch n AnFa.reset).setpt == alarmCode (fcUacMode (faLane s) n)
      || p.stand != 0 || t.stand != 0 || p.latch || t.latch || !s.mode.runs then 5
  else 6

/-- The output mode by which FA drives a channel: that of its ANALOGUE entry where both lanes have brought the same mode; in LULL, whose
level discards the entries, the configured one, at whose alarm level Table 8.6 holds it (R129, R192, R194; DEDUCED, log entry 174). -/
def faMode (s : State) (n : Nat) : Nat :=
  if s.fa.inLull then lookN s.active.image .uacMode n 0 0
  else if fcUacMode s.laneP n = fcUacMode s.laneT n then fcUacMode s.laneP n else 0

/-- Direction field of an ANALOGUE entry. -/
def fcDir (l : LaneFc) (n : Nat) : Nat := taken l.pAn n / 2 ^ 23 % 4

/-- The alarm direction without a configuration: the Slate's or the strap's for IOUT, ZERO for VOUT (R193). -/
def faDefaultDir (s : State) (n : Nat) : Nat := if faMode s n = 3 && almHigh s then 1 else 0

/-- The alarm direction of a channel in FA: the configured one that both lanes have brought; where their copies differ, and without a valid
configuration, that of R193 (R192; DESIGN CHOICE, log entry 199). -/
def faAlarmDir (s : State) (n : Nat) : Nat :=
  if !s.active.valid then faDefaultDir s n
  else if s.fa.inLull then alarmDir s.active.image n
  else if fcDir s.laneP n = fcDir s.laneT n then fcDir s.laneP n else faDefaultDir s n

/-- What FA drives on an output channel, in steps of x: none with its stage off, the level of the row of Table 8.6, or its set-point;
nothing on another channel (R192 to R194). -/
def faLevel (s : State) (n : Nat) : Option Int :=
  let mode := faMode s n
  if mode != 3 && mode != 4 then none
  else match faRow s n with
    | 1 => none
    | 6 =>
      let c := (vget s.fa.ch n AnFa.reset).setpt
      some ((if mode = 3 then (c.toNat : Int) else sgn c) * 500)
    | r => some (alarmLevel mode (faAlarmDir s n) r)

end Sys2Proof.Machine
end

