-- ==== Sys2Proof/Machine/Inputs.lean ====
section
/-! DEFINITION. Safe inputs in a channel: logical states, class P input faults and their clearing, acknowledge inputs (R74, R86 to
R96; Tables 4.1, 4.5, 4.6). -/

namespace Sys2Proof.Machine

/-- What both channels read alike in a tick: whether the module runs. -/
structure Shared where
  runs : Bool
  deriving DecidableEq, Repr

/-- The shared view of a state. -/
def sharedOf (s : State) : Shared := { runs := s.mode.runs }

/-- Band of an input in a snapshot. -/
def snapBand (c : Chan) (n : Nat) : Nat := fld c.snap.bands (2 * n) 2

/-- Is FS_TP LOST in the snapshot, and the input fed by a TPO (R89)? -/
def tpLost (cfg : Config.Image) (c : Chan) (n : Nat) : Bool :=
  (inTpoOf cfg n).isSome && vget c.snap.sup 5 0 == 3

/-- Logical state of an input: band CLOSED in WIREBREAK, 0 when UNUSED, else the filtered state (Table 4.1). -/
def logical (cfg : Config.Image) (c : Chan) (n : Nat) : Bool :=
  match lookN cfg .inMode n 0 0 with
  | 0 => false
  | 4 => snapBand c n == 2
  | _ => c.snap.inputs.getLsbD n

/-- Does an input stand under a class P input fault (Table 4.6)? -/
def InCh.bad (x : InCh) : Bool := x.wire || x.band || x.follow || x.tpo

/-- Is the follow of an input checked: GUST, or WIREBREAK fed by a pulsing TPO (Table 4.1)? -/
abbrev checkedIn (cfg : Config.Image) (n : Nat) : Bool := checkable cfg n

/-- Has the band time B passed since the frame that carried the input's INPUT entry was accepted (R77, R129)? -/
def bandReady (cfg : Config.Image) (now : W64) (n : Nat) (x : InCh) : Bool :=
  x.entryAt.any (fun t => decide (t.toNat + 18 * tUs + max (ceilDiv (cfgFilter cfg n) 625 * 6250) (2 * tMs) ≤ now.toNat))

/-- The class P conditions of an input in this snapshot: wire break, band, follow, TPO (Table 4.6). A TPO fault reaches the channel as
the follow result of an input that is ON: for a checked input it is a follow failure, any other is taken as 0 (R88, Table 1.6). -/
def inputNow (cfg : Config.Image) (now : W64) (c : Chan) (n : Nat) : Bool × Bool × Bool × Bool :=
  let mode := lookN cfg .inMode n 0 0
  let b := snapBand c n
  let rdy := bandReady cfg now n (vget c.inp n InCh.reset) && 1 ≤ mode && mode ≤ 4
  let lost := !c.snap.follow.getLsbD n
  (rdy && mode == 4 && b == 0, rdy && (b == 3 || (b == 1 && mode != 4)), checkedIn cfg n && lost,
    1 ≤ mode && mode ≤ 4 && !checkedIn cfg n && (inTpoOf cfg n).isSome && lost)

/-- Which faults of an input have their own clearing condition met in this snapshot: wire break, band, follow, TPO (Table 4.6). -/
def clearNow (cfg : Config.Image) (now : W64) (c : Chan) (n : Nat) : Bool × Bool × Bool × Bool :=
  let q := inputNow cfg now c n
  (!q.1, !q.2.1, !q.2.2.1 && 2 ≤ (vget c.inp n InCh.reset).okRun, !q.2.2.2)

/-- Has every fault of an input its own clearing condition met in this snapshot (Table 4.6)? -/
def inputClear (cfg : Config.Image) (now : W64) (c : Chan) (n : Nat) : Bool :=
  let x := vget c.inp n InCh.reset
  let q := inputNow cfg now c n
  let k := clearNow cfg now c n
  (!x.wire || k.1) && (!x.band || k.2.1) && (!x.follow || k.2.2.1) && (!x.tpo || k.2.2.2)
    && !q.1 && !q.2.1 && !q.2.2.1 && !q.2.2.2

/-- IN.PAIR_TYPE of a pair is ANTIV; where the two inputs differ in it the manual is silent, and the pair is antivalent (DESIGN CHOICE,
log entry 158). -/
def pairAnti (cfg : Config.Image) (a b : Nat) : Bool :=
  lookN cfg .inPairType a 0 0 == 1 || lookN cfg .inPairType b 0 0 == 1

/-- Inputs A and B of the PAIR instance that holds input `n`. -/
def pairOfInput (cfg : Config.Image) (n : Nat) : Option (Nat × Nat) :=
  cfg.insts.findSome? (fun x =>
    match x.typ, x.ins with
    | 0x01, [.pin a, .pin b] => if n = a || n = b then some (a, b) else none
    | _, _ => none)

/-- Is a pair inactive on its filtered states (R90)? For WIREBREAK inputs that is the logical state that the reported band gives
(DESIGN CHOICE, log entry 205). -/
def pairInactive (cfg : Config.Image) (c : Chan) (a b : Nat) : Bool :=
  !logical cfg c a && (logical cfg c b == pairAnti cfg a b)

/-- Are both inputs of a pair inactive, with every fault of either at its own clearing condition (R96, Table 4.5)? Nothing clears while
FS_TP is lost (R89). -/
def pairMayClear (cfg : Config.Image) (now : W64) (c : Chan) (a b : Nat) : Bool :=
  !tpLost cfg c a && !tpLost cfg c b && pairInactive cfg c a b && inputClear cfg now c a && inputClear cfg now c b

/-- The faults of an input that clear in this snapshot (R96): each one by its own condition, but in a pair all of both inputs
together. -/
def inputClears (cfg : Config.Image) (now : W64) (c : Chan) (n : Nat) : Bool × Bool × Bool × Bool :=
  match pairOfInput cfg n with
  | some (a, b) => let k := pairMayClear cfg now c a b
                   (k, k, k, k)
  | none => clearNow cfg now c n

/-- Shortest press and opening of an acknowledge in ticks: 50 ms (R92). -/
def ackMin (T : Nat) : Nat := ticksOf T 50000

/-- Longest press in ticks: 3 s (R92). -/
def ackMax (T : Nat) : Nat := 3000000 / T

/-- The acknowledge counters of an input in one tick (R92, R93). -/
def ackStep (T : Nat) (on bad : Bool) (x : InCh) : InCh :=
  if on then
    let n := x.closed + 1
    { x with
      closed := n, ack := false, pressed := x.closed == 0
      pressOk := if x.closed = 0 then decide (ackMin T ≤ x.opened) else x.pressOk
      opened := if x.closed = 0 then 0 else x.opened
      stuck := x.stuck || decide (ackMax T < n) }
  else
    let o := x.opened + 1
    { x with
      closed := 0, opened := min o (ackMax T), pressed := false
      ack := x.closed != 0 && x.pressOk && ackMin T ≤ x.closed && decide (x.closed ≤ ackMax T) && !x.stuck && !bad
      lastPress := if x.closed = 0 then x.lastPress else x.closed
      stuck := x.stuck && decide (o < ackMin T) }

/-- A fault stands: raised in this snapshot, or still held and not cleared. -/
def stands (held now clears : Bool) : Bool := now || (held && !clears)

/-- One input in one tick: its faults stand or clear, and its acknowledge counters move. -/
def inputEval (cfg : Config.Image) (now : W64) (c : Chan) (n : Nat) : InCh :=
  let x := vget c.inp n InCh.reset
  let q := inputNow cfg now c n
  let k := inputClears cfg now c n
  let y :=
    if tpLost cfg c n then x
    else { x with
      wire := stands x.wire q.1 k.1, band := stands x.band q.2.1 k.2.1
      follow := stands x.follow q.2.2.1 k.2.2.1, tpo := stands x.tpo q.2.2.2 k.2.2.2 }
  if lookN cfg .inAckRole n 0 0 = 0 then y
  else ackStep (cfgT cfg) (c.snap.inputs.getLsbD n && lookN cfg .inMode n 0 0 != 0) y.bad y

/-- The results of pulses that the channel's frame now holds: an input that was on follows again, or not (R86). -/
def pulsesEval (cfg : Config.Image) (frameAt : Nat) (c : Chan) : Chan :=
  let ended := c.pulses.filter (fun p => p.ends ≤ frameAt)
  let fed (n : Nat) : Bool := ended.any (fun p => inTpoOf cfg n == some p.tpo && p.on.getLsbD n)
  { c with
    pulses := c.pulses.filter (fun p => !(p.ends ≤ frameAt))
    inp := vtab 48 (fun n =>
      let x := vget c.inp n InCh.reset
      { x with okRun := if !c.snap.follow.getLsbD n then 0 else if fed n then x.okRun + 1 else x.okRun }) }

/-- The pulses that the frame of this tick orders, with the inputs that are on as it starts (R83, R84). -/
def pulsesBegin (cfg : Config.Image) (frameAt : Nat) (c : Chan) : Chan :=
  { c with pulses := c.pulses ++ ((List.range 16).filter (fun m => (frameGust c.tx m).code == 1)).map (fun m =>
      { tpo := m, on := c.snap.inputs
        ends := frameAt + ((frameGust c.tx m).off.toNat * 10 + cfgWidthMax cfg m + 152) * tUs }) }

/-- All inputs of a channel in one tick; `frameAt` is the boundary at which its frame started. -/
def inputsEval (cfg : Config.Image) (now : W64) (frameAt : Nat) (c : Chan) : Chan :=
  let d := pulsesEval cfg frameAt c
  pulsesBegin cfg frameAt { d with inp := vtab 48 (inputEval cfg now d) }

/-- Inputs under a class P fault. -/
def badInputs (c : Chan) : BitVec 48 := bitsOf 48 (fun n => (vget c.inp n InCh.reset).bad)

/-- The states that the application takes: 0 under a class P fault, and 0 when fed by a TPO while FS_TP is lost (R86, R89, R96). -/
def takenInputs (cfg : Config.Image) (c : Chan) : BitVec 48 :=
  bitsOf 48 (fun n => logical cfg c n && !(vget c.inp n InCh.reset).bad && !tpLost cfg c n)

/-- RESET_STUCK of an acknowledge input in one channel, where one tick more would exceed 3 s (R93). -/
def stuckInput (cfg : Config.Image) (n : Nat) (c : Chan) : Chan :=
  let x := vget c.inp n InCh.reset
  if lookN cfg .inAckRole n 0 0 != 0 && ackMax (cfgT cfg) ≤ x.closed then
    { c with inp := vmod c.inp n (fun y => { y with stuck := true }) }
  else c

/-- RESET_STUCK: the acknowledge input is still closed after 3 s; the coming release is ignored (R93). -/
def execResetStuck (n : Fin 48) (s : State) : Host.Outcome State Fault Refusal :=
  let cfg := evalCfg s
  if !s.mode.evaluates then .next s else
  let t := { s with ridge := stuckInput cfg n.val s.ridge, thatch := stuckInput cfg n.val s.thatch }
  if (vget t.ridge.inp n.val InCh.reset).stuck || (vget t.thatch.inp n.val InCh.reset).stuck then
    .next (raise fcResetStuck n.val t)
  else .next t

end Sys2Proof.Machine
end

