-- ==== Sys2Proof/Machine/Blocks.lean ====
section
/-! DEFINITION. The function blocks of the safety function library apart from the motion blocks, one tick of one instance in one
channel (R90, R91, R99 to R121, R123, R125). -/

namespace Sys2Proof.Machine

/-! ## What a block reads -/

/-- What the blocks of a channel read in one tick: configuration, shared view, the channel with its inputs and analogue channels
evaluated, the inputs as taken, those under a fault, and the instances that lost data reach (R108). -/
structure BlkCtx where
  cfg : Config.Image
  h : Shared
  c : Chan
  taken : BitVec 48
  bad : BitVec 48
  lost : List Bool
  deriving DecidableEq, Repr

/-- The block that an instance number names: of this tick if it has been evaluated, else of the previous tick (R101). -/
def blkAt (done old : List Blk) (i : Nat) : Option Blk := if i < done.length then done[i]? else old[i]?

/-- The value of a link (R101). -/
def linkVal (x : BlkCtx) (done old : List Blk) (l : Option Config.Link) : Bool :=
  match l with
  | some (.sig i o) => (blkAt done old i).any (fun b => b.out.getLsbD o)
  | some (.pin n) => x.taken.getLsbD n
  | _ => false

/-- Type code of an instance; 0 for none. -/
def typOf (cfg : Config.Image) (i : Nat) : Nat :=
  match cfg.insts[i]? with
  | some y => y.typ
  | none => 0

/-- State of the pair that a link names; INACTIVE for none. -/
def pairSt (x : BlkCtx) (done old : List Blk) (l : Option Config.Link) : Nat :=
  match l with
  | some (.sig i _) => if typOf x.cfg i = 1 then ((blkAt done old i).map Blk.st).getD 0 else 0
  | _ => 0

/-- Is a class P fault present on the linked input or pair (R106 step 1)? -/
def linkBad (x : BlkCtx) (done old : List Blk) (l : Option Config.Link) : Bool :=
  match l with
  | some (.sig i _) => typOf x.cfg i == 1 && (blkAt done old i).any (fun b => b.st == 4)
  | some (.pin n) => x.bad.getLsbD n
  | _ => false

/-- Acknowledge, and press beginning, on the input linked as RESET (R92, R94). -/
def ackOf (x : BlkCtx) (y : Config.Inst) : Bool × Bool :=
  match y.reset with
  | some n => ((vget x.c.inp n InCh.reset).ack, (vget x.c.inp n InCh.reset).pressed)
  | none => (false, false)

/-- Is the instance held by a lost output group that it reaches, or by lost data (R108)? -/
def isHeld (x : BlkCtx) (k : Nat) (y : Config.Inst) : Bool :=
  y.reach.any (fun o => vget x.c.snap.sup (groupOfOut o) 0 == 3) || x.lost.getD k false

/-- Are all feedback inputs of an EDM instance released? -/
def fbAll (x : BlkCtx) (done old : List Blk) (y : Config.Inst) : Bool :=
  (y.ins.drop 1).all (fun l => l == .none || linkVal x done old (some l))

/-- The MONITORED conditions: reached outputs read back off on both switches, EDM blocks on the way OFF with all feedback
released (Table 5.3). -/
def monitorOk (x : BlkCtx) (done old : List Blk) (y : Config.Inst) : Bool :=
  y.reach.all (fun o => !x.c.snap.sw.getLsbD o)
    && y.reachEdm.all (fun e => (blkAt done old e).any (fun b => b.st == 8)
        && (match x.cfg.insts[e]? with
            | some z => fbAll x done old z
            | none => true))

/-- A time of the configuration in ticks (R102). -/
def ticksFor (x : BlkCtx) (p : Config.Param) (k dflt : Nat) : Nat := ticksOf (cfgT x.cfg) (lookN x.cfg p k 0 dflt)

/-- A count of ticks, saturating at 32 bits (R104). -/
def up32 (n : Nat) : Nat := min max32 (n + 1)

/-! ## The common state machine (R105 to R109) -/

/-- The conditions that the common state machine tests. -/
structure Facts where
  fault : Bool
  hold : Bool
  demand : Bool
  ack : Bool
  beh : Nat
  startAck : Bool
  mon : Bool
  cat1 : Bool
  deriving DecidableEq, Repr

/-- The next common state (R106); STOPPING and the states of GUARD_LOCK are left to their blocks. -/
def commonNext (f : Facts) (first : Bool) (st : Nat) : Nat :=
  if f.fault then 4
  else if f.hold && st != 4 then 5
  else if (st = 1 || st = 2) && f.demand then (if f.cat1 && st = 2 then 3 else 0)
  else if st = 4 || st = 5 then 0
  else if st = 0 && !f.demand then (if f.beh = 0 && !(first && f.startAck) then 2 else 1)
  else if st = 1 && f.ack && (f.beh != 2 || f.mon) then 2
  else st

/-- Are the reset conditions of Table 5.3 met in state `st`? A press that begins in the tick in which the block enters WAIT_RESET is
judged on the state after that transition: it counts (DESIGN CHOICE, log entry 162). -/
def resetMet (f : Facts) (st : Nat) : Bool := st == 1 && !f.fault && !f.hold && !f.demand && (f.beh != 2 || f.mon)

/-- A block after its transition: COUNT starts again with a new state, and the first transition has been made (R109). -/
def enter (b : Blk) (st : Nat) : Blk := if st = b.st then b else { b with st := st, cnt := 0, first := false }

/-- A block at its first tick of RUN, in state `st`; with a block fault of its own, which the fault table carries into RUN until it is
cleared at the block, it is in FAULT (R101, R105, R109, R273; DEDUCED, log entry 197). -/
def startBlk (b : Blk) (st : Nat) : Blk :=
  if b.start then
    { Blk.reset with
      st := if b.fault = 0 then st else 4, start := false, first := b.first, fault := b.fault, detail := if b.fault = 0 then 0 else b.detail
      dropA := b.dropA, dropB := b.dropB }
  else b

/-- Outputs from a list of bits, output 0 first. -/
def outs (l : List Bool) : W64 := bitsOf 64 (fun k => l.getD k false)

/-! ## PAIR (R90, R91) -/

/-- One tick of a PAIR. Where the two inputs differ in IN.T_DISC the manual is silent, and input A's applies (DESIGN CHOICE, log entry
158). -/
def pairStep (x : BlkCtx) (y : Config.Inst) (b : Blk) : Blk :=
  match y.ins with
  | [.pin a, .pin c] =>
    let anti := pairAnti x.cfg a c
    let n := ticksOf (cfgT x.cfg) (lookN x.cfg .inTDisc a 0 100000)
    let actA := x.taken.getLsbD a
    let actB := x.taken.getLsbD c != anti
    let both := actA && actB
    let none_ := pairInactive x.cfg x.c a c
    let fed := tpLost x.cfg x.c a || tpLost x.cfg x.c c
    let cnt := up32 b.cnt
    let r : Nat × Nat × BitVec 16 :=
      if x.bad.getLsbD a || x.bad.getLsbD c then (4, 0, b.fault)
      else if fed then (if b.st = 4 then (4, 0, b.fault) else (0, 0, 0))
      else match b.st with
        | 4 => if none_ then (0, 0, 0) else (4, 0, b.fault)
        | 0 => if both then (2, 0, 0) else if none_ then (0, 0, 0) else (1, 0, 0)
        | 1 =>
          if both && cnt ≤ n then (2, 0, 0)
          else if none_ then (0, 0, 0)
          else if n < cnt then (4, 0, fcDiscrepancy)
          else (1, cnt, 0)
        | 2 => if both then (2, 0, 0) else (3, 0, 0)
        | _ =>
          if none_ then (0, 0, 0)
          else if n < cnt then (4, 0, fcDiscrepancy)
          else (3, cnt, 0)
    { b with st := r.1, cnt := r.2.1, fault := r.2.2, start := false, out := outs [r.1 == 2] }
  | _ => b

/-! ## ESTOP, GUARD (R110, R111) -/

/-- Reset behaviour, START_ACK and acknowledge of a block with the common states. -/
def facts (x : BlkCtx) (done old : List Blk) (k : Nat) (y : Config.Inst) (b : Blk) (fault demand : Bool) : Facts :=
  { fault := fault, hold := isHeld x k y, demand := demand, ack := (ackOf x y).1 && b.armedAck
    beh := if y.typ = 0x12 then lookN x.cfg .bReset k 0 0 else cfgReset x.cfg k y.typ
    startAck := cfgStartAck x.cfg k, mon := monitorOk x done old y, cat1 := false }

/-- ESTOP. Its RESET default is MANUAL (Table 5.4). -/
def estopStep (x : BlkCtx) (done old : List Blk) (k : Nat) (y : Config.Inst) (b0 : Blk) : Blk × Bool :=
  let b := startBlk b0 0
  let cat1 := lookN x.cfg .estopCat k 0 0 == 1
  let n := ticksFor x .estopTStop k 1000000
  let f := { facts x done old k y b (linkBad x done old y.ins[0]?) (!linkVal x done old y.ins[0]?) with cat1 := cat1 }
  let st := if b.st = 3 then (if f.fault then 4 else if f.hold then 5 else if n ≤ b.cnt + 1 then 0 else 3)
    else commonNext f b.first b.st
  let c := enter b st
  let d := if st = 3 && b.st = 3 then { c with cnt := b.cnt + 1 } else c
  ({ d with out := outs [st == 2 || st == 3, st == 2] }, resetMet f st)

/-- Is the start test of a guard done: its pair has been seen INACTIVE since the entry into RUN (R111)? -/
def startTested (x : BlkCtx) (k : Nat) (was : Bool) (st : Nat) : Bool := was || st == 0 || !lookB x.cfg .bStartTest k false

/-- GUARD. -/
def guardStep (x : BlkCtx) (done old : List Blk) (k : Nat) (y : Config.Inst) (b0 : Blk) : Blk × Bool :=
  let b := startBlk b0 0
  let p := pairSt x done old y.ins[0]?
  let tested := startTested x k b.fA p
  let f := facts x done old k y b (linkBad x done old y.ins[0]?) (p != 2 || !tested)
  let st := commonNext f b.first b.st
  ({ enter b st with fA := b.fA || p == 0, out := outs [st == 2] }, resetMet f st)

/-! ## GUARD_LOCK (R112, R113) -/

/-- Faults of GUARD_LOCK: a present one clears by its own condition, a new one comes up (Table 5.12). -/
def lockFault (b : Blk) (door lock : Nat) (sep lockedLost timeout : Bool) : BitVec 16 :=
  let old := if b.fault = fcLockTimeout && lock = 2 then 0
    else if b.fault = fcLockLost && door = 0 && lock = 0 then 0 else b.fault
  if !sep then 0 else if lockedLost then fcLockLost else if timeout then fcLockTimeout else old

/-- GUARD_LOCK: `fA` holds OPENED, `fB` that the locking count runs; `seen` holds READY at the begin of the last press and the
start test; `prev` the lock pair. -/
def guardLockStep (x : BlkCtx) (done old : List Blk) (k : Nat) (y : Config.Inst) (b0 : Blk) : Blk × Bool :=
  let b := startBlk b0 0
  let sep := lookN x.cfg .glMonitor k 0 0 == 1
  let sigReq := lookN x.cfg .glReqSrc k 0 0 == 1
  let door := pairSt x done old y.ins[0]?
  let lock := if sep then pairSt x done old y.ins[1]? else 2
  let cond := linkVal x done old y.ins[2]?
  let reqLevel := linkVal x done old y.ins[3]?
  let a := ackOf x y
  let tested := startTested x k (b.seen.getLsbD 1) door
  let lockLost := sep && b.prev.getLsbD 0 && lock != 2 && door == 2 && b.st != 8
  -- the locking count of LOCKING under SEPARATE
  let counts := b.st == 9 && sep && door == 2 && lock != 2
  let lcnt := if counts then (if b.fB then up32 b.cnt else 0) else 0
  let timeout := counts && decide (ticksFor x .glTLock k 1000000 < lcnt)
  let flt := lockFault b door lock sep lockLost timeout
  let closedDemand := !(door == 2 && lock == 2)
  let f := facts x done old k y b
    (y.ins.any (fun l => linkBad x done old (some l)) || flt != 0) (closedDemand || !tested)
  let req := if sigReq then reqLevel else a.1 && b.seen.getLsbD 0
  let opened := b.fA || door == 0
  let st :=
    if f.fault then 4
    else if f.hold && b.st != 4 then 5
    else match b.st with
      | 8 =>
        if !cond || (b.fA && door == 2) || (!opened && ticksFor x .glTUnlockMax k 60000000 ≤ b.cnt + 1)
            || (sigReq && !reqLevel && !opened) then 9 else 8
      | 9 => if !closedDemand then 0 else 9
      | 2 => if f.demand then 0 else if req && cond then 8 else 2
      | s => commonNext f b.first s
  let c := enter b st
  let d := if st = 8 then (if b.st = 8 then { c with cnt := up32 b.cnt, fA := opened } else { c with fA := false })
    else if st = 9 then { c with cnt := if b.st = 9 then lcnt else 0, fB := b.st == 9 && counts }
    else { c with fB := false }
  ({ d with
      fault := flt
      seen := outs [if a.2 then st == 2 else b.seen.getLsbD 0, b.seen.getLsbD 1 || door == 0] |>.truncate 4
      prev := if sep && lock == 2 then 1 else 0
      out := outs [st == 2, st == 8] }, resetMet f st)

/-! ## CURTAIN (R114, R115) -/

/-- Sub-state, reverse, sequence count, muting count, SEEN and the muting fault of one tick. -/
structure Muting where
  ms : Nat
  rev : Bool
  cnt : Nat
  cnt2 : Nat
  seen : BitVec 4
  fault : BitVec 16
  deriving DecidableEq, Repr

/-- Table 5.6 in one tick: `act` the active sensors, `was` those of the previous tick. The current passage of SEEN begins as MUTED is
entered: ARMED records no sensor in it (DESIGN CHOICE, log entry 188). -/
def mutingStep (four both : Bool) (n12 nMute : Nat) (startOk lampOk : Bool) (act was : BitVec 4) (m : Muting) : Muting :=
  let s (k : Nat) : Bool := act.getLsbD k
  let a1 := if m.rev then s 3 else s 0
  let a2 := if m.rev then s 2 else s 1
  let wrong := if m.rev then s 1 || s 0 else s 2 || s 3
  let cnt := up32 m.cnt
  let cnt2 := up32 m.cnt2
  let seen := m.seen ||| (was &&& ~~~act)
  let rose := act &&& ~~~was
  let idle : Muting := { ms := 0, rev := false, cnt := 0, cnt2 := 0, seen := 0, fault := 0 }
  let muted : Muting := { m with ms := 2, cnt := 0, cnt2 := 0, seen := 0 }
  match m.ms with
  | 0 =>
    if !startOk || act = 0 then idle
    else if four then
      if act = 1 then { idle with ms := 1 }
      else if both && act = 8 then { idle with ms := 1, rev := true }
      else { idle with fault := fcMutingSeq }
    else if act = 3 then { idle with ms := 2 }
    else { idle with ms := 1 }
  | 1 =>
    if four && wrong then { m with fault := fcMutingSeq }
    else if act = 0 then idle
    else if (if four then a1 && a2 else act == 3) && cnt ≤ n12 then muted
    else if n12 < cnt then { m with fault := fcMutingSeq }
    else { m with cnt := cnt }
  | 2 =>
    if four && (rose &&& m.seen) != 0 then { m with fault := fcMutingSeq }
    else if nMute < cnt2 then { m with fault := fcMutingTime }
    else if !lampOk then { m with fault := fcMutingLamp }
    else if (if four then (s 0 && s 1) || (s 1 && s 2) || (s 2 && s 3) else act == 3) then { m with cnt2 := cnt2, seen := seen }
    else { m with ms := 3, cnt2 := 0, seen := seen }
  | _ =>
    if rose != 0 then { m with fault := fcMutingSeq }
    else if act = 0 then idle
    else { m with seen := seen }

/-- The active muting sensors. -/
def sensors (x : BlkCtx) (done old : List Blk) (y : Config.Inst) : BitVec 4 :=
  (outs ((List.range 4).map (fun i => linkVal x done old y.ins[i + 1]?))).truncate 4

/-- Limits of the muting counts in ticks: T_12 or T_SYNC, T_MUTE_MAX. -/
def mutingLimits (x : BlkCtx) (k : Nat) : Nat × Nat :=
  (if lookN x.cfg .curMuting k 0 0 = 2 then ticksFor x .curT12 k 2000000 else ticksFor x .curTSync k 2000000,
    ticksFor x .curTMuteMax k 30000000)

/-- CURTAIN; the start condition "block READY" is judged on the state at the start of the tick, so that muting begins no
sooner than the tick after the one that makes the block READY (DESIGN CHOICE, log entry 163), and a pair that leaves ACTIVE in the tick of
a change into or out of MUTED is judged on the new sub-state (DESIGN CHOICE, log entry 207): `sel` holds MSTATE, `fA`
REVERSE, `cnt` and `cnt2` the two counts, `fB` a MUTING_LAMP outside MUTED, `prev` the sensors, and in bit 4 that a press has begun, and
is held, in which the muting faults may clear, which is a function of its own beside the reset of the block (R94, R115). -/
def curtainStep (x : BlkCtx) (done old : List Blk) (k : Nat) (y : Config.Inst) (b0 : Blk) : Blk × Bool :=
  let b := if b0.start then { startBlk b0 0 with fB := b0.fB } else b0
  let mode := lookN x.cfg .curMuting k 0 0
  let p := pairSt x done old y.ins[0]?
  let act := if mode = 0 then 0 else sensors x done old y
  let lampOk := (lampOut x.cfg k).all (fun o => (vget x.c.outs o OutCh.reset).cont)
  let lim := mutingLimits x k
  let a := ackOf x y
  let armed := a.1 && b.prev.getLsbD 4
  let clears := act == 0 && lampOk
  let lamp := mode != 0 && (!lampOk || b.fB) && !(armed && clears)
  let startOk := mode != 0 && b.st == 2 && p == 2 && !lamp && lampOk
  let m := mutingStep (mode == 2) (lookN x.cfg .curDirection k 0 0 == 1) lim.1 lim.2 startOk lampOk act (b.prev.truncate 4)
    { ms := b.sel, rev := b.fA, cnt := b.cnt, cnt2 := b.cnt2, seen := b.seen, fault := 0 }
  let flt := if m.fault != 0 then m.fault else if armed && clears then 0 else b.fault
  let f := facts x done old k y b (y.ins.any (fun l => linkBad x done old (some l)) || flt != 0) (p != 2 && m.ms != 2)
  let st := commonNext f b.first b.st
  let mm : Muting := if st = 2 then m else { ms := 0, rev := false, cnt := 0, cnt2 := 0, seen := 0, fault := 0 }
  let mute := st == 2 && mm.ms == 2
  let may := (flt != 0 || lamp) && clears && (a.2 || b.prev.getLsbD 4)
  ({ enter b st with
      fault := flt, fB := lamp && m.fault != fcMutingLamp, sel := mm.ms, fA := mm.rev, cnt := mm.cnt, cnt2 := mm.cnt2
      seen := mm.seen, prev := act.zeroExtend 8 ||| (outs [false, false, false, false, may]).truncate 8, out := outs [st == 2, mute, mute] },
    resetMet f st)

/-! ## TWO_HAND, ENABLE3, MODE_SEL, EDM (R116 to R119) -/

/-- N_SYNC in ticks (R116). -/
def nSync (T : Nat) : Nat := 500000 / T - 1

/-- TWO_HAND. -/
def twoHandStep (x : BlkCtx) (done old : List Blk) (k : Nat) (y : Config.Inst) (b0 : Blk) : Blk × Bool :=
  let p := pairSt x done old y.ins[0]?
  let q := pairSt x done old y.ins[1]?
  let off := p == 0 && q == 0
  let both := p == 2 && q == 2
  let b := startBlk b0 (if off then 8 else 11)
  let fault := linkBad x done old y.ins[0]? || linkBad x done old y.ins[1]?
  let st :=
    if fault then 4
    else if isHeld x k y && b.st != 4 then 5
    else match b.st with
      | 4 => if off then 8 else 4
      | 5 => if off then 8 else 11
      | 8 => if both then 10 else if p == 2 || q == 2 then 9 else 8
      | 9 =>
        if both && b.cnt + 1 ≤ nSync (cfgT x.cfg) then 10
        else if nSync (cfgT x.cfg) < b.cnt + 1 then 11
        else if off then 8 else 9
      | 10 => if both then 10 else 11
      | _ => if off then 8 else 11
  let c := enter b st
  ({ c with cnt := if st = 9 && b.st = 9 then b.cnt + 1 else c.cnt, out := outs [st == 10] }, false)

/-- ENABLE3; where T_MAX is 0, the count of ENABLED stays 0 (DESIGN CHOICE, log entry 210). -/
def enable3Step (x : BlkCtx) (done old : List Blk) (k : Nat) (y : Config.Inst) (b0 : Blk) : Blk × Bool :=
  let p := pairSt x done old y.ins[0]?
  let panic := linkVal x done old y.ins[1]?
  let b := startBlk b0 (if p == 2 then 10 else 8)
  let n := ticksFor x .en3TMax k 0
  let st :=
    if linkBad x done old y.ins[0]? || linkBad x done old y.ins[1]? then 4
    else if isHeld x k y && b.st != 4 then 5
    else match b.st with
      | 4 => 8
      | 5 => if p == 2 then 10 else 8
      | 8 => if p == 2 && !panic then 9 else 8
      | 9 => if panic then 10 else if p != 2 then 8 else if n != 0 && n ≤ b.cnt + 1 then 10 else 9
      | _ => if p == 0 && !panic then 8 else 10
  let c := enter b st
  ({ c with cnt := if st = 9 && b.st = 9 && n != 0 then up32 b.cnt else c.cnt, out := outs [st == 9] }, false)

/-- The position of a mode selector, if exactly one input is active. -/
def onePosition (x : BlkCtx) (done old : List Blk) (y : Config.Inst) : Option Nat :=
  match (List.range y.ins.length).filter (fun i => linkVal x done old y.ins[i]?) with
  | [i] => some i
  | _ => none

/-- MODE_SEL. -/
def modeSelStep (x : BlkCtx) (done old : List Blk) (k : Nat) (y : Config.Inst) (b0 : Blk) : Blk × Bool :=
  let b := startBlk b0 9
  let pos := onePosition x done old y
  let ack := (ackOf x y).1 && b.armedAck
  let inBad := y.ins.any (fun l => linkBad x done old (some l))
  let late := b.st == 9 && pos.isNone && decide (ticksFor x .msTChange k 500000 < b.cnt + 1)
  let flt := if b.st = 4 && !inBad && pos.isSome && ack then 0 else if late then fcModeImplausible else b.fault
  let st :=
    if inBad || late then 4
    else if isHeld x k y && b.st != 4 then 5
    else match b.st with
      | 4 => if pos.isSome && ack then 9 else 4
      | 5 => 9
      | 8 => if pos = some b.sel then 8 else 9
      | 9 => if pos.isSome then (if lookB x.cfg .msModeAck k true then 10 else 8) else 9
      | _ => if pos != some b.sel then 9 else if ack then 8 else 10
  let c := enter b st
  let sel := if b.st = 9 && (st = 10 || st = 8) then pos.getD 0 else b.sel
  ({ c with
      sel := sel, fault := flt, cnt := if st = 9 && b.st = 9 then up32 b.cnt else c.cnt
      out := outs ((List.range 8).map (fun i => st == 8 && i == sel)) },
    pos.isSome && (st == 10 || st == 4) && !inBad)

/-- EDM; the count starts again on the way from PICKING to DROPPING too, where Table 5.9 says so only of the way from ON (DESIGN CHOICE,
log entry 165), EN = 0 goes before every FB = 0 in PICKING (DESIGN CHOICE, log entry 208), and FAULT is left in one way, whatever led to it
(DESIGN CHOICE, log entry 189): `detail` holds KIND, `fB` that a feedback was open in the last tick of OFF, `seen` the feedbacks measured
since Q fell, both at RUN entry. -/
def edmStep (x : BlkCtx) (done old : List Blk) (k : Nat) (y : Config.Inst) (b0 : Blk) : Blk × Bool :=
  let b := if b0.start then { startBlk b0 8 with fB := true, seen := 3, dropA := 0, dropB := 0 } else b0
  let en := linkVal x done old y.ins[0]?
  let rel := fbAll x done old y
  let anyRel := (y.ins.drop 1).any (fun l => l != .none && linkVal x done old (some l))
  let nPick := ticksFor x .edmTPick k 100000
  let nDrop := ticksFor x .edmTDrop k 100000
  let cnt := up32 b.cnt
  let ack := (ackOf x y).1 && b.armedAck
  let inBad := y.ins.any (fun l => linkBad x done old (some l))
  let offCnt := if rel then 0 else if b.fB then cnt else 0
  let kind := match b.st with
    | 8 => if !(en && rel) && decide (nDrop < offCnt) then 2 else 0
    | 9 => if nPick < cnt then 1 else 0
    | 10 => if anyRel then 3 else 0
    | 11 => if nDrop < cnt then 2 else 0
    | _ => 0
  let done_ := b.st == 4 && !inBad && !en && rel && ack  -- leaving FAULT, also one entered for an input alone (log entry 189)
  let st :=
    if inBad || kind != 0 then 4
    else if isHeld x k y && b.st != 4 then 5
    else match b.st with
      | 4 => if done_ then 8 else 4
      | 5 => 8
      | 8 => if en && rel then 9 else 8
      | 9 => if !en then 11 else if !anyRel then 10 else 9
      | 10 => if !en then 11 else 10
      | _ => if rel then 8 else 11
  let c := enter b st
  let fb (i : Nat) : Bool := linkVal x done old y.ins[i]?
  let falls := (b.st == 9 || b.st == 10) && st != 9 && st != 10
  let seen := if falls then 0 else b.seen
  let dropCnt := if falls then 0 else up32 b.cnt2
  ({ c with
      cnt := if st = 8 then (if b.st = 8 then offCnt else 0) else if st = b.st && (st = 9 || st = 11) then cnt else c.cnt
      fB := st == 8 && (b.st != 8 || !rel)
      detail := if kind != 0 then kind else if done_ then 0 else b.detail
      fault := if kind != 0 then fcEdmFault else if done_ then 0 else b.fault
      cnt2 := dropCnt
      seen := seen ||| ((outs [fb 1, fb 2]).truncate 4)
      dropA := if fb 1 && !seen.getLsbD 0 then dropCnt else b.dropA
      dropB := if fb 2 && !seen.getLsbD 1 then dropCnt else b.dropB
      out := outs [st == 9 || st == 10] },
    st == 4 && !inBad && !en && rel)

/-! ## Timers, logic, A_THRESH, OUT, networks, non-safe blocks (R120 to R123) -/

/-- TON, TOF and TP: `fA` holds Q, `fB` that the count runs, `prev` the input (Table 5.10). -/
def timerStep (x : BlkCtx) (done old : List Blk) (k : Nat) (y : Config.Inst) (b0 : Blk) : Blk × Bool :=
  let b := startBlk b0 0
  let i := linkVal x done old y.ins[0]?
  let n := ticksFor x .timPt k 0
  let cnt := up32 b.cnt
  let was := b.prev.getLsbD 0
  let r : Bool × Bool × Nat :=
    if n = 0 then (i, false, 0)
    else match y.typ with
      | 0x0A =>
        if !i then (false, false, 0)
        else
          let c := if was then min n cnt else 0
          (decide (n ≤ c), decide (c < n), c)
      | 0x0B =>
        if i then (true, false, 0)
        else if was then (true, true, 0)
        else if b.fB && decide (cnt < n) then (true, true, cnt)
        else (false, false, 0)
      | _ =>
        if b.fA then (if n ≤ cnt then (false, false, 0) else (true, true, cnt))
        else if i && !was then (true, true, 0)
        else (false, false, 0)
  ({ b with fA := r.1, fB := r.2.1, cnt := r.2.2, prev := if i then 1 else 0, out := outs [r.1] }, false)

/-- AND, OR, XOR, NOT and RS. -/
def logicStep (x : BlkCtx) (done old : List Blk) (y : Config.Inst) (b0 : Blk) : Blk × Bool :=
  let b := startBlk b0 0
  let v := (y.ins.filter (fun l => l != .none)).map (fun l => linkVal x done old (some l))
  let q := match y.typ with
    | 0x0D => v.all id
    | 0x0E => v.any id
    | 0x0F => v.getD 0 false != v.getD 1 false
    | 0x10 => !v.getD 0 false
    | _ => !v.getD 1 false && (v.getD 0 false || b.fA)
  ({ b with fA := y.typ == 0x11 && q, out := outs [q] }, false)

/-- Is a value beyond LIMIT (R121)? -/
def beyondLimit (high : Bool) (limit v : Int) : Bool := if high then decide (limit < v) else decide (v < limit)

/-- A_THRESH: `fA` holds the demand, `fB` that the last value was beyond LIMIT; the count rises in every further tick beyond it, also
after the demand (R121). -/
def aThreshStep (x : BlkCtx) (done old : List Blk) (k : Nat) (y : Config.Inst) (b0 : Blk) : Blk × Bool :=
  let b := startBlk b0 0
  let a := vget x.c.an (lookN x.cfg .atChannel k 0 0) AnCh.reset
  let eu := cfgEu x.cfg (lookN x.cfg .atChannel k 0 0)
  let high := lookN x.cfg .atDir k 0 0 == 0
  let limit := look x.cfg .atLimit k 0 (if high then max eu.1 eu.2 else min eu.1 eu.2)
  let hyst := look x.cfg .atHyst k 0 0
  let n := ticksFor x .atTDelay k 0
  let over_ := beyondLimit high limit a.y
  let back := if high then decide (a.y ≤ subW 32 limit hyst) else decide (addW 32 limit hyst ≤ a.y)
  let cnt := if over_ then (if b.fB then up32 b.cnt else 0) else 0
  let demand := if b.fA then !back else over_ && decide (n ≤ cnt)
  let f := facts x done old k y b (a.st == 2 || a.st == 3) demand
  let st := commonNext f b.first b.st
  ({ enter b st with
      fA := demand, fB := over_, cnt := cnt, out := outs [st == 2] }, resetMet f st)

/-- Does a consuming connection deliver: VALID or SINGLE, not from a member that is absent or in LOCKOUT (R123, R213)? -/
def connGives (x : BlkCtx) (k c : Nat) : Bool :=
  let n := vget x.c.conn c Conn.reset
  (n.st == 1 || n.st == 2) && !(given x.cfg .bMember k && x.c.casBad.getLsbD (lookN x.cfg .bMember k 0 0))

/-- Signal `k` of a payload: a bit of the 64-bit value of a CTT telegram, or bit k mod 8 of byte floor(k / 8) of a CSF one (R208,
R217). -/
def payloadBit (csf : Bool) (p : List Byte) (k : Nat) : Bool :=
  if csf then (p.getD (k / 8) 0).getLsbD (k % 8) else (BitVec.ofNat 64 (beAt p 0 8)).getLsbD k

/-- CTT_IN and CSF_IN: output `i` is the mapped payload bit; 0 while the connection does not deliver or its data are safe values
(R123, R215). `st` and `cnt` hold the record of Table 5.13. -/
def connInStep (x : BlkCtx) (k : Nat) (b : Blk) : Blk × Bool :=
  let c := lookN x.cfg .bConn k 0 0
  let n := vget x.c.conn c Conn.reset
  let live := connGives x k c && !n.zeroed
  ({ b with
      start := false, st := n.st, cnt := n.lee
      out := bitsOf 64 (fun i => live && payloadBit (isCsf x.cfg c) n.payload (lookN x.cfg .bSigBit k i i)) }, false)

/-- OUT: CMD is its signal (R122). -/
def outStepBlk (x : BlkCtx) (done old : List Blk) (y : Config.Inst) (b : Blk) : Blk × Bool :=
  ({ b with start := false, out := outs [linkVal x done old y.ins[0]?] }, false)

/-- CTT_OUT and CSF_OUT: the inputs to be mapped onto the payload, input `i` as bit `i` (R123). -/
def connOutStep (x : BlkCtx) (done old : List Blk) (y : Config.Inst) (b : Blk) : Blk × Bool :=
  ({ b with start := false, out := outs (y.ins.map (fun l => linkVal x done old (some l))) }, false)

/-- MSG and CTU; on an entry into RUN CTU keeps its count, which the manual leaves open (DESIGN CHOICE, log entry 166): `fA`
says that the input rises in this tick; CTU counts it in `num` (Table 5.10). -/
def eventStep (x : BlkCtx) (done old : List Blk) (y : Config.Inst) (b : Blk) : Blk × Bool :=
  let i := linkVal x done old y.ins[0]?
  let rise := i && !b.prev.getLsbD 0
  ({ b with
      start := false, fA := rise, prev := if i then 1 else 0
      num := if y.typ = 0x19 && rise then min (max32 : Int) (b.num + 1) else b.num }, false)

end Sys2Proof.Machine
end

