-- ==== Sys2Proof/Machine/MotionBlocks.lean ====
section
/-! DEFINITION. The motion blocks, one tick of one instance in one channel (R155 to R173; Tables 7.4 to 7.8). -/

namespace Sys2Proof.Machine

/-! ## What the records of an axis say (R153, R157) -/

/-- Is a source valid: STAT bit 7 of its record (Table 7.3)? -/
def recValid (r : MotionRec) : Bool := r.stat.getLsbD 7

/-- Encoder fault code of a record (Table 7.15). -/
def recFault (r : MotionRec) : Nat := fld r.stat 2 4

/-- What a motion block reads of its axis in a tick: the positions of the sources that count, source a first, whether each
counts, their positions at every strobe of the records,
the largest and smallest speed of each source whose speed counts, V_LAST, an encoder fault, a hold of R156. -/
structure AxView where
  pA : Int
  pB : Int
  pathA : List Int
  pathB : List Int
  useA : Bool
  useB : Bool
  maxes : List Int
  mins : List Int
  vA : Int
  vB : Int
  encFault : Bool
  hold : Bool
  vss : Int
  deriving DecidableEq, Repr

/-- Has a NET source no usable telegram for two network cycles, of CONN.C as used, or a connection that does not deliver (R156, R207)? -/
def netHold (x : BlkCtx) (a : Nat) : Bool :=
  let c := lookN x.cfg .axisNetConn a 0 0
  let q := vget x.c.ax a AxCh.reset
  let n := vget x.c.conn c Conn.reset
  srcNet x.cfg a && (!(n.st == 1 || n.st == 2) || 2 * usedC x.cfg c ≤ q.netAge * cfgT x.cfg)

/-- The view of axis `a`. A NET source has no V_LAST: its stop position is predicted with speed 0 (R156, R170; DESIGN CHOICE, log entry
193). -/
def axView (x : BlkCtx) (a : Nat) : AxView :=
  let q := vget x.c.ax a AxCh.reset
  let net := srcNet x.cfg a
  let okA := q.haveA && recValid q.recA
  let okB := q.haveB && (net || recValid q.recB)
  let spd := (if okA then [q.recA] else []) ++ (if okB && !net then [q.recB] else [])
  { pA := sgn q.recA.pos, pB := sgn q.recB.pos, pathA := q.pathA, pathB := q.pathB, useA := okA, useB := okB
    maxes := spd.map (fun r => sgn r.vMax), mins := spd.map (fun r => sgn r.vMin)
    vA := sgn q.recA.vLast, vB := if net then 0 else sgn q.recB.vLast
    encFault := recFault q.recA != 0 || (!net && recFault q.recB != 0)
    hold := netHold x a, vss := look x.cfg .axisVSs a 0 1000 }

/-- Does standstill hold: every source whose speed counts within V_SS (R157)? -/
def standstill (v : AxView) : Bool :=
  !v.maxes.isEmpty && v.maxes.all (fun m => decide (m ≤ v.vss)) && v.mins.all (fun m => decide (-v.vss ≤ m))

/-- The largest absolute speed in the records of the tick, in 32 bits (R51, R157, R164). -/
def maxAbs (v : AxView) : Int := satInt 32 ((v.maxes ++ v.mins.map (fun m => -m)).foldl max 0)

/-- Is a source further than `win` from its captured position (R157)? -/
def offWindow (v : AxView) (b : Blk) (win : Int) : Bool :=
  (v.useA && decide (win < absW 64 (subW 64 v.pA b.p0a))) || (v.useB && decide (win < absW 64 (subW 64 v.pB b.p0b)))

/-- Capture the position of every source. -/
def capture (v : AxView) (b : Blk) : Blk := { b with p0a := v.pA, p0b := v.pB }

/-! ## The envelope (R164) -/

/-- A value of at most 128 bits (R164: intermediate products are 128 bits wide). -/
def mul128 (a b : Int) : Int := satInt 128 (a * b)

/-- A time rounded up to whole ticks, in µs. -/
def wholeTicks (T us : Nat) : Nat := ticksOf T us * T

/-- The envelope value at `t` µs after the demand boundary, above the floor `floor_`: a speed of 32 bits, its intermediate products of
128 bits (R51, R164, R168). -/
def envelope (tr tj : Nat) (aM v0 vTol floor_ : Int) (t : Nat) : Int :=
  let top := addW 32 v0 vTol
  let e :=
    if t ≤ tr then top
    else if t ≤ tr + tj then
      let d : Int := t - tr
      subW 32 top (divW 128 (mul128 (mul128 aM d) d) (2 * tj * 1000000))
    else
      let d : Int := t - tr - tj
      subW 32 (subW 32 top (divW 128 (mul128 aM tj) 2000000)) (divW 128 (mul128 aM d) 1000000)
  max e floor_

/-- The envelope of instance `k` at tick `n` after the demand. -/
def envAt (x : BlkCtx) (k n : Nat) (v0 floor_ : Int) : Int :=
  let T := cfgT x.cfg
  envelope (wholeTicks T (lookN x.cfg .tR k 0 10000)) (wholeTicks T (lookN x.cfg .tJ k 0 0)) (look x.cfg .aM k 0 1) v0
    (look x.cfg .vTol k 0 0) floor_ ((n - 1) * T)

/-! ## Stop blocks (R160 to R167) -/

/-- T_BRAKE in ticks. -/
def nBrake (x : BlkCtx) (k : Nat) : Nat := ticksFor x .tBrake k 0

/-- Where SS1T and SS1R leave STOPPING for: BRAKING, or STO_ACTIVE without T_BRAKE. -/
def afterStop (x : BlkCtx) (k typ : Nat) : Nat := if typ = 0x23 then 14 else if nBrake x k = 0 then 9 else 12

/-- DIR: the sign of V_LAST of source a, or of source b where that is 0 (R164). -/
def dirOf (v : AxView) : Int := if v.vA != 0 then v.vA.sign else v.vB.sign

/-- Does the stop block find its own limit broken in this tick (R163, R164, R166, R167)? The fault code, 0 for none. -/
def stopBroken (x : BlkCtx) (k typ : Nat) (v : AxView) (b : Blk) : BitVec 16 :=
  let win := look x.cfg .sosWin k 0 1000
  match b.st with
  | 11 =>
    if typ = 0x21 || standstill v then 0
    else if (decide (0 < b.num) && v.mins.any (fun m => decide (m < -v.vss)))
        || (decide (b.num < 0) && v.maxes.any (fun m => decide (v.vss < m)))
        || decide (envAt x k (b.cnt + 1) b.v0 v.vss < maxAbs v) then fcEnvelopeExceeded
    else 0
  | 12 => if offWindow v b win then fcSosExceeded else 0
  | 13 => if ticksFor x .sosTDelay k 0 ≤ b.cnt + 1 && !standstill v then fcSosExceeded else 0
  | 14 => if offWindow v b win || decide (look x.cfg .sosVMax k 0 v.vss < maxAbs v) then fcSosExceeded else 0
  | _ => 0

/-- The own rules of a stop block (R160 to R167): `en` EN, `manual` RESET = MANUAL, `ack` an acknowledge whose conditions were met
at the press. -/
def stopRules (x : BlkCtx) (k typ : Nat) (v : AxView) (en manual ack : Bool) (b : Blk) : Nat :=
  match b.st with
  | 9 => if en then (if manual then 10 else 8) else 9
  | 10 => if !en then 9 else if ack then 8 else 10
  | 8 =>
    if en then 8
    else match typ with
      | 0x20 => 9
      | 0x24 => 13
      | 0x21 => 11
      | _ => if standstill v then afterStop x k typ else 11
  | 11 =>
    if typ = 0x21 then
      (if ticksFor x .s1TStop k 1000000 ≤ b.cnt + 1 || (lookB x.cfg .s1EarlySto k false && standstill v) then afterStop x k typ
       else 11)
    else if standstill v then afterStop x k typ else 11
  | 12 => if nBrake x k ≤ b.cnt + 1 then 9 else 12
  | 13 => if en then 8 else if ticksFor x .sosTDelay k 0 ≤ b.cnt + 1 then 14 else 13
  | 14 => if en then (if manual then 10 else 8) else 14
  | s => s

/-- Outputs of a stop block in a state (Tables 7.4, 7.5). -/
def stopOut (typ st : Nat) (ss : Bool) : W64 :=
  let ten := st == 8 || (11 ≤ st && st ≤ 14)
  let qs := 11 ≤ st && st ≤ 14
  let brq := ten && st != 12
  let sst := st == 14 || ((st == 9 || st == 10) && ss)
  match typ with
  | 0x20 => outs [ten, sst, brq]
  | 0x24 => outs [ten, qs, sst]
  | _ => outs [ten, qs, sst, brq]

/-- STO, SS1T, SS1R, SS2 and SOS: `num` holds DIR, `v0` the captured speed, both captured in every tick of a demand (R164). -/
def stopStep (x : BlkCtx) (done old : List Blk) (k : Nat) (y : Config.Inst) (b0 : Blk) : Blk × Bool :=
  let b := startBlk b0 9
  let v := axView x (lookN x.cfg .bAxis k 0 0)
  let en := linkVal x done old y.ins[0]?
  let ack := (ackOf x y).1 && b.armedAck
  let broken := stopBroken x k y.typ v b
  let hold := isHeld x k y || v.hold
  let ss := standstill v
  let st :=
    if v.encFault || broken != 0 then 4
    else if hold && b.st != 4 then 5
    else match b.st with
      | 4 => if ss && ack then 9 else 4
      | 5 => 9
      | _ => stopRules x k y.typ v en (lookN x.cfg .bReset k 0 0 == 1) ack b
  let c := enter b st
  let timed := st == 11 || st == 12 || st == 13
  let d := { c with
    cnt := if timed && st = b.st then up32 b.cnt else c.cnt
    fault := if broken != 0 then broken else if b.st = 4 && st != 4 then 0 else b.fault
    out := stopOut y.typ st ss }
  let demand := b.st == 8 && !en && st != 4 && st != 5
  let e := if demand && (y.typ = 0x22 || y.typ = 0x23) then { d with v0 := maxAbs v, num := dirOf v } else d
  (if (st = 12 || st = 14) && st != b.st then capture v e else e,
    (st == 4 && !v.encFault && ss) || (st == 10 && en && !v.encFault && !hold))

/-! ## Limit blocks (R168 to R170) -/

/-- The selected SLS limit. -/
def slsLimit (x : BlkCtx) (k sel : Nat) : Int :=
  look x.cfg .slsLimit k sel (look x.cfg .axisVMax (lookN x.cfg .bAxis k 0 0) 0 2147483647)

/-- The predicted stop position (R170), of 64 bits. -/
def stopPos (tr : Nat) (aB p v : Int) : Int :=
  let way := addW 128 (divW 128 (mul128 v.natAbs tr) 1000000) (divW 128 (mul128 v v) (mul128 2 aB))
  addW 64 p (mul128 v.sign way)

/-- Is a source at any strobe of its record, or the stop position predicted from there, outside the selected window (R170)? -/
def slpBroken (x : BlkCtx) (k : Nat) (sel : Nat) (v : AxView) : Bool :=
  let lo := look x.cfg .slpLo k sel 0
  let hi := look x.cfg .slpHi k sel 0
  let tr := lookN x.cfg .slpTR k 0 10000
  let aB := look x.cfg .slpABrake k 0 1
  let out_ (p : Int) : Bool := decide (p < lo) || decide (hi < p)
  let bad (w p : Int) : Bool := out_ p || out_ (stopPos tr aB p w)
  (v.useA && (v.pA :: v.pathA).any (bad v.vA)) || (v.useB && (v.pB :: v.pathB).any (bad v.vB))

/-- The most advanced position in the permitted direction (R169). -/
def advance (pos : Bool) (ext p : Int) : Int := if pos then max ext p else min ext p

/-- Next state of a limit block, with the code of a broken limit (R160, R168 to R170). -/
def limitNext (v : AxView) (hold en ack : Bool) (broken : BitVec 16) (st : Nat) : Nat :=
  let active := if en then 8 else 15
  if v.encFault || broken != 0 then 4
  else if hold && st != 4 then 5
  else match st with
    | 4 => if standstill v && ack then active else 4
    | 5 => active
    | _ => active

/-- SLS: `sel` holds SEL, `fA` ENV, `v0` and `cnt` the envelope. -/
def slsStep (x : BlkCtx) (done old : List Blk) (k : Nat) (y : Config.Inst) (b0 : Blk) : Blk × Bool :=
  let b := startBlk b0 8
  let v := axView x (lookN x.cfg .bAxis k 0 0)
  let en := linkVal x done old y.ins[0]?
  let sel := (if linkVal x done old y.ins[2]? then 2 else 0) + (if linkVal x done old y.ins[1]? then 1 else 0)
  let lim := slsLimit x k sel
  let top := maxAbs v
  let lower := b.st == 15 && decide (lim < slsLimit x k b.sel)
  let within := decide (top ≤ lim)
  let broken : BitVec 16 :=
    if b.st != 15 || within || lower then 0
    else if b.fA then (if envAt x k (b.cnt + 1) b.v0 lim < top then fcEnvelopeExceeded else 0)
    else fcSlsExceeded
  let st := limitNext v (isHeld x k y || v.hold) en ((ackOf x y).1 && b.armedAck) broken b.st
  let startEnv := st == 15 && (b.st != 15 || lower) && !within
  let env := st == 15 && (startEnv || (b.st == 15 && b.fA && !within))
  ({ enter b st with
      sel := sel, fA := env, v0 := if startEnv then top else if env then b.v0 else 0
      cnt := if startEnv || !env then 0 else up32 b.cnt
      fault := if broken != 0 then broken else if b.st = 4 && st != 4 then 0 else b.fault
      out := outs [st == 8 || st == 15, st == 15 && !env] },
    st == 4 && !v.encFault && standstill v)

/-- SDI: `p0a` and `p0b` hold p_ext of the sources. -/
def sdiStep (x : BlkCtx) (done old : List Blk) (k : Nat) (y : Config.Inst) (b0 : Blk) : Blk × Bool :=
  let b := startBlk b0 8
  let v := axView x (lookN x.cfg .bAxis k 0 0)
  let en := linkVal x done old y.ins[0]?
  let pos := lookN x.cfg .sdiDir k 0 0 == 0
  let tol := look x.cfg .sdiTol k 0 1000
  let eA := advance pos b.p0a v.pA
  let eB := advance pos b.p0b v.pB
  let back (e p : Int) : Int := if pos then subW 64 e p else subW 64 p e
  let broken : BitVec 16 :=
    if b.st = 15 && ((v.useA && decide (tol < back eA v.pA)) || (v.useB && decide (tol < back eB v.pB))) then fcSdiExceeded
    else 0
  let st := limitNext v (isHeld x k y || v.hold) en ((ackOf x y).1 && b.armedAck) broken b.st
  let c := { enter b st with
    fault := if broken != 0 then broken else if b.st = 4 && st != 4 then 0 else b.fault
    out := outs [st == 8 || st == 15, st == 15] }
  (if st = 15 then (if b.st = 15 then { c with p0a := eA, p0b := eB } else capture v c) else c,
    st == 4 && !v.encFault && standstill v)

/-- SLP: `sel` holds SEL. The window is checked whenever the function is active, in the tick of its activation as well, also out of HELD
and FAULT. -/
def slpStep (x : BlkCtx) (done old : List Blk) (k : Nat) (y : Config.Inst) (b0 : Blk) : Blk × Bool :=
  let b := startBlk b0 8
  let v := axView x (lookN x.cfg .bAxis k 0 0)
  let en := linkVal x done old y.ins[0]?
  let sel := if linkVal x done old y.ins[1]? then 1 else 0
  let next (code : BitVec 16) : Nat := limitNext v (isHeld x k y || v.hold) en ((ackOf x y).1 && b.armedAck) code b.st
  let broken : BitVec 16 :=
    if (b.st = 15 || (b.st = 8 && !en) || next 0 = 15) && slpBroken x k sel v then fcSlpExceeded else 0
  let st := next broken
  ({ enter b st with
      sel := sel, fault := if broken != 0 then broken else if b.st = 4 && st != 4 then 0 else b.fault
      out := outs [st == 8 || st == 15, st == 15] },
    st == 4 && !v.encFault && standstill v)

/-! ## SBC (R171 to R173) -/

/-- The brake output that an SBC drives through an OUT block. -/
def brakeOut (cfg : Config.Image) (k : Nat) : Option Nat :=
  ((List.range cfg.insts.length).find? (fun j =>
    match cfg.insts[j]? with
    | some z => z.typ == 0x13 && z.ins.head? == some (.sig k 0)
    | none => false)).map (fun j => lookN cfg .bOutput j 0 0)

/-- TEN of the stop block of an axis (R172). -/
def axisTen (x : BlkCtx) (done old : List Blk) (a : Nat) : Bool :=
  (List.range x.cfg.insts.length).any (fun j =>
    0x20 ≤ typOf x.cfg j && typOf x.cfg j ≤ 0x24 && lookN x.cfg .bAxis j 0 0 == a
      && (blkAt done old j).any (fun b => b.out.getLsbD 0))

/-- SBT.INTERVAL in ticks; 0 for no periodic test. -/
def sbtTicks (x : BlkCtx) (k : Nat) : Nat := ticksFor x .sbtInterval k 28800000000

/-- SBC: `fA` holds OVERDUE, `fB` that a release is inhibited, `cnt2` SINCE, `prev` TEST of the last tick; `fault` the first fault that
stands, `seen` bit 0 that BRAKE_OUTPUT_FAULT stands beside BRAKE_TEST_FAIL (R176). -/
def sbcStep (x : BlkCtx) (done old : List Blk) (k : Nat) (y : Config.Inst) (b0 : Blk) : Blk × Bool :=
  let interval := sbtTicks x k
  let periodic := interval != 0
  let b := if b0.start then
      { startBlk b0 8 with
        fA := periodic, fB := periodic || b0.fB || b0.fault == fcBrakeTestFail, seen := b0.seen }
    else b0
  let a := lookN x.cfg .bAxis k 0 0
  let v := axView x a
  let req := linkVal x done old y.ins[0]?
  let test := linkVal x done old y.ins[1]?
  let ss := standstill v
  let since := up32 b.cnt2
  let outBad := match brakeOut x.cfg k with
    | some o => x.c.latched.getLsbD o
    | none => false
  let failed := b.st == 11 && offWindow v b (look x.cfg .sbtWin k 0 100)
  let broken : BitVec 16 := if failed then fcBrakeTestFail else if outBad then fcBrakeOutputFault else 0
  let held := isHeld x k y || v.hold
  let passed := b.st == 11 && broken == 0 && !v.encFault && !held && test && ticksFor x .sbtTTest k 1000000 ≤ b.cnt + 1
  let over_ := (b.fA || (periodic && interval ≤ since)) && !passed
  let inhibit := (b.fB || over_ || failed) && !passed
  let st :=
    if v.encFault || broken != 0 then 4
    else if held && b.st != 4 then 5
    else match b.st with
      | 4 => if ss && (ackOf x y).1 && b.armedAck then 8 else 4
      | 5 => 8
      | 8 =>
        if test && !b.prev.getLsbD 0 && ss && axisTen x done old a then 11
        else if req && !inhibit then 9 else 8
      | 9 => if !req then 8 else if ticksFor x .sbcTRel k 100000 ≤ b.cnt + 1 then 10 else 9
      | 10 => if req then 10 else 8
      | _ => if !test then 8 else if passed then 8 else 11
  let c := enter b st
  let leaves := b.st == 4 && st == 8
  let d := { c with
    cnt := if (st = 9 || st = 11) && st = b.st then up32 b.cnt else c.cnt
    cnt2 := if passed && st = 8 then 0 else since
    fA := if leaves then periodic || over_ else over_
    fB := if leaves then periodic || inhibit else inhibit
    prev := if test then 1 else 0
    fault := if leaves then 0 else if b.st = 4 && b.fault != 0 then b.fault else if broken != 0 then broken else b.fault
    seen := if leaves then 0 else if outBad && (failed || (b.st = 4 && b.fault = fcBrakeTestFail)) then 1 else b.seen
    out := outs [st == 10, st != 4 && st != 5] }
  (if st = 11 && b.st != 11 then capture v d else d, st == 4 && !v.encFault && broken == 0 && ss)

end Sys2Proof.Machine
end

