-- ==== Sys2Proof/Machine/Telegram.lean ====
section
/-! DEFINITION. Telegrams: CTT and CSF layouts, their safety CRCs, produced payloads, the ticks in which connections produce
(R63, R207 to R210, R217 to R219; Tables 9.2, 9.5, 9.6). -/

namespace Sys2Proof.Machine

/-- CONN.C in µs, rounded up to whole ticks of the producer (R207). -/
def cfgC (cfg : Config.Image) (c : Nat) : Nat := usedC cfg c

/-- CONN.W in ticks of this module (R207, Table 9.9). -/
def cfgW (cfg : Config.Image) (c : Nat) : Nat := usedW cfg c / cfgT cfg

/-- CONN.TIMEOUT in ticks of this module: 3 × C by default, raised to the minimum (R207, Table 9.9). -/
def cfgTimeout (cfg : Config.Image) (c : Nat) : Nat :=
  ticksOf (cfgT cfg) (max (leastTimeout cfg c) (lookN cfg .connTimeout c 0 (3 * usedC cfg c)))

/-- CONN.LEE_TIME in ticks. -/
def cfgLee (cfg : Config.Image) (c : Nat) : Nat := ticksOf (cfgT cfg) (lookN cfg .connLeeTime c 0 10000000)

/-- CONN.AGE_MAX in µs: the producer's T plus D (R223). -/
def cfgAge (cfg : Config.Image) (c : Nat) : Nat :=
  lookN cfg .connAgeMax c 0 (lookN cfg .connTP c 0 (cfgT cfg) + lookN cfg .connD c 0 1000)

/-- CONN.LEN in bytes. -/
def cfgLen (cfg : Config.Image) (c : Nat) : Nat := lookN cfg .connLen c 0 8

/-- CONN.ID. -/
def cfgId (cfg : Config.Image) (c : Nat) : Nat := lookN cfg .connId c 0 0

/-- The safety CRC of a CTT telegram: the set CTT over the prefix CONN_ID and SEQ, then the bytes before the CRC (R209). -/
def cttCrc (id seq : Nat) (body : List Byte) : Nat := crcCtt.crc (be 4 id ++ be 4 seq) body

/-- The safety CRC of a CSF telegram: the set CSF over the prefix CONN_ID, then the bytes before the CRC (R217). -/
def csfCrc (id : Nat) (body : List Byte) : Nat := crcMbx.crc (be 4 id) body

/-- A CTT telegram (Table 9.2): type, FLAGS, identity, SEQ, STAMP, payload. -/
def cttBytes (typ flags id seq : Nat) (stamp : W64) (payload : List Byte) : List Byte :=
  let body := be 1 (16 + typ) ++ be 1 flags ++ be 2 payload.length ++ be 4 id ++ be 4 seq ++ be 8 stamp.toNat ++ payload
  body ++ be 4 (cttCrc id (seq % 2 ^ 32) body)

/-- A CSF telegram (Table 9.5). -/
def csfBytes (failSafe : Bool) (id seq : Nat) (payload : List Byte) : List Byte :=
  let body := be 1 0x21 ++ be 1 (bit failSafe 7) ++ be 2 seq ++ be 4 id ++ be 2 payload.length ++ payload
  body ++ be 4 (csfCrc id body)

/-- FLAGS of a CTT telegram: LOCKOUT, LIVE, LEE (Table 9.2). -/
def cttFlags (lockout live lee : Bool) : Nat := bit lockout 7 + bit live 6 + bit lee 5

/-- Does connection `c` produce in the tick with this TICK count (R210, R218)? -/
def producesNow (cfg : Config.Image) (tick : W32) (c : Nat) : Bool :=
  let n := cfgC cfg c / cfgT cfg
  produces cfg c && ((tick.toNat : Int) - lookN cfg .connPhase c 0 0) % (n : Int) == 0

/-- The value of signal `k` in the payload of connection `c`: the input of its CTT_OUT or CSF_OUT block mapped to it. -/
def producedBit (x : BlkCtx) (blk : List Blk) (c k : Nat) : Bool :=
  x.cfg.insts.zipIdx.any (fun q => (q.1.typ == 0x15 || q.1.typ == 0x17) && lookN x.cfg .bConn q.2 0 0 == c
    && (List.range q.1.ins.length).any (fun i => lookN x.cfg .bSigBit q.2 i i == k
          && (blk[q.2]?).any (fun b => b.out.getLsbD i)))

/-- The payload of a produced telegram: its signals, other bits 0; all 0 outside RUN and LEE (R210, R218). -/
def producedPayload (x : BlkCtx) (blk : List Blk) (c : Nat) : List Byte :=
  let n := cfgLen x.cfg c
  if !x.h.runs then List.replicate n 0
  else if isCsf x.cfg c then
    (List.range n).map (fun j => (bitsOf 8 (fun b => producedBit x blk c (8 * j + b))))
  else be 8 (bitsOf 64 (fun k => producedBit x blk c k)).toNat ++ List.replicate (n - 8) 0

/-- The payloads that a channel produces in a tick, by connection. -/
def producedNow (x : BlkCtx) (blk : List Blk) (tick : W32) : List (Nat × List Byte) :=
  ((conns x.cfg).filter (producesNow x.cfg tick)).map (fun c => (c, producedPayload x blk c))

end Sys2Proof.Machine
end

