-- ==== Sys2Proof/Machine/Evaluate.lean ====
section
/-! DEFINITION. One evaluation of a safety channel: the blocks in order, the axes, the canonical records, the gust schedule, the
set-points, the result record (R44, R61, R83, R99 to R104, R126, R155, R156, R177, R190, R379; Tables 3.2, 5.13, 7.11). -/

namespace Sys2Proof.Machine

/-! ## The block network (R99 to R101) -/

/-- One instance in one tick; the block notes whether its reset conditions are met in the tick in which a press begins, and forgets it with
the first tick in which they are not: one that becomes ready while the button is held is not reset by that press (R94). -/
def blkStep (x : BlkCtx) (done old : List Blk) (k : Nat) (y : Config.Inst) (b : Blk) : Blk :=
  let r : Blk × Bool :=
    match y.typ with
    | 0x01 => (pairStep x y b, false)
    | 0x02 => estopStep x done old k y b
    | 0x03 => guardStep x done old k y b
    | 0x04 => guardLockStep x done old k y b
    | 0x05 => curtainStep x done old k y b
    | 0x06 => twoHandStep x done old k y b
    | 0x07 => enable3Step x done old k y b
    | 0x08 => modeSelStep x done old k y b
    | 0x09 => edmStep x done old k y b
    | 0x0A => timerStep x done old k y b
    | 0x0B => timerStep x done old k y b
    | 0x0C => timerStep x done old k y b
    | 0x0D => logicStep x done old y b
    | 0x0E => logicStep x done old y b
    | 0x0F => logicStep x done old y b
    | 0x10 => logicStep x done old y b
    | 0x11 => logicStep x done old y b
    | 0x12 => aThreshStep x done old k y b
    | 0x13 => outStepBlk x done old y b
    | 0x14 => connInStep x k b
    | 0x15 => connOutStep x done old y b
    | 0x16 => connInStep x k b
    | 0x17 => connOutStep x done old y b
    | 0x18 => eventStep x done old y b
    | 0x19 => eventStep x done old y b
    | 0x20 => stopStep x done old k y b
    | 0x21 => stopStep x done old k y b
    | 0x22 => stopStep x done old k y b
    | 0x23 => stopStep x done old k y b
    | 0x24 => stopStep x done old k y b
    | 0x25 => slsStep x done old k y b
    | 0x26 => sdiStep x done old k y b
    | 0x27 => slpStep x done old k y b
    | 0x28 => sbcStep x done old k y b
    | _ => (b, false)
  { r.1 with armedAck := r.2 && ((ackOf x y).2 || b.armedAck) }

/-- All instances in ascending number (R101). -/
def runBlocks (x : BlkCtx) (old : List Blk) : List Blk :=
  x.cfg.insts.zipIdx.foldl (fun done q => done ++ [blkStep x done old q.2 q.1 (old.getD q.2 Blk.reset)]) []

/-- The instances that an instance with a lost connection feeds directly. -/
def spreadLost (cfg : Config.Image) (l : List Bool) : List Bool :=
  cfg.insts.zipIdx.map (fun q => l.getD q.2 false || q.1.ins.any (fun k => match k with
    | .sig i _ => l.getD i false
    | _ => false))

/-- The instances that lost data reach, directly or through other blocks (R108). -/
def lostAll (x : BlkCtx) : List Bool :=
  let base := x.cfg.insts.zipIdx.map (fun q => (q.1.typ == 0x14 || q.1.typ == 0x16)
    && !connGives x q.2 (lookN x.cfg .bConn q.2 0 0))
  (List.range x.cfg.insts.length).foldl (fun l _ => spreadLost x.cfg l) base

/-- What the blocks read in this tick. -/
def blkCtx (cfg : Config.Image) (h : Shared) (c : Chan) : BlkCtx :=
  let x : BlkCtx := { cfg := cfg, h := h, c := c, taken := takenInputs cfg c, bad := badInputs c, lost := [] }
  { x with lost := lostAll x }

/-- The signals of the OUT blocks (R122). -/
def outSignals (cfg : Config.Image) (blk : List Blk) : BitVec 28 :=
  bitsOf 28 (fun o => cfg.insts.zipIdx.any (fun q => q.1.typ == 0x13 && lookN cfg .bOutput q.2 0 0 == o
    && (blk[q.2]?).any (fun b => b.out.getLsbD 0)))

/-! ## Axes (R155, R156) -/

/-- A signed difference modulo 2^32. -/
def diff32 (a b : Int) : Int := (BitVec.ofInt 32 (a - b)).toInt

/-- The value field of 4 bytes at `off` of a payload (R208). -/
def valueField (p : List Byte) (off : Nat) : Int := (BitVec.ofNat 32 (beAt p off 4)).toInt

/-- One axis with two encoders in one tick; positions of 64 bits, speeds and accelerations of 32 (R51, R155). -/
def axisEnc (cfg : Config.Image) (a : Nat) (q : AxCh) : AxCh :=
  let dp := subW 64 (sgn q.recA.pos) (sgn q.recB.pos)
  let dv := subW 32 (sgn q.recA.vLast) (sgn q.recB.vLast)
  let da := subW 32 (sgn q.recA.aLast) (sgn q.recB.aLast)
  let far := decide (look cfg .axisTolPos a 0 1000 < absW 64 dp) || decide (look cfg .axisTolSpd a 0 10000 < absW 32 dv)
    || decide (look cfg .axisTolAcc a 0 1000000 < absW 32 da)
  if recFault q.recA != 0 || recFault q.recB != 0 || !(q.haveA && q.haveB && recValid q.recA && recValid q.recB) then q
  else { q with dev := if far then q.dev + 1 else 0, devPos := dp, devSpd := dv }

/-- One axis whose source b is a CTT position; `strobe` is the synchronised time of the last strobe of source a (R156). -/
def axisNet (cfg : Config.Image) (strobe : Int) (c : Chan) (a : Nat) (q : AxCh) : AxCh :=
  let n := vget c.conn (lookN cfg .axisNetConn a 0 0) Conn.reset
  let dt := strobe - n.stamp.toNat
  let usable := n.fresh && !n.zeroed && (n.st == 1 || n.st == 2) && 0 ≤ dt && dt ≤ 200000
  let us := dt / 100
  let p := valueField n.payload (lookN cfg .axisNetOff a 0 0)
  let v := sgn q.recA.vLast
  let acc := absW 32 (sgn q.recA.aLast)
  let dp := diff32 (subW 64 (sgn q.recA.pos) (divW 64 (mul128 v us) 1000000)) p
  let tol := addW 64 (addW 64 (look cfg .axisTolPos a 0 1000)
      (divW 64 (mul128 (absW 32 v) (look cfg .axisNetJitter a 0 10)) 1000000)) (divW 64 (mul128 (mul128 acc us) us) 2000000000000)
  if !usable then { q with netAge := up32 q.netAge }
  else
    let r := { q with recB := { q.recB with pos := BitVec.ofInt 64 p }, pathB := [p], haveB := true, netAge := 0 }
    if recFault q.recA != 0 || !(q.haveA && recValid q.recA) then r
    else { r with dev := if tol < dp.natAbs then q.dev + 1 else 0, devPos := dp, devSpd := 0 }

/-- All axes of a channel in one tick. -/
def axesEval (cfg : Config.Image) (strobe : Int) (c : Chan) : Chan :=
  { c with ax := vtab 8 (fun a =>
      let q := vget c.ax a AxCh.reset
      if !lookB cfg .axisEnable a false then q
      else if srcNet cfg a then axisNet cfg strobe c a q else axisEnc cfg a q) }

/-- Axes with as many consecutive deviating ticks as AXIS.TOL_TICKS (R155). -/
def axesApart (cfg : Config.Image) (c : Chan) : List Nat :=
  (List.range 8).filter (fun a => lookB cfg .axisEnable a false
    && lookN cfg .axisTolTicks a 0 2 ≤ (vget c.ax a AxCh.reset).dev)

/-! ## Canonical records (R104, R126, R177) -/

/-- A 64-bit position as a number. -/
def pos64 (p : Int) : Nat := (BitVec.ofInt 64 p).toNat

/-- The canonical record of an instance: widths and values. -/
def recordOf (typ : Nat) (b : Blk) : List (Nat × Nat) :=
  let st4 := (4, b.st)
  let p0 := [(64, pos64 b.p0a), (64, pos64 b.p0b)]
  match typ with
  | 0x01 => [(3, b.st), (32, b.cnt)]
  | 0x02 => [st4, (32, b.cnt)]
  | 0x03 => [st4, (1, bit b.fA 0)]
  | 0x04 => [st4, (1, bit b.fA 0), (32, b.cnt)]
  | 0x05 => [st4, (2, b.sel), (1, bit b.fA 0), (4, b.seen.toNat), (32, b.cnt), (32, b.cnt2)]
  | 0x06 => [st4, (32, b.cnt)]
  | 0x07 => [st4, (32, b.cnt)]
  | 0x08 => [st4, (3, b.sel), (32, b.cnt)]
  | 0x09 => [st4, (2, b.detail), (32, b.cnt)]
  | 0x0A => [(1, bit b.fA 0), (32, b.cnt)]
  | 0x0B => [(1, bit b.fA 0), (32, b.cnt)]
  | 0x0C => [(1, bit b.fA 0), (32, b.cnt)]
  | 0x11 => [(1, bit b.fA 0)]
  | 0x12 => [st4, (32, b.cnt)]
  | 0x13 => [(1, bit (b.out.getLsbD 0) 0)]
  | 0x14 => [(3, b.st), (32, b.cnt)]
  | 0x16 => [(3, b.st), (32, b.cnt)]
  | 0x20 => [st4]
  | 0x21 => [st4, (32, b.cnt)] ++ p0
  | 0x22 => [st4, (1, bit (decide (b.num < 0)) 0), (32, b.v0.toNat), (32, b.cnt)] ++ p0
  | 0x23 => [st4, (1, bit (decide (b.num < 0)) 0), (32, b.v0.toNat), (32, b.cnt)] ++ p0
  | 0x24 => [st4, (32, b.cnt)] ++ p0
  | 0x25 => [st4, (2, b.sel), (1, bit b.fA 0), (32, b.v0.toNat), (32, b.cnt)]
  | 0x26 => [st4] ++ p0
  | 0x27 => [st4, (1, b.sel)]
  | 0x28 => [st4, (1, bit b.fA 0), (32, b.cnt), (32, b.cnt2)] ++ p0
  | _ => []

/-- A record packed from the most significant bit into 32-bit words, the last one filled with zeros (R104). -/
def recordBytes (l : List (Nat × Nat)) : List Byte :=
  let w := l.foldl (fun a f => a + f.1) 0
  let n := ceilDiv w 32
  be (4 * n) (packBits l * 2 ^ (32 * n - w))

/-- The STATE digest: CRC-32 over the records of every instance in instance order (R61, R104). -/
def stateDigest (cfg : Config.Image) (blk : List Blk) : W32 :=
  crc32 (cfg.insts.zipIdx.flatMap (fun q => recordBytes (recordOf q.1.typ (blk.getD q.2 Blk.reset))))

/-! ## Gust schedule and set-points (R44, R83, R89, R190) -/

/-- Start of the pulse of a TPO in the tick of `T` µs that begins at `b` on the time scale of the boundaries, as an offset in µs: always
less than the active T, in VERIFY too, where the candidate may name another one (R44, R46, R83). -/
def gustOffset (cfg : Config.Image) (T m b : Nat) : Option Nat :=
  let per := periods cfg
  let P := per.getD m 2000
  let g := staggerGroup cfg per P
  let shift := g.idxOf m * P / g.length / 10 * 10
  let u := b / 100 % P
  let off := (shift + P - u) % P
  if off < T then some (max 20 (off / 10 * 10)) else none

/-- The schedule for the frame of the next boundary at `b`: code 0x2 for every TPO while FS_TP is LOST (R83, R89). -/
def gustPlan (cfg : Config.Image) (T : Nat) (c : Chan) (b : Nat) : Vector GustEv 16 :=
  vtab 16 (fun m =>
    if vget c.snap.sup 5 0 = 3 then { code := 2, off := 0 }
    else if !pulsed cfg m then { code := 0, off := 0 }
    else match gustOffset cfg T m b with
      | some u => { code := 1, off := BitVec.ofNat 8 (u / 10) }
      | none => { code := 0, off := 0 })

/-- An output of an instance, as a UAC parameter names it. -/
def uacSignal (cfg : Config.Image) (blk : List Blk) (p : Config.Param) (n : Nat) : Bool :=
  given cfg p n && (blk[lookN cfg p n 0 0]?).any (fun b => b.out.getLsbD (lookN cfg p n 1 0))

/-- The engineering set-point of an output channel, none while its NET source is not valid (R190). -/
def setpointOf (cfg : Config.Image) (c : Chan) (n : Nat) : Option Int :=
  match lookN cfg .uacOutSrc n 0 0 with
  | 0 => some (look cfg .uacOutFix n 0 (cfgEu cfg n).1)
  | 1 =>
    let k := (if uacSignal cfg c.blk .uacOutSel1 n then 2 else 0) + (if uacSignal cfg c.blk .uacOutSel0 n then 1 else 0)
    some (look cfg .uacOutPre n k (cfgEu cfg n).1)
  | _ =>
    let q := vget c.conn (lookN cfg .uacNetConn n 0 0) Conn.reset
    if (q.st = 1 || q.st = 2) && !q.zeroed then some (valueField q.payload (lookN cfg .uacNetOff n 0 0)) else none

/-- The analogue channels with this tick's set-points decided (R190). -/
def setpoints (cfg : Config.Image) (runs : Bool) (c : Chan) : Vector AnCh 8 :=
  vtab 8 (fun n => anCommit cfg n runs (uacSignal cfg c.blk .uacOutEn n) (setpointOf cfg c n) (vget c.an n AnCh.reset))

/-! ## The result record (R61, R379) -/

/-- Consuming connections of a configuration. -/
def consumers (cfg : Config.Image) : List Nat := (conns cfg).filter (consumes cfg)

/-- FSUM (R379). -/
def fsumOf (cfg : Config.Image) (c : Chan) : W32 :=
  let st (k : Nat) : Nat := (vget c.conn k Conn.reset).st
  let sup := (List.range 7).foldl (fun a k => a + bit (vget c.snap.sup k 0 == 3) (28 - k)) 0
  let lee := (consumers cfg).foldl (fun a k => a + (vget c.conn k Conn.reset).lee) 0
  BitVec.ofNat 32 (sup + bit ((consumers cfg).any (fun k => st k == 2 || st k == 3)) 21
    + bit ((consumers cfg).any (fun k => st k == 4)) 20 + bit (badInputs c != 0) 19 + bit (c.latched != 0) 18 + lee % 65536)

/-- The outputs that a channel intends to be on: signals outside the latch and outside lost groups, in RUN and LEE only (R137,
R144). -/
def intended (h : Shared) (c : Chan) : BitVec 28 :=
  if !h.runs then 0
  else bitsOf 28 (fun o => c.sig.getLsbD o && !c.latched.getLsbD o && vget c.snap.sup (groupOfOut o) 0 != 3)

/-- The bytes of the payloads produced in this tick. -/
def payloadBytes (l : List (Nat × List Byte)) : List Byte := l.flatMap (fun q => q.2)

/-- The bytes of a schedule: code and offset of each TPO in 12 bits. -/
def gustBytes (g : Vector GustEv 16) : List Byte :=
  be 24 (packBits (g.toList.flatMap (fun e => [(4, e.code.toNat), (8, e.off.toNat)])))

/-- The bytes of the set-point codes. -/
def setptBytes (v : Vector (BitVec 16) 8) : List Byte := v.toList.flatMap (fun w => be 2 w.toNat)

/-- Words 0 to 6 with their RCRC (Table 3.2). -/
def sealRecord (l : List W32) : Vector W32 8 :=
  let r := crc32 (l.flatMap (fun w => be 4 w.toNat))
  vtab 8 (fun k => if k = 7 then r else l.getD k 0)

/-- The result record of a channel. -/
def recordFor (cfg : Config.Image) (h : Shared) (tick : W32) (g : Vector GustEv 16) (c : Chan) : Vector W32 8 :=
  sealRecord [tick, (intended h c).zeroExtend 32, stateDigest cfg c.blk, crc32 (payloadBytes c.tgrams), crc32 (gustBytes g),
    crc32 (setptBytes (vmap AnCh.code c.an)), fsumOf cfg c]

/-! ## One evaluation -/

/-- What an evaluation takes from the tick: TICK, its length in µs, timebase, the boundary of the frame, the next boundary on the time
scale of the boundaries, the last strobe in synchronised time. -/
structure TickView where
  tick : W32
  T : Nat
  now : W64
  frameAt : Nat
  next : Nat
  strobe : Int
  deriving DecidableEq, Repr

/-- The blocks of a channel as they stood before the expiries of this tick: the evaluation decides the one transition of each from there,
with everything that the snapshot shows (R106, R160). -/
def atTickStart (c : Chan) : List Blk := c.early.foldl (fun l q => l.set q.1 q.2) c.blk

/-- Phases 1 and 2 of a channel before the exchange: inputs, analogue channels, axes, read-back, blocks, latch request, telegram
payloads, set-points, gust schedule and result record. -/
def evalChan (cfg : Config.Image) (h : Shared) (q : TickView) (c : Chan) : Chan :=
  let c1 := outsEval cfg (axesEval cfg q.strobe (anEval cfg (inputsEval cfg q.now q.frameAt { c with blk := atTickStart c })))
  let x := blkCtx cfg h c1
  let blk := runBlocks x c1.blk
  let c2 := { c1 with
    blk := blk, early := [], sig := outSignals cfg blk, latchReq := latchWord c1, tgrams := producedNow x blk q.tick
    evaluated := true, committed := false }
  let c3 := { c2 with an := setpoints cfg h.runs c2 }
  let g := gustPlan cfg q.T c3 q.next
  { c3 with record := recordFor cfg h q.tick g c3 }

end Sys2Proof.Machine
end

