-- ==== Sys2Proof/Machine/Channel.lean ====
section
/-! DEFINITION. The two channels in a tick: inbound frames and evaluation, faults found by the channels, the cross-compare and the
commit, overruns, tick generators, the Ridge pair and the Thatch fabric (R23 to R30, R48, R53 to R72, R140, R144). -/

namespace Sys2Proof.Machine

/-! ## Faults that the channels find (Table 4.6, Table 6.8, Tables 5.12, 7.10, 8.11) -/

/-- A fault as code and ARG. -/
abbrev FaultOf := BitVec 16 × Nat

/-- One fault under a condition. -/
def on (b : Bool) (code : BitVec 16) (arg : Nat) : List FaultOf := if b then [(code, arg)] else []

/-- Class P faults of the inputs of a channel; the follow kind is the detail. -/
def inputFaultsOf (f : FieldSt) (c : Chan) : List FaultOf :=
  (List.range 48).flatMap (fun n =>
    let x := vget c.inp n InCh.reset
    on x.wire fcWireBreak n ++ on x.band fcBandIndeterminate n
      ++ on x.follow fcGustFollowFail (n + (vget f.inp n InFc.reset).kind.toNat * 65536) ++ on x.stuck fcResetStuck n)

/-- Class P faults of the outputs of a channel, with the warning of R135. -/
def outputFaultsOf (s : State) (c : Chan) : List FaultOf :=
  (List.range 28).flatMap (fun o =>
    let x := vget c.outs o OutCh.reset
    on x.closeFail fcOutCloseFail o ++ on x.overload fcOutOverload o ++ on x.bypass fcOutBypass o
      ++ on x.openLoad fcOutOpenLoad o ++ on x.extVolt fcOutExtVoltage o ++ on x.coil fcBrkOpenCoil o
      ++ on x.bright fcBrightOverdue o ++ on x.group fcGroupOvercurrent (groupOfOut o)
      ++ on (brightAt s 9 o c) fcBrightDue o)

/-- Faults of the analogue channels: every one that stands (R198). -/
def analogFaultsOf (c : Chan) : List FaultOf :=
  (List.range 8).flatMap (fun n => (List.range 14).flatMap (fun k =>
    match anFaultCode k with
    | some code => on ((vget c.an n AnCh.reset).has k) code n
    | none => []))

/-- Encoder faults of the axes in use, as their engines hold them; the detail is the source (R151, R152). -/
def encFaultsOf (cfg : Config.Image) (m : Motion) : List FaultOf :=
  (List.range 8).flatMap (fun a =>
    if !lookB cfg .axisEnable a false then []
    else
      (List.range 2).flatMap (fun z =>
        if z = 1 && srcNet cfg a then []
        else
          (List.range 7).flatMap (fun k =>
            on ((vget m.enc (2 * a + z) Enc.reset).fault.testBit k) (0x0500 + BitVec.ofNat 16 k) (a + 65536 * z))))

/-- Faults and warnings of one block; BRAKE_TEST_DUE, once raised, stands until a test passes (R173, R273). -/
def blockFaultsOf (cfg : Config.Image) (runs due : Bool) (k typ : Nat) (b : Blk) : List FaultOf :=
  on (b.fault != 0) b.fault (k + b.detail * 65536)
    ++ on (typ == 0x28 && b.fault == fcBrakeTestFail && b.seen.getLsbD 0) fcBrakeOutputFault k
    ++ on (typ == 5 && b.fB) fcMutingLamp k
    ++ on (typ == 3 && runs && lookB cfg .bStartTest k false && !b.fA) fcStartTestPending k
    ++ on (typ == 4 && runs && lookB cfg .bStartTest k false && !b.seen.getLsbD 1) fcStartTestPending k
    ++ on (typ == 0x28 && b.fA) fcBrakeTestOverdue k
    ++ on (typ == 0x28 && lookN cfg .sbtInterval k 0 28800000000 != 0
        && (9 * ticksOf (cfgT cfg) (lookN cfg .sbtInterval k 0 28800000000) ≤ 10 * b.cnt2 || (due && b.fA))) fcBrakeTestDue k

/-- Every class P fault that a channel finds. -/
def foundBy (s : State) (c : Chan) : List FaultOf :=
  let cfg := evalCfg s
  if c.frozen then []
  else
    inputFaultsOf s.field c ++ outputFaultsOf s c ++ analogFaultsOf c ++ encFaultsOf cfg s.motion
      ++ cfg.insts.zipIdx.flatMap (fun q => blockFaultsOf cfg s.mode.runs (hasFault s fcBrakeTestDue q.2) q.2 q.1.typ (c.blk.getD q.2 Blk.reset))

/-- Class P faults that stand exactly while a channel finds them; the field side owns those of the TPOs. -/
def ownedByChannels (e : FaultEntry) : Bool := e.cls == .p && e.code != fcTpoOverload && e.code != fcTpoStuckHigh

/-- A fault found: raised, and a DISCREPANCY shown on both inputs of its pair (R98). -/
def raiseFound (cfg : Config.Image) (f : FaultOf) (s : State) : State :=
  let t := raise f.1 f.2 s
  if f.1 = fcDiscrepancy && !hasFault s f.1 (f.2 % 65536) then
    let y := cfg.insts.getD (f.2 % 65536) { typ := 0, ins := [], reset := none, reach := [], reachEdm := [] }
    { t with ev := { t.ev with inEvt := t.ev.inEvt ||| bitsOf 48 (fun n => y.ins.contains (.pin n)) } }
  else t

/-- Bring the fault table into line with what the channels find. -/
def syncFaults (s : State) : State :=
  let act := foundBy s s.ridge ++ foundBy s s.thatch
  let t := act.foldl (fun u f => raiseFound (evalCfg s) f u) s
  clearWhere (fun e => ownedByChannels e && !act.any (fun f => e.isFault f.1 (f.2 % 65536))) t

/-- FS_TP_LOW stands exactly while FS_TP is below 19.2 V, which is 384 units of its reading (R89, Table 4.6). -/
def tpLow (st volt : Nat) : Bool := if st = 3 then decide (volt < 384) else st != 0

/-- A supply's faults by its state in a snapshot: the loss stands until the state is OK, and so does the low warning of a group (Table
6.8, R89, R137). -/
def supplyFault (k st volt : Nat) (s : State) : State :=
  let low := if k = 5 then fcFsTpLow else if k = 6 then fcFsAnLow else fcFsLow
  let gone := if k = 5 then fcFsTpLost else if k = 6 then fcFsAnLost else fcSupplyLost
  let obj := if k < 5 then k else 0
  let t := if k = 5 then setFault (tpLow st volt) low obj s
    else if st = 0 then clearFault low obj s else if st = 3 then s else raise low obj s
  if st = 0 then clearFault gone obj t else if st = 3 then raise gone obj t else t

/-- Supply faults of a snapshot: those of the supplies that the configuration uses. -/
def supplyFaults (c : Chan) (s : State) : State :=
  (List.range 7).foldl (fun t k => supplyFault k (vget c.snap.sup k 0).toNat (vget c.snap.volts k 0).toNat t) s

/-- TPOs that feed an input reached by a block's RESET acknowledge in this tick: a press restarts them (R88). -/
def reachesInput (cfg : Config.Image) (k n : Nat) : Bool :=
  let base := cfg.insts.zipIdx.map (fun q => q.1.ins.contains (.pin n))
  ((List.range cfg.insts.length).foldl (fun l _ => spreadLost cfg l) base).getD k false

/-- May TPO `m` be restarted by an acknowledge of this tick (R88)? -/
def tpoAcked (cfg : Config.Image) (c : Chan) (m : Nat) : Bool :=
  cfg.insts.zipIdx.any (fun q => match q.1.reset with
    | some r => (vget c.inp r InCh.reset).ack
        && (List.range 48).any (fun n => inTpoOf cfg n == some m && reachesInput cfg q.2 n)
    | none => false)

/-- Restart the overloaded TPOs whose restart is acknowledged (R88). -/
def restartTpos (c : Chan) (s : State) : State :=
  let cfg := evalCfg s
  { s with field := { s.field with tpo := vtab 16 (fun m =>
      let x := vget s.field.tpo m TpoFc.reset
      if x.overload && x.restart.isNone && tpoAcked cfg c m then { x with restart := some s.tb.count } else x) } }

/-! ## Inbound frames and evaluation (R16, R26, R140) -/

/-- What an evaluation takes from the tick. -/
def tickView (s : State) : TickView :=
  { tick := s.tick.count, T := tickUs s, now := s.tb.count, frameAt := s.tick.boundary.toNat, next := nextBoundary s
    strobe := (syncAt s s.tick.boundary).toNat - 3125 }

/-- Class H faults that an evaluation finds: SWITCH_STUCK, a dark-test result missing, axes apart (R131 to R133, R155). -/
def hardOf (cfg : Config.Image) (lane : Lane) (s : State) (c : Chan) : List FaultOf :=
  (stuckOuts cfg c).map (fun o => (fcSwitchStuck, o))
    ++ (match dtStuck c with
        | some o => [(fcSwitchStuck, o)]
        | none => [])
    ++ on (dtMissing s.tick.count c) fcEaveLaneFault (if lane = .t then 1 else 0)

/-- FS_AN_LOST of a channel is shown in AN_EVT as well, as it comes to stand (R196, R200). -/
def anLostEvents (old new : Chan) (s : State) : State :=
  let m := bitsOf 8 (fun n => (vget new.an n AnCh.reset).has 13 && !(vget old.an n AnCh.reset).has 13)
  { s with ev := { s.ev with anEvt := s.ev.anEvt ||| m } }

/-- Evaluate a lane's channel on its snapshot; the read-back is judged first. Outside the modes with an application only the
read-back of the open switches counts. -/
def evaluate (lane : Lane) (s : State) : State :=
  let cfg := evalCfg s
  let c := chanOf lane s
  let hard := hardOf cfg lane s c
  let d := evalChan cfg (sharedOf s) (tickView s) c
  let t := if s.mode.evaluates then anLostEvents c d (setChan lane d s) else s
  let all := hard ++ (if s.mode.evaluates then (axesApart cfg d).map (fun a => (fcAxisCrossMismatch, a)) else [])
  let u := all.foldl (fun v f => raise f.1 f.2 v) t
  if s.mode.evaluates then restartTpos d (syncFaults (supplyFaults d u)) else u

/-- The checks of an inbound frame apart from its echo (R17, R140): CRC, reserved bits, the zero bit of the header. A frame whose header
names another TYPE or the other lane fails as well (DESIGN CHOICE, log entry 148). -/
def inSound (lane : Lane) (f : InFrame) : Bool :=
  f.crc == inCrc f && f.reserved == 0 && !f.header.getLsbD 0 && fld f.header 12 4 == 1
    && f.header.getLsbD 11 == (lane = .t)

/-- The snapshot of a frame. -/
def snapOf (f : InFrame) : Snapshot :=
  { inputs := f.inputs, bands := f.bands, follow := f.follow, sw := f.sw, live := f.live
    sup := vmap (fun x => BitVec.ofNat 2 (x.toNat / 1024)) f.supplies
    volts := vmap (fun x => BitVec.ofNat 10 x.toNat) f.supplies
    sd := f.sd, sar := f.sar, anStat := f.anStat, groupOver := f.groupOver, header := f.header }

/-- A lane's inbound frame is missing or fails: EAVE_LANE_FAULT (R140). -/
def laneFault (lane : Lane) (s : State) : State :=
  let l := laneOf lane s
  raise fcEaveLaneFault (if lane = .t then 1 else 0)
    (setLane lane { l with failed := BitVec.ofNat 16 (min 65535 (l.failed.toNat + 1)), echoOk := false } s)

/-- The frame that reaches the channel in a tick: none where none was started, or it is missing. -/
def arrived (l : LaneFc) (rx : InRx) : Option InFrame :=
  match rx with
  | .asSent => l.inTx
  | .other g => l.inTx.map (fun _ => g)
  | .missing => none

/-- A frame that has passed its checks is the snapshot; the Ridge pair evaluates on it, the Thatch pass starts (R16, R20, R26). -/
def takeFrame (lane : Lane) (f : InFrame) (s : State) : State :=
  let c := chanOf lane s
  let t := setLane lane { laneOf lane s with echoOk := true, lastHdr := f.header }
    (setChan lane { c with snap := snapOf f, frameOk := true, passAt := s.tb.count } s)
  let u := if f.header.getLsbD 10 then raise fcLaneSchedMismatch 0 t else t
  if lane = .p then evaluate .p u else u

/-- EAVE_INBOUND_FRAME: the check at the end of phase 0 (R16, R140). A channel that sends no frame in this tick, or is frozen, checks
none, and one that has taken its frame takes no other. -/
def execEaveInboundFrame (lane : Lane) (rx : InRx) (s : State) : Host.Outcome State Fault Refusal :=
  let c := chanOf lane s
  if c.tx.ftype = 0 || c.frozen || c.frameOk || c.evaluated then .next s
  else
    match arrived (laneOf lane s) rx with
    | none => .next (laneFault lane s)
    | some f =>
      let echoOk := match c.echoDue with
        | some e => f.echo == e
        | none => true
      .next (if inSound lane f && echoOk then takeFrame lane f s else laneFault lane s)

/-- THATCH_PASS_END: the pass that the lane T frame of this tick started ends with its record after 2 048 cycles, never before; a longer
one is TICK_OVERRUN_TH; a wrong canary output is THATCH_CANARY_FAIL (R26, R28, R57, R59). -/
def execThatchPassEnd (cycles units : Nat) (canaryOk : Bool) (s : State) : Host.Outcome State Fault Refusal :=
  if s.thatch.frozen || s.thatch.evaluated || !s.thatch.frameOk || decide (cycles < 2048) then .next s
  else
    let t := { s with pair := { s.pair with thatchPass := BitVec.ofNat 32 units } }
    let u := if canaryOk then t else raise fcThatchCanaryFail 0 t
    .next (if 2048 < cycles then raise fcTickOverrunTh 0 u else evaluate .t u)

/-! ## The cross-compare (R62 to R64, R144) -/

/-- Word `k` of a record. -/
def word (r : Vector W32 8) (k : Nat) : W32 := vget r k 0

/-- A record as read through the exchange buffer, with bit errors. -/
def readRecord (r : Vector W32 8) (err : BitVec 256) : Vector W32 8 :=
  vtab 8 (fun k => word r k ^^^ BitVec.ofNat 32 (err.toNat / 2 ^ (32 * k)))

/-- Does the RCRC of a record verify? -/
def recordOk (r : Vector W32 8) : Bool :=
  word r 7 == crc32 ((List.range 7).flatMap (fun k => be 4 (word r k).toNat))

/-- XCMP_FIELDS: words that differ, bit 7 for a bad RCRC or latch request (R62). -/
def fieldsOf (own got : Vector W32 8) (reqBad : Bool) : BitVec 8 :=
  bitsOf 8 (fun k => if k = 7 then !recordOk got || reqBad else word own k != word got k)

/-- A channel's output latch after an exchange: set by either word, released once both were clear and, in a later tick, the channel's
signal was 0 (R144). -/
def latchStep (other : BitVec 28) (c : Chan) : Chan :=
  let req := c.latchReq ||| other
  let off := c.latched &&& c.latchClear &&& ~~~req &&& ~~~c.sig
  let l := (c.latched ||| req) &&& ~~~off
  { c with latched := l, latchClear := l &&& ~~~req }

/-- The switch commands that a channel commits: those of its record, less what the exchange has latched (R144), and none on the low
side after a debug break (R71). -/
def commitCmds (lane : Lane) (s : State) (c : Chan) : BitVec 28 :=
  if lane = .t && s.pair.diverged then 0 else (word c.record 1).truncate 28 &&& ~~~c.latched

/-- The safe content of a latch (R53): open, no dark test, no pulse, alarm codes. -/
def safeLatch (cfg : Config.Image) : Latch :=
  { Latch.safe with setpt := alarmSetpts cfg }

/-- A channel's latch content forced safe for good, no parameter entry among it (R53). -/
def forceSafe (s : State) (c : Chan) : Chan :=
  { forceLatch s (safeLatch s.active.image) c with forced := true, entries := [] }

/-- The dark-test request word of a lane. -/
def darkWord (o : Option (Fin 28)) : BitVec 28 :=
  match o with
  | some k => BitVec.ofNat 28 (2 ^ k.val)
  | none => 0

/-- The TICK count at which the result of a test of `o` on a lane, requested now, is in (R48, R133). -/
def darkBack (lane : Lane) (o : Nat) (s : State) : W32 :=
  s.tick.count + 1 + BitVec.ofNat 32 (dtTicks (tickUs s) (vget s.wth.dt (swIx lane o) 0))

/-- A dark-test request committed: its result is awaited (R133). -/
def darkSent (lane : Lane) (s : State) (dark : Option (Fin 28)) (c : Chan) : Chan :=
  match dark with
  | some o =>
    { c with
      outs := vupd c.outs o (fun x => { x with due := false })
      dtWait := some o
      dtDue := darkBack lane o.val s }
  | none => c

/-- The test that a schedule has for the frame to be sent: the lowest of the outputs that are due and on, once the test before has ended
(R133). -/
def planPick (s : State) (cmds : BitVec 28) (p : DtPlan) : Option (Fin 28) :=
  if p.out.isSome && !tickReached s.tick.count p.till then none
  else (idxs 28).find? (fun o => p.due.getLsbD o.val && cmds.getLsbD o.val)

/-- A schedule after a commit (R133). -/
def planStep (lane : Lane) (s : State) (cmds : BitVec 28) (p : DtPlan) : DtPlan :=
  if p.out.isSome && !tickReached s.tick.count p.till then p
  else
    match planPick s cmds p with
    | some o => { due := setBit p.due o.val false, out := some o, till := darkBack lane o.val s }
    | none => { p with out := none }

/-- A test that its schedule has for this frame while the lane still awaits another result waits as one outside the schedule (R133). -/
def planMissed (s : State) (cmds : BitVec 28) (c : Chan) : Chan :=
  match c.dtWait, planPick s cmds c.own with
  | some _, some o => { c with outs := vupd c.outs o (fun x => { x with due := true }) }
  | _, _ => c

/-- May a channel not request a test of `o` now: the schedule of the other lane has a test of it that is due or has not ended, or that falls
due before this one would be over (R48, R133)? -/
def darkBarred (lane : Lane) (s : State) (c : Chan) (o : Nat) : Bool :=
  c.other.due.getLsbD o || (c.other.out.any (fun k => k.val == o) && !tickReached s.tick.count c.other.till)
    || (List.range (dtTicks (tickUs s) (vget s.wth.dt (swIx lane o) 0) + 1)).any (fun k =>
        darkDueAt (otherLane lane) o (s.tick.count + 1 + BitVec.ofNat 32 k).toNat s)

/-- No pulse on any TPO. -/
def noGust : Vector GustEv 16 := Vector.replicate 16 { code := 0, off := 0 }

/-- Commit a channel's lane: switch commands, dark-test request, and the channel's own gust schedule and set-points; no pulse while the
Ridge pair asserts RIDGE_FAULT (R18, R23, R24, R48, R133, R272). -/
def commitChan (lane : Lane) (s : State) (dark : Option (Fin 28)) (c : Chan) : Chan :=
  let cmds := commitCmds lane s c
  let d := darkSent lane s dark (planMissed s cmds c)
  { d with
    out := cmds, committed := true
    own := planStep lane s cmds c.own
    other := planStep (otherLane lane) s cmds c.other
    latch := if c.forced then c.latch
      else
        { cmds := cmds, dark := darkWord dark, setpt := vmap AnCh.code c.an
          gust := if s.pair.faultLine then noGust else gustPlan (evalCfg s) (tickUs s) c (nextBoundary s) } }

/-- A channel in a mismatch tick: every switch open, zero schedule, the previous set-points (R62). -/
def mismatchChan (s : State) (c : Chan) : Chan :=
  { forceLatch s { c.latch with cmds := 0, dark := 0, gust := noGust } c with committed := true, hMis := true }

/-- What a channel does after the exchange (R62): it commits on equal records, and opens its lane on a difference that it sees itself. -/
def settle (lane : Lane) (same : Bool) (dark : Option (Fin 28)) (s : State) (c : Chan) : Chan :=
  if same then commitChan lane s dark c else mismatchChan s c

/-- The dark test that a channel requests next, if the module runs: the one of its schedule, else in a tick of its own one that waits (R20,
R48, R133). -/
def darkNext (lane : Lane) (s : State) (c : Chan) : Option (Fin 28) :=
  let cmds := commitCmds lane s c
  if !s.mode.runs then none
  else
    match planPick s cmds c.own with
    | some o => if c.dtWait.isNone then some o else none
    | none => if freeSlot lane (tickUs s) (s.tick.count + 1) then darkPick c cmds (darkBarred lane s c) else none

/-- Both channels after the exchange; `fp` and `ft` are the differences that the Ridge pair and the Thatch fabric see (R62, R144). -/
def exchange (fp ft : BitVec 8) (s : State) : State :=
  let p := if fp = 0 then latchStep s.thatch.latchReq s.ridge else s.ridge
  let t := if ft = 0 then latchStep s.ridge.latchReq s.thatch else s.thatch
  let one (lane : Lane) (same : Bool) (c : Chan) : Chan := settle lane same (darkNext lane s c) s c
  { s with ridge := one .p (fp == 0) p, thatch := one .t (ft == 0) t }

/-- CROSS_MISMATCH with both records captured, if either channel sees a difference (R62). -/
def captureMis (fp ft : BitVec 8) (p t : Vector W32 8) (s : State) : State :=
  if fp ||| ft = 0 then s
  else
    raise fcCrossMismatch 0
      { s with pair := { s.pair with xcmpTick := s.tick.count, xcmpFields := fp ||| ft, xcmpP := p, xcmpT := t } }

/-- The non-safe effects of an evaluation: MSG events and the drop-out times of EDM blocks (R119, Table 5.10). -/
def nonSafe (s : State) : State :=
  let cfg := evalCfg s
  let rows := cfg.insts.zipIdx.map (fun q => (q.1.typ, q.2, s.ridge.blk.getD q.2 Blk.reset))
  let t := rows.foldl (fun u r => if r.1 = 0x18 && r.2.2.fA then postEvent 3 (BitVec.ofNat 16 r.2.1) 0 u else u) s
  let drop (b : Blk) : Nat :=
    max (if b.seen.getLsbD 0 && b.dropA == b.cnt2 then b.dropA else 0)
      (if b.seen.getLsbD 1 && b.dropB == b.cnt2 then b.dropB else 0)
  let cur := (rows.filter (fun r => r.1 == 9 && drop r.2.2 != 0)).foldl
    (fun a r => { a with edm := peakAt r.2.1 (drop r.2.2) a.edm }) t.wth.cur
  { t with wth := { t.wth with cur := cur } }

/-- May phase 2 still end: before phase 3, and by T − 50 µs at the latest (Table 2.1)? -/
def phase2Open (s : State) : Bool :=
  !s.tick.phase3 && decide (s.tb.count.toNat + 50 * tUs ≤ s.tick.boundary.toNat + tickUnits s.tick.sel.toNat)

/-- Have both channels evaluated, with neither committed or frozen? -/
def bothReady (s : State) : Bool :=
  s.ridge.evaluated && s.thatch.evaluated && !s.ridge.committed && !s.thatch.committed && !s.ridge.frozen && !s.thatch.frozen

/-- A reference vector evaluated by a channel in a scratch context, apart from the live application (R50): the result record. TICK and
the boundary times count as 0 there (log entry 152). -/
def vecRecord (lane : Lane) (cfg : Config.Image) (v : Config.RefVec) : Vector W32 8 :=
  (evalChan cfg { runs := true } { tick := 0, T := cfgT cfg, now := 0, frameAt := 0, next := 0, strobe := 0 }
    { Chan.reset lane with blk := v.blocks, snap := snapOf v.inputs }).record

/-- Step 4 of SELFTEST in one tick (R49, R50): in its first tick, with the images loaded and the Thatch memory scrubbed once (R58, Table
3.6), the digests, then the next reference vector, each channel against the
expected record of its own image; the operands are bit errors of the two records. -/
def vectorStep (ridgeErr thatchErr : BitVec 256) (s : State) : State :=
  let cfg := s.active.image
  let n := s.pair.vecDone
  let same := cfg.ridgeDigest == cfg.thatchDigest
  let scrubbed := s.thatchMem.rows.all rowOk
  let s1 := if n = 0 then { s with pair := { s.pair with ridgeLoaded := true, thatchLoaded := scrubbed, digestOk := same } } else s
  let s2 := if n = 0 && !scrubbed then raise fcThatchCfgUpset 0 s1 else s1
  let t := if n = 0 && !same then raise fcImageDigestMismatch 0 s2 else s2
  match cfg.vectors[n]? with
  | some v =>
    let bad := readRecord (vecRecord .p cfg v) ridgeErr != v.expP || readRecord (vecRecord .t cfg v) thatchErr != v.expT
    let u := { t with
      pair := { t.pair with vecDone := n + 1, vecOk := !bad && n + 1 == cfg.vectors.length && !t.faults.any (fun e => e.code == fcImageVectorFail) }
      ridge := { t.ridge with committed := true }, thatch := { t.thatch with committed := true } }
    if bad then raise fcImageVectorFail n u else u
  | none => t

/-- The exchange of phase 2 (R62): each channel reads the other's record and latch request and judges them for itself. XCMP_REC_Pn and
XCMP_REC_Tn keep the records as they were read through the exchange buffer (DESIGN CHOICE, log entry 185). -/
def compareStep (ridgeErr thatchErr : BitVec 256) (ridgeReqBad thatchReqBad : Bool) (s : State) : State :=
  let p := readRecord s.ridge.record ridgeErr
  let t := readRecord s.thatch.record thatchErr
  let fp := fieldsOf s.ridge.record t thatchReqBad
  let ft := fieldsOf s.thatch.record p ridgeReqBad
  nonSafe (captureMis fp ft p t (exchange fp ft s))

/-- CROSS_COMPARE: once both channels have evaluated, they exchange records and latch requests; equal words 0 to 6 and good RCRCs
commit, anything else is CROSS_MISMATCH (R62, R144). In SELFTEST the channels compare digests and the records of the reference vectors
(R49, R50). -/
def execCrossCompare (ridgeErr thatchErr : BitVec 256) (ridgeReqBad thatchReqBad : Bool) (s : State) :
    Host.Outcome State Fault Refusal :=
  if s.mode = .selftest && s.active.valid && !s.ridge.committed && phase2Open s then .next (vectorStep ridgeErr thatchErr s)
  else if bothReady s && s.mode.evaluates && phase2Open s then
    .next (compareStep ridgeErr thatchErr ridgeReqBad thatchReqBad s)
  else .next s

/-! ## Overruns and missing results (R24, R28) -/

/-- A channel's lane forced to all open by a class H reaction, which drives no gust pulse either (R272). -/
def openLane (s : State) (c : Chan) : Chan := { forceLatch s { c.latch with cmds := 0, dark := 0, gust := noGust } c with hMis := true }

/-- Has a class H fault of the tick's supervision a running tick to act in? -/
def ticksRun (s : State) : Bool := s.tick.running && s.mode != .lull

/-- T − 50 µs has come in this tick. -/
def lastPhase (s : State) : Bool := due s (s.tick.boundary.toNat + tickUnits s.tick.sel.toNat - 50 * tUs)

/-- Has the Ridge pair overrun: not committed by T − 50 µs, or its phase 3 not done 1 µs before the boundary (R28)? -/
def overrunRg (s : State) : Bool :=
  s.mode.evaluates && lastPhase s
    && (!s.ridge.committed || (!s.tick.phase3 && due s (s.tick.boundary.toNat + tickUnits s.tick.sel.toNat - tUs)))

/-- TICK_OVERRUN_RG, by the Ridge tick supervisor (R28). -/
def execTickOverrunRg (s : State) : Host.Outcome State Fault Refusal :=
  if ticksRun s && overrunRg s then .next (raise fcTickOverrunRg 0 { s with ridge := openLane s s.ridge }) else .next s

/-- The shortest time that 2 048 Thatch cycles take, at the fast end of the oscillator (R26, R57): 62.1 µs. -/
abbrev passUnits : Nat := 6210

/-- TICK_OVERRUN_TH: the pass that the lane T frame of this tick started has not ended within its limit (R26, R28). -/
def execTickOverrunTh (s : State) : Host.Outcome State Fault Refusal :=
  if ticksRun s && s.thatch.frameOk && !s.thatch.evaluated && due s (s.thatch.passAt.toNat + passUnits) then
    .next (raise fcTickOverrunTh 0 { s with thatch := openLane s s.thatch })
  else .next s

/-- The earliest instant at which a lane's channel begins its phase 3: T − 50 µs, which the Thatch fabric times with an oscillator of
±3 % (R28, Table 2.3). -/
def phase3At (lane : Lane) (s : State) : Nat :=
  let d := tickUnits s.tick.sel.toNat - 50 * tUs
  s.tick.boundary.toNat + (if lane = .t then d * 97 / 100 else d)

/-- CROSS_RESULT_MISSING: the channel of this lane lacks the other channel's record as its phase 3 begins (R28, R55). -/
def execCrossResultMissing (lane : Lane) (s : State) : Host.Outcome State Fault Refusal :=
  let o := chanOf (otherLane lane) s
  if ticksRun s && s.mode.evaluates && !(chanOf lane s).frozen && (o.frozen || !o.evaluated) && due s (phase3At lane s) then
    .next (raise fcCrossResultMissing 0 (setChan lane (openLane s (chanOf lane s)) s))
  else .next s

/-! ## The tick generators (R29, R30, R328) -/

/-- Does a pulse lie inside the active half-width, in 0.01 % of T, around the time expected at the deviation of the centre? A
faster oscillator makes an earlier pulse (R29, R328). -/
def pulseInside (s : State) (units : Nat) : Bool :=
  let T : Int := tickUnits s.tick.sel.toNat
  let dev : Int := units - T
  decide ((10000 * dev + s.tick.centre * T).natAbs ≤ s.tick.half * T)

/-- Does this pulse close the measurement of the tick before, its boundary having come first (R29)? -/
def pulseLate (s : State) (units : Nat) : Bool := decide (tickUnits s.tick.sel.toNat ≤ units) && !s.tick.pulsePrev

/-- THATCH_TICK_PULSE: a pulse `units` after the boundary at which its count began, of this tick or, past the boundary, of the one
before; its offset from T is TICK_DEV, saturating at 16 bits (DESIGN CHOICE, log entry 203); outside the range it is TICK_GEN_MISMATCH
(R29). -/
def execThatchTickPulse (units : Nat) (s : State) : Host.Outcome State Fault Refusal :=
  if !ticksRun s || s.tick.silentT then .next s
  else
    let old := pulseLate s units
    let t := { s with tick := { s.tick with
      pulse := s.tick.pulse || !old, pulsePrev := s.tick.pulsePrev || old
      dev := BitVec.ofInt 16 (satInt 16 (units - tickUnits s.tick.sel.toNat)) } }
    .next (if pulseInside s units then t else raise fcTickGenMismatch 0 t)

/-- Is a pulse still missing at T + 5 % of T after its boundary, or a boundary at T + 5 % after the last one (R29)? -/
def genMissing (s : State) : Bool :=
  let T := tickUnits s.tick.sel.toNat
  let since := s.tb.count.toNat - s.tick.boundary.toNat
  (!s.tick.pulsePrev && decide (T ≤ 20 * since)) || decide (21 * T ≤ 20 * since)

/-- TICK_GEN_MISMATCH: a pulse or a boundary is still missing at T + 5 % (R29). -/
def execTickGenMismatch (s : State) : Host.Outcome State Fault Refusal :=
  if ticksRun s && !s.tick.silentT && genMissing s then .next (raise fcTickGenMismatch 0 s) else .next s

/-- Do the Thatch cycles from one boundary to the next lie inside the active half-width around the count of the trimmed oscillator at the
centre's deviation (R29, R328)? -/
def cyclesInside (s : State) (cycles : Nat) : Bool :=
  let N : Int := 32 * tickUs s
  decide ((10000 * ((cycles : Int) - N) - s.tick.centre * N).natAbs ≤ s.tick.half * N)

/-- T + 5 % of T since the last boundary, as the Thatch side may measure it at the fast end of its oscillator (R30). -/
def boundaryLate (s : State) : Bool :=
  decide (105 * tickUnits s.tick.sel.toNat ≤ 103 * (s.tb.count.toNat - s.tick.boundary.toNat))

/-- RIDGE_BOUNDARY_MISSING: the Thatch fabric starts one lane T frame with every low side open at once, then sends nothing more
(R30). -/
def execRidgeBoundaryMissing (s : State) : Host.Outcome State Fault Refusal :=
  if !ticksRun s || s.tick.silentT || !boundaryLate s then .next s
  else
    let c := s.thatch
    let f := outSeal { OutFrame.blank .t with
      ftype := 1, tickSel := s.tick.sel, seq := c.txSeq + 1, entries := [noEntry]
      setpt := alarmSetpts s.active.image }
    .next (raise fcTickGenMismatch 0
      { s with
        tick := { s.tick with silentT := true }
        laneP := { s.laneP with accepted := false }
        laneT := { s.laneT with inTx := none, accepted := false }
        thatch := { openLane s c with txSeq := c.txSeq + 1, tx := f, txAt := s.tb.count } })

/-! ## Ridge pair and Thatch fabric (R53 to R59, R71) -/

/-- Freeze the Ridge pair, force lane P safe, assert RIDGE_FAULT (R53). -/
def freezeRidge (s : State) : State :=
  { s with
    ridge := { forceSafe s s.ridge with frozen := true }
    pair := { s.pair with faultLine := true } }

/-- Is the Ridge pair running in lock-step? -/
def ridgeRuns (s : State) : Bool := s.tick.running && s.mode != .lull && !s.ridge.frozen

/-- RIDGE_LOCKSTEP_MISMATCH: the comparator meets a difference while the pair is joined; it is disabled from the boundary at which a split
takes effect. In the first tick after a join the difference is JOIN_COMPARE_FAIL (R53, R66, R67, R69; DEDUCED, log entry 214). -/
def execRidgeLockstepMismatch (s : State) : Host.Outcome State Fault Refusal :=
  if ridgeRuns s && !s.pair.split && !s.pair.firewall && !s.pair.diverged then
    .next (raise (if s.pair.joinedAt = some s.tick.boundary then fcJoinCompareFail else fcRidgeLockstepMismatch) 0 (freezeRidge s))
  else .next s

/-- A tightly coupled memory (R54). -/
def tcmOf (m : TcmId) (s : State) : List Host.Cell :=
  match m with
  | .instrA => s.tcm.instrA
  | .dataA => s.tcm.dataA
  | .instrB => s.tcm.instrB
  | .dataB => s.tcm.dataB

/-- Replace a tightly coupled memory. -/
def setTcm (m : TcmId) (l : List Host.Cell) (s : State) : State :=
  match m with
  | .instrA => { s with tcm := { s.tcm with instrA := l } }
  | .dataA => { s with tcm := { s.tcm with dataA := l } }
  | .instrB => { s with tcm := { s.tcm with instrB := l } }
  | .dataB => { s with tcm := { s.tcm with dataB := l } }

/-- Bits of a stored byte flip. -/
def tcmUpset (m : TcmId) (addr : Nat) (flips : Byte) (s : State) : State :=
  setTcm m (memWrite (tcmOf m s) addr (memRead (tcmOf m s) addr ^^^ flips)) s

/-- RIDGE_ECC_CORRECTION: a bit of a stored byte has flipped; the access corrects it and writes it back, counted and shown in CH_FLAGS
(R54, Table 3.7). -/
def execRidgeEccCorrection (s : State) (m : TcmId := .dataA) (addr : Nat := 0) (flip : Fin 8 := 0) :
    Host.Outcome State Fault Refusal :=
  if ridgeRuns s then
    let bit1 : Byte := BitVec.ofNat 8 (2 ^ flip.val)
    .next { tcmUpset m addr bit1 (tcmUpset m addr bit1 s) with
      pair := { s.pair with eccCorr := BitVec.ofNat 32 (min max32 (s.pair.eccCorr.toNat + 1)) }
      ev := { s.ev with chFlags := setBit s.ev.chFlags 0 true } }
  else .next s

/-- Where the LULL capture shows a tightly coupled memory (Table 15.9). -/
def tcmBase (m : TcmId) : Nat :=
  match m with
  | .instrA => 0x700000
  | .dataA => 0x740000
  | .instrB => 0x780000
  | .dataB => 0x7C0000

/-- The capture address of a word with a double-bit error is kept (R54, R353). -/
def tcmDed (m : TcmId) (addr : Nat) (s : State) : State :=
  let a := tcmBase m + addr / 4 * 4
  if a ∈ s.tcm.ded then s else { s with tcm := { s.tcm with ded := s.tcm.ded ++ [a] } }

/-- RIDGE_ECC_DED: two bits of a stored byte have flipped, with the reaction of R53; the byte stays as it is (R54). -/
def execRidgeEccDed (s : State) (m : TcmId := .dataA) (addr : Nat := 0) (flips : Byte := 3) :
    Host.Outcome State Fault Refusal :=
  if ridgeRuns s then .next (raise fcRidgeEccDed 0 (freezeRidge (tcmDed m addr (tcmUpset m addr flips s)))) else .next s

/-- RIDGE_FAULT_LINE: the Thatch fabric sees the line and forces the lane T latch to the same safe content (R55). -/
def execRidgeFaultLine (s : State) : Host.Outcome State Fault Refusal :=
  if s.pair.faultLine && ticksRun s && !s.thatch.frozen then
    .next { s with thatch := forceSafe s s.thatch }
  else .next s

/-- Is debug access to the Ridge cores allowed: life-cycle BLANK or VENDOR, or SERVICE at Integrate level with the JTAG policy, as the
boot has read them (R71, R296, R297)? -/
def debugAllowed (s : State) : Bool :=
  s.mode != .lull && !s.resetHeld && s.slate.readDone
    && (lifeState (shadowOf s) < 2 || (debugOpen (shadowOf s) && s.mode == .service
          && (s.gable.spi.service && s.gable.spi.level == 2 || s.gable.usb.service && s.gable.usb.level == 2)))

/-- RIDGE_DEBUG_BREAK: a halt, a step or a write breaks the lock-step, a read does not; neither lane carries a pulse any more (R71,
R272). -/
def execRidgeDebugBreak (act : DebugAct) (s : State) : Host.Outcome State Fault Refusal :=
  if act = .read || !debugAllowed s || s.pair.diverged then .next s
  else
    .next (logEvent 0xE00A [] (raise fcRidgeDebugDiverged 0 { s with
      pair := { s.pair with diverged := true, faultLine := true }
      ridge := if s.ridge.frozen then s.ridge else forceLatch s { s.ridge.latch with gust := noGust } s.ridge
      thatch := forceLatch s { s.thatch.latch with cmds := 0, dark := 0, gust := noGust } s.thatch }))

/-- A row with these bits upset since it was last read; the readback unit never corrects it (R58). -/
def rowUpset (upset : BitVec 256) (k : Nat) (l : List Config.ThatchRow) : List Config.ThatchRow :=
  l.zipIdx.map (fun q => if q.2 = k then { q.1 with bits := q.1.bits ^^^ upset } else q.1)

/-- THATCH_CFG_SCRUB: the readback unit reads the next row, through the whole memory and round again; a bad one is THATCH_CFG_UPSET
(R58). -/
def execThatchCfgScrub (upset : BitVec 256) (s : State) : Host.Outcome State Fault Refusal :=
  let n := s.thatchMem.rows.length
  if n = 0 || !ticksRun s || !s.pwr.domains.getLsbD 6 then .next s
  else
    let k := s.thatchMem.scan % n
    let rows := rowUpset upset k s.thatchMem.rows
    let t := { s with thatchMem := { rows := rows, scan := (k + 1) % n } }
    .next (if (rows[k]?).all rowOk then t else raise fcThatchCfgUpset 0 t)

end Sys2Proof.Machine
end

