-- ==== Sys2Proof/Machine/Split.lean ====
section
/-! DEFINITION. Ridge split and join: acceptance, the steps at their boundaries and at the ends of their ticks, the response once the
operation has ended (R65 to R70, Table 3.4). -/

namespace Sys2Proof.Machine

/-- The status that turns a RIDGE_SPLIT away (Table 3.4); level and mode have been checked before. A split changes no mode, so that no event
of R275 goes before it; a class H fault ends it in LOCKOUT. -/
def splitRefusal (r : Req) (s : State) : Option Byte :=
  let cfg := s.active.image
  if !r.payload.isEmpty then some stBadLength
  else if !(lookB cfg .splitPermitted 0 false && cfg.split) then some stSplitDenied
  else if s.pair.split || s.pair.splitAt.isSome then some stBusy
  else if s.pair.diverged then some stSplitDenied
  else none

/-- Effect of RIDGE_SPLIT in tick k: step 1, after which the split comes at boundary k + 1; CRCs that differ freeze the pair (R66). -/
def splitBody (r : Req) (crcEqual : Bool) (s : State) : State × Answer :=
  match splitRefusal r s with
  | some st => (s, answer st)
  | none =>
    if !crcEqual then (raise fcSplitCompareFail 0 (freezeRidge s), answer stWrongMode)
    else
      let t := occupy ccRidgeSplit r s
      ({ t with pair := { t.pair with
          splitBusy := true, splitAt := some (s.tick.count + 1), splitReq := some (ccRidgeSplit, r) } }, answerLater)

/-- RIDGE_SPLIT. -/
def execRidgeSplit (r : Req) (crcEqual : Bool) (s : State) : Host.Outcome State Fault Refusal :=
  .next (serve ccRidgeSplit r (splitBody r crcEqual) s)

/-- The status that turns a RIDGE_JOIN away. For a pair that is joined the manual gives none: SPLIT_DENIED (DESIGN CHOICE, log entry
154). -/
def joinRefusal (r : Req) (s : State) : Option Byte :=
  if !r.payload.isEmpty then some stBadLength
  else if s.pair.splitAt.isSome then some stBusy
  else if !s.pair.split then some stSplitDenied
  else none

/-- Effect of RIDGE_JOIN in tick j: the pair runs in lock-step again from boundary j + 3; `crcEqual` is whether the digests of step 3 will
be equal but for a difference of the copies themselves (R69). -/
def joinBody (r : Req) (crcEqual : Bool) (s : State) : State × Answer :=
  match joinRefusal r s with
  | some st => (s, answer st)
  | none =>
    let t := occupy ccRidgeJoin r s
    ({ t with pair := { t.pair with
        splitAt := some (s.tick.count + 3), joinBad := !crcEqual, splitReq := some (ccRidgeJoin, r) } }, answerLater)

/-- RIDGE_JOIN. -/
def execRidgeJoin (r : Req) (crcEqual : Bool) (s : State) : Host.Outcome State Fault Refusal :=
  .next (serve ccRidgeJoin r (joinBody r crcEqual) s)

/-- The log entry and the response of a split or join that has ended; none where Gable has lost the request. -/
def splitAnswer (a : Answer) (s : State) : State :=
  match s.pair.splitReq with
  | some (code, r) =>
    let t := { s with pair := { s.pair with splitReq := none } }
    if t.gable.up then finish code r (sessionOf r.port t).level a t else t
  | none => s

/-- Step 3 of a split, in tick k + 1: Gable loads the split image into Ridge B's memories and releases it, unless ENGINE_DOWN holds it down
(R66, R290). -/
def splitLoad (s : State) : State :=
  splitAnswer (answerOk (be 4 s.tick.count.toNat)) { s with
    pair := { s.pair with split := true }
    ridgeB := { s.ridgeB with up := !s.ridgeB.down }
    tcm := { s.tcm with
      instrB := memWriteBytes [] 0 s.active.image.splitCode, dataB := []
      ded := s.tcm.ded.filter (fun a => decide (a < 0x780000)) } }

/-- Step 1 of a join in tick j + 1: Ridge A's instruction memory is copied into Ridge B's (R69). -/
def joinInstr (s : State) : State :=
  { s with tcm := { s.tcm with
      instrB := s.tcm.instrA, ded := s.tcm.ded.filter (fun a => decide (a < 0x780000) || decide (0x7C0000 ≤ a)) } }

/-- Steps 2 and 3 of a join in tick j + 2: the data memory is copied, with every write mirrored, and the digests are compared at the end
of phase 3; a difference is JOIN_COMPARE_FAIL (R69). -/
def joinData (s : State) : State :=
  let t := { s with tcm := { s.tcm with dataB := s.tcm.dataA, ded := s.tcm.ded.filter (fun a => decide (a < 0x7C0000)) } }
  if t.pair.joinBad || t.tcm.instrA != t.tcm.instrB then
    raise fcJoinCompareFail 0 { t with pair := { t.pair with joinBad := false, splitAt := none } }
  else t

/-- What falls on the end of a tick, by the end of its phase 3 (R66, R69). -/
def splitEnd (s : State) : State :=
  match s.pair.splitAt with
  | none => s
  | some at_ =>
    let n := s.tick.count.toNat
    if s.pair.splitBusy then (if n = at_.toNat && s.pair.firewall && !s.pair.split then splitLoad s else s)
    else if !s.pair.joinBusy then s
    else if n + 2 = at_.toNat then joinInstr s
    else if n + 1 = at_.toNat then joinData s
    else s

/-- What falls on a boundary, which has raised the TICK count: step 2 of a split, with Ridge B reset behind the firewall; its end; the
halt of Ridge B for a join; step 4 of a join, from which the pair runs in lock-step (R66, R69). -/
def splitBoundary (s : State) : State :=
  match s.pair.splitAt with
  | none => s
  | some at_ =>
    let n := s.tick.count.toNat
    if s.pair.splitBusy then
      if n = at_.toNat then
        { s with
          pair := { s.pair with firewall := true, msgArea := [] }, ridgeB := { s.ridgeB with up := false } }
      else if at_.toNat < n then { s with pair := { s.pair with splitBusy := false, splitAt := none } }
      else s
    else if n + 2 = at_.toNat then
      { s with pair := { s.pair with joinBusy := true }, ridgeB := { s.ridgeB with up := false } }
    else if n = at_.toNat then
      splitAnswer (answerOk (be 4 s.tick.count.toNat)) { s with
        pair := { s.pair with
          joinBusy := false, splitAt := none, split := false, firewall := false, msgArea := [], joinedAt := some s.tick.boundary } }
    else s

/-- LOCKOUT ends a split or join in progress; its request is overtaken (R67, R275). -/
def splitOvertaken (s : State) : State :=
  splitAnswer (answer stWrongMode) { s with pair := { s.pair with splitBusy := false, joinBusy := false, splitAt := none } }

end Sys2Proof.Machine
end

