-- ==== Sys2Proof/Machine/MotionEng.lean ====
section
/-! DEFINITION. The motion engines M0 and M1: interfaces at a strobe, speed and acceleration, encoder supplies, the records in
phase 0 and their check (R148 to R155; Tables 7.1 to 7.3, 7.15). -/

namespace Sys2Proof.Machine

/-! ## Interfaces at a strobe (R149 to R151) -/

/-- Type of interface `i`: 1 SINCOS, 2 ABZ, 3 SSI. -/
def encTyp (cfg : Config.Image) (i : Nat) : Nat := cfgEnc cfg i

/-- Does the axis evaluate interface `i` (R148)? -/
def encInUse (cfg : Config.Image) (i : Nat) : Bool :=
  lookB cfg .axisEnable (i / 2) false && !(i % 2 == 1 && srcNet cfg (i / 2))

/-- NUM of the source. -/
def encNum (cfg : Config.Image) (i : Nat) : Int :=
  if i % 2 = 0 then look cfg .axisNumA (i / 2) 0 1 else look cfg .axisNumB (i / 2) 0 1

/-- DEN of the source. -/
def encDen (cfg : Config.Image) (i : Nat) : Int :=
  if i % 2 = 0 then look cfg .axisDenA (i / 2) 0 1 else look cfg .axisDenB (i / 2) 0 1

/-- OFF of the source. -/
def encOff (cfg : Config.Image) (i : Nat) : Int :=
  if i % 2 = 0 then look cfg .axisOffA (i / 2) 0 0 else look cfg .axisOffB (i / 2) 0 0

/-- Gray code to binary. -/
def grayDecode (w : W32) : W32 :=
  let a := w ^^^ (w >>> 1)
  let b := a ^^^ (a >>> 2)
  let c := b ^^^ (b >>> 4)
  let d := c ^^^ (c >>> 8)
  d ^^^ (d >>> 16)

/-- The value of an SSI frame (R151). -/
def ssiValue (cfg : Config.Image) (i : Nat) (r : EncRaw) : Nat :=
  let w := BitVec.ofNat 32 (r.ssi.toNat % 2 ^ lookN cfg .ssiBits i 0 25)
  (if lookN cfg .ssiCode i 0 1 = 1 then grayDecode w else w).toNat

/-- Wraps of an SSI value after its next reading: the shorter way round (R151). -/
def ssiWraps (bits : Nat) (old new wraps : Int) : Int :=
  let h : Int := 2 ^ (bits - 1)
  if new - old < -h then wraps + 1 else if h < new - old then wraps - 1 else wraps

/-- Raw value and wraps of an interface at this strobe: an incremental one keeps the counts that it started at. -/
def encRawNow (cfg : Config.Image) (i : Nat) (r : EncRaw) (e : Enc) : Int × Int :=
  if encTyp cfg i = 3 then
    let v : Int := ssiValue cfg i r
    (v, if e.have0 then ssiWraps (lookN cfg .ssiBits i 0 25) e.raw v e.wraps else 0)
  else (e.raw, e.wraps)

/-- The position that the raw reading gives (R149, R150). -/
def encPosition (cfg : Config.Image) (i : Nat) (r : EncRaw) (e : Enc) : Int :=
  if encTyp cfg i = 3 then
    let q := encRawNow cfg i r e
    addW 64 (divW 64 (mul128 (q.1 + q.2 * 2 ^ lookN cfg .ssiBits i 0 25) (encNum cfg i)) (encDen cfg i)) (encOff cfg i)
  else addW 64 (divW 64 (mul128 (r.counts - e.raw) (encNum cfg i)) (encDen cfg i)) e.offs

/-- The last position; 0 before the first. -/
def lastPos (e : Enc) : Int := e.pos.headD 0

/-- The checks of Table 7.1 that fail at this strobe, one bit each: 0 amplitude, 1 frequency, 2 differential voltage, 3 A and B
together, 4 edge spacing, 5 the latest Z interval, 6 start bit, 7 error bit, 8 parity, 9 double reading, 10 jump. -/
def encFails (cfg : Config.Image) (i : Nat) (r : EncRaw) (e : Enc) : Nat :=
  match encTyp cfg i with
  | 1 => bit (decide (r.amp < 50) || decide (150 < r.amp)) 0 + bit (!r.freqOk) 1
  | 2 =>
    let z := match r.zInterval with
      | some n => decide (4 < ((n : Int) - 4 * lookN cfg .encLines i 0 1024).natAbs)
      | none => e.bad.testBit 5
    bit (decide (r.diffMin < 200)) 2 + bit (!r.togetherOk) 3 + bit (!r.spacingOk) 4 + bit (lookB cfg .encZCheck i false && z) 5
  | 3 =>
    let jump := e.have0 && decide (look cfg .axisVMax (i / 2) 0 2147483647 / 16000 + look cfg .axisTolPos (i / 2) 0 1000
      < (encPosition cfg i r e - lastPos e).natAbs)
    bit (!r.startOk) 6 + bit (given cfg .ssiErrBit i && r.ssi.toNat.testBit (lookN cfg .ssiErrBit i 0 0)) 7
      + bit (lookN cfg .ssiCheck i 0 1 == 1 && !r.parityOk) 8 + bit (lookN cfg .ssiCheck i 0 1 == 2 && !r.doubleOk) 9
      + bit jump 10
  | _ => 0

/-- The encoder fault code that a check raises (Table 7.1, Table 7.15). -/
def codeOfCheck (k : Nat) : Nat :=
  match k with
  | 0 => 1
  | 1 => 3
  | 2 => 2
  | 3 => 2
  | 4 => 3
  | 5 => 5
  | _ => 4

/-- A mask over the fault codes 1 to 6. -/
def codeMask (f : Nat → Bool) : Nat := (List.range 7).foldl (fun a k => a + bit (f k) k) 0

/-- Strobes in 100 ms. -/
abbrev strobes100 : Nat := 1600

/-- Fault bits after this strobe: a check that fails at two consecutive strobes raises, the conditions of Table 7.10 clear;
ENC_SUPPLY is its output's. -/
def encFault (fails : Nat) (old new : Enc) : Nat :=
  codeMask (fun c =>
    let raised := (List.range 11).any (fun k => codeOfCheck k == c && fails.testBit k && old.bad.testBit k)
    let cleared := match c with
      | 3 => strobes100 ≤ new.goodO
      | 5 => 2 ≤ new.zGood
      | 6 => false
      | _ => strobes100 ≤ new.good
    raised || (old.fault.testBit c && !cleared))

/-- Quality of an interface as ENC_DIAG shows it (Table 7.14). -/
def encQual (cfg : Config.Image) (i : Nat) (r : EncRaw) (fails old : Nat) : Nat :=
  min 255 (match encTyp cfg i with
    | 1 => r.amp
    | 2 => r.diffMin / 20
    | 3 => if fails = 0 then old else old + 1
    | _ => 0)

/-- Counters and faults of an interface at a strobe. -/
def encCheck (cfg : Config.Image) (i : Nat) (r : EncRaw) (e : Enc) : Enc :=
  let f := encFails cfg i r e
  let fast := f.testBit 1 || f.testBit 4
  let fit := match encTyp cfg i with
    | 1 => 60 ≤ r.amp && r.amp ≤ 140
    | 2 => !f.testBit 2 && !f.testBit 3
    | _ => f == 0
  let n := { e with
    good := if fit then e.good + 1 else 0
    goodO := if fast then 0 else e.goodO + 1
    zGood := match r.zInterval with
      | some _ => if f.testBit 5 then 0 else e.zGood + 1
      | none => e.zGood
    qual := encQual cfg i r f e.qual }
  { n with fault := encFault f e n, bad := f }

/-- An interface starts: its first position, in a record that has no speed yet (R150). -/
def encBegin (p : Int) (raw offs : Int) (e : Enc) : Enc :=
  { e with have0 := true, raw := raw, offs := offs, wraps := 0, pos := [p], spd := [0], vMax := 0, vMin := 0 }

/-- The value `n` entries before the newest one; the start stands for what lies before it. -/
def back (l : List Int) (n : Nat) : Int := l.getD n (l.getLastD 0)

/-- Speed over the last `n` strobes, or acceleration from speeds (R149). -/
def rate (l : List Int) (n : Nat) : Int := divW 32 (mul128 (subW 64 (l.headD 0) (back l n)) 16000) n

/-- A position taken: speed, extremes of the record, history (R149, R153). -/
def encTake (cfg : Config.Image) (i : Nat) (p : Int) (e : Enc) : Enc :=
  let pos := (p :: e.pos).take 33
  let v := rate pos (lookN cfg .axisNV (i / 2) 0 4)
  { e with pos := pos, spd := (v :: e.spd).take 17, vMax := max e.vMax v, vMin := min e.vMin v }

/-- One interface at a strobe. A bad strobe's position is the previous one advanced by the last speed (R151); an interface without
a position starts by R150, an incremental one at `other` where the other source is absolute. -/
def encStep (cfg : Config.Image) (i : Nat) (other : Option Int) (r : EncRaw) (e : Enc) : Enc :=
  let c := { encCheck cfg i r e with seq := e.seq + 1 }
  if !encInUse cfg i then { e with seq := e.seq + 1 }
  else if e.have0 then
    if c.bad = 0 then
      let q := encRawNow cfg i r e
      encTake cfg i (encPosition cfg i r e) { c with raw := q.1, wraps := q.2 }
    else encTake cfg i (addW 64 (lastPos e) (divW 64 (e.spd.headD 0) 16000)) { c with subst := true }
  else if c.bad != 0 then { c with subst := true }
  else if encTyp cfg i = 3 then encBegin (encPosition cfg i r e) (ssiValue cfg i r) (encOff cfg i) c
  else match other with
    | some p => encBegin p r.counts p c
    | none => c

/-- Where an incremental interface starts: at 0 beside another incremental one, else at the other source's position, once there
is one (R150). -/
def startAt (cfg : Config.Image) (s : State) (enc : Vector Enc 16) (i : Nat) : Option Int :=
  let j := if i % 2 = 0 then i + 1 else i - 1
  if i % 2 = 0 && srcNet cfg (i / 2) then
    let q := vget s.ridge.ax (i / 2) AxCh.reset
    if q.haveB then some (sgn q.recB.pos) else none
  else if encTyp cfg j = 3 then
    let o := vget enc j Enc.reset
    if o.have0 && o.bad = 0 then some (lastPos o) else none
  else some 0

/-! ## Encoder supplies (R152) -/

/-- The output that feeds interface `i`. -/
def pwrOf (i : Nat) : Nat := i / 4 + 4 * (i % 2)

/-- Is a voltage out of range for the output's mode? -/
def pwrBad (mode mv : Nat) : Bool :=
  match mode with
  | 1 => decide (mv < 4500) || decide (5500 < mv)
  | 2 => decide (mv < 18000)
  | _ => false

/-- One supply output at a strobe; 100 ms in range clear ENC_SUPPLY and switch a tripped output on again (R152, Table 7.10). -/
def pwrStep (mode mv ma : Nat) (p : EncPwr) : EncPwr :=
  let b := pwrBad mode mv
  let q := { p with
    volt := BitVec.ofNat 6 (min 63 (mv / 500)), cur := BitVec.ofNat 8 (min 255 (ma / 2))
    bad := if b then p.bad + 1 else 0
    lim := if 350 ≤ ma then p.lim + 1 else 0
    good := if b then 0 else p.good + 1 }
  { q with st := if mode = 0 then 0 else if 2 ≤ p.st.toNat then (if strobes100 ≤ q.good then 1 else p.st) else 1 }

/-- ENC_SUPPLY of the interfaces by the state of their outputs. -/
def supplyMark (pwr : Vector EncPwr 8) (i : Nat) (e : Enc) : Enc :=
  let faulty := decide (2 ≤ (vget pwr (pwrOf i) { st := 0, volt := 0, cur := 0, bad := 0, lim := 0, good := 0 }).st.toNat)
  { e with fault := codeMask (fun c => if c = 6 then faulty else e.fault.testBit c) }

/-- Do the motion engines run: from the end of SELFTEST on (R150, R153)? -/
def motionRuns (s : State) : Bool :=
  s.tick.running && s.pwr.domains.getLsbD 2 && !(s.mode ∈ [Mode.off, .backup, .boot, .selftest, .lull])

/-- The motion domain after a strobe; a silent engine does nothing (R154). -/
def motionStrobe (cfg : Config.Image) (raws : Vector EncRaw 16) (mv ma : Vector Nat 8) (s : State) : Motion :=
  let m := s.motion
  let quiet (i : Nat) : Bool := if i % 2 = 0 then m.silent0 else m.silent1
  let step (v : Vector Enc 16) (abs_ : Bool) : Vector Enc 16 :=
    vtab 16 (fun i =>
      let e := vget v i Enc.reset
      match raws[i]? with
      | some r => if quiet i || (encTyp cfg i == 3) != abs_ then e else encStep cfg i (startAt cfg s v i) r e
      | none => e)
  let pwr := vtab 8 (fun j => pwrStep (lookN cfg .encPwrMode j 0 0) (vget mv j 0) (vget ma j 0)
    (vget m.pwr j { st := 0, volt := 0, cur := 0, bad := 0, lim := 0, good := 0 }))
  let enc := step (step m.enc true) false
  { m with pwr := pwr, enc := vtab 16 (fun i => supplyMark pwr i (vget enc i Enc.reset)) }

/-- MOTION_STROBE: M0 and M1 latch their interfaces and compute position, speed and acceleration (R149 to R153). The command is the strobe:
its instant b − 31.25 µs + k × 62.5 µs is the sender's, and no other is refused (DESIGN CHOICE, log entry 194). -/
def execMotionStrobe (raws : Vector EncRaw 16) (pwrMv pwrMa : Vector Nat 8) (s : State) : Host.Outcome State Fault Refusal :=
  if motionRuns s then .next { s with motion := motionStrobe s.active.image raws pwrMv pwrMa s } else .next s

/-- ENC_SUPPLY_TRIP: an output out of range for 1 ms, or 10 ms in its limit, which switches it off (R152). -/
def execEncSupplyTrip (j : Fin 8) (s : State) : Host.Outcome State Fault Refusal :=
  let p := s.motion.pwr[j.val]
  if !motionRuns s || p.st = 0 || !(16 ≤ p.bad || 160 ≤ p.lim) then .next s
  else
    let pwr := vupd s.motion.pwr j (fun q => { q with st := if 160 ≤ q.lim then 3 else if q.st = 3 then 3 else 2 })
    .next { s with motion := { s.motion with
      pwr := pwr, enc := vtab 16 (fun i => supplyMark pwr i (vget s.motion.enc i Enc.reset)) } }

/-! ## Records (R153, R154; Table 7.3) -/

/-- The 224 bits that the CRC of a record covers. -/
def recBits (r : MotionRec) : Nat :=
  packBits [(16, r.seq.toNat), (8, r.stat.toNat), (64, r.pos.toNat), (32, r.vLast.toNat), (32, r.vMax.toNat), (32, r.vMin.toNat),
    (32, r.aLast.toNat), (8, r.reserved.toNat)]

/-- A record's CRC (Table 7.3). -/
def recCrc (r : MotionRec) : W32 := crc32 (be 28 (recBits r))

/-- The lowest fault code that stands; 0 for none. -/
def faultCodeOf (m : Nat) : Nat := ((List.range 7).find? (fun k => m.testBit k)).getD 0

/-- The record of an interface at a boundary. -/
def recordOfEnc (cfg : Config.Image) (i : Nat) (e : Enc) : MotionRec :=
  let w (x : Int) : W32 := BitVec.ofInt 32 x
  let r : MotionRec :=
    { seq := e.seq
      stat := BitVec.ofNat 8 (bit (e.have0 && e.fault == 0) 7 + bit e.subst 6 + faultCodeOf e.fault * 4)
      pos := BitVec.ofInt 64 (lastPos e), vLast := w (e.spd.headD 0), vMax := w e.vMax, vMin := w e.vMin
      aLast := w (rate e.spd (lookN cfg .axisNA (i / 2) 0 8)), reserved := 0, crc := 0 }
  { r with crc := recCrc r }

/-- The checks of a record: CRC, reserved bits, strobes since the last record (R154). -/
def recSound (units : Nat) (last : Option (BitVec 16)) (r : MotionRec) : Bool :=
  r.crc == recCrc r && r.reserved == 0
    && (match last with
        | some q => r.seq - q == BitVec.ofNat 16 (units / 6250)
        | none => true)

/-- An interface after its record has been taken. -/
def encSent (e : Enc) : Enc := { e with subst := false, vMax := -(2 ^ 31 : Int), vMin := (2 ^ 31 : Int) - 1 }

/-- Put a tick's records into a channel. -/
def takeRecords (cfg : Config.Image) (m : Motion) (c : Chan) : Chan :=
  { c with ax := vtab 8 (fun a =>
      let q := vget c.ax a AxCh.reset
      if !lookB cfg .axisEnable a false then q
      else
        let ra := recordOfEnc cfg (2 * a) (vget m.enc (2 * a) Enc.reset)
        let rb := recordOfEnc cfg (2 * a + 1) (vget m.enc (2 * a + 1) Enc.reset)
        let path (i : Nat) : List Int := (vget m.enc i Enc.reset).pos.take (cfgT cfg * 100 / 6250)
        if srcNet cfg a then { q with recA := ra, pathA := path (2 * a), haveA := true }
        else
          { q with
            recA := ra, recB := rb, pathA := path (2 * a), pathB := path (2 * a + 1), haveA := true, haveB := true }) }

/-- Does engine `e` (0 for M0, 1 for M1) deliver good records for every axis that it serves (R154)? -/
def engineSound (cfg : Config.Image) (units e : Nat) (m : Motion) (c : Chan) : Bool :=
  (List.range 8).all (fun a =>
    if !lookB cfg .axisEnable a false || (e == 1 && srcNet cfg a) then true
    else
      let q := vget c.ax a AxCh.reset
      let last := if e = 0 then (if q.haveA then some q.recA.seq else none) else (if q.haveB then some q.recB.seq else none)
      recSound units last (recordOfEnc cfg (2 * a + e) (vget m.enc (2 * a + e) Enc.reset)))

/-- Phase 0 of the motion domain: both channels take and check the records; a missing or bad one is MOTION_ENGINE_SILENT (R154). -/
def motionBoundary (s : State) : State :=
  let cfg := s.active.image
  let m := s.motion
  if !axisUsed cfg || s.mode ∈ [Mode.off, .backup, .boot, .selftest, .lull] then s
  else
    let on_ := s.pwr.domains.getLsbD 2
    let units := tickUnits s.tick.sel.toNat
    let ok0 := on_ && !m.silent0 && engineSound cfg units 0 m s.ridge
    let ok1 := on_ && !m.silent1 && engineSound cfg units 1 m s.ridge
    let t := { s with
      ridge := takeRecords cfg m s.ridge
      thatch := takeRecords cfg m s.thatch
      motion := { m with
        enc := vmap encSent m.enc
        good0 := if ok0 then m.good0 + 1 else 0, good1 := if ok1 then m.good1 + 1 else 0
        silent0 := m.silent0 || !ok0, silent1 := m.silent1 || !ok1 } }
    let u := if ok0 then t else raise fcMotionEngineSilent 0 t
    if ok1 then u else raise fcMotionEngineSilent 1 u

/-! ## The compare of both sources (R155) -/

/-- AXIS_CROSS_MISMATCH: TOL_TICKS consecutive deviating ticks in a channel. -/
def execAxisCrossMismatch (ax : Fin 8) (s : State) : Host.Outcome State Fault Refusal :=
  let cfg := s.active.image
  if s.mode.evaluates && ((axesApart cfg s.ridge).contains ax.val || (axesApart cfg s.thatch).contains ax.val) then
    .next (raise fcAxisCrossMismatch ax.val s)
  else .next s

end Sys2Proof.Machine
end

