-- ==== Sys2Proof/Machine/Frames.lean ====
section
/-! DEFINITION. Ports and frames: links, the MAC filter, ARP, Ethernet, IPv4 and UDP (R201, R202). -/

namespace Sys2Proof.Machine

/-! ## Ports (R201, R202) -/

/-- State of a port. -/
def portOf (p : NetPort) (s : State) : PortSt :=
  match p with
  | .a => s.portA
  | .b => s.portB

/-- Replace the state of a port. -/
def setPort (p : NetPort) (x : PortSt) (s : State) : State :=
  match p with
  | .a => { s with portA := x }
  | .b => { s with portB := x }

/-- Domain of a port: NA is bit 4, NB bit 3 of DOMAIN_ON (Table 14.10). -/
def portDomain (p : NetPort) : Nat :=
  match p with
  | .a => 4
  | .b => 3

/-- Is a port powered and outside reset and LULL (R350)? -/
def portOn (p : NetPort) (s : State) : Bool :=
  s.pwr.domains.getLsbD (portDomain p) && s.pwr.aoOn && !s.resetHeld && s.mode != .lull

/-- Does a port's engine run? -/
def netEngineUp (p : NetPort) (s : State) : Bool :=
  match p with
  | .a => s.n0.up
  | .b => s.n1.up

/-- Can the port send: full-duplex link, engine running (R201, R210)? -/
def canSend (p : NetPort) (s : State) : Bool := portOn p s && (portOf p s).link && netEngineUp p s

/-- Can the port receive? -/
def canReceive (p : NetPort) (s : State) : Bool :=
  portOn p s && ((portOf p s).link || (portOf p s).duplex) && netEngineUp p s

/-- Hand a message to the port's engine (log entry 74). -/
def sendOn (p : NetPort) (m : List Byte) (s : State) : State :=
  if canSend p s then setPort p { portOf p s with sent := (portOf p s).sent ++ [m] } s else s

/-- Set bits of NETx_EVT. -/
def netEvent (p : NetPort) (k : Nat) (s : State) : State :=
  match p with
  | .a => { s with ev := { s.ev with netA := setBit s.ev.netA k true } }
  | .b => { s with ev := { s.ev with netB := setBit s.ev.netB k true } }

/-- LINK_DOWN of a port. -/
def fcDown (p : NetPort) : BitVec 16 :=
  match p with
  | .a => fcLinkDownA
  | .b => fcLinkDownB

/-- LINK_DUPLEX of a port. -/
def fcDuplex (p : NetPort) : BitVec 16 :=
  match p with
  | .a => fcLinkDuplexA
  | .b => fcLinkDuplexB

/-- Is a port powered at all? -/
def portPowered (p : NetPort) (s : State) : Bool := s.pwr.domains.getLsbD (portDomain p) && s.pwr.aoOn && !s.resetHeld

/-- LINK_UP: a full-duplex link clears LINK_DOWN and LINK_DUPLEX; a half-duplex one raises LINK_DUPLEX, with NETx_EVT bit 1 where it did
not stand, and sends nothing (R201, Tables 9.8, 9.10). -/
def execLinkUp (port : NetPort) (fullDuplex : Bool) (s : State) : Host.Outcome State Fault Refusal :=
  if !portPowered port s then .next s
  else
    let t := clearFault (fcDown port) 0 (netEvent port 2 (setPort port { portOf port s with link := fullDuplex, duplex := !fullDuplex } s))
    let u := raise (fcDuplex port) 0 t
    .next (if fullDuplex then clearFault (fcDuplex port) 0 t
      else if hasFault t (fcDuplex port) 0 || !hasFault u (fcDuplex port) 0 then u else netEvent port 1 u)

/-- LINK_DOWN: a warning; copies are missing (Table 9.8). -/
def execLinkDown (port : NetPort) (s : State) : Host.Outcome State Fault Refusal :=
  if !portPowered port s then .next s
  else .next (raise (fcDown port) 0 (netEvent port 2 (setPort port { portOf port s with link := false, duplex := false } s)))

/-- LINK_DOWN stands on every powered port that has no link (Table 9.8). -/
def linkFaults (s : State) : State :=
  let one (p : NetPort) (t : State) : State :=
    if portPowered p t && !(portOf p t).link && !(portOf p t).duplex then raise (fcDown p) 0 t else t
  one .b (one .a s)

/-! ## The MAC (R202) -/

/-- MAC address of a port as sent (R292, Table 13.1). -/
def macOf (p : NetPort) (s : State) : List Byte :=
  match p with
  | .a => slateBytes (shadowOf s) 1088 6
  | .b => slateBytes (shadowOf s) 1136 6

/-- Multicast addresses that the configuration names: those among the MAC addresses of CONN.DST, CAS.DST, and the PTP address while PTP is
used (R202, Table 9.9). -/
def mcasts (cfg : Config.Image) : List (List Byte) :=
  ((cfg.fields.filter (fun f => ((f.param == .connDst && f.elem < 2) || f.param == .casDst) && groupMac f.value.toNat)).map
      (fun f => be 6 f.value.toNat))
    ++ (if ptpRoleOf cfg = 0 then []
        else if lookN cfg .ptpTransport 0 0 0 = 0 then [be 6 0x011B19000000] else [be 6 0x01005E000181])

/-- Does the MAC accept a frame: its own address, a named multicast address, or broadcast ARP, with a good FCS and of a length that
it supports? -/
def macAccepts (p : NetPort) (frame : List Byte) (fcsOk : Bool) (s : State) : Bool :=
  let dst := frame.take 6
  let typ := beAt frame 12 2
  fcsOk && decide (frame.length ≤ 1514) && 14 ≤ frame.length && typ != 0x8808
    && (dst == macOf p s || (mcasts s.active.image).contains dst || (mcasts (evalCfg s)).contains dst || (dst == List.replicate 6 0xFF && typ == 0x0806))

/-- Count up to the largest 32-bit value. -/
def count32 (c : W32) : W32 := BitVec.ofNat 32 (min max32 (c.toNat + 1))

/-- NET_FRAME_RECEIVE: frames accepted and frames dropped are counted (R202, Table 9.10). -/
def execNetFrameReceive (port : NetPort) (frame : List Byte) (fcsOk : Bool) (s : State) : Host.Outcome State Fault Refusal :=
  if !canReceive port s then .next s
  else
    let x := portOf port s
    .next (setPort port (if macAccepts port frame fcsOk s then { x with rxCnt := count32 x.rxCnt }
      else { x with dropCnt := count32 x.dropCnt }) s)

/-- Own IPv4 address of a port, if configured. -/
def ipOf (cfg : Config.Image) (p : NetPort) : Option Nat :=
  match p with
  | .a => if given cfg .netIpA 0 then some (lookN cfg .netIpA 0 0 0) else none
  | .b => if given cfg .netIpB 0 then some (lookN cfg .netIpB 0 0 0) else none

/-- An Ethernet frame without its FCS, from a port's own MAC address. -/
def ethFrame (p : NetPort) (dst typ : Nat) (data : List Byte) (s : State) : List Byte := be 6 dst ++ macOf p s ++ be 2 typ ++ data

/-- ARP_REQUEST: a request for the port's own address is answered, to the asker, with the port's MAC address (R202). -/
def execArpRequest (port : NetPort) (tpa : W32) (s : State) (sha : BitVec 48 := 0) (spa : W32 := 0) :
    Host.Outcome State Fault Refusal :=
  match ipOf s.active.image port with
  | some a =>
    if canSend port s && a == tpa.toNat then
      .next (sendOn port (ethFrame port sha.toNat 0x0806
        (be 2 1 ++ be 2 0x0800 ++ be 1 6 ++ be 1 4 ++ be 2 2 ++ macOf port s ++ be 4 a ++ be 6 sha.toNat ++ be 4 spa.toNat) s) s)
    else .next s
  | none => .next s

/-! ## IPv4 and UDP (R202) -/

/-- The 16-bit words of bytes, an odd last byte filled up with 0. -/
def words16 (l : List Byte) : List Nat :=
  match l with
  | [] => []
  | [a] => [a.toNat * 256]
  | a :: b :: t => (a.toNat * 256 + b.toNat) :: words16 t

/-- The Internet checksum: the complement of the ones' complement sum. -/
def inetSum (l : List Byte) : Nat :=
  let t := (words16 l).foldl (· + ·) 0
  let u := t % 65536 + t / 65536
  65535 - (u % 65536 + u / 65536)

/-- The pseudo-header of UDP. -/
def pseudo (src dst len : Nat) : List Byte := be 4 src ++ be 4 dst ++ be 1 0 ++ be 1 17 ++ be 2 len

/-- A UDP datagram with its checksum, never sent as 0. -/
def udpBytes (src dst sport dport : Nat) (data : List Byte) : List Byte :=
  let len := 8 + data.length
  let sum := inetSum (pseudo src dst len ++ be 2 sport ++ be 2 dport ++ be 2 len ++ be 2 0 ++ data)
  be 2 sport ++ be 2 dport ++ be 2 len ++ be 2 (if sum = 0 then 65535 else sum) ++ data

/-- An IPv4 packet without options; what the manual leaves open of its header is free (log entry 161). -/
def ipBytes (src dst : Nat) (data : List Byte) : List Byte :=
  let head (sum : Nat) : List Byte :=
    be 1 0x45 ++ be 1 (Config.ipField 0) ++ be 2 (20 + data.length) ++ be 2 (Config.ipField 1)
      ++ be 2 (if Config.ipField 4 % 2 = 1 then 0x4000 else 0) ++ be 1 (Config.ipField 2) ++ be 1 17 ++ be 2 sum ++ be 4 src ++ be 4 dst
  head (inetSum (head 0)) ++ data

/-- A datagram in its frame, from a port's own addresses; `sport` 0 stands for a source port that the manual leaves open. -/
def udpFrame (p : NetPort) (mac ip sport dport : Nat) (data : List Byte) (s : State) : List Byte :=
  let own := (ipOf s.active.image p).getD 0
  let src := if sport = 0 then Config.ipField 3 % 65536 else sport
  ethFrame p mac 0x0800 (ipBytes own ip (udpBytes own ip src dport data)) s

/-- The UDP port and the data of a received packet: no options, no fragment, sound headers, the port's own address or a multicast one, a
checksum that is right or 0 (R202; the header checks are those of RFC 791 and RFC 768: PRESUMED, log entry 172). -/
def udpOf (own : Option Nat) (p : List Byte) : Option (Nat × List Byte) :=
  let total := beAt p 2 2
  let len := beAt p 24 2
  let dst := beAt p 16 4
  let sum := beAt p 26 2
  if 28 ≤ p.length && beAt p 0 1 == 0x45 && beAt p 6 2 % 0x4000 == 0 && beAt p 9 1 == 17 && decide (total ≤ p.length)
      && decide (8 ≤ len) && total == 20 + len && inetSum (p.take 20) == 0
      && (own == some dst || dst / 2 ^ 28 == 14)
      && (sum == 0 || inetSum (pseudo (beAt p 12 4) dst len ++ (p.drop 20).take len) == 0) then
    some (beAt p 22 2, (p.drop 28).take (len - 8))
  else none

/-- The telegram that an accepted frame carries: raw by its EtherType, without the padding behind it, or in a UDP datagram to the address
`own` by its destination port (R202, R208, R217). -/
def telegramIn (cfg : Config.Image) (own : Option Nat) (frame : List Byte) : Option (Proto × List Byte) :=
  let typ := beAt frame 12 2
  let data := frame.drop 14
  if typ = lookN cfg .netEtCtt 0 0 0x88B5 then some (.ctt, data.take (24 + beAt data 2 2))
  else if typ = lookN cfg .netEtCsf 0 0 0x88B6 then some (.csf, data.take (14 + beAt data 8 2))
  else if typ = 0x0800 then
    match udpOf own data with
    | some (port, d) =>
      if port = lookN cfg .netUdpCtt 0 0 52400 then some (.ctt, d)
      else if port = lookN cfg .netUdpCsf 0 0 52401 then some (.csf, d) else none
    | none => none
  else none

/-- The telegram of a frame, by the configuration that the connections run on; the cascade's, in VERIFY too, by the active one (R262; log
entry 215). -/
def telegramOf (p : NetPort) (frame : List Byte) (s : State) : Option (Proto × List Byte) :=
  let own := ipOf s.active.image p
  (telegramIn (evalCfg s) own frame).or (telegramIn s.active.image own frame)

end Sys2Proof.Machine
end

