-- ==== Sys2Proof/Machine/Network.lean ====
section
/-! DEFINITION. Networks: PTP and its servo, the cascade and its telegrams (R204 to R206, R219 to R222, R226, R322; Tables 9.6 to
9.8). -/

namespace Sys2Proof.Machine

/-! ## The cascade's view (R219 to R222) -/

/-- Own member number. -/
def casSelf (cfg : Config.Image) : Nat := lookN cfg .casSelf 0 0 0

/-- The place of member `m` in the member list. An entry of CAS.LIST with a number above 7, which the manual neither clamps nor refuses, is
no member's (DESIGN CHOICE, log entry 212). -/
def casEntry (cfg : Config.Image) (m : Nat) : Option Nat :=
  (List.range 8).find? (fun k => cfg.fields.any (fun f => f.param == .casListNum && f.elem == k && f.value == m))

/-- Is `m` a listed member other than this one? -/
def casOther (cfg : Config.Image) (m : Nat) : Bool := member cfg && m != casSelf cfg && (casEntry cfg m).isSome

/-- SERIAL of the Slate. -/
def slateSerial (s : State) : Nat := fld (shadowOf s) 1024 64

/-- SEED of the Slate. -/
def slateSeed (s : State) : Nat := fld (shadowOf s) 1200 32

/-- Do a serial and a seed equal the list entry of member `m` (Table 9.7)? -/
def identIs (cfg : Config.Image) (m serial seed : Nat) : Bool :=
  match casEntry cfg m with
  | some k => lookN cfg .casListSerial 0 k 0 == serial && lookN cfg .casListSeed 0 k 0 == seed
  | none => false

/-- Is the own identity at the own entry? -/
def selfIdent (s : State) : Bool := identIs s.active.image (casSelf s.active.image) (slateSerial s) (slateSeed s)

/-- CAS.CYCLE in timebase units: whole multiples of the largest T of a member that the configuration shows (Table 9.9; log entry
156). -/
def casCycle (cfg : Config.Image) : Nat := casCycleUs cfg * tUs

/-- The channel whose view stands for both: the Ridge pair, or the Thatch fabric while the pair is frozen. -/
def viewLane (s : State) : Lane := if s.ridge.frozen then .t else .p

/-- A member as a channel sees it. -/
def memIn (c : Chan) (m : Nat) : Member := vget c.mem m Member.reset

/-- A member as the module sees it. -/
def mem (s : State) (m : Nat) : Member := memIn (chanOf (viewLane s) s) m

/-- Is a stamp within `t` timebase units? -/
def within (s : State) (at_ : Option W64) (t : Nat) : Bool :=
  match at_ with
  | some x => decide (s.tb.count.toNat ≤ x.toNat + t)
  | none => false

/-- Is a member present: a heartbeat within 3 × CAS.CYCLE and an agreement within 300 ms (R220)? -/
def presentIn (s : State) (x : Member) : Bool :=
  within s x.lastHb (3 * casCycle s.active.image) && within s x.lastAgree (300 * tMs)

/-- Is member `m` present? -/
def casPresent (s : State) (m : Nat) : Bool := presentIn s (mem s m)

/-- Is a member treated as absent for a failure of its agreement: fewer than 3 rounds in a row without it (Table 9.7)? -/
def failingIn (x : Member) : Bool := decide (x.cfgRun < 3) || decide (x.fwRun < 3) || decide (x.idRun < 3)

/-- Does member `m` agree on configuration, firmware class and identity? -/
def casAgrees (s : State) (m : Nat) : Bool := (mem s m).cfgOk && (mem s m).fwOk && (mem s m).identOk && !failingIn (mem s m)

/-- Modes of a healthy member. -/
def casRuns (k : Nat) : Bool := 6 ≤ k && k ≤ 8

/-- Is member `m`, itself included, healthy (R220)? -/
def casHealthy (s : State) (m : Nat) : Bool :=
  if m = casSelf s.active.image then casRuns s.mode.code && selfIdent s
  else casOther s.active.image m && casPresent s m && casRuns (mem s m).mode.toNat && casAgrees s m

/-- Is a function linked to member `m` held in a channel: absent, treated as absent, or in LOCKOUT, as that channel sees it (R14, Table
9.7)? -/
def casHoldsIn (c : Chan) (s : State) (m : Nat) : Bool :=
  casOther s.active.image m && (!presentIn s (memIn c m) || failingIn (memIn c m) || (memIn c m).mode == 9)

/-- The members that hold functions in a channel (R123). -/
def casBadOf (s : State) (c : Chan) : Chan := { c with casBad := bitsOf 8 (casHoldsIn c s) }

/-- Is this module the cascade leader in its own view? -/
def isLeader (s : State) : Bool := member s.active.image && s.cas.leader.any (fun m => m.val == casSelf s.active.image)

/-- The number in LEADER: the own one while no leader has been chosen yet (DESIGN CHOICE, log entry 75). -/
def leaderNo (s : State) : Nat :=
  match s.cas.leader with
  | some m => m.val
  | none => casSelf s.active.image

/-- Members other than this one that are present. -/
def casOthers (s : State) : List Nat := (List.range 8).filter (fun m => casOther s.active.image m && casPresent s m)

/-- Does this member's boundary lie within 5 µs of a multiple of T on the synchronised time (R206)? -/
def aligned (s : State) : Bool :=
  let u := tickUnits s.tick.sel.toNat
  let d := (syncAt s s.tick.boundary).toNat % u
  member s.active.image && (d ≤ 500 || u - d ≤ 500)

/-- Is the servo LOCKED with an offset of 5 µs or less? -/
def timeGood (s : State) : Bool := s.ptp.state == 2 && decide (s.ptp.offset.natAbs ≤ 5000)

/-- Do all other present members agree with this one in their last agreements (R222)? -/
def casRoundGood (s : State) : Bool := (casOthers s).all (fun m => (mem s m).cfgOk && (mem s m).fwOk && (mem s m).identOk)

/-- START_BLOCKED: the conditions of R222 are not met; a round counts as the own one of 100 ms, and a member that has disagreed since needs
its own three. -/
def casBlocked (s : State) : Bool :=
  member s.active.image
    && !(3 ≤ s.cas.selfRounds && (casOthers s).all (casAgrees s) && (timeGood s || isLeader s) && aligned s && selfIdent s)

/-- A fault of an agreement that fails: raised as it fails, cleared after 3 rounds in a row without it (Table 9.7). -/
def agreeFault (x : Member) (run : Nat) (code : BitVec 16) (m : Nat) (s : State) : State :=
  if x.lastAgree.isSome then setFault (decide (run < 3)) code m s else s

/-- Faults of one other member, by the view that stands for both channels; CAS_MEMBER_LOCKOUT stands until the member reports another
mode (R220, Tables 9.7, 9.8). -/
def casFaults (m : Nat) (s : State) : State :=
  if !casOther s.active.image m then s
  else
    let x := mem s m
    let t := setFault (!presentIn s x) fcCasMemberAbsent m s
    let u := if x.lastHb.isSome then setFault (x.mode == 9) fcCasMemberLockout m t else t
    setFault (x.lastAgree.isSome && x.skew) fcVersionSkew m
      (agreeFault x x.idRun fcCasIdentMismatch m (agreeFault x x.fwRun fcCasFwMismatch m (agreeFault x x.cfgRun fcCasCfgMismatch m u)))

/-- The synchronised time continued from this instant at the same rate, which is the constant anew (R205). -/
def rebase (s : State) : Ptp := { s.ptp with const := syncAt s s.tb.count - s.tb.count, lastSync := s.tb.count }

/-- The servo enters HOLDOVER at this instant. -/
def ptpHoldover (s : State) : State := { s with ptp := { s.ptp with state := 3, holdAt := s.tb.count, good := 0 } }

/-- The leader changes, or the first one is chosen: logged; the new leader fixes its constant and serves its time without a step, always
LOCKED; the others run in HOLDOVER until the new leader's Sync messages come (R205, R221; the first choice and a follower that was
not LOCKED: DEDUCED, log entry 75). -/
def casLead (m : Fin 8) (s : State) : State :=
  if s.cas.leader = some m then s
  else
    let t := logEvent 0xE00C (be 1 (leaderNo s) ++ be 1 m.val) { s with cas := { s.cas with leader := some m } }
    if m.val = casSelf s.active.image then
      timeFaults (clearFault fcTimeWarn 0 { t with ptp := { rebase t with state := 2, offset := 0, freq := 0 } })
    else ptpHoldover t

/-- The leader of this phase 3: the lowest-numbered healthy member (R220); without one the leader stays (log entry 75). -/
def casElect (s : State) : State :=
  match (idxs 8).find? (fun m => casHealthy s m.val) with
  | some m => casLead m s
  | none => s

/-- START_BLOCKED as it stands now (R222). -/
def casBlock (s : State) : State := if member s.active.image then { s with cas := { s.cas with blocked := casBlocked s } } else s

/-- The cascade in a phase 3: faults of the members, leader, START_BLOCKED. -/
def casStep (s : State) : State :=
  if !member s.active.image then s
  else casBlock (casElect ((List.range 8).foldl (fun u m => casFaults m u) s))

/-- A heartbeat received by a channel (R219, Table 9.6). -/
def heardIn (now stamp : W64) (payload : List Byte) (x : Member) : Member :=
  { x with
    lastHb := some now, mode := BitVec.ofNat 4 (beAt payload 1 1)
    offset := (BitVec.ofNat 32 (beAt payload 4 4)).toInt, hbStamp := stamp }

/-- The cascade configuration digest (R219). -/
def casDigest (s : State) : BitVec 256 := shaNum (Config.cascadeSection s.active.image)

/-- Own FW_CLASS and FW_MINOR (Table 9.6). -/
def fwClass (s : State) : Nat := fld s.gable.fwVer 24 8

/-- Own FW_MINOR. -/
def fwMinor (s : State) : Nat := fld s.gable.fwVer 16 8

/-- An agreement telegram of member `m` received by a channel (R222, Table 9.7). -/
def agreedIn (s : State) (m : Nat) (stamp : W64) (payload : List Byte) (x : Member) : Member :=
  let cfgOk := ofBe (payload.take 32) == (casDigest s).toNat
  let fwOk := beAt payload 32 2 == fwClass s
  let idOk := identIs s.active.image m (beAt payload 36 8) (beAt payload 44 4)
  { x with
    lastAgree := some s.tb.count, agreeStamp := stamp, cfgOk := cfgOk, fwOk := fwOk, identOk := idOk
    skew := beAt payload 34 2 != fwMinor s
    cfgRun := if cfgOk then x.cfgRun + 1 else 0
    fwRun := if fwOk then x.fwRun + 1 else 0
    idRun := if idOk then x.idRun + 1 else 0 }

/-- Does this member send cascade telegrams: from SELFTEST onwards, while ticks run (R219)? -/
def casSends (s : State) : Bool := member s.active.image && s.tick.running && !(s.mode ∈ [Mode.off, .backup, .boot, .lull]) && !s.resetHeld

/-- Does a running channel send its telegrams at safe values, with LOCKOUT set: in LOCKOUT, in a mismatch tick, and once a class H fault
has been raised (R63)? -/
def lockNow (c : Chan) (s : State) : Bool := s.mode == .lockout || c.hMis || anyClassH s || s.hPend.isSome

/-- FLAGS of a telegram sent now (R210, R63). -/
def flagsNow (c : Chan) (s : State) : Nat :=
  cttFlags (lockNow c s) (s.mode.runs && !lockNow c s) (s.mode == .lee && !lockNow c s)

/-- A cascade telegram on both networks, to the multicast address CAS.DST: the Ridge pair builds the NETA copy, the Thatch fabric the NETB
copy (R210, R219). -/
def casSend (typ id : Nat) (seq : W32) (payload : List Byte) (s : State) : State :=
  let cfg := s.active.image
  let frame (p : NetPort) (c : Chan) : List Byte :=
    ethFrame p (lookN cfg .casDst 0 0 0) (lookN cfg .netEtCtt 0 0 0x88B5)
      (cttBytes typ (flagsNow c s) id seq.toNat (syncAt s s.tick.boundary) payload) s
  let t := if s.ridge.frozen then s else sendOn .a (frame .a s.ridge) s
  if s.thatch.frozen then t else sendOn .b (frame .b s.thatch) t

/-- The AGREE byte of a heartbeat (Table 9.6). -/
def agreeByte (s : State) : Nat :=
  let l := casOthers s
  bit (l.all (fun m => (mem s m).cfgOk)) 7 + bit (l.all (fun m => (mem s m).fwOk)) 6 + bit (l.all (fun m => (mem s m).identOk)) 5
    + bit (aligned s && decide (s.ptp.offset.natAbs ≤ 5000)) 4

/-- Payload of a heartbeat (Table 9.6). -/
def hbPayload (s : State) : List Byte :=
  be 1 (casSelf s.active.image) ++ be 1 s.mode.code ++ be 1 (leaderNo s) ++ be 1 (agreeByte s)
    ++ be 4 (BitVec.ofInt 32 (satInt 32 s.ptp.offset)).toNat

/-- CAS_HB_SEND: once every CAS.CYCLE (R219). -/
def execCasHbSend (s : State) : Host.Outcome State Fault Refusal :=
  let cfg := s.active.image
  if casSends s && due s (s.cas.hbSent.toNat + casCycle cfg) then
    let t := casSend 2 (lookN cfg .casId 0 0 0 * 256 + casSelf cfg) s.cas.hbSeq (hbPayload s) s
    .next { t with cas := { t.cas with hbSeq := t.cas.hbSeq + 1, hbSent := t.tb.count } }
  else .next s

/-- Payload of an agreement telegram (Table 9.6). -/
def agreePayload (s : State) : List Byte :=
  be 32 (casDigest s).toNat ++ be 2 (fwClass s) ++ be 2 (fwMinor s) ++ be 8 (slateSerial s) ++ be 4 (slateSeed s)
    ++ be 4 s.cas.round.toNat ++ be 4 0

/-- CAS_AGREE_SEND: once every 100 ms; the round counts when every present member agrees (R219, R222). -/
def execCasAgreeSend (s : State) : Host.Outcome State Fault Refusal :=
  let cfg := s.active.image
  if casSends s && due s (s.cas.agreeSent.toNat + 100 * tMs) then
    let t := casSend 3 (lookN cfg .casId 0 0 0 * 256 + 128 + casSelf cfg) s.cas.agreeSeq (agreePayload s) s
    .next { t with cas := { t.cas with
      agreeSeq := t.cas.agreeSeq + 1, agreeSent := t.tb.count, round := t.cas.round + 1
      selfRounds := if casRoundGood s then t.cas.selfRounds + 1 else 0 } }
  else .next s

/-- CAS_MEMBER_ABSENT (R220). -/
def execCasMemberAbsent (m : Fin 8) (s : State) : Host.Outcome State Fault Refusal :=
  if casSends s && casOther s.active.image m.val && !casPresent s m.val then .next (casStep (casFaults m.val s)) else .next s

/-! ## PTP (R204, R205) -/

/-- The port that PTP uses now. -/
def ptpPortNow (s : State) : NetPort := if s.ptp.onB then .b else .a

/-- Sync interval in timebase units: 2^LOG_SYNC seconds. -/
def syncInterval (cfg : Config.Image) : Nat := tSec / 2 ^ (-(look cfg .ptpLogSync 0 0 (-5))).toNat

/-- Does the module serve time: MASTER, or the cascade leader? -/
def serves1588 (s : State) : Bool := ptpRoleOf s.active.image == 2 || (ptpRoleOf s.active.image == 3 && isLeader s)

/-- Does the module follow a master? -/
def follows1588 (s : State) : Bool := ptpRoleOf s.active.image == 1 || (ptpRoleOf s.active.image == 3 && !isLeader s)

/-- Does PTP run on this port? -/
def ptpOn (port : NetPort) (s : State) : Bool := port == ptpPortNow s && ptpRoleOf s.active.image != 0 && s.mode != .boot


/-- The EUI-64 of a MAC address (R221). -/
def eui64 (mac : BitVec 48) : W64 := BitVec.ofNat 64 (mac.toNat / 2 ^ 24 * 2 ^ 40 + 0xFFFE * 2 ^ 24 + mac.toNat % 2 ^ 24)

/-- The master whose Sync messages the module follows: the best one heard of, or the clock that it takes as leader, known by the MAC
address that its cascade telegrams come from on the port that PTP uses (R204, R221; DEDUCED, log entry 73). -/
def masterNow (s : State) : Option W64 :=
  if ptpRoleOf s.active.image = 3 then
    match s.cas.leader with
    | some m => (if s.ptp.onB then (mem s m.val).macB else (mem s m.val).macA).map eui64
    | none => none
  else s.ptp.best.map Announce.identity

/-- The clock identity of a port (R221). -/
def clockId (port : NetPort) (s : State) : W64 := eui64 (BitVec.ofNat 48 (ofBe (macOf port s)))

/-- A PTP header (IEEE 1588-2019): message type, length, domain, flags, sequence, source port, interval. -/
def ptpHeader (typ len flags : Nat) (seq : BitVec 16) (interval : Int) (s : State) : List Byte :=
  be 1 typ ++ be 1 2 ++ be 2 len ++ be 1 (lookN s.active.image .ptpDomain 0 0 0) ++ be 1 0 ++ be 2 flags ++ be 8 0 ++ be 4 0
    ++ be 8 (clockId (ptpPortNow s) s).toNat ++ be 2 1 ++ be 2 seq.toNat ++ be 1 0 ++ be 1 (BitVec.ofInt 8 interval).toNat

/-- A synchronised time in 10 ns units as a PTP timestamp: 6 bytes of seconds, 4 bytes of nanoseconds. -/
def ptpTime (t : W64) : List Byte := be 6 (t.toNat / tSec) ++ be 4 (t.toNat % tSec * 10)

/-- A PTP message in its frame to the group address, over Layer 2 or over UDP, an event message on port 319, a general one on 320 (R202,
R204). -/
def ptpFrame (p : NetPort) (event : Bool) (m : List Byte) (s : State) : List Byte :=
  let port := if event then 319 else 320
  if lookN s.active.image .ptpTransport 0 0 0 = 0 then ethFrame p 0x011B19000000 0x88F7 m s
  else udpFrame p 0x01005E000181 0xE0000181 port port m s

/-- Send a PTP message. -/
def ptpSend (p : NetPort) (event : Bool) (m : List Byte) (s : State) : State := sendOn p (ptpFrame p event m s) s

/-- PTP_SYNC_SEND: two-step Sync and its Follow_Up, each Sync interval (R204). -/
def execPtpSyncSend (s : State) : Host.Outcome State Fault Refusal :=
  let cfg := s.active.image
  let p := ptpPortNow s
  if serves1588 s && ptpOn p s && canSend p s && due s (s.ptp.syncSent.toNat + syncInterval cfg) then
    let i := look cfg .ptpLogSync 0 0 (-5)
    let sync := ptpHeader 0 44 0x0200 s.ptp.syncSeq i s ++ List.replicate 10 0
    let fup := ptpHeader 8 44 0 s.ptp.syncSeq i s ++ ptpTime (syncAt s s.tb.count)
    let t := ptpSend p false fup (ptpSend p true sync s)
    .next { t with ptp := { t.ptp with syncSeq := t.ptp.syncSeq + 1, syncSent := t.tb.count } }
  else .next s

/-- PTP_ANNOUNCE_SEND: every 1 s, marked as an arbitrary timescale (R204, R205); the data set values are those of IEEE 1588's
default profile. -/
def execPtpAnnounceSend (s : State) : Host.Outcome State Fault Refusal :=
  let p := ptpPortNow s
  if serves1588 s && ptpOn p s && canSend p s && due s (s.ptp.annSent.toNat + tSec) then
    let m := ptpHeader 11 64 0 s.ptp.annSeq 0 s ++ ptpTime (syncAt s s.tb.count) ++ be 2 0 ++ be 1 0 ++ be 1 128 ++ be 1 248
      ++ be 1 0xFE ++ be 2 0xFFFF ++ be 1 128 ++ be 8 (clockId p s).toNat ++ be 2 0 ++ be 1 0xA0
    let t := ptpSend p false m s
    .next { t with ptp := { t.ptp with annSeq := t.ptp.annSeq + 1, annSent := t.tb.count } }
  else .next s

/-- The servo's state after a measured offset (R205; log entry 76). -/
def servoState (st : BitVec 2) (good : Nat) (offset : Int) : BitVec 2 :=
  if 50000 < offset.natAbs then (if st = 1 then 1 else 0)
  else if 8 ≤ good then 2
  else if st = 3 then 1 else st

/-- Seconds from the PTP epoch, 1970-01-01, to that of the RTC, 2000-01-01 (R322). -/
abbrev rtcEpoch : Nat := 946684800

/-- The RTC set from a PTP time of more than 1 s difference, converted to UTC and to the epoch of the RTC (R322). -/
def rtcSet (s : State) : State :=
  match s.ptp.best with
  | none => s
  | some a =>
    let now := (syncAt s s.tb.count).toNat - (rtcEpoch + a.utcOffset) * tSec
    if s.gable.up && s.ptp.state = 2 && a.ptpScale && follows1588 s && tSec < max now (rtcUnits s.bk) - min now (rtcUnits s.bk) then
      let k := now * 32768 / tSec
      clearFault fcBkLost 0 { s with bk := { s.bk with
        rtcSec := BitVec.ofNat 32 (k / 32768), rtcSub := BitVec.ofNat 15 k, rtcValid := true } }
    else s

/-- TIME_WARN above 5 µs while LOCKED, until 8 offsets in a row are within it (R205). -/
def warnFault (was : BitVec 2) (offset : Int) (s : State) : State :=
  if was = 2 && 5000 < offset.natAbs then raise fcTimeWarn 0 s
  else if 8 ≤ s.ptp.warnGood then clearFault fcTimeWarn 0 s else s

/-- Delay_Req, by which a follower asks for the path delay after a Sync. -/
def delayReq (s : State) : List Byte := ptpHeader 1 44 0 s.ptp.delaySeq 0x7F s ++ List.replicate 10 0

/-- A best master of which no Announce message has come for three intervals is dropped (IEEE 1588's announceReceiptTimeout: PRESUMED, log
entry 173). -/
def dropSilent (s : State) : State :=
  if s.ptp.best.isSome && due s (s.ptp.annHeard.toNat + 3 * tSec) then { s with ptp := { s.ptp with best := none } } else s

/-- The servo after a measured offset `o`: state, counts, time set right, the rate corrected (R205; log entry 160). -/
def servoStep (o : Int) (t1 t2 : Int) (s : State) : Ptp :=
  let p := rebase s
  let small := decide (o.natAbs ≤ 5000)
  let good := if small then s.ptp.good + 1 else 0
  { p with
    state := servoState s.ptp.state good o, offset := o, good := good
    warnGood := if small then s.ptp.warnGood + 1 else 0
    const := p.const - BitVec.ofInt 64 (divW 64 o 10)
    freq := Config.servoFreq s.ptp.freq o (s.tb.count.toNat - s.ptp.lastSync.toNat), lastT1 := t1, lastT2 := t2 - o }

/-- PTP_SYNC_RECEIVE: the servo measures its offset and follows its master; times in ns of the synchronised time (R205). -/
def execPtpSyncReceive (port : NetPort) (master : W64) (t1 t2 : Int) (s0 : State) : Host.Outcome State Fault Refusal :=
  let s := dropSilent s0
  if !(follows1588 s && ptpOn port s && canReceive port s && masterNow s == some master) then .next s
  else
    let o := t2 - t1 - s.ptp.delay
    let t := ptpSend port true (delayReq s) (rtcSet (timeFaults (warnFault s.ptp.state o { s with ptp := servoStep o t1 t2 s })))
    .next { t with ptp := { t.ptp with delaySeq := t.ptp.delaySeq + 1 } }

/-- Has PTP not moved from PTP.PORT yet (R204)? -/
def onPtpPort (s : State) : Bool := s.ptp.onB == (lookN s.active.image .ptpPort 0 0 0 == 1)

/-- PTP_SYNC_TIMEOUT: 4 Sync intervals without a Sync; PTP moves from PTP.PORT to the other port, until the next restart, and the change
is logged; the servo runs in HOLDOVER (R204, R205). HOLDOVER begins here, out of ACQUIRING as well, and ends in UNLOCKED after four more
intervals (DESIGN CHOICE, log entry 195). -/
def execPtpSyncTimeout (s0 : State) : Host.Outcome State Fault Refusal :=
  let s := dropSilent s0
  if follows1588 s && ptpOn (ptpPortNow s) s && s.mode != .lull && due s (s.ptp.lastSync.toNat + 4 * syncInterval s.active.image) then
    let t := { s with ptp := { rebase s with good := 0 } }
    let u := if onPtpPort t then logEvent 0xE00B (be 1 (if t.ptp.onB then 0 else 1)) { t with ptp := { t.ptp with onB := !t.ptp.onB } }
      else t
    .next (if u.ptp.state = 1 || u.ptp.state = 2 then ptpHoldover u else u)
  else .next s

/-- HOLDOVER_EXPIRY: 4 Sync intervals in HOLDOVER without a Sync; UNLOCKED, TIME_STALE (R205). -/
def execHoldoverExpiry (s : State) : Host.Outcome State Fault Refusal :=
  if s.ptp.state = 3 && s.mode != .lull && due s (s.ptp.holdAt.toNat + 4 * syncInterval s.active.image) then
    .next (timeFaults { s with ptp := { s.ptp with state := 0 } })
  else .next s

/-- DELAY_REQUEST_RECEIVE: a server answers a request, under the request's sequence number, with its receive time; a follower takes the
path delay from the answer to its own last request (R204). -/
def execDelayRequestReceive (port : NetPort) (isRequest : Bool) (requester : W64) (t3 t4 : Int) (s : State)
    (seq : BitVec 16 := 0) : Host.Outcome State Fault Refusal :=
  if !(ptpOn port s && canReceive port s) then .next s
  else if isRequest then
    if serves1588 s then
      .next (ptpSend port false (ptpHeader 9 54 0 seq 0x7F s ++ ptpTime (BitVec.ofInt 64 (divW 64 t4 10))
        ++ be 8 requester.toNat ++ be 2 1) s)
    else .next s
  else if follows1588 s && requester == clockId port s && seq + 1 == s.ptp.delaySeq then
    .next { s with ptp := { s.ptp with delay := divW 64 ((s.ptp.lastT2 - s.ptp.lastT1) + (t4 - t3)) 2 } }
  else .next s

/-- The key of the data set comparison (IEEE 1588): the lower one is the better clock. -/
def announceKey (a : Announce) : Nat :=
  ofBe (be 1 a.prio1.toNat ++ be 1 a.clockClass.toNat ++ be 1 a.accuracy.toNat ++ be 2 a.variance.toNat ++ be 1 a.prio2.toNat
    ++ be 8 a.identity.toNat)

/-- ANNOUNCE_RECEIVE: the best master heard of, and its timescale (R204, R322); a change of master starts the servo afresh. -/
def execAnnounceReceive (port : NetPort) (a : Announce) (s0 : State) : Host.Outcome State Fault Refusal :=
  let s := dropSilent s0
  if !(follows1588 s && ptpOn port s && canReceive port s) then .next s
  else
    let take (t : State) : State := { t with ptp := { t.ptp with best := some a, annHeard := t.tb.count } }
    match s.ptp.best with
    | none => .next (if ptpRoleOf s.active.image = 3 && masterNow s != some a.identity then s else take s)
    | some b =>
      if a.identity = b.identity then .next (take s)
      else if ptpRoleOf s.active.image = 3 then .next (if masterNow s == some a.identity then take s else s)
      else if announceKey a < announceKey b then
        .next (take { s with ptp := { s.ptp with state := if s.ptp.state = 0 then 0 else 1, good := 0 } })
      else .next s

end Sys2Proof.Machine
end

