-- ==== Sys2Proof/Machine/Conns.lean ====
section
/-! DEFINITION. Connections: received copies, pairing, the connection states, CSF, and phase 3 of a tick with its produced
telegrams and the process image mirror (R63, R207 to R218, R285, R343, R345; Tables 9.2 to 9.5, 15.4, 15.6). -/

namespace Sys2Proof.Machine

/-! ## Copies (R211) -/

/-- CONN_ID of a telegram: bytes 4 to 7 in CTT and in CSF. -/
def tgId (b : List Byte) : Nat := beAt b 4 4

/-- SEQ of a CTT telegram. -/
def tgSeq (b : List Byte) : Nat := beAt b 8 4

/-- STAMP of a CTT telegram. -/
def tgStamp (b : List Byte) : W64 := BitVec.ofNat 64 (beAt b 12 8)

/-- FLAGS of a CTT telegram. -/
def tgFlags (b : List Byte) : Byte := b.getD 1 0

/-- LEN of a CTT telegram. -/
def tgLen (b : List Byte) : Nat := beAt b 2 2

/-- The payload of a CTT telegram. -/
def tgPayload (b : List Byte) : List Byte := (b.drop 20).take (tgLen b)

/-- Does the CRC of R209, over bytes 0 to 19 + LEN, verify with this identity in a telegram of that length (R236)? -/
def cttOk (id : Nat) (b : List Byte) : Bool :=
  b.length == 24 + tgLen b && beAt b (20 + tgLen b) 4 == cttCrc id (tgSeq b) (b.take (20 + tgLen b))

/-- Checks 1 and 2 of R211: CRC, version and type, LEN, reserved bits. -/
def cttSound (typ len id : Nat) (b : List Byte) : Bool :=
  cttOk id b && beAt b 0 1 == 16 + typ && tgLen b == len && b.length == 24 + len && fld (tgFlags b) 0 5 == 0

/-- Check 3: the age of a copy, and TIME_STALE (R211). -/
def copyStale (ageUs : Nat) (timeStale : Bool) (x : Copy) : Bool :=
  let a : Int := x.rx.toNat - (tgStamp x.bytes).toNat
  timeStale || decide (a < -(100 * tUs : Int)) || decide (((ageUs + 100) * tUs : Int) < a)

/-- Outcomes of a telegram (R212). -/
inductive Outcome where
  | paired (x : Copy)
  | single (x : Copy)
  | disagree (stamp : W64)
  | stale (stamp : W64)
  deriving DecidableEq, Repr

/-- The copy of an accepted telegram. -/
def accepted (o : Outcome) : Option Copy :=
  match o with
  | .paired x => some x
  | .single x => some x
  | _ => none

/-- STAMP of a telegram. -/
def stampOf (o : Outcome) : W64 :=
  match o with
  | .paired x => tgStamp x.bytes
  | .single x => tgStamp x.bytes
  | .disagree t => t
  | .stale t => t

/-- Insert a telegram in ascending STAMP. -/
def insertOutcome (o : Outcome) (l : List Outcome) : List Outcome :=
  match l with
  | [] => [o]
  | x :: t => if (stampOf o).toNat < (stampOf x).toNat then o :: x :: t else x :: insertOutcome o t

/-- The outcome of the copies that carry one SEQ, none while the partner may still come. -/
def judge (now wUnits : Nat) (stale : Copy → Bool) (l : List Copy) : Option Outcome :=
  let good := l.filter (fun x => !stale x)
  match good.find? (fun x => x.port == .a), good.find? (fun x => x.port == .b) with
  | some x, some y => if x.bytes = y.bytes then some (.paired x) else some (.disagree (tgStamp x.bytes))
  | some x, none => if x.rx.toNat + wUnits ≤ now then some (.single x) else none
  | none, some y => if y.rx.toNat + wUnits ≤ now then some (.single y) else none
  | none, none => l.head?.map (fun x => .stale (tgStamp x.bytes))

/-- The SEQ values of copies, each once. -/
def seqsOf (l : List Copy) : List Nat := (l.map (fun x => tgSeq x.bytes)).eraseDups

/-- Every telegram that ends now, in ascending STAMP, and the copies that are held. -/
def judgeAll (now wUnits : Nat) (stale : Copy → Bool) (l : List Copy) : List Outcome × List Copy :=
  let group (q : Nat) : List Copy := l.filter (fun x => tgSeq x.bytes == q)
  ((seqsOf l).foldl (fun acc q => match judge now wUnits stale (group q) with
      | some o => insertOutcome o acc
      | none => acc) [],
   (seqsOf l).flatMap (fun q => if (judge now wUnits stale (group q)).isNone then group q else []))

/-! ## The states of a consuming connection (R213 to R215, Table 9.3) -/

/-- One count more, up to the largest 32-bit value. -/
def countUp (n : Nat) : Nat := min max32 (n + 1)

/-- A connection in START, VALID, SINGLE, GAP, EXPIRED. -/
abbrev cnStart : Nat := 0

/-- VALID. -/
abbrev cnValid : Nat := 1

/-- SINGLE. -/
abbrev cnSingle : Nat := 2

/-- GAP. -/
abbrev cnGap : Nat := 3

/-- EXPIRED. -/
abbrev cnExpired : Nat := 4

/-- A connection leaves VALID or SINGLE for SINGLE or GAP: a stopped LEE_COUNT starts from 0, and the run of PAIRED outcomes in VALID ends
(R214). -/
def leave (st : Nat) (n : Conn) : Conn :=
  if n.st = cnValid && !n.leeRun then { n with st := st, leeRun := true, lee := 0, paired := 0 } else { n with st := st, paired := 0 }

/-- LEE_COUNT in one phase 3: a running count rises, also in VALID, and stands still in EXPIRED (R214). -/
def leeCount (n : Conn) : Conn := if n.leeRun && n.st != cnExpired then { n with lee := countUp n.lee } else n

/-- Lee expiry in SINGLE or GAP (R214). -/
def leeExpired (cfg : Config.Image) (k : Nat) (n : Conn) : Bool :=
  (n.st == cnSingle || n.st == cnGap) && n.leeRun && cfgLee cfg k ≤ n.lee

/-- VALID for 10 consecutive PAIRED outcomes: the count returns to 0 and stops (R214). -/
def leeStop (n : Conn) : Conn := if n.st = cnValid && 10 ≤ n.paired then { n with lee := 0, leeRun := false } else n

/-- The state after the newest telegram of a phase 3, with the fault that it raises (Table 9.3). -/
def outcomeState (o : Outcome) (n : Conn) : Conn × List (BitVec 16) :=
  match n.st, o with
  | 0, .paired _ => ({ n with st := cnValid }, [])
  | 0, _ => (n, [])
  | 4, .paired _ => if 10 ≤ n.paired then ({ n with st := cnValid, lee := 0, leeRun := false }, []) else (n, [])
  | 4, _ => (n, [])
  | _, .paired _ => (leeStop { n with st := cnValid }, [])
  | 2, .single _ => (n, [])
  | _, .single _ => (leave cnSingle n, [fcConnSingle])
  | 3, _ => (n, [])
  | _, .disagree _ => (leave cnGap n, [fcConnDisagree])
  | _, .stale _ => (leave cnGap n, [fcConnStale])

/-- What an outcome does to the counts, and to the data that the connection delivers: a telegram no newer than a copy with LOCKOUT leaves
the signals 0 (R212, R215, Table 9.10). -/
def outcomeData (n : Conn) (o : Outcome) : Conn :=
  let m := { n with
    paired := match o with
      | .paired _ => n.paired + 1
      | _ => 0
    singles := match o with
      | .single _ => n.singles + 1
      | _ => n.singles
    discards := match o with
      | .disagree _ => n.discards + 2
      | _ => n.discards }
  match accepted o with
  | some x =>
    let f := tgFlags x.bytes
    { m with
      stamp := tgStamp x.bytes, since := 0, fresh := true, payload := tgPayload x.bytes
      zeroed := f.getLsbD 7 || !f.getLsbD 6 || decide ((tgStamp x.bytes).toNat ≤ n.lockStamp.toNat) }
  | none => m

/-- A timeout: no acceptance for CONN.TIMEOUT (R213). -/
def timedOut (cfg : Config.Image) (k : Nat) (n : Conn) : Bool := (n.st == cnValid || n.st == cnSingle) && cfgTimeout cfg k ≤ n.since

/-- Still in START after 3 × CONN.TIMEOUT in RUN (Table 9.3). -/
def notStarted (cfg : Config.Image) (k : Nat) (n : Conn) : Bool := n.st == cnStart && 3 * cfgTimeout cfg k ≤ n.startFor

/-- The time in START since the entry into RUN. -/
def startCount (runs : Bool) (n : Conn) : Conn :=
  { n with startFor := if runs && n.st == cnStart then countUp n.startFor else 0 }

/-- What a phase 3 takes besides the copies: synchronised time, TIME_STALE, RUN or LEE. -/
structure Phase3 where
  now : Nat
  stale : Bool
  runs : Bool
  deriving DecidableEq, Repr

/-- The copies of a CTT connection in a buffer that pass checks 1 and 2 (R211). -/
def soundCopies (cfg : Config.Image) (k : Nat) (buf : List Copy) : List Copy :=
  buf.filter (fun x => cttSound 1 (cfgLen cfg k) (cfgId cfg k) x.bytes)

/-- The new copies of a CTT connection, and how many are not: a repeat, or a second copy from one port, is ignored and counted (R211); so
is a copy that is both stale and not later, by its STAMP, which does not make the connection stale (DESIGN CHOICE, log entry 196). -/
def newCopies (cfg : Config.Image) (k : Nat) (buf : List Copy) (n : Conn) : List Copy × Nat :=
  let own := soundCopies cfg k buf
  let good := own.filter (fun x => decide (n.stamp.toNat < (tgStamp x.bytes).toNat))
  let once := good.foldl (fun acc x =>
    if (n.held ++ acc).any (fun y => y.port == x.port && tgSeq y.bytes == tgSeq x.bytes) then acc else acc ++ [x]) []
  let bad := (buf.filter (fun x => tgId x.bytes == cfgId cfg k && !cttSound 1 (cfgLen cfg k) (cfgId cfg k) x.bytes)).length
  (once, own.length - once.length + bad)

/-- The copies with LOCKOUT that pass checks 1 to 3, which take effect at once (R215). -/
def lockCopies (cfg : Config.Image) (q : Phase3) (k : Nat) (buf : List Copy) : List Copy :=
  (soundCopies cfg k buf).filter (fun x => (tgFlags x.bytes).getLsbD 7 && !copyStale (cfgAge cfg k) q.stale x)

/-- The newest STAMP of copies, at least `t`. -/
def newestStamp (t : W64) (l : List Copy) : W64 :=
  l.foldl (fun a x => if a.toNat < (tgStamp x.bytes).toNat then tgStamp x.bytes else a) t

/-- The faults of a phase 3, with CONN_NOT_STARTED where the connection still stands in START (Table 9.3). -/
def withNotStarted (cfg : Config.Image) (k : Nat) (r : Conn × List (BitVec 16)) : Conn × List (BitVec 16) :=
  (r.1, r.2 ++ (if notStarted cfg k r.1 then [fcConnNotStarted] else []))

/-- The counts of a CTT connection in a phase 3, before its telegrams (R213, R214). -/
def cttCounts (q : Phase3) (n : Conn) : Conn := startCount q.runs (leeCount { n with fresh := false, since := countUp n.since })

/-- A CTT connection in one phase 3, with the faults that it raises: Lee expiry, else the newest telegram, else a timeout (R211 to
R215). -/
def cttPhase (cfg : Config.Image) (q : Phase3) (k : Nat) (buf : List Copy) (n : Conn) : Conn × List (BitVec 16) :=
  let got := newCopies cfg k buf n
  let lock := lockCopies cfg q k buf
  let wait := n.held.filter (fun x => n.stamp.toNat < (tgStamp x.bytes).toNat)
  let res := judgeAll q.now (cfgW cfg k * cfgT cfg * tUs) (copyStale (cfgAge cfg k) q.stale) (wait ++ got.1)
  let n0 := { cttCounts q n with
    held := res.2, lockStamp := newestStamp n.lockStamp lock, discards := n.discards + got.2 + (n.held.length - wait.length)
    copyA := got.1.any (fun x => x.port == .a), copyB := got.1.any (fun x => x.port == .b) }
  let m := res.1.foldl outcomeData n0
  let d := if lock.isEmpty then m else { m with zeroed := true }
  if leeExpired cfg k d then ({ d with st := cnExpired, paired := 0 }, [fcConnLeeExpired])
  else
    withNotStarted cfg k (match res.1.getLast? with
      | some o => outcomeState o d
      | none => if timedOut cfg k d then (leave cnGap d, [fcConnTimeout]) else (d, []))

/-! ## CSF (R217, R218) -/

/-- CSF.WDG in ticks. -/
def cfgWdg (cfg : Config.Image) (k : Nat) : Nat := ticksOf (cfgT cfg) (lookN cfg .csfWdg k 0 100000)

/-- CSF.PORT of a connection. -/
def csfPortOf (cfg : Config.Image) (k : Nat) : NetPort := if lookN cfg .csfPort k 0 0 = 1 then .b else .a

/-- CRC, VER and LEN of a CSF telegram (R218). -/
def csfSound (len id : Nat) (b : List Byte) : Bool :=
  b.length == 14 + len && beAt b (10 + len) 4 == csfCrc id (b.take (10 + len)) && beAt b 0 1 == 0x21 && beAt b 8 2 == len

/-- One CSF copy: accepted, ignored as a repeat, or discarded and counted (R218). -/
def csfCopy (x : Copy) (n : Conn) : Conn :=
  let q := BitVec.ofNat 16 (beAt x.bytes 2 2)
  let d := (q - n.seq).toNat
  let free := n.st == cnStart || n.st == cnGap
  if free || (1 ≤ d && d ≤ 255) then
    let m := { n with
      seq := q, since := 0, fresh := true, payload := (x.bytes.drop 10).take (beAt x.bytes 8 2)
      zeroed := (x.bytes.getD 1 0).getLsbD 7, paired := n.paired + 1 }
    if n.st = cnExpired then (if 10 ≤ m.paired then { m with st := cnValid, lee := 0, leeRun := false } else m)
    else leeStop { m with st := cnValid }
  else if d = 0 then n
  else { n with discards := n.discards + 1 }

/-- A CSF connection in one phase 3; Lee expiry decides the state, the telegrams the data and the SEQ reference (R213, R218). -/
def csfPhase (cfg : Config.Image) (q : Phase3) (k : Nat) (buf : List Copy) (n : Conn) : Conn × List (BitVec 16) :=
  let port := csfPortOf cfg k
  let own := buf.filter (fun x => x.port == port && csfSound (cfgLen cfg k) (cfgId cfg k) x.bytes)
  let n0 := startCount q.runs (leeCount { n with
    fresh := false, since := countUp n.since, copyA := !own.isEmpty && port == .a, copyB := !own.isEmpty && port == .b })
  let m := own.foldl (fun a x => csfCopy x a) n0
  if leeExpired cfg k n0 then ({ m with st := cnExpired, paired := 0, lee := n0.lee, leeRun := n0.leeRun }, [fcConnLeeExpired])
  else withNotStarted cfg k (if m.st = cnValid && cfgWdg cfg k ≤ m.since then (leave cnGap m, [fcCsfWdg]) else (m, []))

/-- A consuming connection in one phase 3. -/
def connPhase (cfg : Config.Image) (q : Phase3) (k : Nat) (buf : List Copy) (n : Conn) : Conn × List (BitVec 16) :=
  if isCsf cfg k then csfPhase cfg q k buf n else cttPhase cfg q k buf n

/-! ## Faults of the connections (Table 9.8) -/

/-- Faults of a connection that end with its state. -/
def connClears (k : Nat) (n : Conn) (s : State) : State :=
  let t := if n.st = cnValid then clearFault fcConnSingle k (clearFault fcConnLeeExpired k (clearFault fcConnNotStarted k s)) else s
  let u := if n.st = cnValid || n.st = cnSingle then
      clearFault fcConnDisagree k (clearFault fcConnStale k (clearFault fcConnTimeout k t)) else t
  if n.since = 0 then clearFault fcCsfWdg k u else u

/-- Raise and clear the faults of a connection. -/
def connSync (k : Nat) (r : Conn × List (BitVec 16)) (s : State) : State :=
  r.2.foldl (fun t f => raise f k t) (connClears k r.1 s)

/-! ## Phase 3 (R23, R63, R210 to R218) -/

/-- Is phase 3 of the running tick due: T − 50 µs (Table 2.1)? -/
def phase3Due (s : State) : Bool :=
  s.tick.running && !s.tick.phase3 && !s.resetHeld && !(s.mode ∈ [Mode.off, .backup, .boot, .lull])
    && due s (s.tick.boundary.toNat + tickUnits s.tick.sel.toNat - 50 * tUs)

/-- What a phase 3 takes from the state. -/
def phase3Of (s : State) : Phase3 :=
  { now := (syncAt s s.tb.count).toNat, stale := hasFault s fcTimeStale 0, runs := s.mode.runs }

/-- Is a copy one of the cascade's (R219)? -/
def casCopy (cfg : Config.Image) (x : Copy) : Bool :=
  member cfg && (tgId x.bytes) / 256 == lookN cfg .casId 0 0 0

/-- Faults of every consuming connection, by the view that stands for both channels. -/
def phase3Faults (cfg : Config.Image) (q : Phase3) (s : State) : State :=
  let c := chanOf (viewLane s) s
  if c.frozen then s
  else (consumers cfg).foldl (fun t k => connSync k (connPhase cfg q k c.buf (vget c.conn k Conn.reset)) t) s

/-- Cascade copies of one kind from member `m` that pass the checks of R211. -/
def casCopies (cfg : Config.Image) (id typ len : Nat) (last : W64) (buf : List Copy) : List Copy :=
  buf.filter (fun x => cttSound typ len (lookN cfg .casId 0 0 0 * 256 + id) x.bytes && last.toNat < (tgStamp x.bytes).toNat)

/-- Telegrams of one kind from one member, with what is held (R219). -/
def casJudge (cfg : Config.Image) (q : Phase3) (id typ len : Nat) (last : W64) (buf : List Copy) : List Outcome × List Copy :=
  judgeAll q.now (casCycle cfg) (copyStale (lookN cfg .casAgeMax 0 0 (casCycleUs cfg)) q.stale)
    (casCopies cfg id typ len last buf)

/-- The cascade copies of a channel that wait for their partners. -/
def casHeld (cfg : Config.Image) (q : Phase3) (c : Chan) : List Copy :=
  (List.range 8).flatMap (fun m =>
    if !casOther cfg m then []
    else (casJudge cfg q m 2 8 (memIn c m).hbStamp c.buf).2 ++ (casJudge cfg q (128 + m) 3 56 (memIn c m).agreeStamp c.buf).2)

/-- The MAC address that a sound heartbeat of a member came from on a port, if one has come (R221). -/
def macHeard (cfg : Config.Image) (m : Nat) (p : NetPort) (buf : List Copy) (old : Option (BitVec 48)) : Option (BitVec 48) :=
  match (casCopies cfg m 2 8 0 buf).filter (fun x => x.port == p) with
  | [] => old
  | x :: _ => some x.src

/-- A member after the cascade telegrams that a channel takes in a phase 3: PAIRED and SINGLE ones count as received (R219). -/
def casTake (cfg : Config.Image) (q : Phase3) (s : State) (c : Chan) (m : Nat) : Member :=
  let x := memIn c m
  if !casOther cfg m then x
  else
    let hb := (casJudge cfg q m 2 8 x.hbStamp c.buf).1.filterMap accepted
    let ag := (casJudge cfg q (128 + m) 3 56 x.agreeStamp c.buf).1.filterMap accepted
    let y := hb.foldl (fun z o => heardIn s.tb.count (tgStamp o.bytes) (tgPayload o.bytes) z) x
    let w := ag.foldl (fun z o => agreedIn s m (tgStamp o.bytes) (tgPayload o.bytes) z) y
    { w with macA := macHeard cfg m .a c.buf x.macA, macB := macHeard cfg m .b c.buf x.macB }

/-- A channel takes the telegrams received since the last phase 3, those of the cascade by the configuration `cas`; cascade copies whose
partner may still come stay. -/
def phase3Chan (cfg cas : Config.Image) (q : Phase3) (s : State) (c : Chan) : Chan :=
  if c.frozen then c
  else
    { c with
      buf := casHeld cas q c, mem := vtab 8 (casTake cas q s c)
      conn := vtab 128 (fun k =>
        let n := vget c.conn k Conn.reset
        if consumes cfg k then (connPhase cfg q k c.buf n).1 else n) }

/-- Does a channel hand telegrams over in this tick: it runs, and has evaluated, or has raised class H (R63, R210)? -/
def handsOver (s : State) (c : Chan) : Bool := !c.frozen && s.mode.evaluates && (c.evaluated || lockNow c s)

/-- The payloads that a channel hands over: those of its evaluation; without one, safe values on every connection that produces in this
tick (R63). -/
def payloadsOf (cfg : Config.Image) (s : State) (c : Chan) : List (Nat × List Byte) :=
  if c.evaluated then c.tgrams
  else ((conns cfg).filter (producesNow cfg s.tick.count)).map (fun k => (k, List.replicate (cfgLen cfg k) 0))

/-- The telegram of connection `k` from a channel; in LOCKOUT, and in a class H tick, its data are at their safe value (R63). -/
def telegram (cfg : Config.Image) (s : State) (c : Chan) (k : Nat) (payload : List Byte) : List Byte :=
  let lock := lockNow c s
  let data := if lock then List.replicate payload.length 0 else payload
  let n := vget c.conn k Conn.reset
  if isCsf cfg k then csfBytes (lock || !s.mode.runs) (cfgId cfg k) (n.txSeq.toNat % 65536) data
  else cttBytes 1 (flagsNow c s) (cfgId cfg k) n.txSeq.toNat (syncAt s s.tick.boundary) data

/-- A telegram in its frame: raw with the EtherType of its protocol, or over UDP; CONN.DST holds the MAC addresses of both ports, then their
IPv4 addresses (R202, R217, Table 9.9; log entry 155). -/
def connFrame (cfg : Config.Image) (p : NetPort) (k : Nat) (tg : List Byte) (s : State) : List Byte :=
  let j := match p with
    | .a => 0
    | .b => 1
  let mac := lookN cfg .connDst k j 0
  if lookN cfg .connTransport k 0 0 = 1 then
    udpFrame p mac (lookN cfg .connDst k (2 + j) 0) 0
      (if isCsf cfg k then lookN cfg .netUdpCsf 0 0 52401 else lookN cfg .netUdpCtt 0 0 52400) tg s
  else ethFrame p mac (if isCsf cfg k then lookN cfg .netEtCsf 0 0 0x88B6 else lookN cfg .netEtCtt 0 0 0x88B5) tg s

/-- The telegrams that a channel hands to a port's engine: CTT on both ports, CSF on CSF.PORT (R210, R218). -/
def handOver (cfg : Config.Image) (p : NetPort) (s : State) (c : Chan) : List (List Byte) :=
  if !handsOver s c then []
  else ((payloadsOf cfg s c).filter (fun q => !isCsf cfg q.1 || csfPortOf cfg q.1 == p)).map
    (fun q => connFrame cfg p q.1 (telegram cfg s c q.1 q.2) s)

/-- Sequence numbers after the hand-over. -/
def seqUp (cfg : Config.Image) (s : State) (c : Chan) : Chan :=
  if !handsOver s c then c
  else { c with conn := (payloadsOf cfg s c).foldl (fun v q => vmod v q.1 (fun n => { n with txSeq := n.txSeq + 1 })) c.conn }

/-- Produced telegrams: the Ridge pair builds the NETA copies, the Thatch fabric the NETB copies (R210). -/
def produce (cfg : Config.Image) (s : State) : State :=
  let send (p : NetPort) (c : Chan) (t : State) : State :=
    setPort p { portOf p t with sent := if canSend p t then handOver cfg p s c else [] } t
  let t := send .b s.thatch (send .a s.ridge s)
  { t with ridge := seqUp cfg s t.ridge, thatch := seqUp cfg s t.thatch }

/-! ## What Gable refreshes once per tick (R343, R345) -/

/-- Fields [27:24] and [22:15] of MOD_STATUS (Table 15.4). -/
def modStatFields (s : State) : W32 :=
  let all := s.faults ++ s.unlisted
  let any_ (p : FaultEntry → Bool) : Bool := all.any p
  BitVec.ofNat 32 (lifeState (shadowOf s) * 2 ^ 25 + bit s.active.valid 24 + bit (anyClassH s) 22 + bit (holdCond s) 21
    + bit (any_ (fun e => e.cls == .p)) 20 + bit (any_ (fun e => e.cls == .c)) 19
    + bit (any_ (fun e => e.warning)) 18 + bit s.pair.diverged 17 + bit s.pair.split 16
    + bit (s.lull.trig.val.toNat % 4 != 0) 15)

/-- MIR_CONNi: eight connection states, 4 bits each (Table 15.6). -/
def mirConn (c : Chan) (i : Nat) : W32 :=
  BitVec.ofNat 32 ((List.range 8).foldl (fun a j => a + (vget c.conn (8 * i + j) Conn.reset).st % 8 * 16 ^ j) 0)

/-- The signals of the configuration's mirror list: entry j names an instance (element 0) and an output (element 1). -/
def mirSignals (cfg : Config.Image) (c : Chan) : List Bool :=
  (List.range 3072).filterMap (fun j =>
    if given cfg .mirrorList j then
      some ((c.blk[lookN cfg .mirrorList j 0 0]?).any (fun b => b.out.getLsbD (lookN cfg .mirrorList j 1 0)))
    else none)

/-- The process image mirror of this tick (Table 15.6). -/
def mirrorOf (s : State) : Mirror :=
  let c := s.ridge
  { tick := s.tick.count
    inputs := c.snap.inputs
    out := (word c.record 1).truncate 28
    uac := vtab 8 (fun n => BitVec.ofInt 32 (vget c.an n AnCh.reset).y)
    conn := vtab 16 (mirConn c)
    sig := mirSignals (evalCfg s) c }

/-- Gable refreshes MOD_STATUS, and the mirror unless it is shed (R316, R343, R345). -/
def gableRefresh (s : State) : State :=
  if !s.gable.up then s
  else
    let t := { s with host := { s.host with modStat := modStatFields s } }
    if t.pwr.shedMirror then t else { t with mirror := mirrorOf t }

/-- The connections of a channel as they stood before the expiries of this tick: phase 3 decides the one transition of each from there
(R213, R214). -/
def atPhase3 (c : Chan) : Chan :=
  { c with conn := c.earlyConn.foldl (fun v q => vmod v q.1 (fun _ => q.2)) c.conn, earlyConn := [] }

/-- PHASE_3_START: received telegrams to both channels, produced ones to N0 and N1; the cascade's view; Gable's refresh after phase 2;
what a split or a join does by the end of the tick (R23, R66, R69, R210 to R222, R345). In VERIFY the connections are the candidate's, the
cascade stays the active configuration's (R262; DEDUCED, log entry 215). -/
def execPhase3Start (s : State) : Host.Outcome State Fault Refusal :=
  if !phase3Due s then .next s
  else
    let cfg := evalCfg s
    let q := phase3Of s
    let t := { s with tick := { s.tick with phase3 := true }, ridge := atPhase3 s.ridge, thatch := atPhase3 s.thatch }
    let u := phase3Faults cfg q (produce cfg t)
    let v := { u with ridge := phase3Chan cfg s.active.image q u u.ridge, thatch := phase3Chan cfg s.active.image q u u.thatch }
    .next (splitEnd (gableRefresh (casStep v)))

/-! ## Received copies (R211, R237) -/

/-- Does the engine's pre-check pass a copy: the CRC of some consumed connection, or of a telegram of a listed member of the cascade, which
stays that of the active configuration `cas` in VERIFY? -/
def preCheck1 (cfg cas : Config.Image) (port : NetPort) (proto : Proto) (b : List Byte) : Bool :=
  match proto with
  | .csf => (consumers cfg).any (fun k => isCsf cfg k && csfPortOf cfg k == port
      && b.length == 14 + beAt b 8 2 && beAt b (10 + beAt b 8 2) 4 == csfCrc (cfgId cfg k) (b.take (10 + beAt b 8 2)))
  | .ctt => (consumers cfg).any (fun k => !isCsf cfg k && cttOk (cfgId cfg k) b)
      || (List.range 8).any (fun m => casOther cas m
          && (cttOk (lookN cas .casId 0 0 0 * 256 + m) b || cttOk (lookN cas .casId 0 0 0 * 256 + 128 + m) b))

/-- The CVU of a port has failed its vector: the pre-check is bypassed (Table 10.3). -/
def preCheckOff (port : NetPort) (s : State) : Bool :=
  match port with
  | .a => hasFault s (fcCvuFail0 + 1) 0
  | .b => hasFault s (fcCvuFail0 + 2) 0

/-- Has a port's share of the input buffers room for a copy: 256 between two phases 3 (R211)? -/
def bufRoom (port : NetPort) (s : State) : Bool :=
  decide (((chanOf (viewLane s) s).buf.filter (fun x => x.port == port)).length < 256)

/-- TELEGRAM_COPY_RECEIVE: the telegram of a frame (its Ethernet header and what follows it) that the MAC accepts; a copy that the
pre-check passes goes into both input buffers, while they have room; the others are dropped and counted (R202, R211). -/
def execTelegramCopyReceive (port : NetPort) (head body : List Byte) (rx : W64) (s : State) :
    Host.Outcome State Fault Refusal :=
  let frame := head ++ body
  if !canReceive port s || !s.tick.running || !macAccepts port frame true s then .next s
  else
    match telegramOf port frame s with
    | none => .next s
    | some (proto, bytes) =>
      if (preCheckOff port s || preCheck1 (evalCfg s) s.active.image port proto bytes) && bufRoom port s then
        let x : Copy := { port := port, bytes := bytes, src := BitVec.ofNat 48 (beAt frame 6 6), rx := rx }
        .next { s with
          ridge := { s.ridge with buf := s.ridge.buf ++ [x] }
          thatch := { s.thatch with buf := s.thatch.buf ++ [x] } }
      else .next (setPort port { portOf port s with dropCnt := count32 (portOf port s).dropCnt } s)

/-! ## Expiries of a connection (R212 to R214, R218) -/

/-- Change connection `k` of both running channels, with the faults of the change; the connection as it stood is kept for phase 3
(R213). -/
def bothConns (k : Nat) (g : Conn → Conn × List (BitVec 16)) (s : State) : State :=
  let step (c : Chan) : Chan :=
    if c.frozen || c.earlyConn.any (fun q => q.1 == k) then c
    else { c with conn := vmod c.conn k (fun n => (g n).1), earlyConn := c.earlyConn ++ [(k, vget c.conn k Conn.reset)] }
  let v := chanOf (viewLane s) s
  if v.earlyConn.any (fun q => q.1 == k) then s
  else connSync k (g (vget v.conn k Conn.reset)) { s with ridge := step s.ridge, thatch := step s.thatch }

/-- The connection as both channels see it. -/
def connOf (k : Nat) (s : State) : Conn := vget (chanOf (viewLane s) s).conn k Conn.reset

/-- Has no copy of the connection come since the last phase 3? -/
def noCopies (cfg : Config.Image) (k : Nat) (s : State) : Bool :=
  !(chanOf (viewLane s) s).buf.any (fun x =>
    if isCsf cfg k then csfSound (cfgLen cfg k) (cfgId cfg k) x.bytes else cttSound 1 (cfgLen cfg k) (cfgId cfg k) x.bytes)

/-- May a phase 3 expiry of connection `k` be taken now: at the start of phase 3, before its own work, nothing received? -/
def expiryDue (k : Nat) (s : State) : Bool :=
  phase3Due s && consumes (evalCfg s) k && noCopies (evalCfg s) k s

/-- PAIRING_WINDOW_EXPIRY: no partner by RX + CONN.W; the telegram is SINGLE, as phase 3 finds it without a further copy (R212). -/
def execPairingWindowExpiry (conn : Fin 128) (s : State) : Host.Outcome State Fault Refusal :=
  if expiryDue conn.val s && !isCsf (evalCfg s) conn.val then
    .next (bothConns conn.val (cttPhase (evalCfg s) (phase3Of s) conn.val []) s)
  else .next s

/-- CONN_TIMEOUT: no telegram accepted for CONN.TIMEOUT; GAP (R213). -/
def execConnTimeout (conn : Fin 128) (s : State) : Host.Outcome State Fault Refusal :=
  let n := connOf conn.val s
  if expiryDue conn.val s && !isCsf (evalCfg s) conn.val && n.held.isEmpty
      && timedOut (evalCfg s) conn.val { n with since := n.since + 1 } then
    .next (bothConns conn.val (fun m => (leave cnGap m, [fcConnTimeout])) s)
  else .next s

/-- CONN_LEE_EXPIRED: the Lee time is used up in SINGLE or GAP; EXPIRED (R214). -/
def execConnLeeExpired (conn : Fin 128) (s : State) : Host.Outcome State Fault Refusal :=
  let n := connOf conn.val s
  if phase3Due s && consumes (evalCfg s) conn.val && leeExpired (evalCfg s) conn.val (leeCount n) then
    .next (bothConns conn.val (fun m => ({ leeCount m with st := cnExpired, paired := 0 }, [fcConnLeeExpired])) s)
  else .next s

/-- CONN_NOT_STARTED: still in START 3 × CONN.TIMEOUT after the entry into RUN; a warning (Table 9.3). -/
def execConnNotStarted (conn : Fin 128) (s : State) : Host.Outcome State Fault Refusal :=
  if expiryDue conn.val s && notStarted (evalCfg s) conn.val (startCount s.mode.runs (connOf conn.val s)) then
    .next (raise fcConnNotStarted conn.val s)
  else .next s

/-- CSF_WDG: the watchdog of a CSF connection ends; GAP (R218). -/
def execCsfWdg (conn : Fin 128) (s : State) : Host.Outcome State Fault Refusal :=
  let n := connOf conn.val s
  if expiryDue conn.val s && isCsf (evalCfg s) conn.val && n.st = cnValid && cfgWdg (evalCfg s) conn.val ≤ n.since + 1 then
    .next (bothConns conn.val (fun m => (leave cnGap m, [fcCsfWdg])) s)
  else .next s

end Sys2Proof.Machine
end

