-- ==== Sys2Proof/Machine/Margins.lean ====
section
/-! DEFINITION. Weathering: what W measures, the margins of Table 14.7, the re-plan, exhaustion, the report (R13, R325 to R332;
Tables 14.6, 14.7, 15.9, 15.10). -/

namespace Sys2Proof.Machine

/-! ## Measurements (Table 14.6) -/

/-- Thatch cycles in one second at the trimmed frequency. -/
abbrev thatchHz : Nat := 32000000

/-- THATCH_DEVIATION_MEASURE: cycles counted over 1 s; the deviations of 10 min are kept (Table 14.6). -/
def execThatchDeviationMeasure (cycles : Nat) (s : State) : Host.Outcome State Fault Refusal :=
  if s.w.up && s.pwr.domains.getLsbD 6 then
    .next { s with wth := { s.wth with delta := (((cycles : Int) - thatchHz) :: s.wth.delta).take 60 } }
  else .next s

/-- δ in 0.01 %: the mean of the kept deviations, truncated (Table 14.6; log entry 77). -/
def deltaOf (w : Weather) : Int :=
  if w.delta.isEmpty then 0 else (w.delta.foldl (· + ·) 0).tdiv (w.delta.length * (thatchHz / 10000))

/-- Units of the equivalent-hour count in one hour. -/
abbrev hourUnits : Nat := 1000000000

/-- The ageing index: equivalent hours in per mille of 175 200 h, truncated (R326). -/
def ageIndex (w : Weather) : Nat := w.hours * 1000 / (175200 * hourUnits)

/-- The largest on-resistance in mΩ of a switch among measurements at 50 mA or more (Table 14.6). -/
def ronOf (l : List RonMeas) (k : Nat) : Nat :=
  l.foldl (fun a x => if x.sw.val = k && 50000 ≤ x.ua then max a (x.uv * 1000 / x.ua) else a) 0

/-- The largest values of 24 h: of 144 stretches of 10 min (R325). -/
def takePeaks (ron : List RonMeas) (flashBits : Vector Nat 4) (w : Weather) : Weather :=
  let now := Peaks.join w.cur
    { Peaks.none with ron := vtab 56 (ronOf ron), flash := flashBits, delta := (deltaOf w).natAbs }
  let hist := (now :: w.hist).take 144
  { w with hist := hist, cur := Peaks.none, peak := hist.foldl Peaks.join Peaks.none }

/-! ## Margins (Table 14.7) -/

/-- The margin number: kind and object (R331). -/
def marginNo (kind obj : Nat) : Nat := kind * 2048 + obj

/-- A margin of the active configuration: kind, object, unit, value and bound, whether the unfavourable side is below the
bound, whether it is exhausted. -/
structure Margin where
  kind : Nat
  obj : Nat
  unit : Nat
  value : Int
  bound : Int
  below : Bool
  used : Bool
  deriving DecidableEq, Repr

/-- Rounded up to a multiple. -/
def roundUp (n step : Nat) : Nat := ceilDiv n step * step

/-- Dark-test time in µs that the rule requires for a switch. -/
def needDt (cfg : Config.Image) (w : Weather) (k : Nat) : Nat :=
  roundUp (max (cfgDtTime cfg (k / 2)) (50 + 3 * vget w.peak.off k 0)) 10

/-- Dark-test interval in µs that the rule requires for an output, rounded up to ticks. -/
def needInt (cfg : Config.Image) (w : Weather) (o : Nat) : Nat :=
  let i := cfgDtInt cfg o
  let T := cfgT cfg
  ceilDiv (i * 1000 - (i - cfgDtIntMin cfg o) * min (ageIndex w) 1000) (1000 * T) * T

/-- The inputs that a TPO feeds and gust-tests. -/
def gustInputs (cfg : Config.Image) (m : Nat) : List Nat :=
  (List.range 48).filter (fun n => inTpoOf cfg n == some m && pulsed cfg m
    && (lookN cfg .inMode n 0 0 == 2 || lookN cfg .inMode n 0 0 == 4))

/-- Gust-pulse width in µs that the rule requires for a TPO. -/
def needWidth (cfg : Config.Image) (w : Weather) (m : Nat) : Nat :=
  roundUp (max (cfgWidth cfg m) (150 + 2 * (gustInputs cfg m).foldl (fun a n => max a (vget w.peak.edge n 0)) 0)) 50

/-- Largest |δ_c| in 0.01 % (R328). -/
def centreMax (cfg : Config.Image) : Int := 500 - (cfgTolMin cfg : Int)

/-- The margins of kinds 1 to 6. -/
def marginsA (cfg : Config.Image) (w : Weather) : List Margin :=
  let dts := (List.range 56).filter (fun k => darkTested cfg (k / 2))
  let outs_ := (List.range 28).filter (darkTested cfg)
  let sws := (List.range 56).filter (fun k => outBlocked cfg (k / 2))
  let tpos := (List.range 16).filter (pulsed cfg)
  let ins := (List.range 48).filter (fun n => (List.range 16).any (fun m => (gustInputs cfg m).contains n))
  dts.map (fun k =>
      { kind := 1, obj := k, unit := 1, value := needDt cfg w k, bound := cfgDtMax cfg (k / 2), below := false
        used := decide (cfgDtMax cfg (k / 2) < needDt cfg w k) })
    ++ outs_.map (fun o =>
      { kind := 2, obj := o, unit := 2, value := ceilDiv (needInt cfg w o) 1000, bound := ceilDiv (cfgDtIntMin cfg o) 1000
        below := true, used := decide (1000 < ageIndex w) })
    ++ sws.map (fun k =>
      { kind := 3, obj := k, unit := 3, value := ((vget w.peak.ron k 0 : Nat) : Int), bound := 300, below := false
        used := decide (300 < vget w.peak.ron k 0) })
    ++ tpos.map (fun m =>
      { kind := 4, obj := m, unit := 1, value := needWidth cfg w m, bound := cfgWidthMax cfg m, below := false
        used := decide (cfgWidthMax cfg m < needWidth cfg w m) })
    ++ ins.map (fun n =>
      { kind := 5, obj := n, unit := 4, value := Config.edgeToNf (vget w.peak.edge n 0), bound := 100, below := false
        used := decide (100 < Config.edgeToNf (vget w.peak.edge n 0)) })
    ++ [{ kind := 6, obj := 0, unit := 5, value := (deltaOf w).natAbs, bound := centreMax cfg, below := false
          used := decide (centreMax cfg < (deltaOf w).natAbs) }]

/-- Largest drop-out time of an EDM instance in µs. -/
def dropUs (cfg : Config.Image) (w : Weather) (k : Nat) : Nat := (w.peak.edm.lookup k).getD 0 * cfgT cfg

/-- The shutdown reserve in µs: the largest of 24 h, else the last one that BK holds, else none yet (R325, Table 14.9). -/
def reserveUs (s : State) (w : Weather) : Option Nat :=
  match w.peak.reserve with
  | some x => some x
  | none => if s.bk.hasReserve then some (100 * s.bk.reserve.toNat) else none

/-- The margins of kinds 7 to 0x0B; the shutdown reserve counts once one has been measured. -/
def marginsB (cfg : Config.Image) (w : Weather) (s : State) : List Margin :=
  let edms := (List.range cfg.insts.length).filter (fun k => typOf cfg k == 9)
  let weak := max w.peak.weak (popCount s.slate.weak)
  let r := reserveUs s w
  [{ kind := 7, obj := 0, unit := 1, value := ((r.getD 0 : Nat) : Int), bound := 15000, below := true
     used := r.any (fun x => decide (x < 15000)) }]
    ++ (List.range 4).map (fun a =>
      { kind := 8, obj := a, unit := 6, value := ((vget w.peak.flash a 0 : Nat) : Int), bound := 64, below := false
        used := decide (64 < vget w.peak.flash a 0) })
    ++ [{ kind := 9, obj := 0, unit := 6, value := weak, bound := 16, below := false, used := decide (16 < weak) }]
    ++ edms.map (fun k =>
      { kind := 10, obj := k, unit := 2, value := ceilDiv (dropUs cfg w k) 1000
        bound := ceilDiv (lookN cfg .edmTDrop k 0 100000) 1000, below := false
        used := decide (lookN cfg .edmTDrop k 0 100000 < dropUs cfg w k) })
    ++ [{ kind := 11, obj := 0, unit := 7, value := w.hours / hourUnits, bound := 175200, below := false
          used := decide (175200 * hourUnits < w.hours) }]

/-- Every margin of the active configuration, in ascending kind and object, by what the last 24 h and the time since the last re-plan
have measured (R325, R331). -/
def margins (s : State) : List Margin :=
  let w := { s.wth with peak := Peaks.join s.wth.peak s.wth.cur }
  marginsA s.active.image w ++ marginsB s.active.image w s

/-! ## The re-plan (R13, R327, R328) -/

/-- Re-plans in RUN with the required value two steps or more on the configured side: 24 h between the first and the last of them, that
is 145 re-plans, let a value move back (R327). -/
def backCount (runs side : Bool) (no : Nat) (l : List (Nat × Nat)) : Nat :=
  let n := (l.lookup no).getD 0
  if !side then 0 else if runs then n + 1 else n

/-- The next value of a margin that grows with wear: up by at most one step, back by one after 24 h of RUN (R327). -/
def stepTo (active need step count : Nat) : Nat :=
  if active < need then min need (active + step)
  else if need + 2 * step ≤ active && 145 ≤ count then active - step
  else active

/-- The next centre: at most 0.1 % away from 0 at once, back towards 0 after 24 h of RUN (R327, R328). -/
def centreTo (active need : Int) (count : Nat) : Int :=
  if active.natAbs < need.natAbs && 0 ≤ active * need then active + max (-10) (min 10 (need - active))
  else if 20 ≤ (need - active).natAbs && 145 ≤ count then active + max (-10) (min 10 (need - active))
  else active

/-- Is the required centre two steps or more on the side of 0? -/
def centreBack (active need : Int) : Bool :=
  !(active.natAbs < need.natAbs && 0 ≤ active * need) && decide (20 ≤ (need - active).natAbs)

/-- What W proposes for one margin: a wrong value in its place, if any (R13). -/
def proposed (wrong : List (Nat × Int)) (kind obj : Nat) (v : Int) : Int := (wrong.lookup (marginNo kind obj)).getD v

/-- A proposal within its bounds is accepted, any other ignored (R13). -/
def accept (lo hi v keep : Int) : Int := if lo ≤ v && v ≤ hi then v else keep

/-- The proposals of one re-plan: kind, object, value, bounds. -/
def proposals (wrong : List (Nat × Int)) (back : List (Nat × Nat)) (s : State) : List (Nat × Nat × Int × Int × Int) :=
  let cfg := s.active.image
  let w := s.wth
  let on_ := cfgWth cfg
  let cnt (kind obj : Nat) : Nat := (back.lookup (marginNo kind obj)).getD 0
  let dt (k : Nat) : Nat :=
    if on_ then stepTo (vget w.nextDt k 0) (min (needDt cfg w k) (cfgDtMax cfg (k / 2))) 10 (cnt 1 k) else cfgDtTime cfg (k / 2)
  let int_ (o : Nat) : Nat := if on_ then min (vget w.nextInt o 0) (max (needInt cfg w o) (cfgDtIntMin cfg o)) else cfgDtInt cfg o
  let wid (m : Nat) : Nat :=
    if on_ then stepTo (vget w.nextWidth m 0) (min (needWidth cfg w m) (cfgWidthMax cfg m)) 50 (cnt 4 m) else cfgWidth cfg m
  let c : Int :=
    if on_ then centreTo w.nextCentre (max (-(centreMax cfg)) (min (centreMax cfg) (deltaOf w))) (cnt 6 0) else 0
  ((List.range 56).map (fun k => (1, k, proposed wrong 1 k (dt k), (cfgDtTime cfg (k / 2) : Int), (cfgDtMax cfg (k / 2) : Int))))
    ++ ((List.range 28).map (fun o => (2, o, proposed wrong 2 o (int_ o), (cfgDtIntMin cfg o : Int), (cfgDtInt cfg o : Int))))
    ++ ((List.range 16).map (fun m => (4, m, proposed wrong 4 m (wid m), (cfgWidth cfg m : Int), (cfgWidthMax cfg m : Int))))
    ++ [(6, 0, proposed wrong 6 0 c, -(centreMax cfg), centreMax cfg)]

/-- Counters of the margins that may move back. -/
def backCounts (s : State) : List (Nat × Nat) :=
  let cfg := s.active.image
  let w := s.wth
  let runs := s.mode == .run
  let c (kind obj : Nat) (side : Bool) : Nat × Nat := (marginNo kind obj, backCount runs side (marginNo kind obj) w.back)
  ((List.range 56).map (fun k => c 1 k (decide (needDt cfg w k + 20 ≤ vget w.nextDt k 0))))
    ++ ((List.range 16).map (fun m => c 4 m (decide (needWidth cfg w m + 100 ≤ vget w.nextWidth m 0))))
    ++ [c 6 0 (centreBack w.nextCentre (max (-(centreMax cfg)) (min (centreMax cfg) (deltaOf w))))]

/-- The accepted value of a margin, its last one where the proposal is ignored. -/
def takeProposal (l : List (Nat × Nat × Int × Int × Int)) (kind obj : Nat) (keep : Int) : Int :=
  match l.find? (fun p => p.1 == kind && p.2.1 == obj) with
  | some p => accept p.2.2.2.1 p.2.2.2.2 p.2.2.1 keep
  | none => keep

/-- Both channels take a table (R13, R327). -/
def takeTable (wrong : List (Nat × Int)) (s : State) : State :=
  let back := backCounts s
  let l := proposals wrong back s
  let w := s.wth
  let bad := l.any (fun p => !(decide (p.2.2.2.1 ≤ p.2.2.1) && decide (p.2.2.1 ≤ p.2.2.2.2)))
  let t := { s with wth := { w with
      back := back
      nextDt := vtab 56 (fun k => (takeProposal l 1 k ((vget w.nextDt k 0 : Nat) : Int)).toNat)
      nextInt := vtab 28 (fun o => (takeProposal l 2 o ((vget w.nextInt o 0 : Nat) : Int)).toNat)
      nextWidth := vtab 16 (fun m => (takeProposal l 4 m ((vget w.nextWidth m 0 : Nat) : Int)).toNat)
      nextCentre := takeProposal l 6 0 w.nextCentre
      rejected := bad } }
  let u := if bad && !w.rejected then { t with ev := { t.ev with wth := setBit t.ev.wth 0 true } } else t
  setFault bad fcMarginRejected 0 u

/-! ## Exhaustion (R330) -/

/-- Is a margin one that is re-planned? -/
def replanned (kind : Nat) : Bool := kind ∈ [1, 2, 4, 6]

/-- Day since 2000-01-01 by the RTC. -/
def today (s : State) : Nat := s.bk.rtcSec.toNat / 86400

/-- MARGIN_EXHAUSTED of one margin: raised with its log entry, or cleared (R330). -/
def exhaust (m : Margin) (s : State) : State :=
  let no := marginNo m.kind m.obj
  if m.used then
    if hasFault s fcMarginExhausted no then s
    else
      let t := raiseW (!replanned m.kind || !cfgExhaustHold s.active.image) fcMarginExhausted (BitVec.ofNat 32 no) s
      let u := logEvent 0xE00D (be 2 (Config.eventCode 5).toNat ++ be 2 no) t
      { u with
        ev := { u.ev with wth := setBit u.ev.wth 1 true }
        wth := { u.wth with exhausted := u.wth.exhausted ++ [(no, today u)] } }
  else clearFault fcMarginExhausted no { s with wth := { s.wth with exhausted := s.wth.exhausted.filter (fun e => e.1 != no) } }

/-! ## The summary (R348, Tables 15.9, 15.10) -/

/-- Headroom of a margin in % of its bound, 0 when exhausted. -/
def headroom (m : Margin) : Nat :=
  if m.used || m.bound ≤ 0 then 0
  else min 255 (((if m.below then m.value - m.bound else m.bound - m.value) * 100) / m.bound).toNat

/-- The margin with the least headroom. -/
def leastMargin (l : List Margin) : Option Margin :=
  l.foldl (fun a m => match a with
    | some b => if headroom m < headroom b then some m else some b
    | none => some m) none

/-- WTH_STATUS, WTH_HOURS, WTH_TICK and WTH_LEAST. -/
def wthWords (s : State) : Vector W32 4 :=
  let w := s.wth
  #v[BitVec.ofNat 32 (bit (cfgWth s.active.image) 31 + bit s.w.up 30 + bit (hasCode s fcMarginExhausted) 29 + bit w.rejected 28
      + bit w.snapLoaded 27 + min 65535 (ageIndex w)),
    BitVec.ofNat 32 (w.hours / hourUnits),
    BitVec.ofNat 32 ((BitVec.ofInt 16 s.tick.centre).toNat * 65536 + s.tick.half % 65536),
    match leastMargin (margins s) with
    | some m => BitVec.ofNat 32 (marginNo m.kind m.obj * 65536 + headroom m)
    | none => 0]

/-- W refreshes the summary unless its reports are shed (R316, R348). -/
def wthRefresh (s : State) : State :=
  if s.w.up && !s.pwr.shedWrep then { s with wth := { s.wth with sum := wthWords s } } else s

/-- Does W re-plan now: 10 min after the last re-plan, in whatever mode, but not in LULL, which has frozen it (R327, R350)? -/
def replanDue (s : State) : Bool :=
  s.w.up && s.active.valid && s.mode != .lull && due s (s.wth.planAt.toNat + 600 * tSec)

/-- WEATHERING_REPLAN: every 10 min (R327, R330). The operands are what has been measured since the last one of the switches' voltages
and currents, the flash bits corrected since then, and values that W hands over in place of the rules' (R13). -/
def execWeatheringReplan (ron : List RonMeas) (flashBits : Vector Nat 4) (wrong : List (Nat × Int)) (s : State) :
    Host.Outcome State Fault Refusal :=
  if !replanDue s then .next s
  else
    let t := { s with
      wth := { takePeaks ron flashBits s.wth with planAt := s.tb.count }
      ev := { s.ev with wth := setBit s.ev.wth 2 true } }
    let u := takeTable wrong t
    .next (wthRefresh ((margins u).foldl (fun v m => exhaust m v) u))

/-- Accepted values at their moment, at a tick boundary: dark-test times where no test of the lane runs or awaits its result, widths
outside a pulse, intervals where TICK mod N_DT = 0, the tick window in every mode (Table 14.7); the summary follows (R348). Changed times
and widths go to the field controllers as parameter entries, the widths before the times, so that both lanes carry a width in the same frame
(R20), but by no channel whose latch is forced safe (R21, R53 to R55, R82, R134). -/
def applyMargins (s : State) : State :=
  let w := s.wth
  let cfg := s.active.image
  if !s.mode.evaluates then
    wthRefresh { s with tick := { s.tick with centre := w.nextCentre, half := 500 - w.nextCentre.natAbs } }
  else
    let idle_ (k : Nat) : Bool := if k % 2 = 0 then s.ridge.dtWait.isNone && s.laneP.dt.isNone
      else s.thatch.dtWait.isNone && s.laneT.dt.isNone
    let dtNow (k : Nat) : Bool := idle_ k && vget w.nextDt k 0 != vget w.dt k 0
    let widNow (m : Nat) : Bool := (vget s.field.tpo m TpoFc.reset).phase == 0 && vget w.nextWidth m 0 != vget w.width m 0
    let intNow (o : Nat) : Bool := nDt s o == 0 || s.tick.count.toNat % nDt s o == 0
    let wids : List ParamEntry := ((List.range 16).filter widNow).map (fun m => tpoEntry cfg m (vget w.nextWidth m 0))
    let dts (r : Nat) : List ParamEntry :=
      ((List.range 56).filter (fun k => k % 2 == r && dtNow k)).map (fun k => outputEntry cfg (k / 2) (vget w.nextDt k 0))
    let queue (r : Nat) (l : List ParamEntry) : List ParamEntry :=
      l.filter (fun e => e.item == 2) ++ wids ++ l.filter (fun e => e.item != 2) ++ dts r
    wthRefresh { s with
      ridge := if s.ridge.forced then s.ridge else { s.ridge with entries := queue 0 s.ridge.entries }
      thatch := if s.thatch.forced then s.thatch else { s.thatch with entries := queue 1 s.thatch.entries }
      tick := { s.tick with centre := w.nextCentre, half := 500 - w.nextCentre.natAbs }
      wth := { w with
        dt := vtab 56 (fun k => if dtNow k then vget w.nextDt k 0 else vget w.dt k 0)
        interval := vtab 28 (fun o => if intNow o then vget w.nextInt o 0 else vget w.interval o 0)
        width := vtab 16 (fun m => if widNow m then vget w.nextWidth m 0 else vget w.width m 0) } }

/-! ## Equivalent hours and daily values (R326, R330, R331) -/

/-- The fixed point of AF. -/
abbrev fixOne : Int := 18446744073709551616

/-- exp of a fixed-point number below 1 in magnitude: 20 terms of its series. -/
def expSmall (y : Int) : Int := (List.range 20).foldl (fun a k => fixOne + y * a / (fixOne * (20 - k))) fixOne

/-- AF at a die temperature in 0.1 °C, in fixed point: exp(8 123 K × (1 / 328.15 K − 1 / T)), by 256 equal steps (R326). -/
def accelFix (die : Int) : Int :=
  let t := 10 * die + 27315
  if t ≤ 0 then 0
  else (List.range 8).foldl (fun v _ => v * v / fixOne) (expSmall (812300 * (10 * die - 5500) * fixOne / (32815 * t * 256)))

/-- What one second at this die temperature adds to the equivalent-hour count: AF / 3 600 in 10⁻⁹ h, rounded down (R326; log entry
11). -/
def accelNano (die : Int) : Nat := (accelFix die * hourUnits / (3600 * fixOne)).toNat

/-- EQUIVALENT_HOUR_UPDATE: each second with L+ (R326). -/
def execEquivalentHourUpdate (s : State) : Host.Outcome State Fault Refusal :=
  if s.pwr.aoOn && s.w.up then
    .next (wthRefresh { s with wth := { s.wth with hours := s.wth.hours + accelNano s.pwr.die } })
  else .next s

/-- EQUIVALENT_HOUR_FLASH_COPY: hourly, by Gable, while flash is open to writes (R317, R330). -/
def execEquivalentHourFlashCopy (s : State) : Host.Outcome State Fault Refusal :=
  if s.gable.up && !flashClosed s then .next { s with flash := { s.flash with hours := s.wth.hours } } else .next s

/-- One value per day and margin, over the last 64 days. -/
def addDay (day no : Nat) (v : Int) (l : List (Nat × List (Nat × Int))) : List (Nat × List (Nat × Int)) :=
  let keep (d : List (Nat × Int)) : List (Nat × Int) := (d.filter (fun e => e.1 < day && day < e.1 + 64)) ++ [(day, v)]
  if l.any (fun e => e.1 == no) then l.map (fun e => if e.1 = no then (no, keep e.2) else e) else l ++ [(no, [(day, v)])]

/-- WEATHERING_DAILY_VALUE (R331). -/
def execWeatheringDailyValue (s : State) : Host.Outcome State Fault Refusal :=
  if s.w.up && s.active.valid then
    .next { s with wth := { s.wth with
      daily := (margins s).foldl (fun l m => addDay (today s) (marginNo m.kind m.obj) m.value l) s.wth.daily } }
  else .next s

/-! ## WEATHER_REPORT (R331, Table 11.7) -/

/-- The day on which the least-squares line through the kept values meets the bound, if it runs towards it (R331). -/
def lineMeets (below : Bool) (bound : Int) (l : List (Nat × Int)) : Option Nat :=
  let n : Int := l.length
  let sx : Int := l.foldl (fun a e => a + e.1) 0
  let sv : Int := l.foldl (fun a e => a + e.2) 0
  let sxx : Int := l.foldl (fun a e => a + e.1 * e.1) 0
  let sxv : Int := l.foldl (fun a e => a + e.1 * e.2) 0
  let num := n * sxv - sx * sv
  let den := n * sxx - sx * sx
  if den = 0 || num = 0 || (below && decide (0 < num)) || (!below && decide (num < 0)) then none
  else
    let d := (sx * num + (n * bound - sv) * den) / (n * num)
    if d < 0 || (max32 : Int) - 1 < d then none else some d.toNat

/-- Projected exhaustion in days since 2000-01-01, 0xFFFF_FFFF for none (R331). -/
def projection (s : State) (m : Margin) : Nat :=
  let no := marginNo m.kind m.obj
  let vals := (s.wth.daily.lookup no).getD []
  if !s.bk.rtcValid then max32
  else if m.used then (s.wth.exhausted.lookup no).getD max32
  else if vals.length < 7 then max32
  else (lineMeets m.below m.bound vals).getD max32

/-- An entry of the report. -/
def marginBytes (s : State) (m : Margin) : List Byte :=
  be 2 (marginNo m.kind m.obj) ++ be 2 m.unit ++ be 4 (BitVec.ofInt 32 m.value).toNat ++ be 4 (BitVec.ofInt 32 m.bound).toNat
    ++ be 4 (projection s m)

/-- A page of the report: 63 entries. -/
def weatherBody (r : Req) (s : State) : State × Answer :=
  let page := r.num 0 4
  let l := margins s
  let part := (l.drop (63 * page)).take 63
  if r.payload.length != 4 then (s, answer stBadLength)
  else if !s.w.up || s.pwr.shedWrep then (s, answer stNotAvailable)
  else if page != 0 && part.isEmpty then (s, answer stBadParameter)
  else
    (s, { answerOk (be 4 part.length ++ part.flatMap (marginBytes s)) with more := decide (63 * (page + 1) < l.length) })

/-- WEATHER_REPORT. -/
def execWeatherReport (r : Req) (s : State) : Host.Outcome State Fault Refusal :=
  .next (serve ccWeatherReport r (weatherBody r) s)

end Sys2Proof.Machine
end

