-- ==== Sys2Proof/Machine/Tick.lean ====
section
/-! DEFINITION. The tick boundary: mode changes, the frames of both lanes, what Gable and the channels take once per tick, Ridge
split and join (R16, R22 to R24, R27, R62 to R70, R98, R206, R262, R271 to R285, R346; Tables 3.4, 12.2, 12.3). -/

namespace Sys2Proof.Machine

/-! ## When (R22, R206) -/

/-- Is a tick boundary due: at an integer multiple of T, or for a cascade member T after the last one, moved by at most 1 µs
towards its multiple on the synchronised time (R22, R206)? -/
def boundaryDue (s : State) : Bool :=
  let u := tickUnits s.tick.sel.toNat
  s.tick.running && !s.resetHeld && !(s.mode ∈ [Mode.off, .backup, .boot, .lull]) && s.tb.count != s.tick.boundary
    && (if member s.active.image then decide (boundaryAt s ≤ s.tb.count.toNat) else s.tb.count.toNat % u == 0)

/-- The strobes of a tick are counted back from its end: as a cascade member moves that boundary, the running conversion windows move with
it (R153, R182, R206). -/
def moveWindows (s : State) : State :=
  let d : Int := boundaryAt s - (s.tick.boundary.toNat + tickUnits s.tick.sel.toNat : Nat)
  if d = 0 then s
  else { s with fa := { s.fa with ch := vmap (fun a => { a with winAt := a.winAt.map (fun w => w + BitVec.ofInt 64 d) }) s.fa.ch } }

/-- Phase 0 begins: a waiting clock step, the TICK count, the boundary (R22, R27, Table 3.2). -/
def tickStart (x : State) : State :=
  let s := clkTo (nowStep x) x
  moveWindows { s with tick := { s.tick with
      count := s.tick.count + 1, boundary := s.tb.count
      pulse := false, pulsePrev := s.tick.pulse || !s.tick.began, began := true, phase3 := false } }

/-- The Thatch side's measurement from the last boundary to this one, in Thatch cycles; outside its range it is TICK_GEN_MISMATCH
(R29). -/
def thatchMeasure (cycles : Nat) (s : State) : State :=
  if !s.tick.began || s.tick.silentT || !s.pwr.domains.getLsbD 6 then s
  else
    let t := { s with tick := { s.tick with thCycles := cycles } }
    if cyclesInside s cycles then t else raise fcTickGenMismatch 0 t

/-! ## Modes (R262, R274 to R276, R285) -/

/-- A channel with another application loaded: blocks, inputs, analogue channels and connections start afresh. -/
def loadApp (cfg : Config.Image) (c : Chan) : Chan :=
  { c with
    blk := cfg.insts.map (fun _ => Blk.reset), inp := Vector.replicate 48 InCh.reset, an := Vector.replicate 8 AnCh.reset
    conn := vmap (fun n => { Conn.reset with txSeq := n.txSeq }) c.conn, tgrams := [], early := [], earlyConn := [] }

/-- Load the configuration that the mode evaluates into both channels. -/
def loadBoth (s : State) : State :=
  let cfg := evalCfg s
  { s with ridge := loadApp cfg s.ridge, thatch := loadApp cfg s.thatch }

/-- Reference vectors of an image that pass in both channels, up to the first that fails (R50). -/
def vectorsPassed (cfg : Config.Image) : Nat :=
  (cfg.vectors.takeWhile (fun v => vecRecord .p cfg v == v.expP && vecRecord .t cfg v == v.expT)).length

/-- The loading of a candidate with the checks of R49 and R50: equal digests, and reference vectors that all pass. A failed check ends
the run at once, as failed; otherwise DURATION runs from here (R262). -/
def verifyLoad (s : State) : State :=
  let cfg := evalCfg s
  match s.gable.verify with
  | some v =>
    let n := vectorsPassed cfg
    let ok := cfg.ridgeDigest == cfg.thatchDigest && !cfg.vectors.isEmpty && n == cfg.vectors.length
    let run := { v with
      state := if ok then 0 else 2, vectors := BitVec.ofNat 16 n, startTick := s.tick.count, ends := s.tb.count + v.dur }
    { s with gable := { s.gable with verify := some run }, want := if ok then none else some .configure }
  | none => s

/-- A mode entered at a boundary: entering or leaving VERIFY loads the configuration to be evaluated (R262). -/
def enterMode (m : Mode) (s : State) : State :=
  let t := setMode m { s with want := none }
  if m = .verify then verifyLoad (loadBoth t) else if s.mode = .verify then loadBoth t else t

/-- LOCKOUT at a boundary: candidate and run are gone, a split Ridge B stops, a split or join goes no further (R67, R262, R275); a SELFTEST
that it ends leaves what its end leaves (R279), TICK 0 at this boundary (DEDUCED, log entry 220). -/
def enterLockout (s : State) : State :=
  let t := splitOvertaken (if s.mode = .selftest then endSelftest s else s)
  enterMode .lockout { t with
    hPend := none
    ridgeB := { s.ridgeB with up := false }
    gable := { s.gable with cand := none, verify := none, owner := none } }

/-- A mode change that a request asked for is overtaken: it has no effect, and its candidate is discarded (R275). -/
def overtake (s : State) : State :=
  if s.want = some .configure && s.mode != .verify then { s with want := none, gable := { s.gable with cand := none } }
  else { s with want := none }

/-- Is a consuming connection in SINGLE or GAP (R285)? -/
def leeNow (s : State) : Bool :=
  (consumers s.active.image).any (fun k =>
    let st := (vget (chanOf (viewLane s) s).conn k Conn.reset).st
    st == cnSingle || st == cnGap)

/-- A mailbox command that waits for this boundary to change the mode takes effect, or is overtaken (R275). -/
def heldStep (s : State) : State :=
  match s.gable.held with
  | none => s
  | some (code, r) =>
    if !s.gable.up then s
    else if code = ccCfgBegin then heldEnd code r (owned r (cfgBeginBody r)) s
    else if code = ccVerifyStart then heldEnd code r (owned r (verifyStartBody r)) s
    else heldEnd code r (loginBody r) s

/-- Does a class H fault act at this boundary only by the frame after it: raised in the last microsecond before it (R24)? -/
def hLate (s : State) : Bool :=
  match s.hPend with
  | some v => decide (s.tb.count.toNat < v)
  | none => false

/-- The mode change of this boundary, by the order of R275; a class H fault raised in the last microsecond acts at the next
boundary (R24). After the start of an ordered shutdown no mode change is left but its end (R318). -/
def modeStep (s : State) : State :=
  if s.pwr.shutdown.isSome then s
  else if s.hPend.isSome && !hLate s then enterLockout s
  else
    let t := if hLate s then { s with hPend := some 0 } else s
    if t.mode.runs && holdCond t then enterMode .safeHold (overtake t)
    else
      match t.want with
      | some m => enterMode m t
      | none =>
        if t.mode = .run && leeNow t then enterMode .lee t
        else if t.mode = .lee && !leeNow t then enterMode .run t
        else t

/-! ## Frames (R16, R21, R24, R53, R55) -/

/-- Has the lane's domain power, and does the lane send in this tick (R30, R129)? -/
def laneSends (lane : Lane) (s : State) : Bool :=
  let l := laneOf lane s
  !l.resetLevel && (match lane with
    | .p => s.pwr.domains.getLsbD 7
    | .t => s.pwr.domains.getLsbD 6 && !s.tick.silentT)

/-- Nine entries, filled up with empty ones. -/
def nineEntries (l : List ParamEntry) : List ParamEntry := (l ++ List.replicate 9 noEntry).take 9

/-- The frame of this tick: a parameter frame while SELFTEST still writes entries, else the command frame with the latch's
content; outside RUN and LEE every switch is open, and from the first frame of LOCKOUT on every analogue output has the alarm code (R21,
R24, R194, R272). -/
def frameOf (lane : Lane) (s : State) (c : Chan) : OutFrame :=
  let blank := { OutFrame.blank lane with tickSel := s.tick.sel, seq := c.txSeq + 1 }
  if !laneSends lane s then OutFrame.blank lane
  else if s.mode = .selftest && !c.entries.isEmpty then
    outSeal { blank with ftype := 2, entries := nineEntries c.entries }
  else
    let latch := c.late.getD c.latch
    outSeal { blank with
      ftype := 1
      cmds := if s.mode.runs then latch.cmds else 0
      dark := if s.mode.runs then latch.dark else 0
      gust := latch.gust
      setpt := if s.mode.evaluates && s.mode != .lockout then latch.setpt else alarmSetpts s.active.image
      entries := [c.entries.headD noEntry] }

/-- The INPUT entries that a frame carries are noted with its boundary (R21, R129). -/
def entriesSent (b : W64) (l : List ParamEntry) (inp : Vector InCh 48) : Vector InCh 48 :=
  l.foldl (fun v e => if e.item = 1 then vmod v e.index.toNat (fun x => { x with entryAt := some b }) else v) inp

/-- A dark-test request that the frame after its commit does not carry, because RUN has been left or its lane forced open, is carried out
by no one: no result is awaited, and a test that was a repeat waits again (R132, R133, R272). -/
def darkDropped (lane : Lane) (s : State) (f : OutFrame) (c : Chan) : Chan :=
  match c.dtWait with
  | some o =>
    if !f.dark.getLsbD o.val && c.dtDue == s.tick.count + BitVec.ofNat 32 (dtTicks (tickUs s) (vget s.wth.dt (swIx lane o.val) 0)) then
      { c with dtWait := none, outs := vupd c.outs o (fun x => { x with due := x.due || x.firstFail }) }
    else c
  | none => c

/-- A lane's channel starts its outbound frame. -/
def sendFrame (lane : Lane) (s : State) (c0 : Chan) : Chan :=
  let f := frameOf lane s c0
  let c := darkDropped lane s f c0
  let sent := if f.ftype = 0 then 0 else if f.ftype = 2 then 9 else 1
  { c with
    prevCmd := frameCmds c.tx
    echoDue := if (laneOf lane s).resetLevel || c.tx.ftype = 0 then none else some c.tx.seq
    txSeq := if f.ftype = 0 then c.txSeq else c.txSeq + 1
    tx := f
    txAt := s.tick.boundary
    entries := c.entries.drop sent
    inp := entriesSent s.tick.boundary (if sent = 0 then [] else f.entries) c.inp
    late := none, frameOk := false, evaluated := false, committed := false, hMis := false, early := [], earlyConn := [] }

/-- Both lanes start their frames; no inbound frame of the new tick has been started yet (R16, Table 2.1). -/
def framesOut (s : State) : State :=
  { s with
    ridge := sendFrame .p s s.ridge
    thatch := sendFrame .t s s.thatch
    laneP := { s.laneP with inTx := none, accepted := false }
    laneT := { s.laneT with inTx := none, accepted := false } }

/-! ## What is refreshed once per tick (R98, R147, R346) -/

/-- Kind of an output's fault (Table 6.11); of several the lowest code (DESIGN CHOICE, log entry 191). -/
def outKindOf (s : State) (o : Nat) : Nat :=
  if hasFault s fcSwitchStuck o then 1
  else if hasFault s fcOutCloseFail o then 2
  else if hasFault s fcOutOverload o then 3
  else if hasFault s fcOutBypass o then 4
  else if hasFault s fcOutOpenLoad o then 5
  else if hasFault s fcOutExtVoltage o then 6
  else if hasFault s fcBrkOpenCoil o then 7
  else if hasFault s fcBrightOverdue o then 8
  else if hasFault s fcGroupOvercurrent (groupOfOut o) then 9
  else 0

/-- A signed register word, saturating. -/
def i32 (x : Int) : W32 := BitVec.ofInt 32 (satInt 32 x)

/-- NETx_STATUS (Table 9.11). -/
def netStatus (s : State) (p : NetPort) : W32 :=
  let e := match p with
    | .a => s.n0
    | .b => s.n1
  w32 (bit (portOf p s).link 15 + bit (hasCode s (fcDuplex p)) 14 + bit e.down 13 + e.restarts.toNat)

/-- PTP_STATUS (Table 9.11). -/
def ptpStatus (s : State) : W32 :=
  let cfg := s.active.image
  w32 (ptpRoleOf cfg % 4 * 2 ^ 30 + s.ptp.state.toNat * 2 ^ 28 + bit s.ptp.onB 27 + bit (hasCode s fcTimeWarn) 26
    + bit (hasCode s fcTimeStale) 25 + bit (aligned s) 24 + lookN cfg .ptpDomain 0 0 0 % 128)

/-- Is member `m` present, this one included? -/
def casThere (s : State) (m : Nat) : Bool :=
  member s.active.image && (m == casSelf s.active.image || (casOther s.active.image m && casPresent s m))

/-- Does member `m` agree, this one included? -/
def casConforms (s : State) (m : Nat) : Bool :=
  casThere s m && (if m = casSelf s.active.image then selfIdent s else casAgrees s m)

/-- CAS_STATUS (Table 9.11). -/
def casStatusWord (s : State) : W32 :=
  let cfg := s.active.image
  if !member cfg then 0
  else
    w32 (bit true 31 + casSelf cfg % 8 * 2 ^ 28 + leaderNo s * 2 ^ 25 + bit (isLeader s) 24
      + (bitsOf 8 (casThere s)).toNat * 2 ^ 16 + (bitsOf 8 (casConforms s)).toNat * 2 ^ 8 + bit (hasCode s fcVersionSkew) 7
      + bit s.cas.blocked 6)

/-- An offset of a member, saturating at ±32 767. -/
def offset16 (x : Int) : Nat := (BitVec.ofInt 16 (max (-32767) (min 32767 x))).toNat

/-- CAS_MEMBERm (Table 9.11); of this member, its own values. -/
def casMemberWord (s : State) (m : Nat) : W32 :=
  let cfg := s.active.image
  let x := mem s m
  if !member cfg then 0
  else if m = casSelf cfg then
    w32 (s.mode.code * 2 ^ 28 + bit true 27 + bit true 26 + bit true 25 + bit (selfIdent s) 24 + offset16 s.ptp.offset)
  else if casOther cfg m then
    w32 (x.mode.toNat * 2 ^ 28 + bit (casPresent s m) 27 + bit x.cfgOk 26 + bit x.fwOk 25 + bit x.identOk 24 + bit x.skew 23
      + offset16 x.offset)
  else 0

/-- The buffers of the indirect space behind the link and in MO, FA, NA and NB (R346); the output registers mirror lane P (R147). -/
def bufOf (s : State) : IndBuf :=
  { field := s.field, laneP := s.laneP, laneT := s.laneT
    outRbP := swBits s.tb.count s.laneP, outRbT := swBits s.tb.count s.laneT, outCmd := frameCmds s.ridge.tx
    outKind := vtab 28 (outKindOf s)
    outBright := bitsOf 28 (fun o => brightAt s 9 o s.ridge)
    outFirst := bitsOf 28 (fun o => (vget s.ridge.outs o OutCh.reset).firstFail)
    fa := s.fa, an := s.ridge.an, anStat := s.ridge.snap.anStat, anRow := vtab 8 (faRow s)
    ax := s.ridge.ax, blocks := s.ridge.blk, motion := s.motion
    portA := s.portA, portB := s.portB
    netSt := #v[netStatus s .a, netStatus s .b], ptpSt := ptpStatus s, ptpOff := i32 s.ptp.offset, casSt := casStatusWord s
    casMem := vtab 8 (casMemberWord s), conn := s.ridge.conn
    setpt := if s.ridge.tx.ftype = 0 then s.buf.setpt else vtab 8 (frameSetpt s.laneP s.ridge.tx)
    almSrc := almSrc s, motionRuns := motionRuns s }

/-- The refresh; then the pulse flags of the TPOs stand for the new tick. -/
def refreshBuf (s : State) : State :=
  { s with
    buf := bufOf s
    field := { s.field with tpo := vmap (fun x => { x with driven := false, offTick := false }) s.field.tpo } }

/-! ## The cascade in a tick (R220) -/

/-- The members that hold functions in this tick, each channel by its own view (R14, R123). -/
def casLatch (s : State) : State := { s with ridge := casBadOf s s.ridge, thatch := casBadOf s s.thatch }

/-! ## LOCKOUT_ACK (R92, R93, R276, R283) -/

/-- The input with role LOCKOUT_ACK. -/
def lockInput (cfg : Config.Image) : Option Nat := (List.range 48).find? (fun n => lookN cfg .inAckRole n 0 0 == 2)

/-- Has a channel, by its own frames, found an acknowledge on input `n` whose press began with the start conditions met (R20, R276)? -/
def startAcked (s : State) (n : Nat) (c : Chan) : Bool :=
  let x := vget c.inp n InCh.reset
  x.ack && decide (x.lastPress < s.pair.startOk)

/-- Gable's own counters of that input, from its filtered state and band of this refresh (R283), and the acknowledge that START_MODE =
ACK asks for, which does not depend on Gable: both channels have to find it (R7, R20, R276). -/
def lockAckStep (s : State) : State :=
  match lockInput s.active.image with
  | none => s
  | some n =>
    let x := vget s.field.inp n InFc.reset
    let bad := x.band == some 3 || x.band == some 1
    let a := ackStep (tickUs s) x.filt bad s.pair.lockAck
    let began := s.tick.boundary.toNat - a.lastPress * tickUnits s.tick.sel.toNat
    let inWin := match s.lockWin with
      | some w => s.gable.up && decide (w.opened.toNat ≤ began)
      | none => false
    let other := startConditions { s with pair := { s.pair with startAck := true } }
    { s with pair := { s.pair with
        lockAck := a
        ackPress := s.pair.ackPress || (a.ack && inWin)
        startAck := other && (s.pair.startAck || (startAcked s n s.ridge && startAcked s n s.thatch))
        startOk := if other then s.pair.startOk + 1 else 0 } }

/-! ## VERIFY report (R262, Table 11.7) -/

/-- A fault of this tick counted in the report. -/
def countEntry (n : W32) (e : FaultEntry) (l : List VerifyEntry) : List VerifyEntry :=
  let inst : BitVec 16 := BitVec.ofNat 16 e.arg.toNat
  if l.any (fun v => v.code == e.code && v.inst == inst) then
    l.map (fun v => if v.code == e.code && v.inst == inst then { v with count := v.count + 1 } else v)
  else l ++ [{ code := e.code, inst := inst, first := n, count := 1 }]

/-- Faults of class P, S and C present in this tick of a run. -/
def verifyTick (s : State) : State :=
  match s.mode, s.gable.verify with
  | .verify, some v =>
    if v.state != 0 then s
    else
      let l := ((s.faults ++ s.unlisted).filter (fun e => e.cls != .h)).foldl (fun a e => countEntry v.ticks e a) v.entries
      { s with gable := { s.gable with verify := some { v with entries := l, ticks := v.ticks + 1 } } }
  | _, _ => s

/-- The first boundary that the commands forced at s reach is b1 (R24, Table 14.3). -/
def shutdownB1 (s : State) : State :=
  match s.pwr.shutdown with
  | some x =>
    if s.pwr.b1.isNone && due s (x.toNat + tUs) then { s with pwr := { s.pwr with b1 := some s.tb.count } } else s
  | none => s

/-- What a boundary changes before its frames start. -/
def boundaryChanges (s : State) : State :=
  applyMargins (modeStep (heldStep (motionBoundary (splitBoundary (shutdownB1 s)))))

/-- TICK_BOUNDARY: phase 0 of a tick (R22 to R24, Table 2.1), `cycles` being the Thatch cycles since the last boundary. -/
def execTickBoundary (s : State) (cycles : Nat := 32000) : Host.Outcome State Fault Refusal :=
  if !boundaryDue s then .next s
  else
    let t := boundaryChanges (tickStart (thatchMeasure cycles s))
    .next (verifyTick (lockAckStep (casLatch (linkFaults (refreshBuf (framesOut t))))))

end Sys2Proof.Machine
end

