-- ==== Sys2Proof/Machine/Expiry.lean ====
section
/-! DEFINITION. Times of block instances that run out: what one instance does in the tick in which its count reaches or exceeds its
limit, in each running channel (R91, R110 to R121, R162, R163, R167, R171 to R173). -/

namespace Sys2Proof.Machine

/-- What a block expiry reads: the configuration, the instance, its channel's view of the axes. -/
structure RowCtx where
  x : BlkCtx
  k : Nat
  y : Config.Inst
  blk : List Blk
  deriving DecidableEq, Repr

/-- An instance's expiry in one channel: the block after it, none where it does not fall due. -/
abbrev Expiry := RowCtx → Blk → Option Blk

/-- One channel with the expiry of instance `k` applied, in a tick in which it has not been evaluated yet; the block as it stood is kept for
the evaluation (R106, R160). -/
def expireIn (g : Expiry) (s : State) (k : Nat) (y : Config.Inst) (c : Chan) : Chan :=
  if c.frozen || c.evaluated || c.early.any (fun q => q.1 == k) then c
  else
    match c.blk[k]? with
    | some b =>
      (match g { x := blkCtx (evalCfg s) (sharedOf s) c, k := k, y := y, blk := c.blk } b with
       | some d => { c with blk := c.blk.set k d, early := c.early ++ [(k, b)] }
       | none => c)
    | none => c

/-- The fault that instance `k` shows in a channel after the expiry, where the expiry changed it. -/
def newBlkFault (k : Nat) (old c : Chan) : List FaultOf :=
  match old.blk[k]?, c.blk[k]? with
  | some a, some b => on (a.fault != b.fault && b.fault != 0) b.fault (k + b.detail * 65536)
  | _, _ => []

/-- An expiry of instance `k`, if it is of one of these types, in both channels, with the faults that it raises. -/
def expire (typs : List Nat) (g : Expiry) (k : Nat) (s : State) : State :=
  if !s.mode.evaluates then s
  else
    match (evalCfg s).insts[k]? with
    | none => s
    | some y =>
      if !typs.contains y.typ then s
      else
        let p := expireIn g s k y s.ridge
        let t := expireIn g s k y s.thatch
        (newBlkFault k s.ridge p ++ newBlkFault k s.thatch t).foldl (fun u f => raiseFound (evalCfg s) f u) { s with ridge := p, thatch := t }

/-! ## Pairs and safety functions (R91, R110 to R119) -/

/-- PAIR: the count exceeds t_disc in PARTIAL or BROKEN (R91). -/
def pairExpiry : Expiry := fun q b =>
  match q.y.ins with
  | [.pin a, .pin _] =>
    if (b.st = 1 || b.st = 3) && decide (ticksOf (cfgT q.x.cfg) (lookN q.x.cfg .inTDisc a 0 100000) < b.cnt + 1) then
      some { b with st := 4, cnt := 0, fault := fcDiscrepancy, out := 0 }
    else none
  | _ => none

/-- PAIR_DISCREPANCY. -/
def execPairDiscrepancy (i : Nat) (s : State) : Host.Outcome State Fault Refusal := .next (expire [0x01] pairExpiry i s)

/-- ESTOP: T_STOP ends in STOPPING; Q drops, DEMAND (R110). -/
def estopExpiry : Expiry := fun q b =>
  if b.st = 3 && ticksFor q.x .estopTStop q.k 1000000 ≤ b.cnt + 1 then some { enter b 0 with out := 0 } else none

/-- ESTOP_STOP_DELAY_END. -/
def execEstopStopDelayEnd (i : Nat) (s : State) : Host.Outcome State Fault Refusal := .next (expire [0x02] estopExpiry i s)

/-- GUARD_LOCK: T_UNLOCK_MAX ends in RELEASED without an opened door; LOCKING (R112). -/
def unlockExpiry : Expiry := fun q b =>
  if b.st = 8 && !b.fA && ticksFor q.x .glTUnlockMax q.k 60000000 ≤ b.cnt + 1 then
    some { enter b 9 with fB := false, out := 0 }
  else none

/-- UNLOCK_TIMEOUT. -/
def execUnlockTimeout (i : Nat) (s : State) : Host.Outcome State Fault Refusal := .next (expire [0x04] unlockExpiry i s)

/-- GUARD_LOCK: the locking count exceeds T_LOCK under SEPARATE monitoring; FAULT with LOCK_TIMEOUT (R112). -/
def lockExpiry : Expiry := fun q b =>
  if b.st = 9 && b.fB && lookN q.x.cfg .glMonitor q.k 0 0 == 1 && decide (ticksFor q.x .glTLock q.k 1000000 < b.cnt + 1) then
    some { enter b 4 with fB := false, fault := fcLockTimeout, out := 0 }
  else none

/-- LOCK_TIMEOUT. -/
def execLockTimeout (i : Nat) (s : State) : Host.Outcome State Fault Refusal := .next (expire [0x04] lockExpiry i s)

/-- CURTAIN in FAULT with a muting fault: the muting state is given up (R115). -/
def mutingFault (code : BitVec 16) (b : Blk) : Blk :=
  { enter b 4 with fault := code, sel := 0, fA := false, cnt := 0, cnt2 := 0, seen := 0, out := 0 }

/-- CURTAIN: the sequence count exceeds T_12 or T_SYNC in ARMED (R114). -/
def mutingSeqExpiry : Expiry := fun q b =>
  if b.st = 2 && b.sel = 1 && decide ((mutingLimits q.x q.k).1 < b.cnt + 1) then some (mutingFault fcMutingSeq b) else none

/-- MUTING_SEQ_TIMEOUT. -/
def execMutingSeqTimeout (i : Nat) (s : State) : Host.Outcome State Fault Refusal :=
  .next (expire [0x05] mutingSeqExpiry i s)

/-- CURTAIN: the muting count exceeds T_MUTE_MAX in MUTED (R115). -/
def mutingTimeExpiry : Expiry := fun q b =>
  if b.st = 2 && b.sel = 2 && decide ((mutingLimits q.x q.k).2 < b.cnt2 + 1) then some (mutingFault fcMutingTime b) else none

/-- MUTING_TIME. -/
def execMutingTime (i : Nat) (s : State) : Host.Outcome State Fault Refusal := .next (expire [0x05] mutingTimeExpiry i s)

/-- TWO_HAND: the count exceeds N_SYNC in ONE; BLOCKED (R116). -/
def twoHandExpiry : Expiry := fun q b =>
  if b.st = 9 && decide (nSync (cfgT q.x.cfg) < b.cnt + 1) then some { enter b 11 with out := 0 } else none

/-- TWO_HAND_SYNC_TIMEOUT. -/
def execTwoHandSyncTimeout (i : Nat) (s : State) : Host.Outcome State Fault Refusal :=
  .next (expire [0x06] twoHandExpiry i s)

/-- ENABLE3: T_MAX ends in ENABLED; WAIT_RELEASE (R117). -/
def enable3Expiry : Expiry := fun q b =>
  let n := ticksFor q.x .en3TMax q.k 0
  if b.st = 9 && n != 0 && n ≤ b.cnt + 1 then some { enter b 10 with out := 0 } else none

/-- ENABLE3_T_MAX. -/
def execEnable3TMax (i : Nat) (s : State) : Host.Outcome State Fault Refusal := .next (expire [0x07] enable3Expiry i s)

/-- MODE_SEL: CHANGING longer than T_CHANGE; FAULT with MODE_IMPLAUSIBLE (R118). -/
def modeSelExpiry : Expiry := fun q b =>
  if b.st = 9 && decide (ticksFor q.x .msTChange q.k 500000 < b.cnt + 1) then
    some { enter b 4 with fault := fcModeImplausible, out := 0 }
  else none

/-- MODE_IMPLAUSIBLE. -/
def execModeImplausible (i : Nat) (s : State) : Host.Outcome State Fault Refusal := .next (expire [0x08] modeSelExpiry i s)

/-- KIND of the EDM count that exceeds its time: 1 pick, 2 drop, 0 none (R119). -/
def edmKind (q : RowCtx) (b : Blk) : Nat :=
  match b.st with
  | 8 => if b.fB && decide (ticksFor q.x .edmTDrop q.k 100000 < b.cnt + 1) then 2 else 0
  | 9 => if ticksFor q.x .edmTPick q.k 100000 < b.cnt + 1 then 1 else 0
  | 11 => if ticksFor q.x .edmTDrop q.k 100000 < b.cnt + 1 then 2 else 0
  | _ => 0

/-- EDM: a pick or drop count exceeds its time; FAULT with EDM_FAULT and KIND (R119). -/
def edmExpiry : Expiry := fun q b =>
  let kind := edmKind q b
  if kind = 0 then none else some { enter b 4 with fault := fcEdmFault, detail := kind, fB := false, out := 0 }

/-- EDM_FAULT. -/
def execEdmFault (i : Nat) (s : State) : Host.Outcome State Fault Refusal := .next (expire [0x09] edmExpiry i s)

/-! ## Timers and A_THRESH (R120, R121) -/

/-- TON sets its output with its input still 1, TOF and TP clear theirs (R120). -/
def timerExpiry : Expiry := fun q b =>
  let n := ticksFor q.x .timPt q.k 0
  if !b.fB || b.cnt + 1 < n then none
  else if q.y.typ = 0x0A then (if b.prev.getLsbD 0 then some { b with fA := true, fB := false, cnt := n, out := 1 } else none)
  else some { b with fA := false, fB := false, cnt := 0, out := 0 }

/-- TIMER_BLOCK_EXPIRY. -/
def execTimerBlockExpiry (i : Nat) (s : State) : Host.Outcome State Fault Refusal :=
  .next (expire [0x0A, 0x0B, 0x0C] timerExpiry i s)

/-- A_THRESH: n ticks beyond LIMIT make a demand; READY and ON go to DEMAND (R121). -/
def aThreshExpiry : Expiry := fun q b =>
  if b.fB && !b.fA && ticksFor q.x .atTDelay q.k 0 ≤ b.cnt + 1 then
    some { enter b (if b.st = 1 || b.st = 2 then 0 else b.st) with fA := true, fB := true, cnt := b.cnt + 1, out := 0 }
  else none

/-- A_THRESH_DELAY_END. -/
def execAThreshDelayEnd (i : Nat) (s : State) : Host.Outcome State Fault Refusal := .next (expire [0x12] aThreshExpiry i s)

/-! ## Motion blocks (R162, R163, R167, R171 to R173) -/

/-- The axis view of a motion block. -/
def rowAxis (q : RowCtx) : AxView := axView q.x (lookN q.x.cfg .bAxis q.k 0 0)

/-- A stop block in a new state with its outputs; BRAKING and SOS_ACTIVE capture the positions (R163, R166). -/
def stopTo (q : RowCtx) (st : Nat) (b : Blk) : Blk :=
  let v := rowAxis q
  let d := { enter b st with out := stopOut q.y.typ st (standstill v) }
  if st = 12 || st = 14 then capture v d else d

/-- SS1T: T_STOP ends in STOPPING; BRAKING or STO_ACTIVE (R162). -/
def ss1tExpiry : Expiry := fun q b =>
  if b.st = 11 && ticksFor q.x .s1TStop q.k 1000000 ≤ b.cnt + 1 then some (stopTo q (afterStop q.x q.k q.y.typ) b) else none

/-- SS1T_STOP_TIME_END. -/
def execSs1tStopTimeEnd (i : Nat) (s : State) : Host.Outcome State Fault Refusal := .next (expire [0x21] ss1tExpiry i s)

/-- BRAKING ends after T_BRAKE: STO_ACTIVE, or SOS_EXCEEDED where the axis has left its window (R163). -/
def brakingExpiry : Expiry := fun q b =>
  if b.st = 12 && nBrake q.x q.k ≤ b.cnt + 1 then
    some (if offWindow (rowAxis q) b (look q.x.cfg .sosWin q.k 0 1000) then { stopTo q 4 b with fault := fcSosExceeded }
      else stopTo q 9 b)
  else none

/-- BRAKING_END. -/
def execBrakingEnd (i : Nat) (s : State) : Host.Outcome State Fault Refusal := .next (expire [0x21, 0x22] brakingExpiry i s)

/-- SOS: SOS.T_DELAY ends with EN still 0: p0 is captured at standstill, else SOS_EXCEEDED (R167). -/
def sosExpiry : Expiry := fun q b =>
  if b.st = 13 && ticksFor q.x .sosTDelay q.k 0 ≤ b.cnt + 1 then
    if !standstill (rowAxis q) then some { stopTo q 4 b with fault := fcSosExceeded }
    else if linkVal q.x q.blk q.blk q.y.ins[0]? then none
    else some (stopTo q 14 b)
  else none

/-- SOS_DELAY_END. -/
def execSosDelayEnd (i : Nat) (s : State) : Host.Outcome State Fault Refusal := .next (expire [0x24] sosExpiry i s)

/-- SBC: SBC.T_REL ends in RELEASING; RELEASED (R171). -/
def sbcReleaseExpiry : Expiry := fun q b =>
  if b.st = 9 && ticksFor q.x .sbcTRel q.k 100000 ≤ b.cnt + 1 then some { enter b 10 with out := outs [true, true] } else none

/-- SBC_RELEASE_DELAY_END. -/
def execSbcReleaseDelayEnd (i : Nat) (s : State) : Host.Outcome State Fault Refusal :=
  .next (expire [0x28] sbcReleaseExpiry i s)

/-- SBC: SBT.T_TEST ends with TEST still 1 and every source in its window; the test has passed (R172, R173). -/
def brakeTestExpiry : Expiry := fun q b =>
  if b.st = 11 && b.prev.getLsbD 0 && ticksFor q.x .sbtTTest q.k 1000000 ≤ b.cnt + 1
      && !offWindow (rowAxis q) b (look q.x.cfg .sbtWin q.k 0 100) then
    some { enter b 8 with cnt2 := 0, fA := false, fB := false, out := outs [false, true] }
  else none

/-- BRAKE_TEST_END. -/
def execBrakeTestEnd (i : Nat) (s : State) : Host.Outcome State Fault Refusal := .next (expire [0x28] brakeTestExpiry i s)

/-- SBC: SBT.INTERVAL reached since the last passed test; releases are inhibited until a test passes (R173). -/
def overdueExpiry : Expiry := fun q b =>
  let n := sbtTicks q.x q.k
  if n != 0 && n ≤ b.cnt2 + 1 && !b.fA then some { b with fA := true, fB := true } else none

/-- Has instance `k` an interval of which `num`/10 have passed since the last passed test, in one channel? -/
def testAge (num k : Nat) (cfg : Config.Image) (c : Chan) : Bool :=
  let n := ticksOf (cfgT cfg) (lookN cfg .sbtInterval k 0 28800000000)
  match c.blk[k]? with
  | some b => !c.frozen && n != 0 && num * n ≤ 10 * (b.cnt2 + 1)
  | none => false

/-- Does instance `k` exist with this type, in a mode that evaluates? -/
def instIs (typ k : Nat) (s : State) : Bool :=
  s.mode.evaluates && (match (evalCfg s).insts[k]? with
    | some y => y.typ == typ
    | none => false)

/-- BRAKE_TEST_DUE: 90 % of SBT.INTERVAL, a warning (R173). -/
def execBrakeTestDue (i : Nat) (s : State) : Host.Outcome State Fault Refusal :=
  if instIs 0x28 i s && (testAge 9 i (evalCfg s) s.ridge || testAge 9 i (evalCfg s) s.thatch) then
    .next (raise fcBrakeTestDue i s)
  else .next s

/-- BRAKE_TEST_OVERDUE. -/
def execBrakeTestOverdue (i : Nat) (s : State) : Host.Outcome State Fault Refusal :=
  if instIs 0x28 i s && (testAge 10 i (evalCfg s) s.ridge || testAge 10 i (evalCfg s) s.thatch) then
    .next (raise fcBrakeTestOverdue i (expire [0x28] overdueExpiry i s))
  else .next s

end Sys2Proof.Machine
end

