-- ==== Sys2Proof/Machine/Lull.lean ====
section
/-! DEFINITION. LULL and the voted words: entry, triggers, LULL_ARM, the scrub (R340, R349 to R354). -/

namespace Sys2Proof.Machine

/-- `n` timebase clocks without a command: timebase, timer unit and RTC move on. -/
def clocks (n : Nat) (s : State) : State :=
  match n with
  | 0 => s
  | k + 1 => clocks k (idle s)

/-- Is a request for LULL taken: AO runs, no reset, no ordered shutdown, not in LULL already (R275, R351)? -/
def lullTaken (s : State) : Bool :=
  s.pwr.aoOn && !s.resetHeld && s.pwr.shutdown.isNone && !(s.mode ∈ [Mode.off, .backup, .lull])

/-- A class H fault that has not led to LOCKOUT yet, one that a SELFTEST has found again among them, leaves its flag in BK at the freeze
(R351). -/
def lullLock (s : State) : State := if s.hPend.isSome then setLockFlag s else s

/-- The engines and the tick generators stand still (R350). -/
def freezeEngines (s : State) : State :=
  { s with
    gableE := { s.gableE with up := false }
    n0 := { s.n0 with up := false }
    n1 := { s.n1 with up := false }
    w := { s.w with up := false }
    ridgeB := { s.ridgeB with up := false }
    tick := { s.tick with running := false, pulse := false } }

/-- The static level of R129 on both lanes, which reinitialises FA, with FA told of the freeze (Table 15.11). -/
def lullLevel (s : State) : State :=
  { s with
    laneP := laneReset s.laneP
    laneT := laneReset s.laneT
    field := fieldReset s.tb.count s.field
    fa := { Fa.reset with almOpen := s.fa.almOpen, everAccepted := s.fa.everAccepted, inLull := true } }

/-- Entry into LULL (Table 15.11): the level at t0, the freeze instant 1 µs later. -/
def lullEnter (cause : BitVec 2) (s : State) : State :=
  if !lullTaken s then s
  else
    let t := clocks tUs (lullLevel (lullLock s))
    let u := setGableUp false (freezeEngines t)
    irqSet 9 (irqSet 5 { u with
      mode := .lull
      hPend := none
      lull := { u.lull with
        active := true, cause := cause, stamp := u.tb.count, ecc := 0
        phase := BitVec.ofNat 32 (u.tb.count.toNat - s.tick.boundary.toNat)
        fromMode := BitVec.ofNat 4 s.mode.code } })

/-- Is a low level of LULL_N a request: from 1 µs on; below 0.1 µs it is ignored; between, it may be one (R349). -/
def lullLow (lowNs draw : Nat) : Bool := 1000 ≤ lowNs || (100 ≤ lowNs && Config.shortLull draw)

/-- LULL_N_ASSERT. -/
def execLullNAssert (lowNs : Nat) (s : State) : Host.Outcome State Fault Refusal :=
  let d := { s with free := s.free + 1 }
  .next (if lullLow lowNs s.free then lullEnter 1 d else d)

/-- RESET_N released: BOOT, cause 1, with its steps as far as they succeed (R277, R281); with LULL_N low the request counts from the
release, and the module freezes in BOOT (R351). -/
def execResetNRelease (env : BootEnv) (s : State) : Host.Outcome State Fault Refusal :=
  if !s.resetHeld then .next s
  else
    let t := bootStep1 1 env.almOpen s
    .next (if env.lullN then lullEnter 1 t else bootSteps env t)

/-- The trigger's code. -/
def trigOf (s : State) : Nat := s.lull.trig.val.toNat % 4

/-- The 64-bit argument of a trigger. -/
def trigArg (s : State) : Nat := s.lull.argHi.val.toNat * 2 ^ 32 + s.lull.argLo.val.toNat

/-- Is the armed trigger met (R352)? -/
def trigMet (s : State) : Bool :=
  match trigOf s with
  | 0 => false
  | 3 => trigArg s ≤ s.tb.count.toNat
  | _ => s.lull.matched != 0

/-- LULL_TRIGGER_FIRE: the trigger fires once and is disarmed (R352). -/
def execLullTriggerFire (s : State) : Host.Outcome State Fault Refusal :=
  if trigMet s && s.pwr.aoOn && !s.resetHeld then
    .next (lullEnter 3 { s with lull := { s.lull with trig := Voted.of 0 } })
  else .next s

/-- Write a voted trigger register: 0 LULL_TRIG, 1 and 2 its argument. Arming begins anew with the trigger (R340, R352). -/
def writeTrig (reg : Nat) (v : W32) (s : State) : State :=
  match reg with
  | 0 => { s with lull := { s.lull with trig := Voted.of (v &&& 3), matched := 0 } }
  | 1 => { s with lull := { s.lull with argLo := Voted.of v } }
  | _ => { s with lull := { s.lull with argHi := Voted.of v } }

/-- LULL_ARM (Table 11.7): TRIGGER 0 disarms. -/
def armBody (r : Req) (s : State) : State × Answer :=
  if r.payload.length != 12 then (s, answer stBadLength)
  else if 3 < r.num 0 1 || r.num 1 3 != 0 then (s, answer stBadParameter)
  else
    (writeTrig 0 (BitVec.ofNat 32 (r.num 0 1)) (writeTrig 1 (BitVec.ofNat 32 (r.num 8 4))
      (writeTrig 2 (BitVec.ofNat 32 (r.num 4 4)) s)), answer stOk)

/-- LULL_ARM. -/
def execLullArm (r : Req) (s : State) : Host.Outcome State Fault Refusal := .next (serve ccLullArm r (armBody r) s)

/-! ## The scrub of the voted words (R340) -/

/-- Are the three copies equal? -/
def Voted.agrees {n : Nat} (v : Voted n) : Bool := v.a == v.b && v.b == v.c

/-- A voted word after the scrub. -/
def Voted.scrubbed {n : Nat} (v : Voted n) : Voted n := if v.agrees then v else Voted.of v.val

/-- Words of LIFE, ANCHOR and CFG (Table 13.1) whose copies differ. -/
def shadowUpsets (v : Voted 8192) : Nat :=
  ((List.range 83).filter (fun k =>
    !(fld v.a (32 * (48 + k)) 32 == fld v.b (32 * (48 + k)) 32 && fld v.b (32 * (48 + k)) 32 == fld v.c (32 * (48 + k)) 32))).length

/-- Corrections that a scrub makes now, one for each word. -/
def upsets (s : State) : Nat :=
  ([s.lull.trig.agrees, s.lull.argLo.agrees, s.lull.argHi.agrees, s.bk.lockFlag.agrees, s.bk.lockCause.agrees].filter
    (fun b => !b)).length + shadowUpsets s.slate.shadow

/-- The Slate shadow after the scrub of its voted regions. -/
def scrubShadow (v : Voted 8192) : Voted 8192 :=
  let put (x : BitVec 8192) : BitVec 8192 := (x &&& ~~~guardedMask) ||| (v.val &&& guardedMask)
  { a := put v.a, b := put v.b, c := put v.c }

/-- One bit of one copy flipped. -/
def Voted.flip {n : Nat} (k : Fin 3) (b : Nat) (v : Voted n) : Voted n :=
  let m : BitVec n := BitVec.ofNat n (2 ^ b)
  match k with
  | 0 => { v with a := v.a ^^^ m }
  | 1 => { v with b := v.b ^^^ m }
  | 2 => { v with c := v.c ^^^ m }

/-- A copy of a voted word upset since the last scrub; reserved bits, and Slate bits outside LIFE, ANCHOR and CFG, have no voted storage
(R340; log entry 127). -/
def tmrUpset (s : State) (u : TmrUpset) : State :=
  match u.word with
  | .lullTrig => if u.bitNo < 2 then { s with lull := { s.lull with trig := s.lull.trig.flip u.copy u.bitNo } } else s
  | .lullArgLo => { s with lull := { s.lull with argLo := s.lull.argLo.flip u.copy u.bitNo } }
  | .lullArgHi => { s with lull := { s.lull with argHi := s.lull.argHi.flip u.copy u.bitNo } }
  | .lockFlag => { s with bk := { s.bk with lockFlag := s.bk.lockFlag.flip u.copy u.bitNo } }
  | .lockCause => { s with bk := { s.bk with lockCause := s.bk.lockCause.flip u.copy u.bitNo } }
  | .slateShadow =>
    if guardedMask.getLsbD u.bitNo then { s with slate := { s.slate with shadow := s.slate.shadow.flip u.copy u.bitNo } } else s

/-- The scrub of every voted word, with TMR_SCRUB_COUNT. -/
def tmrScrub (s : State) : State :=
  { s with
    scrubs := BitVec.ofNat 32 (satAdd max32 s.scrubs.toNat (upsets s))
    lull := { s.lull with trig := s.lull.trig.scrubbed, argLo := s.lull.argLo.scrubbed, argHi := s.lull.argHi.scrubbed }
    bk := { s.bk with lockFlag := s.bk.lockFlag.scrubbed, lockCause := s.bk.lockCause.scrubbed }
    slate := { s.slate with shadow := scrubShadow s.slate.shadow } }

/-- TMR_SCRUB: upsets of single copies, then the scrub (R340). -/
def execTmrScrub (s : State) (flips : List TmrUpset := []) : Host.Outcome State Fault Refusal :=
  .next (if s.pwr.aoOn then tmrScrub (flips.foldl tmrUpset s) else s)

end Sys2Proof.Machine
end

