-- ==== Sys2Proof/Machine/Flags.lean ====
section
/-! DEFINITION. The status words: what a register reads, from the state or from the buffers that its owner refreshes
(R98, R147, R178, R200, R228, R312, R333, R342, R343, R348; Tables 2.6, 3.6, 4.8 to 4.10, 6.10 to 6.12, 7.12 to 7.15, 8.10 to 8.12,
9.10, 9.11, 11.5, 13.5 to 13.7, 14.9, 14.10, 15.3 to 15.10). -/

namespace Sys2Proof.Machine

/-! ## Host window -/

/-- HW_REV (Table 15.3): of the module's Slate word; its reset value, with the bit of an -X module, until AO has latched the Slate. -/
def hwRev (s : State) : W32 :=
  if s.slate.readDone then w32 (fld (shadowOf s) 1184 16 * 65536 + bit (Config.variantX (shadowOf s)) 8)
  else w32 (0x00C20000 + bit (Config.variantX (slateValue s.slate.cells)) 8)

/-- MOD_STATUS: MODE and LOCK_REC live, the other fields as Gable refreshed them (R343). -/
def modStatus (s : State) : W32 :=
  w32 (s.mode.code * 2 ^ 28 + fld s.host.modStat 24 4 * 2 ^ 24 + bit (s.bk.lockFlag.val == 1) 23 + fld s.host.modStat 15 8 * 2 ^ 15)

/-- Is a login back-off in force (R255)? -/
def backoffOn (s : State) : Bool := backoffLeft s != 0

/-- MBX_STATUS (Table 11.5). -/
def mbxStatus (s : State) : W32 :=
  let g := s.gable
  w32 (g.lastStatus.toNat * 2 ^ 24 + min 64 g.evtPending * 2 ^ 16 + g.spi.level.toNat * 2 ^ 14 + bit g.up 7 + bit g.reqBusy 6
    + bit g.rspReady 5 + bit g.evtLost 4 + bit g.overrun 3 + bit (backoffOn s) 2 + bit (g.usb.level == 2) 1 + bit s.pwr.shedEvt 0)

/-- Is the guard of RWK registers open (R338)? -/
def guardOpen (s : State) : Bool :=
  match s.host.guard with
  | some t => decide (s.tb.count.toNat < t.toNat)
  | none => false

/-- UNLOCK as it reads (Table 15.7). -/
def unlockWord (s : State) : W32 := w32 (s.host.keyFails.toNat * 256 + bit (guardOpen s) 0)

/-- IND_ADDR as it reads (Table 15.7). -/
def indAddrWord (s : State) : W32 := w32 (bit s.host.domOff 31 + s.host.indAddr.toNat / 4 * 4)

/-- LULL_CTRL as it reads (Table 15.7). -/
def lullCtrl (s : State) : W32 := w32 (bit s.lull.active 30 + s.lull.cause.toNat * 2 ^ 28 + bit (trigOf s != 0) 27)

/-- TICK_INFO (Table 2.8). -/
def tickInfo (s : State) : W32 :=
  w32 (s.tick.dev.toNat * 2 ^ 16 + bit s.tick.running 8 + s.tick.clk.num * 64 + s.tick.sel.toNat)

/-- MIR_SIGj (Table 15.6). -/
def mirSig (m : Mirror) (j : Nat) : W32 := bitsOf 32 (fun k => m.sig.getD (32 * j + k) false)

/-! ## Module, channels, power, Weathering, Slate -/

/-- CH_STATUS (Table 3.6). -/
def chStatus (s : State) : W32 :=
  let p := s.pair
  w32 (bit p.diverged 15 + bit p.split 14 + bit p.joinBusy 13 + bit p.splitBusy 12 + bit p.vecOk 9 + bit p.digestOk 8
    + bit p.thatchLoaded 1 + bit p.ridgeLoaded 0)

/-- SRC_DIGESTk: word 0 is bits [255:224]. -/
def srcDigest (s : State) (k : Nat) : W32 :=
  if s.pair.ridgeLoaded && s.active.valid then word32 s.active.image.ridgeDigest (32 * (7 - k)) else 0

/-- PWR_STATUS (Table 14.10). -/
def pwrStatus (s : State) : W32 :=
  let p := s.pwr
  w32 (bit p.shedUsb 31 + bit p.shedEvt 30 + bit p.shedMirror 29 + bit p.shedWrep 28 + s.tick.clk.num * 2 ^ 26
    + bit p.ride.isSome 25 + bit (p.shutdown.isSome && p.doneAt.isNone) 24 + bit (hasCode s fcLplusLow) 23 + bit (hasCode s fcTempHigh) 22
    + bit (hasCode s fcTempLimit) 21 + bit (hasCode s fcVbatLow) 20 + bit p.bkGood 19 + bit s.bk.rtcValid 18
    + bit s.bk.tamper 17 + p.domains.toNat)

/-- HOLD as PWR_LPLUS shows it: while the module runs from HOLD a value that falls, at least at 13.0 V, after the start of a shutdown at
9.0 V, and never below what L+ feeds (R314, R317; log entry 218). -/
def holdRead (s : State) : Nat :=
  let p := s.pwr
  if p.ride.isSome || p.shutdown.isSome then
    max (min p.hold (max (if p.shutdown.isSome then 9000 else 13000) (p.lplus - 400))) (p.hold - Config.holdSag s.tb.count.toNat)
  else p.hold

/-- The power registers from 0x00_3008 on (Table 14.9). -/
def pwrWord (s : State) (k : Nat) : W32 :=
  match k with
  | 2 => w32 (min 1023 (holdRead s / 50) * 65536 + min 1023 (s.pwr.lplus / 50))
  | 3 => w32 (min 4095 s.pwr.vbat)
  | 4 => w32 ((BitVec.ofInt 16 s.pwr.die).toNat * 65536 + (BitVec.ofInt 16 s.pwr.fieldSide).toNat)
  | 5 => w32 (s.pwr.holdup.toNat * 65536)
  | 6 => s.bk.tamperSec
  | _ => 0

/-- The Weathering summary; W_UP is live (R348). -/
def wthWord (s : State) (k : Nat) : W32 := if k = 0 then setBit s.wth.sum[0] 30 s.w.up else vget s.wth.sum k 0

/-- SLATE_STATUS (Table 13.6). -/
def slateStatus (s : State) : W32 :=
  let w := shadowOf s
  let bits (n at_ : Nat) (f : Nat → Bool) : Nat := (bitsOf n f).toNat * 2 ^ at_
  w32 (lifeState w * 2 ^ 29 + bits 5 24 (regionLock w) + bits 8 16 (slotLock w) + bits 8 8 (slotOk w)
    + (newestSlot w).getD 0 * 32 + bit (newestSlot w).isSome 4 + bit (sealRequired w) 3 + bit (anchored w s) 2
    + bit (debugOpen w) 1 + bit s.slate.readDone 0)

/-- SLATE_WEAK_CNT. -/
def slateWeakCnt (s : State) : W32 := w32 (popCount (s.slate.weak &&& guardedMask) * 65536 + popCount s.slate.weak)

/-! ## Lanes, inputs, outputs and supplies (from the buffers, R346) -/

/-- LANE_x_STATUS (Table 15.10). -/
def laneStatus (l : LaneFc) : W32 :=
  let h := l.lastHdr
  let seq := match l.frame with
    | some f => f.seq.toNat
    | none => 0
  w32 (bit l.silent 31 + bit l.resetLevel 30 + bit l.echoOk 29 + bit (h.getLsbD 10) 28 + bit (h.getLsbD 9) 27
    + bit (h.getLsbD 8) 26 + fld h 3 5 * 2 ^ 21 + bit (h.getLsbD 2) 20 + bit (h.getLsbD 1) 19 + seq)

/-- LANE_x_ERR. -/
def laneErr (l : LaneFc) : W32 := w32 (l.rejected.toNat * 65536 + l.failed.toNat)

/-- The filtered inputs of the buffer. -/
def inState (b : IndBuf) : BitVec 48 := bitsOf 48 (fun n => (vget b.field.inp n InFc.reset).filt)

/-- The follow results of the buffer, as the lane P field controller reports them (R88, R98). -/
def inGust (b : IndBuf) : BitVec 48 :=
  bitsOf 48 (fun n => let x := vget b.field.inp n InFc.reset
                      x.followOk && !tpoFails b.laneP b.field.tpo n x)

/-- Band code of an input; BREAK before the first report (Table 4.2). -/
def bandOf (b : IndBuf) (n : Nat) : Nat := ((vget b.field.inp n InFc.reset).band.getD 0).toNat

/-- IN_BANDj. -/
def inBand (b : IndBuf) (j : Nat) : W32 := w32 ((List.range 16).foldl (fun a k => a + bandOf b (16 * j + k) * 4 ^ k) 0)

/-- IN_DIAGn (Table 4.9). -/
def inDiag (b : IndBuf) (n : Nat) : W32 :=
  let i := vget b.field.inp n InFc.reset
  w32 (i.kind.toNat * 2 ^ 24 + i.edgeDly.toNat * 2 ^ 16 + bandOf b n * 2 ^ 14 + min 4095 i.current)

/-- TPO_STATm (Table 4.10). -/
def tpoStat (b : IndBuf) (m : Nat) : W32 :=
  let x := vget b.field.tpo m TpoFc.reset
  w32 (min 255 x.current * 256 + fcTpoMode b.laneP m * 64 + bit x.overload 3 + bit x.stuck 2 + bit x.mismatch 1 + bit x.driven 0)

/-- The LIVE bits of the buffer. -/
def outLive (b : IndBuf) : BitVec 28 := bitsOf 28 (fun o => (vget b.field.out o OutFc.reset).live)

/-- OUT_DIAGn (Table 6.11). -/
def outDiag (b : IndBuf) (o : Nat) : W32 :=
  let x := vget b.field.out o OutFc.reset
  w32 (vget b.outKind o 0 % 16 * 2 ^ 28 + bit (b.outBright.getLsbD o) 27 + bit (b.outFirst.getLsbD o) 26
    + min 4095 x.load * 2 ^ 12 + min 63 x.offP * 64 + min 63 x.offT)

/-- Outputs of group `m`: A to D six each, BK four. -/
def groupLoad (b : IndBuf) (m : Nat) : Nat :=
  ((List.range 28).filter (fun o => groupOfOut o == m)).foldl (fun a o => a + (vget b.field.out o OutFc.reset).load) 0

/-- FS_STATm (Table 6.12). -/
def fsStat (b : IndBuf) (m : Nat) : W32 :=
  let x := vget b.field.sup m Supply.reset
  w32 ((if m < 5 then min 4095 (groupLoad b m / 10) else 0) * 2 ^ 20 + x.st.toNat * 2 ^ 14 + x.volt.toNat)

/-! ## Motion -/

/-- Is a NET source not usable in the buffer (R156)? -/
def netUnusable (cfg : Config.Image) (b : IndBuf) (n : Nat) : Bool :=
  let c := lookN cfg .axisNetConn n 0 0
  let st := (vget b.conn c Conn.reset).st
  !(st == 1 || st == 2)
    || 2 * usedC cfg c ≤ (vget b.ax n AxCh.reset).netAge * cfgT cfg

/-- The motion blocks of an axis in the buffer, with their types. -/
def axisBlocks (cfg : Config.Image) (b : IndBuf) (n : Nat) : List (Nat × Blk) :=
  (cfg.insts.zipIdx.filter (fun y => 0x20 ≤ y.1.typ && y.1.typ ≤ 0x28 && lookN cfg .bAxis y.2 0 0 == n)).filterMap
    (fun y => (b.blocks[y.2]?).map (fun k => (y.1.typ, k)))

/-- Bit of BRQ among the outputs of a stop block (Table 7.4). -/
def brqBit (typ : Nat) : Nat := if typ = 0x20 then 2 else 3

/-- AXn_STATUS (Table 7.13). -/
def axStatus (cfg : Config.Image) (b : IndBuf) (n : Nat) : W32 :=
  let q := vget b.ax n AxCh.reset
  let net := srcNet cfg n
  let okA := q.haveA && recValid q.recA
  let okB := q.haveB && (if net then !netUnusable cfg b n else recValid q.recB)
  let spd := (if okA then [q.recA] else []) ++ (if okB && !net then [q.recB] else [])
  let vss := look cfg .axisVSs n 0 1000
  let still := !spd.isEmpty && spd.all (fun r => decide (sgn r.vMax ≤ vss) && decide (-vss ≤ sgn r.vMin))
  let blks := axisBlocks cfg b n
  let stop := blks.filter (fun y => y.1 ≤ 0x24)
  if !lookB cfg .axisEnable n false then 0
  else
    w32 (bit true 31 + bit net 30 + bit (okA && okB) 29 + bit still 28 + min 15 q.dev * 2 ^ 24 + recFault q.recA * 2 ^ 20
      + (if net then (if netUnusable cfg b n then 7 else 0) else recFault q.recB) * 2 ^ 16
      + bit (blks.any (fun y => y.2.st == 4)) 8 + bit (blks.any (fun y => y.2.st == 5)) 7
      + bit (given cfg .axisStoOut n && (outSignals cfg b.blocks).getLsbD (lookN cfg .axisStoOut n 0 0)) 6
      + bit (stop.any (fun y => y.1 != 0x24 && y.2.out.getLsbD (brqBit y.1))) 5)

/-- Position of a source, high or low word: the axis index is 2n for source a, 2n + 1 for source b. -/
def axPos (b : IndBuf) (n : Nat) (srcB : Bool) : W64 :=
  let q := vget b.ax n AxCh.reset
  if srcB then q.recB.pos else q.recA.pos

/-- The shadow of a position (R178). -/
def posShadow (s : State) (n : Nat) (srcB : Bool) : Option W32 := vget s.host.posShadow (2 * n + bit srcB 0) none

/-- The registers of an axis by word (Table 7.12). -/
def axWord (s : State) (n k : Nat) : W32 :=
  let q := vget s.buf.ax n AxCh.reset
  let net := srcNet s.active.image n
  match k with
  | 0 => axStatus s.active.image s.buf n
  | 1 => w32 (axPos s.buf n false).toNat
  | 2 => (posShadow s n false).getD (w32 ((axPos s.buf n false).toNat / 2 ^ 32))
  | 3 => w32 (axPos s.buf n true).toNat
  | 4 => (posShadow s n true).getD (w32 ((axPos s.buf n true).toNat / 2 ^ 32))
  | 5 => q.recA.vLast
  | 6 => if net then 0 else q.recB.vLast
  | 7 => q.recA.aLast
  | 8 => if net then 0 else q.recB.aLast
  | 9 => i32 q.devPos
  | 10 => i32 q.devSpd
  | 11 => w32 (bit (s.ev.axEvt.getLsbD n) 0)
  | _ => 0

/-- ENC_DIAGi (Table 7.14). -/
def encDiag (cfg : Config.Image) (b : IndBuf) (i : Nat) : W32 :=
  let e := vget b.motion.enc i Enc.reset
  w32 (encTyp cfg i % 16 * 2 ^ 28 + faultCodeOf e.fault * 2 ^ 24 + min 255 e.qual * 2 ^ 16 + e.seq.toNat)

/-- ENC_PWR_STATj (Table 7.15). -/
def encPwrStat (b : IndBuf) (j : Nat) : W32 :=
  let p := vget b.motion.pwr j { st := 0, volt := 0, cur := 0, bad := 0, lim := 0, good := 0 }
  w32 (p.cur.toNat * 256 + p.st.toNat * 64 + p.volt.toNat)

/-- Does an engine deliver records: M0 those of the sources a, M1 those of the sources b that are not NET (Table 7.15, R156)? -/
def engineDelivers (cfg : Config.Image) (b : Bool) : Bool :=
  (List.range 8).any (fun n => lookB cfg .axisEnable n false && !(b && srcNet cfg n))

/-- MO_STATUS (Table 7.15). -/
def moStatus (s : State) : W32 :=
  let run (b : Bool) : Bool := s.buf.motionRuns && engineDelivers s.active.image b
  w32 (s.ev.moEvt.toNat * 4 + bit (run true && !s.buf.motion.silent1) 1 + bit (run false && !s.buf.motion.silent0) 0)

/-! ## Analogue -/

/-- DEV_PCT: |x_SD − x_SAR| in % of UAC.TOL. -/
def devPct (cfg : Config.Image) (n : Nat) (a : AnCh) : Nat :=
  min 255 ((absW 32 (subW 32 a.x a.xSar)).toNat * 100 / max 1 (cfgTol cfg n).natAbs)

/-- UACn_STATUS (Table 8.11). -/
def uacStatus (s : State) (n : Nat) : W32 :=
  let a := vget s.buf.an n AnCh.reset
  let row := vget s.buf.anRow n 6
  w32 (lookN s.active.image .uacMode n 0 0 % 16 * 2 ^ 28 + a.fault % 16 * 2 ^ 24 + a.st % 4 * 2 ^ 22
    + bit (uacOut s.active.image n && decide (2 ≤ row) && decide (row ≤ 5)) 21 + bit a.latch 20
    + (vget s.buf.anStat n 0).toNat * 2 ^ 16 + min 15 a.dev * 2 ^ 12 + devPct s.active.image n a)

/-- The registers of an analogue channel by word (Table 8.10). -/
def uacWord (s : State) (n k : Nat) : W32 :=
  let a := vget s.buf.an n AnCh.reset
  match k with
  | 0 => uacStatus s n
  | 1 => i32 a.y
  | 2 => i32 a.x
  | 3 => i32 a.xSar
  | 4 => w32 (vget s.buf.setpt n 0).toNat
  | 5 => i32 (vget s.buf.fa.ch n AnFa.reset).drv
  | _ => 0

/-- FA_STATUS (Table 8.12). -/
def faStatus (s : State) : W32 :=
  let v := vget s.buf.field.sup 6 Supply.reset
  w32 (s.buf.almSrc * 2 ^ 30 + bit s.buf.fa.almOpen 29 + bit s.buf.fa.silentP 28 + bit s.buf.fa.silentT 27 + v.st.toNat * 2 ^ 14
    + v.volt.toNat)

/-! ## Networks -/

/-- NETA_LED_N or NETB_LED_N is driven low while the link is up, a half-duplex one included, and the port has power (R362). -/
def ledLow (s : State) (p : NetPort) : Bool := portPowered p s && ((portOf p s).link || (portOf p s).duplex)

/-- CONNi_STATUS of the i-th connection of the configuration (Table 9.11). -/
def connStatus (cfg : Config.Image) (b : IndBuf) (i : Nat) : W32 :=
  match (conns cfg)[i]? with
  | some c =>
    let n := vget b.conn c Conn.reset
    if consumes cfg c then
      w32 (n.st % 8 * 2 ^ 29 + bit (isCsf cfg c) 27 + bit n.copyA 26 + bit n.copyB 25 + min (2 ^ 24 - 1) n.lee)
    else w32 (bit true 28 + bit (isCsf cfg c) 27)
  | none => 0

/-- CONNi_CNT. -/
def connCnt (cfg : Config.Image) (b : IndBuf) (i : Nat) : W32 :=
  match (conns cfg)[i]? with
  | some c =>
    let n := vget b.conn c Conn.reset
    w32 (min 65535 n.singles * 65536 + min 65535 n.discards)
  | none => 0

/-- CASCADE_STATUS: CAS_STATUS, CAS_MEMBER0 to 7, PTP_STATUS, PTP_OFFSET (R228, Table 11.7). -/
def cascadePayload (s : State) : List Byte :=
  be 4 s.buf.casSt.toNat ++ s.buf.casMem.toList.flatMap (fun w => be 4 w.toNat) ++ be 4 s.buf.ptpSt.toNat ++ be 4 s.buf.ptpOff.toNat

/-- CASCADE_STATUS. -/
def execCascadeStatus (r : Req) (s : State) : Host.Outcome State Fault Refusal :=
  .next (serve ccCascadeStatus r (noPayload r fun t => (t, answerOk (cascadePayload t))) s)

end Sys2Proof.Machine
end

