-- ==== Sys2Proof/Machine/Regs.lean ====
section
/-! DEFINITION. The register window and the indirect space: reads, writes, aliases, read-clear and guarded registers
(R334 to R348, R352, R353; Tables 15.1 to 15.13). -/

namespace Sys2Proof.Machine

/-! ## The LULL capture (R353, Table 15.13) -/

/-- Capture header. -/
def captureHeader (s : State) (k : Nat) : W32 :=
  match k with
  | 0 => s.tick.count
  | 1 => s.lull.phase
  | 2 => w32 (s.lull.fromMode.toNat * 2 ^ 28 + s.lull.cause.toNat * 2 ^ 26 + s.tick.clk.num * 2 ^ 24 + s.lull.matched.toNat)
  | 3 => s.lull.ecc
  | _ => 0

/-- A CVU's register block by word (Table 10.4). -/
def cvuWord (c : Cvu) (k : Nat) : W32 :=
  match k with
  | 0 => c.ctrl
  | 1 => cvuStat c
  | 2 => word32 c.poly 0
  | 3 => word32 c.poly 32
  | 4 => word32 c.init 0
  | 5 => word32 c.init 32
  | 6 => word32 c.xor 0
  | 7 => word32 c.xor 32
  | 8 => word32 c.prefixV 0
  | 9 => word32 c.prefixV 32
  | 10 => word32 c.value 0
  | 11 => word32 c.value 32
  | 12 => c.length
  | 14 => word32 c.result 0
  | 15 => word32 c.result 32
  | _ => 0

/-- The exchange buffer by word: both result records, then the source digests. -/
def exchangeWord (s : State) (k : Nat) : W32 :=
  if k < 8 then vget s.ridge.record k 0
  else if k < 16 then vget s.thatch.record (k - 8) 0
  else if k < 24 then word32 s.active.image.ridgeDigest (32 * (23 - k))
  else if k < 32 then word32 s.active.image.thatchDigest (32 * (31 - k))
  else 0

/-- Does an address lie in an engine-internal block of the capture? -/
def captureInternal (a : Nat) : Bool :=
  (0x601000 ≤ a && a < 0x609000) || (0x60A000 ≤ a && a < 0x60A800) || (0x610000 ≤ a && a < 0x611000)
    || (0x620000 ≤ a && a < 0x640000)

/-- A word of the Thatch configuration memory: 32 bytes a row, the byte at the lowest address first (log entry 16). -/
def rowWord (s : State) (k : Nat) : W32 :=
  match s.thatchMem.rows[k / 8]? with
  | some r => word32 r.bits (32 * (7 - k % 8))
  | none => 0

/-- A word of the tightly coupled memories, from 0x70_0000. -/
def tcmWord (s : State) (a : Nat) : W32 :=
  let o := a % 0x40000
  match a / 0x40000 - 28 with
  | 0 => memReadWord s.tcm.instrA o
  | 1 => if o < 0x20000 then memReadWord s.tcm.dataA o else 0
  | 2 => memReadWord s.tcm.instrB o
  | 3 => if o < 0x20000 then memReadWord s.tcm.dataB o else 0
  | _ => 0

/-- Has the word a double-bit error: those met in the tightly coupled memories, and in the input buffers by their own store? -/
def captureDed (a : Nat) (s : State) : Bool :=
  if 0x700000 ≤ a then s.tcm.ded.contains (a / 4 * 4)
  else 0x620000 ≤ a && a < 0x640000 && Config.captureDed a s.lull.stamp.toNat

/-- A word of the capture. -/
def captureAt (a : Nat) (s : State) : W32 :=
  if a < 0x600010 then captureHeader s ((a - 0x600000) / 4)
  else if captureInternal a then Config.captureWord a s.lull.stamp.toNat
  else if 0x609000 ≤ a && a < 0x609400 then cvuWord (vget s.cvu ((a - 0x609000) / 256) Cvu.reset) ((a - 0x609000) % 256 / 4)
  else if 0x60B000 ≤ a && a < 0x60C000 then exchangeWord s ((a - 0x60B000) / 4)
  else if 0x640000 ≤ a && a < 0x680000 then rowWord s ((a - 0x640000) / 4)
  else if 0x700000 ≤ a && a < 0x800000 then tcmWord s a
  else 0

/-! ## Indirect space (R346 to R348, Table 15.8) -/

/-- A timer-unit register (Table 2.10). -/
def tmuWord (a : Nat) (s : State) : W32 :=
  let n := (a - 0x1000) / 16
  if 0x1200 ≤ a then (if a = 0x1200 then s.tmu.per else if a = 0x1204 then s.tmu.lead else 0)
  else
    match a % 16 / 4 with
    | 0 => (tmuAt s n).ctrl
    | 1 => (tmuAt s n).presc
    | 2 => (tmuAt s n).adv
    | _ => tmuStat (tmuAt s n)

/-- A channel register (Table 3.5). -/
def channelWord (a : Nat) (s : State) : W32 :=
  let k := (a - 0x2000) / 4
  match k with
  | 0 => chStatus s
  | 1 => s.ev.chFlags
  | 2 => s.pair.xcmpTick
  | 3 => w32 s.pair.xcmpFields.toNat
  | 4 => s.pair.eccCorr
  | 5 => s.pair.thatchPass
  | _ =>
    if 8 ≤ k && k < 16 then vget s.pair.xcmpP (k - 8) 0
    else if 16 ≤ k && k < 24 then vget s.pair.xcmpT (k - 16) 0
    else if 32 ≤ k && k < 40 then srcDigest s (k - 32)
    else 0

/-- A register of AO below 0x10_0000. -/
def aoWord (a : Nat) (s : State) : W32 :=
  if a < 0x1000 then
    (if a = 0 then s.scrubs else if a = 0x10 then s.lull.trig.val else if a = 0x14 then s.lull.argLo.val
     else if a = 0x18 then s.lull.argHi.val else 0)
  else if a < 0x2000 then tmuWord a s
  else if a < 0x3000 then channelWord a s
  else if a < 0x4000 then (if a = 0x3000 then pwrStatus s else if a = 0x3004 then s.ev.pwr else pwrWord s ((a - 0x3000) / 4))
  else if a < 0x4010 then wthWord s ((a - 0x4000) / 4)
  else if a = 0x4010 then s.ev.wth
  else 0

/-- A register of FD (Tables 4.8, 6.10, 15.9). -/
def fdWord (a : Nat) (s : State) : W32 :=
  let b := s.buf
  let o := a - 0x100000
  if o < 0x100 then
    (if o = 0 then laneStatus b.laneP else if o = 4 then laneStatus b.laneT else if o = 8 then laneErr b.laneP
     else if o = 12 then laneErr b.laneT else 0)
  else if o < 0x200 then
    (match (o - 0x100) / 4 with
     | 0 => word32 (inState b) 0
     | 1 => word32 (inState b) 32
     | 2 => inBand b 0
     | 3 => inBand b 1
     | 4 => inBand b 2
     | 5 => word32 (inGust b) 0
     | 6 => word32 (inGust b) 32
     | 7 => word32 s.ev.inEvt 0
     | 8 => word32 s.ev.inEvt 32
     | _ => 0)
  else if o < 0x2C0 then inDiag b ((o - 0x200) / 4)
  else if 0x300 ≤ o && o < 0x340 then tpoStat b ((o - 0x300) / 4)
  else if 0x400 ≤ o && o < 0x420 then
    (match (o - 0x400) / 4 with
     | 0 => w32 b.outCmd.toNat
     | 1 => w32 b.outRbP.toNat
     | 2 => w32 b.outRbT.toNat
     | 3 => w32 (outLive b).toNat
     | 4 => w32 s.ev.outEvt.toNat
     | _ => 0)
  else if 0x420 ≤ o && o < 0x490 then outDiag b ((o - 0x420) / 4)
  else if 0x500 ≤ o && o < 0x51C then fsStat b ((o - 0x500) / 4)
  else 0

/-- A register of FA (Table 8.10). -/
def faWord (a : Nat) (s : State) : W32 :=
  let o := a - 0x200000
  if o < 0x100 then uacWord s (o / 32) (o % 32 / 4)
  else if o = 0x100 then w32 s.ev.anEvt.toNat
  else if 0x110 ≤ o && o < 0x120 then i32 (vget s.buf.fa.cj ((o - 0x110) / 4) 0)
  else if o = 0x120 then faStatus s
  else 0

/-- A register of MO (Table 7.12). -/
def moWord (a : Nat) (s : State) : W32 :=
  let o := a - 0x300000
  if o < 0x200 then axWord s (o / 64) (o % 64 / 4)
  else if 0x400 ≤ o && o < 0x440 then encDiag s.active.image s.buf ((o - 0x400) / 4)
  else if 0x480 ≤ o && o < 0x4A0 then encPwrStat s.buf ((o - 0x480) / 4)
  else if o = 0x500 then moStatus s
  else 0

/-- A register of NA and NB (Table 9.10). -/
def netWord (a : Nat) (s : State) : W32 :=
  let b := s.buf
  let o := a - 0x400000
  if o = 0 then b.netSt[0]
  else if o = 4 then s.ev.netA
  else if o = 8 then b.portA.rxCnt
  else if o = 0xC then b.portA.dropCnt
  else if o = 0x100 then b.netSt[1]
  else if o = 0x104 then s.ev.netB
  else if o = 0x108 then b.portB.rxCnt
  else if o = 0x10C then b.portB.dropCnt
  else if o = 0x200 then b.ptpSt
  else if o = 0x204 then b.ptpOff
  else if o = 0x300 then b.casSt
  else if 0x320 ≤ o && o < 0x340 then vget b.casMem ((o - 0x320) / 4) 0
  else if 0x1000 ≤ o && o < 0x1400 then
    (if o % 8 = 0 then connStatus s.active.image s.buf ((o - 0x1000) / 8) else connCnt s.active.image s.buf ((o - 0x1000) / 8))
  else 0

/-- A register of the Slate block (Table 13.5). -/
def slateWord (a : Nat) (s : State) : W32 :=
  let o := a - 0x500000
  if o < 0x400 then word32 (shadowOf s) (8 * o)
  else if o < 0x800 then word32 s.slate.weak (8 * (o - 0x400))
  else if o = 0x800 then slateStatus s
  else if o = 0x804 then s.ev.slate
  else if o = 0x808 then slateWeakCnt s
  else if o = 0x80C then s.slate.drift
  else if o = 0x810 then s.slate.prog
  else 0

/-- The current value of an indirect location; write-only and reserved ones read 0 (R334, R335). -/
def peekInd (a : Nat) (s : State) : W32 :=
  match a / 0x100000 with
  | 0 => aoWord a s
  | 1 => fdWord a s
  | 2 => faWord a s
  | 3 => moWord a s
  | 4 => netWord a s
  | 5 => slateWord a s
  | _ => captureAt a s

/-- Does the access reach a domain that is off, or the capture outside LULL (Table 15.7)? -/
def indOff (a : Nat) (s : State) : Bool :=
  let d := s.pwr.domains
  match a / 0x100000 with
  | 0 => false
  | 1 => !d.getLsbD 1
  | 2 => !d.getLsbD 0
  | 3 => !d.getLsbD 2
  | 4 => if a < 0x400100 then !d.getLsbD 4 else if a < 0x400200 then !d.getLsbD 3 else !d.getLsbD 4 && !d.getLsbD 3
  | 5 => false
  | _ => s.mode != .lull

/-- Clear the event bits that a read returned (R336). -/
def clearEvents (a : Nat) (s : State) : State :=
  let e := s.ev
  match a with
  | 0x002004 => { s with ev := { e with chFlags := 0 } }
  | 0x003004 => { s with ev := { e with pwr := 0 } }
  | 0x004010 => { s with ev := { e with wth := 0 } }
  | 0x10011C => { s with ev := { e with inEvt := e.inEvt &&& 0xFFFF00000000 } }
  | 0x100120 => { s with ev := { e with inEvt := e.inEvt &&& 0xFFFFFFFF } }
  | 0x100410 => { s with ev := { e with outEvt := 0 } }
  | 0x200100 => { s with ev := { e with anEvt := 0 } }
  | 0x300500 => { s with ev := { e with moEvt := 0 } }
  | 0x400004 => { s with ev := { e with netA := 0 } }
  | 0x400104 => { s with ev := { e with netB := 0 } }
  | 0x500804 => { s with ev := { e with slate := 0 } }
  | _ => s

/-- The shadow of a position as a read leaves it: captured by _LO, emptied by _HI (R178). -/
def setPosShadow (n : Nat) (srcB : Bool) (x : Option W32) (s : State) : State :=
  { s with host := { s.host with posShadow := vmod s.host.posShadow (2 * n + bit srcB 0) (fun _ => x) } }

/-- What a read of the axis register at `o` does besides. -/
def afterAxis (n k : Nat) (s : State) : State :=
  match k with
  | 1 => setPosShadow n false (some (w32 ((axPos s.buf n false).toNat / 2 ^ 32))) s
  | 2 => setPosShadow n false none s
  | 3 => setPosShadow n true (some (w32 ((axPos s.buf n true).toNat / 2 ^ 32))) s
  | 4 => setPosShadow n true none s
  | 11 => { s with ev := { s.ev with axEvt := setBit s.ev.axEvt n false } }
  | _ => s

/-- A double-bit error met by a read of the capture is counted (R353). -/
def countDed (a : Nat) (s : State) : State :=
  if captureDed a s then
    { s with lull := { s.lull with ecc := w32 (satAdd max32 s.lull.ecc.toNat 1) } }
  else s

/-- What a read of an indirect location does besides (R336, R178, R353). -/
def afterRead (a : Nat) (s : State) : State :=
  if 0x1000 ≤ a && a < 0x1200 && a % 16 = 12 then clearTmuStat ((a - 0x1000) / 16) s
  else if 0x300000 ≤ a && a < 0x300200 then afterAxis ((a - 0x300000) / 64) (a % 64 / 4) s
  else if 0x600000 ≤ a then countDed a s
  else clearEvents a s

/-- A read of an indirect location. -/
def readInd (a : Nat) (s : State) : W32 × State := (peekInd a s, afterRead a s)

/-- A write of an indirect location; only the timer unit and the LULL trigger take writes (Tables 2.10, 15.9). -/
def writeInd (a : Nat) (v : W32) (s : State) : State :=
  let n := (a - 0x1000) / 16
  match a with
  | 0x10 => writeTrig 0 v s
  | 0x14 => writeTrig 1 v s
  | 0x18 => writeTrig 2 v s
  | 0x1200 => { s with tmu := { s.tmu with per := v } }
  | 0x1204 => { s with tmu := { s.tmu with lead := v } }
  | 0x1208 => writeTmuStagger v s
  | _ =>
    if 0x1000 ≤ a && a < 0x1200 && tmuWritable .host n s then
      match a % 16 / 4 with
      | 0 => writeTmuCtrl n v s
      | 1 => writeTmuPresc n v s
      | 2 => writeTmuAdv n v s
      | _ => s
    else s

/-- The value that a write or an alias write makes of the current one (R337). -/
def aliasVal (op : WinOp) (cur : W32) : W32 :=
  match op with
  | .write d => d
  | .setBits d => cur ||| d
  | .clearBits d => cur &&& ~~~d
  | .toggleBits d => cur ^^^ d
  | .read => cur

/-- The address of IND_DATA. -/
def indAt (s : State) : Nat := s.host.indAddr.toNat / 4 * 4

/-- IND_ADDR advances by 4 modulo 2²⁴; DOM_OFF tells of this access (R346, Table 15.7). -/
def indNext (off : Bool) (s : State) : State :=
  { s with host := { s.host with domOff := off, indAddr := BitVec.ofNat 24 (indAt s + 4) } }

/-- An access to IND_DATA (R346): the word read, 0 for a write. -/
def indAccess (op : WinOp) (s : State) : W32 × State :=
  let a := indAt s
  if indOff a s then (0, indNext true s)
  else
    match op with
    | .read => ((readInd a s).1, indNext false (readInd a s).2)
    | _ => (0, indNext false (writeInd a (aliasVal op (peekInd a s)) s))

/-! ## Host window (Table 15.2) -/

/-- A mirror word by its offset (Table 15.6). -/
def mirrorWord (o : Nat) (s : State) : W32 :=
  let m := s.mirror
  if o = 0x200 then m.tick
  else if o = 0x204 then word32 m.inputs 0
  else if o = 0x208 then word32 m.inputs 32
  else if o = 0x20C then w32 m.out.toNat
  else if 0x220 ≤ o && o < 0x240 then vget m.uac ((o - 0x220) / 4) 0
  else if 0x240 ≤ o && o < 0x280 then vget m.conn ((o - 0x240) / 4) 0
  else if 0x280 ≤ o && o < 0x400 then mirSig m ((o - 0x280) / 4)
  else 0

/-- The current value of a window register; write-only and reserved ones read 0 (R334, R335). -/
def peekWin (o : Nat) (s : State) : W32 :=
  if o < 0x100 then
    match o with
    | 0x00 => 0x4B429648
    | 0x04 => hwRev s
    | 0x08 => s.gable.fwVer
    | 0x0C => modStatus s
    | 0x14 => mbxStatus s
    | 0x20 => s.host.irq
    | 0x24 => s.host.irqEn
    | 0x30 => unlockWord s
    | 0x40 => indAddrWord s
    | 0x50 => lullCtrl s
    | 0x54 => if s.lull.active then word32 s.lull.stamp 0 else 0
    | 0x58 => if s.lull.active then word32 s.lull.stamp 32 else 0
    | 0x60 => tbLo s
    | 0x64 => s.tb.shadow.getD (tbHi s)
    | 0x68 => w32 (bit s.tb.torn 0)
    | 0x6C => tickInfo s
    | _ => 0
  else if o < 0x180 then (tmuAt s ((o - 0x100) / 4)).count
  else if o < 0x200 then (tmuAt s ((o - 0x180) / 4)).cmp
  else if o < 0x400 then mirrorWord o s
  else memReadWord s.mbx o

/-- A read of a window register, with what it does besides. -/
def readWin (o : Nat) (s : State) : W32 × State :=
  if 0x100 ≤ o && o < 0x180 then readTmuCount ((o - 0x100) / 4) s
  else
    match o with
    | 0x20 => (s.host.irq, { s with host := { s.host with irq := 0 } })
    | 0x44 => indAccess .read s
    | 0x60 => readTbLo s
    | 0x64 => readTbHi s
    | 0x68 => (w32 (bit s.tb.torn 0), { s with tb := { s.tb with torn := false } })
    | _ => (peekWin o s, s)

/-- The key of UNLOCK (R338). -/
def unlockKey : W32 := 0x00005A3C

/-- A write of UNLOCK: the key opens the guard for 1 ms, any other value closes it and counts (R338). -/
def writeUnlock (v : W32) (s : State) : State :=
  if v = unlockKey then { s with host := { s.host with guard := some (s.tb.count + BitVec.ofNat 64 tMs) } }
  else { s with host := { s.host with guard := none, keyFails := BitVec.ofNat 8 (satAdd 255 s.host.keyFails.toNat 1) } }

/-- A write of MBX_DOORBELL: acknowledges first, then REQ (R246, Table 11.5). -/
def writeDoorbell (v : W32) (s : State) : State :=
  let t := doorbellEvt (BitVec.ofNat 8 (fld v 8 8)) s
  let u := if v.getLsbD 1 then doorbellAck t else t
  if v.getLsbD 0 then doorbellReq u else u

/-- A write of LULL_CTRL, guarded: whether the guard was closed, and the state (R338, R349). -/
def writeLullCtrl (v : W32) (s : State) : Bool × State :=
  if guardOpen s then
    let t := { s with host := { s.host with guard := none } }
    (false, if v.getLsbD 31 then lullEnter 2 t else t)
  else (true, s)

/-- A write of a word of the request mailbox, ignored while REQ_BUSY is 1 (R246). -/
def writeMbx (o : Nat) (v : W32) (s : State) : State :=
  if s.gable.reqBusy then s else { s with mbx := memWriteBytes s.mbx o (be 4 v.toNat) }

/-- A write of a window register, and whether it met a closed guard; read-only and reserved ones ignore it (R334, R335). -/
def writeWin (o : Nat) (v : W32) (s : State) : Bool × State :=
  if 0x100 ≤ o && o < 0x180 then
    (false, if tmuWritable .host ((o - 0x100) / 4) s then writeTmuCount ((o - 0x100) / 4) v s else s)
  else if 0x180 ≤ o && o < 0x200 then
    (false, if tmuWritable .host ((o - 0x180) / 4) s then writeTmuCmp ((o - 0x180) / 4) v s else s)
  else if reqBase ≤ o && o < rspBase then (false, writeMbx o v s)
  else
    match o with
    | 0x10 => (false, writeDoorbell v s)
    | 0x24 => (false, { s with host := { s.host with irqEn := v &&& 0x3FF } })
    | 0x30 => (false, writeUnlock v s)
    | 0x40 => (false, { s with host := { s.host with indAddr := BitVec.ofNat 24 (fld v 2 22 * 4) } })
    | 0x44 => (false, (indAccess (.write v) s).2)
    | 0x50 => writeLullCtrl v s
    | _ => (false, s)

/-- A write at an alias: the operation on the current value, then a write (R337). -/
def aliasWin (op : WinOp) (o : Nat) (s : State) : Bool × State :=
  if o = 0x44 then (false, (indAccess op s).2) else writeWin o (aliasVal op (peekWin o s)) s

/-- The operation of an address of the window and its aliases. -/
def aliasOp (a : Nat) (d : W32) : WinOp :=
  match a / 0x1000 with
  | 0 => .write d
  | 1 => .setBits d
  | 2 => .clearBits d
  | _ => .toggleBits d

/-- A write of a host word at an address of the 16 KiB; above them nothing is implemented (R335). -/
def hostWrite (a : Nat) (d : W32) (s : State) : Bool × State :=
  if a < 0x4000 then aliasWin (aliasOp a d) (a % 0x1000) s else (false, s)

/-- A host read of a word; an alias reads 0 without side effect (R337). -/
def hostWord (a : Nat) (s : State) : W32 × State := if a < 0x1000 then readWin a s else (0, s)

/-- HOST_IRQ_N is driven low while an enabled event is set (R344). -/
def hostIrqLow (s : State) : Bool := s.host.irq &&& s.host.irqEn != 0

/-! ## The commands -/

/-- A host write, where the port answers. -/
def whenPort (f : State → State) (s : State) : State := if portUp s then f s else s

/-- UNLOCK_WRITE. -/
def execUnlockWrite (v : W32) (s : State) : Host.Outcome State Fault Refusal := .next (whenPort (writeUnlock v) s)

/-- UNLOCK_GUARD_TIMEOUT: 1 ms after the key (R338). -/
def execUnlockGuardTimeout (s : State) : Host.Outcome State Fault Refusal :=
  if s.host.guard.isSome && !guardOpen s then .next { s with host := { s.host with guard := none } } else .next s

/-- IND_DATA_ACCESS. -/
def execIndDataAccess (op : WinOp) (s : State) : Host.Outcome State Fault Refusal :=
  match op with
  | .read => .next (hostRead (indAccess .read) s)
  | _ => .next (whenPort (fun t => (indAccess op t).2) s)

/-- LULL_CTRL_ENTER: a write of LULL_CTRL (R338, R349). -/
def execLullCtrlEnter (v : W32) (s : State) : Host.Outcome State Fault Refusal :=
  .next (whenPort (fun t => (writeLullCtrl v t).2) s)

/-- LULL_TRIG_WRITE: a direct write of LULL_TRIG or of a word of its argument (R352). -/
def execLullTrigWrite (reg : Fin 3) (v : W32) (s : State) : Host.Outcome State Fault Refusal :=
  .next (whenPort (writeTrig reg.val v) s)

/-- IRQ_ENABLE_WRITE (R344). -/
def execIrqEnableWrite (v : W32) (s : State) : Host.Outcome State Fault Refusal :=
  .next (whenPort (fun t => { t with host := { t.host with irqEn := v &&& 0x3FF } }) s)

/-- READ_CLEAR_REGISTER: a read of IRQ_STATUS (0x20) or TB_STATUS (0x68) of the window, else of the indirect location `addr`
(R336). -/
def execReadClearRegister (addr : BitVec 24) (s : State) : Host.Outcome State Fault Refusal :=
  let a := addr.toNat
  .next (hostRead (fun t =>
    if a = 0x20 || a = 0x68 then readWin a t else if indOff a t then (0, t) else readInd a t) s)

/-- ALIAS_SET_WRITE. -/
def execAliasSetWrite (addr : BitVec 12) (d : W32) (s : State) : Host.Outcome State Fault Refusal :=
  .next (whenPort (fun t => (aliasWin (.setBits d) addr.toNat t).2) s)

/-- ALIAS_CLEAR_WRITE. -/
def execAliasClearWrite (addr : BitVec 12) (d : W32) (s : State) : Host.Outcome State Fault Refusal :=
  .next (whenPort (fun t => (aliasWin (.clearBits d) addr.toNat t).2) s)

/-- ALIAS_TOGGLE_WRITE. -/
def execAliasToggleWrite (addr : BitVec 12) (d : W32) (s : State) : Host.Outcome State Fault Refusal :=
  .next (whenPort (fun t => (aliasWin (.toggleBits d) addr.toNat t).2) s)

/-- REGISTER_WRITE. -/
def execRegisterWrite (addr : BitVec 12) (d : W32) (s : State) : Host.Outcome State Fault Refusal :=
  .next (whenPort (fun t => (writeWin addr.toNat d t).2) s)

/-- POSITION_LO_READ: the low word, and the high word into the shadow (R178). -/
def execPositionLoRead (axis : Fin 8) (srcB : Bool) (s : State) : Host.Outcome State Fault Refusal :=
  let a := 0x300004 + 64 * axis.val + (if srcB then 8 else 0)
  .next (hostRead (fun t => if indOff a t then (0, t) else readInd a t) s)

end Sys2Proof.Machine
end

