-- ==== Sys2Proof/WellFormed.lean ====
section
/-! DEFINITION. Which commands are well formed: the shape that the manual gives their operands. A command that is not well
formed spells nothing the host, the field or a network can send. -/

namespace Sys2Proof

/-- Block instances of a configuration are numbered from 0; 2 048 at most (R99). -/
def maxInstances : Nat := 2048

/-- LENGTH of a mailbox message: a multiple of 4, from 0 to 1 012 (R245). -/
def Req.wf (r : Req) : Bool := r.payload.length % 4 == 0 && r.payload.length ≤ 1012

/-- The OP byte of an SPI frame. -/
def spiOp (bytes : List Byte) : Nat := (bytes.headD 0).toNat

/-- Words of an SPI frame: OP bits [5:0] hold n - 1 (R240). -/
def spiWords (bytes : List Byte) : Nat := spiOp bytes % 64 + 1

/-- A write frame: OP kind 2, then SEQ, ADDR, 4n data bytes and the CRC (Table 11.1). -/
def spiWriteWf (bytes : List Byte) : Bool :=
  spiOp bytes / 64 == 2 && bytes.length == 6 + 4 * spiWords bytes

/-- A read frame: OP kind 1, then SEQ, ADDR and the CRC (Table 11.1). -/
def spiReadWf (bytes : List Byte) : Bool := spiOp bytes / 64 == 1 && bytes.length == 6

/-- A frame of OP kind 0 or 3: the read layout, with whatever MOSI bytes follow (R240). -/
def spiBadWf (bytes : List Byte) : Bool :=
  (spiOp bytes / 64 == 0 || spiOp bytes / 64 == 3) && 6 ≤ bytes.length

/-- An outbound frame carries one parameter entry, or nine in a parameter frame (R21). -/
def OutFrame.wf (f : OutFrame) : Bool := f.entries.length == 1 || f.entries.length == 9

/-- A frame changed on the link still has the shape of a frame. -/
def OutRx.wf (rx : OutRx) : Bool :=
  match rx with
  | .asSent => true
  | .other f => f.wf

/-- Bytes of a tightly coupled memory: 256 KiB of instructions, 128 KiB of data. -/
def TcmId.size (m : TcmId) : Nat :=
  match m with
  | .instrA => 262144
  | .dataA => 131072
  | .instrB => 262144
  | .dataB => 131072

/-- Well-formed commands. -/
def Instr.wf (i : Instr) : Bool :=
  match i with
  | .getStatus r => r.wf
  | .getFaults r => r.wf
  | .cfgBegin r => r.wf
  | .cfgBlock r => r.wf
  | .cfgEnd r => r.wf
  | .cfgAcceptClamps r => r.wf
  | .verifyStart r => r.wf
  | .verifyReport r => r.wf
  | .commit r _ => r.wf
  | .login r => r.wf
  | .logout r => r.wf
  | .setPassword r _ => r.wf
  | .logRead r => r.wf
  | .clearLockout r => r.wf
  | .slateRead r => r.wf
  | .slateProgramBit r p => r.wf && p.passRound ≤ 4
  | .slateLock r p => r.wf && p.passRound ≤ 4
  | .ridgeSplit r _ => r.wf
  | .ridgeJoin r _ => r.wf
  | .weatherReport r => r.wf
  | .cascadeStatus r => r.wf
  | .fwUpdateBlock r _ => r.wf
  | .fwActivate r _ => r.wf
  | .lullArm r => r.wf
  | .mbxRequest => true
  | .mbxResponseAck => true
  | .mbxEventAck _ => true
  | .usbRequest _ _ => true
  | .mailboxCommandTimeout => true
  | .verifyRunEnd => true
  | .commitRestart => true
  | .lockoutAckRelease => true
  | .ackMissing => true
  | .lockoutRestart => true
  | .sessionInactivityTimeout _ => true
  | .loginBackoffEnd => true
  | .usbDetach => true
  | .spiWriteFrame bytes => spiWriteWf bytes
  | .spiReadFrame bytes => spiReadWf bytes
  | .spiBadOpcodeFrame bytes => spiBadWf bytes
  | .spiFrameDiscard => true
  | .tbLoRead _ => true
  | .tbHiRead _ => true
  | .tmuCountRead _ => true
  | .tmuCountWrite _ _ _ => true
  | .tmuCmpWrite _ _ _ => true
  | .tmuCtrlWrite _ _ _ => true
  | .tmuPrescWrite _ _ _ => true
  | .tmuStagger _ => true
  | .tmuMatch _ => true
  | .tmuOverflow _ => true
  | .unlockWrite _ => true
  | .unlockGuardTimeout => true
  | .indDataAccess _ => true
  | .lullCtrlEnter _ => true
  | .lullTrigWrite _ _ => true
  | .irqEnableWrite _ => true
  | .readClearRegister addr => addr.toNat % 4 == 0
  | .aliasSetWrite addr _ => addr.toNat % 4 == 0
  | .aliasClearWrite addr _ => addr.toNat % 4 == 0
  | .aliasToggleWrite addr _ => addr.toNat % 4 == 0
  | .registerWrite addr _ => addr.toNat % 4 == 0
  | .positionLoRead _ _ => true
  | .cvuCtrlWrite _ _ => true
  | .cvuParamWrite _ _ _ => true
  | .cvuDataWrite _ _ => true
  | .cvuStart _ => true
  | .cvuResume _ => true
  | .cvuAbort _ => true
  | .cvuValueLoRead _ _ => true
  | .cvuValueHiWrite _ _ => true
  | .cvuFrameDone _ => true
  | .cvuSelfCheck _ _ => true
  | .lplusPowerOn _ => true
  | .bootComplete _ => true
  | .selftestEnd _ => true
  | .startRun => true
  | .squallStepDown _ => true
  | .squallStepUp _ _ => true
  | .rideThroughStart _ => true
  | .rideThroughEnd _ => true
  | .orderedShutdown _ _ => true
  | .holdPowerOnReset _ => true
  | .vbatApplied _ => true
  | .vbatMeasurement _ => true
  | .resetNAssert _ => true
  | .resetNRelease _ => true
  | .tamperNLow => true
  | .temperatureMeasurement _ _ => true
  | .regulatorFault _ => true
  | .tickBoundary _ => true
  | .eaveOutboundFrame _ rx det => rx.wf && det ≤ 200
  | .eaveInboundFrame _ _ => true
  | .thatchPassEnd _ _ _ => true
  | .crossCompare _ _ _ _ => true
  | .phase3Start => true
  | .tickOverrunRg => true
  | .tickOverrunTh => true
  | .crossResultMissing _ => true
  | .thatchTickPulse _ => true
  | .tickGenMismatch => true
  | .ridgeBoundaryMissing => true
  | .ridgeLockstepMismatch => true
  | .ridgeEccCorrection m addr _ => addr < m.size
  | .ridgeEccDed m addr _ => addr < m.size
  | .ridgeFaultLine => true
  | .ridgeDebugBreak _ => true
  | .thatchCfgScrub _ => true
  | .fieldSample _ => true
  | .filterAccept _ => true
  | .bandReport _ => true
  | .inputViewMismatch _ => true
  | .inputMeasFault _ => true
  | .supplyViewMismatch _ => true
  | .supplyLost _ => true
  | .supplyRecovered _ => true
  | .resetLevelRelease => true
  | .laneSilence _ => true
  | .gustPulseStart _ _ => true
  | .gustWindow1End _ _ _ _ => true
  | .gustWindow2End _ _ _ => true
  | .tpoOverload _ => true
  | .tpoOverloadClear _ => true
  | .darkTestDue _ _ => true
  | .darkTestStart _ => true
  | .darkTestEnd _ _ _ _ => true
  | .switchProtectionTrip _ _ => true
  | .groupOvercurrent _ _ => true
  | .groupOvercurrentClear _ _ => true
  | .brkOpenCoil _ _ _ => true
  | .brightDue _ => true
  | .brightOverdue _ => true
  | .motionStrobe _ _ _ => true
  | .encSupplyTrip _ => true
  | .axisCrossMismatch _ => true
  | .conversionWindowEnd _ _ _ _ _ _ _ _ => true
  | .cjSensorRead _ _ => true
  | .anStale _ => true
  | .netFrameReceive _ _ _ => true
  | .telegramCopyReceive _ _ _ _ => true
  | .arpRequest _ _ _ _ => true
  | .linkUp _ _ => true
  | .linkDown _ => true
  | .ptpSyncReceive _ _ _ _ => true
  | .ptpSyncTimeout => true
  | .ptpSyncSend => true
  | .ptpAnnounceSend => true
  | .pairingWindowExpiry _ => true
  | .connTimeout _ => true
  | .connLeeExpired _ => true
  | .connNotStarted _ => true
  | .csfWdg _ => true
  | .casHbSend => true
  | .casAgreeSend => true
  | .casMemberAbsent _ => true
  | .engineHeartbeatMiss _ => true
  | .weatheringReplan _ _ _ => true
  | .thatchDeviationMeasure _ => true
  | .slateRecheck _ _ => true
  | .equivalentHourUpdate => true
  | .equivalentHourFlashCopy => true
  | .weatheringDailyValue => true
  | .tmrScrub _ => true
  | .lullNAssert _ => true
  | .lullTriggerFire => true
  | .pairDiscrepancy i => i < maxInstances
  | .resetStuck _ => true
  | .estopStopDelayEnd i => i < maxInstances
  | .unlockTimeout i => i < maxInstances
  | .lockTimeout i => i < maxInstances
  | .mutingSeqTimeout i => i < maxInstances
  | .mutingTime i => i < maxInstances
  | .twoHandSyncTimeout i => i < maxInstances
  | .enable3TMax i => i < maxInstances
  | .modeImplausible i => i < maxInstances
  | .edmFault i => i < maxInstances
  | .timerBlockExpiry i => i < maxInstances
  | .aThreshDelayEnd i => i < maxInstances
  | .ss1tStopTimeEnd i => i < maxInstances
  | .brakingEnd i => i < maxInstances
  | .sosDelayEnd i => i < maxInstances
  | .sbcReleaseDelayEnd i => i < maxInstances
  | .brakeTestEnd i => i < maxInstances
  | .brakeTestDue i => i < maxInstances
  | .brakeTestOverdue i => i < maxInstances
  | .vbatRemoved _ => true
  | .lossOfLock => true
  | .engineRestarted _ _ => true
  | .usbAttach => true
  | .delayRequestReceive _ _ _ _ _ _ => true
  | .announceReceive _ _ => true
  | .holdoverExpiry => true
  | .tmuCountStep _ _ => true
  | .gustPulseEnd _ _ _ => true

end Sys2Proof
end

