-- ==== Sys2Proof/Machine/Spi.lean ====
section
/-! DEFINITION. The SPI frames of the host port (R239 to R243, Tables 11.1 and 11.2). -/

namespace Sys2Proof.Machine

/-- STATUS codes (Table 11.2). -/
abbrev spiOk : Byte := 0
/-- Repeat of the last accepted frame. -/
abbrev spiDuplicate : Byte := 1
/-- Host CRC wrong. -/
abbrev spiCrcError : Byte := 2
/-- OP refused. -/
abbrev spiBadOpcode : Byte := 3
/-- R240. -/
abbrev spiBadAddress : Byte := 4
/-- A guarded write without a valid unlock. -/
abbrev spiLocked : Byte := 5

/-- A response: STATUS, the SEQ echo, DATA and the CRC over them (R239). -/
def spiReply (st seq : Byte) (data : List Byte) : List Byte :=
  let head := st :: seq :: data
  head ++ be 2 (crcSpi.crc [] head)

/-- SEQ of a request. -/
def spiSeq (f : List Byte) : Byte := f.getD 1 0

/-- ADDR of a request. -/
def spiAddr (f : List Byte) : Nat := beAt f 2 2

/-- Is the host's CRC correct, and the port's check-value unit sound (R241, Table 10.3)? -/
def spiCrcOk (f : List Byte) (s : State) : Bool :=
  beAt f (f.length - 2) 2 == crcSpi.crc [] (f.take (f.length - 2)) && !hasFault s (fcCvuFail0 + 3) 0 && !s.cvu[3].selfFail

/-- Is ADDR refused (R240)? -/
def spiAddrBad (f : List Byte) : Bool :=
  spiAddr f % 4 != 0 || (1 < spiWords f && decide (0x3FFC < spiAddr f + 4 * (spiWords f - 1)))

/-- The words of a write, in ascending address order; whether one met a closed guard (R241, R338). -/
def spiWrites (l : List (Nat × W32)) (s : State) : Bool × State :=
  l.foldl (fun r w => let x := hostWrite w.1 w.2 r.2
                      (r.1 || x.1, x.2)) (false, s)

/-- The words of a read, in ascending address order. -/
def spiReads (l : List Nat) (s : State) : List W32 × State :=
  l.foldl (fun r a => let x := hostWord a r.2
                      (r.1 ++ [x.1], x.2)) ([], s)

/-- Data words of a write request with their addresses. -/
def spiTargets (f : List Byte) : List (Nat × W32) :=
  (List.range (spiWords f)).map (fun k => (spiAddr f + 4 * k, w32 (beAt f (4 + 4 * k) 4)))

/-- Send a response; that of a frame with a correct CRC is kept with its request (R242). -/
def spiAnswer (f : List Byte) (keep : Bool) (rsp : List Byte) (s : State) : State :=
  { s with host := { s.host with miso := rsp, kept := if keep then some (f, rsp) else s.host.kept } }

/-- A frame of request bytes `f` with `zeros` zero data bytes in a refusal: CRC, repeat, then what the frame does, which gives
STATUS and DATA (R240 to R242). -/
def spiFrame (f : List Byte) (zeros : Nat) (act : State → (Byte × List Byte) × State) (s : State) : State :=
  if !portUp s then s
  else if !spiCrcOk f s then spiAnswer f false (spiReply spiCrcError (spiSeq f) (List.replicate zeros 0)) s
  else
    match s.host.kept with
    | some k =>
      if k.1 = f then spiAnswer f false (spiReply spiDuplicate (spiSeq f) ((k.2.drop 2).take (k.2.length - 4))) s
      else let r := act s
           spiAnswer f true (spiReply r.1.1 (spiSeq f) r.1.2) r.2
    | none =>
      let r := act s
      spiAnswer f true (spiReply r.1.1 (spiSeq f) r.1.2) r.2

/-- What a write frame does. -/
def spiWriteAct (f : List Byte) (s : State) : (Byte × List Byte) × State :=
  if spiAddrBad f then ((spiBadAddress, []), s)
  else
    let r := spiWrites (spiTargets f) s
    ((if r.1 then spiLocked else spiOk, []), r.2)

/-- What a read frame does. -/
def spiReadAct (f : List Byte) (s : State) : (Byte × List Byte) × State :=
  if spiAddrBad f then ((spiBadAddress, List.replicate (4 * spiWords f) 0), s)
  else
    let r := spiReads ((List.range (spiWords f)).map (fun k => spiAddr f + 4 * k)) s
    ((spiOk, r.1.flatMap (fun w => be 4 w.toNat)), r.2)

/-- SPI_WRITE_FRAME. -/
def execSpiWriteFrame (bytes : List Byte) (s : State) : Host.Outcome State Fault Refusal :=
  .next (spiFrame bytes 0 (spiWriteAct bytes) s)

/-- SPI_READ_FRAME. -/
def execSpiReadFrame (bytes : List Byte) (s : State) : Host.Outcome State Fault Refusal :=
  .next (spiFrame bytes (4 * spiWords bytes) (spiReadAct bytes) s)

/-- SPI_BAD_OPCODE_FRAME: the first six bytes are the frame, what follows is ignored (R240). -/
def execSpiBadOpcodeFrame (bytes : List Byte) (s : State) : Host.Outcome State Fault Refusal :=
  .next (spiFrame (bytes.take 6) 0 (fun t => ((spiBadOpcode, []), t)) s)

/-- SPI_FRAME_DISCARD: nothing is executed, kept or answered (R243). -/
def execSpiFrameDiscard (s : State) : Host.Outcome State Fault Refusal := .next s

end Sys2Proof.Machine
end

