-- ==== Sys2Proof/Machine/Dispatch.lean ====
section
/-! DEFINITION. One arm per command: its meaning, named in full. -/

namespace Sys2Proof.Machine

/-- The effect of a command on everything but the queue. -/
def exec (i : Instr) (s : State) : Host.Outcome State Fault Refusal :=
  match i with
  | .getStatus r => Sys2Proof.Machine.execGetStatus r s
  | .getFaults r => Sys2Proof.Machine.execGetFaults r s
  | .cfgBegin r => Sys2Proof.Machine.execCfgBegin r s
  | .cfgBlock r => Sys2Proof.Machine.execCfgBlock r s
  | .cfgEnd r => Sys2Proof.Machine.execCfgEnd r s
  | .cfgAcceptClamps r => Sys2Proof.Machine.execCfgAcceptClamps r s
  | .verifyStart r => Sys2Proof.Machine.execVerifyStart r s
  | .verifyReport r => Sys2Proof.Machine.execVerifyReport r s
  | .commit r run => Sys2Proof.Machine.execCommit r run s
  | .login r => Sys2Proof.Machine.execLogin r s
  | .logout r => Sys2Proof.Machine.execLogout r s
  | .setPassword r flashOk => Sys2Proof.Machine.execSetPassword r flashOk s
  | .logRead r => Sys2Proof.Machine.execLogRead r s
  | .clearLockout r => Sys2Proof.Machine.execClearLockout r s
  | .slateRead r => Sys2Proof.Machine.execSlateRead r s
  | .slateProgramBit r pulse => Sys2Proof.Machine.execSlateProgramBit r pulse s
  | .slateLock r pulse => Sys2Proof.Machine.execSlateLock r pulse s
  | .ridgeSplit r crcEqual => Sys2Proof.Machine.execRidgeSplit r crcEqual s
  | .ridgeJoin r crcEqual => Sys2Proof.Machine.execRidgeJoin r crcEqual s
  | .weatherReport r => Sys2Proof.Machine.execWeatherReport r s
  | .cascadeStatus r => Sys2Proof.Machine.execCascadeStatus r s
  | .fwUpdateBlock r flashOk => Sys2Proof.Machine.execFwUpdateBlock r flashOk s
  | .fwActivate r run => Sys2Proof.Machine.execFwActivate r run s
  | .lullArm r => Sys2Proof.Machine.execLullArm r s
  | .mbxRequest => Sys2Proof.Machine.execMbxRequest s
  | .mbxResponseAck => Sys2Proof.Machine.execMbxResponseAck s
  | .mbxEventAck n => Sys2Proof.Machine.execMbxEventAck n s
  | .usbRequest msg prevRead => Sys2Proof.Machine.execUsbRequest msg prevRead s
  | .mailboxCommandTimeout => Sys2Proof.Machine.execMailboxCommandTimeout s
  | .verifyRunEnd => Sys2Proof.Machine.execVerifyRunEnd s
  | .commitRestart => Sys2Proof.Machine.execCommitRestart s
  | .lockoutAckRelease => Sys2Proof.Machine.execLockoutAckRelease s
  | .ackMissing => Sys2Proof.Machine.execAckMissing s
  | .lockoutRestart => Sys2Proof.Machine.execLockoutRestart s
  | .sessionInactivityTimeout port => Sys2Proof.Machine.execSessionInactivityTimeout port s
  | .loginBackoffEnd => Sys2Proof.Machine.execLoginBackoffEnd s
  | .usbDetach => Sys2Proof.Machine.execUsbDetach s
  | .spiWriteFrame bytes => Sys2Proof.Machine.execSpiWriteFrame bytes s
  | .spiReadFrame bytes => Sys2Proof.Machine.execSpiReadFrame bytes s
  | .spiBadOpcodeFrame bytes => Sys2Proof.Machine.execSpiBadOpcodeFrame bytes s
  | .spiFrameDiscard => Sys2Proof.Machine.execSpiFrameDiscard s
  | .tbLoRead who => Sys2Proof.Machine.execTbLoRead s who
  | .tbHiRead who => Sys2Proof.Machine.execTbHiRead s who
  | .tmuCountRead n => Sys2Proof.Machine.execTmuCountRead n s
  | .tmuCountWrite who n v => Sys2Proof.Machine.execTmuCountWrite who n v s
  | .tmuCmpWrite who n v => Sys2Proof.Machine.execTmuCmpWrite who n v s
  | .tmuCtrlWrite who n v => Sys2Proof.Machine.execTmuCtrlWrite who n v s
  | .tmuPrescWrite who n v => Sys2Proof.Machine.execTmuPrescWrite who n v s
  | .tmuStagger v => Sys2Proof.Machine.execTmuStagger v s
  | .tmuMatch n => Sys2Proof.Machine.execTmuMatch n s
  | .tmuOverflow n => Sys2Proof.Machine.execTmuOverflow n s
  | .unlockWrite v => Sys2Proof.Machine.execUnlockWrite v s
  | .unlockGuardTimeout => Sys2Proof.Machine.execUnlockGuardTimeout s
  | .indDataAccess op => Sys2Proof.Machine.execIndDataAccess op s
  | .lullCtrlEnter v => Sys2Proof.Machine.execLullCtrlEnter v s
  | .lullTrigWrite reg v => Sys2Proof.Machine.execLullTrigWrite reg v s
  | .irqEnableWrite v => Sys2Proof.Machine.execIrqEnableWrite v s
  | .readClearRegister addr => Sys2Proof.Machine.execReadClearRegister addr s
  | .aliasSetWrite addr d => Sys2Proof.Machine.execAliasSetWrite addr d s
  | .aliasClearWrite addr d => Sys2Proof.Machine.execAliasClearWrite addr d s
  | .aliasToggleWrite addr d => Sys2Proof.Machine.execAliasToggleWrite addr d s
  | .registerWrite addr d => Sys2Proof.Machine.execRegisterWrite addr d s
  | .positionLoRead axis srcB => Sys2Proof.Machine.execPositionLoRead axis srcB s
  | .cvuCtrlWrite u v => Sys2Proof.Machine.execCvuCtrlWrite u v s
  | .cvuParamWrite u reg v => Sys2Proof.Machine.execCvuParamWrite u reg v s
  | .cvuDataWrite u v => Sys2Proof.Machine.execCvuDataWrite u v s
  | .cvuStart u => Sys2Proof.Machine.execCvuStart u s
  | .cvuResume u => Sys2Proof.Machine.execCvuResume u s
  | .cvuAbort u => Sys2Proof.Machine.execCvuAbort u s
  | .cvuValueLoRead u reg => Sys2Proof.Machine.execCvuValueLoRead u reg s
  | .cvuValueHiWrite u v => Sys2Proof.Machine.execCvuValueHiWrite u v s
  | .cvuFrameDone u => Sys2Proof.Machine.execCvuFrameDone u s
  | .cvuSelfCheck u sound => Sys2Proof.Machine.execCvuSelfCheck u sound s
  | .lplusPowerOn env => Sys2Proof.Machine.execLplusPowerOn env s
  | .bootComplete env => Sys2Proof.Machine.execBootComplete env s
  | .selftestEnd fails => Sys2Proof.Machine.execSelftestEnd fails s
  | .startRun => Sys2Proof.Machine.execStartRun s
  | .squallStepDown mv => Sys2Proof.Machine.execSquallStepDown mv s
  | .squallStepUp mv least => Sys2Proof.Machine.execSquallStepUp mv least s
  | .rideThroughStart mv => Sys2Proof.Machine.execRideThroughStart mv s
  | .rideThroughEnd mv => Sys2Proof.Machine.execRideThroughEnd mv s
  | .orderedShutdown mv holdMv => Sys2Proof.Machine.execOrderedShutdown mv holdMv s
  | .holdPowerOnReset holdMv => Sys2Proof.Machine.execHoldPowerOnReset holdMv s
  | .vbatApplied mv => Sys2Proof.Machine.execVbatApplied mv s
  | .vbatMeasurement mv => Sys2Proof.Machine.execVbatMeasurement mv s
  | .resetNAssert lowNs => Sys2Proof.Machine.execResetNAssert lowNs s
  | .resetNRelease env => Sys2Proof.Machine.execResetNRelease env s
  | .tamperNLow => Sys2Proof.Machine.execTamperNLow s
  | .temperatureMeasurement die fieldSide => Sys2Proof.Machine.execTemperatureMeasurement die fieldSide s
  | .regulatorFault dom => Sys2Proof.Machine.execRegulatorFault dom s
  | .tickBoundary cycles => Sys2Proof.Machine.execTickBoundary s cycles
  | .eaveOutboundFrame lane rx det => Sys2Proof.Machine.execEaveOutboundFrame lane rx s det
  | .eaveInboundFrame lane rx => Sys2Proof.Machine.execEaveInboundFrame lane rx s
  | .thatchPassEnd cycles units canaryOk => Sys2Proof.Machine.execThatchPassEnd cycles units canaryOk s
  | .crossCompare ridgeErr thatchErr ridgeReqBad thatchReqBad => Sys2Proof.Machine.execCrossCompare ridgeErr thatchErr ridgeReqBad thatchReqBad s
  | .phase3Start => Sys2Proof.Machine.execPhase3Start s
  | .tickOverrunRg => Sys2Proof.Machine.execTickOverrunRg s
  | .tickOverrunTh => Sys2Proof.Machine.execTickOverrunTh s
  | .crossResultMissing lane => Sys2Proof.Machine.execCrossResultMissing lane s
  | .thatchTickPulse units => Sys2Proof.Machine.execThatchTickPulse units s
  | .tickGenMismatch => Sys2Proof.Machine.execTickGenMismatch s
  | .ridgeBoundaryMissing => Sys2Proof.Machine.execRidgeBoundaryMissing s
  | .ridgeLockstepMismatch => Sys2Proof.Machine.execRidgeLockstepMismatch s
  | .ridgeEccCorrection m addr flip => Sys2Proof.Machine.execRidgeEccCorrection s m addr flip
  | .ridgeEccDed m addr flips => Sys2Proof.Machine.execRidgeEccDed s m addr flips
  | .ridgeFaultLine => Sys2Proof.Machine.execRidgeFaultLine s
  | .ridgeDebugBreak act => Sys2Proof.Machine.execRidgeDebugBreak act s
  | .thatchCfgScrub upset => Sys2Proof.Machine.execThatchCfgScrub upset s
  | .fieldSample x => Sys2Proof.Machine.execFieldSample x s
  | .filterAccept n => Sys2Proof.Machine.execFilterAccept n s
  | .bandReport n => Sys2Proof.Machine.execBandReport n s
  | .inputViewMismatch n => Sys2Proof.Machine.execInputViewMismatch n s
  | .inputMeasFault n => Sys2Proof.Machine.execInputMeasFault n s
  | .supplyViewMismatch k => Sys2Proof.Machine.execSupplyViewMismatch k s
  | .supplyLost k => Sys2Proof.Machine.execSupplyLost k s
  | .supplyRecovered k => Sys2Proof.Machine.execSupplyRecovered k s
  | .resetLevelRelease => Sys2Proof.Machine.execResetLevelRelease s
  | .laneSilence lane => Sys2Proof.Machine.execLaneSilence lane s
  | .gustPulseStart m on => Sys2Proof.Machine.execGustPulseStart m s on
  | .gustWindow1End m offSeen foreign delays => Sys2Proof.Machine.execGustWindow1End m offSeen foreign delays s
  | .gustWindow2End m okP okT => Sys2Proof.Machine.execGustWindow2End m okP okT s
  | .tpoOverload m => Sys2Proof.Machine.execTpoOverload m s
  | .tpoOverloadClear m => Sys2Proof.Machine.execTpoOverloadClear m s
  | .darkTestDue lane o => Sys2Proof.Machine.execDarkTestDue lane o s
  | .darkTestStart lane => Sys2Proof.Machine.execDarkTestStart lane s
  | .darkTestEnd lane sw landMv turnOff2us => Sys2Proof.Machine.execDarkTestEnd lane sw landMv turnOff2us s
  | .switchProtectionTrip lane o => Sys2Proof.Machine.execSwitchProtectionTrip lane o s
  | .groupOvercurrent lane g => Sys2Proof.Machine.execGroupOvercurrent lane g s
  | .groupOvercurrentClear lane g => Sys2Proof.Machine.execGroupOvercurrentClear lane g s
  | .brkOpenCoil lane k ma => Sys2Proof.Machine.execBrkOpenCoil lane k ma s
  | .brightDue o => Sys2Proof.Machine.execBrightDue o s
  | .brightOverdue o => Sys2Proof.Machine.execBrightOverdue o s
  | .motionStrobe raws pwrMv pwrMa => Sys2Proof.Machine.execMotionStrobe raws pwrMv pwrMa s
  | .encSupplyTrip j => Sys2Proof.Machine.execEncSupplyTrip j s
  | .axisCrossMismatch ax => Sys2Proof.Machine.execAxisCrossMismatch ax s
  | .conversionWindowEnd ch sd sar stat drvMv burnMv leadSd leadSar => Sys2Proof.Machine.execConversionWindowEnd ch sd sar stat drvMv s burnMv leadSd leadSar
  | .cjSensorRead sdTemps sarTemps => Sys2Proof.Machine.execCjSensorRead sdTemps sarTemps s
  | .anStale ch => Sys2Proof.Machine.execAnStale ch s
  | .netFrameReceive port frame fcsOk => Sys2Proof.Machine.execNetFrameReceive port frame fcsOk s
  | .telegramCopyReceive port head body rx => Sys2Proof.Machine.execTelegramCopyReceive port head body rx s
  | .arpRequest port tpa sha spa => Sys2Proof.Machine.execArpRequest port tpa s sha spa
  | .linkUp port fullDuplex => Sys2Proof.Machine.execLinkUp port fullDuplex s
  | .linkDown port => Sys2Proof.Machine.execLinkDown port s
  | .ptpSyncReceive port master t1 t2 => Sys2Proof.Machine.execPtpSyncReceive port master t1 t2 s
  | .ptpSyncTimeout => Sys2Proof.Machine.execPtpSyncTimeout s
  | .ptpSyncSend => Sys2Proof.Machine.execPtpSyncSend s
  | .ptpAnnounceSend => Sys2Proof.Machine.execPtpAnnounceSend s
  | .pairingWindowExpiry conn => Sys2Proof.Machine.execPairingWindowExpiry conn s
  | .connTimeout conn => Sys2Proof.Machine.execConnTimeout conn s
  | .connLeeExpired conn => Sys2Proof.Machine.execConnLeeExpired conn s
  | .connNotStarted conn => Sys2Proof.Machine.execConnNotStarted conn s
  | .csfWdg conn => Sys2Proof.Machine.execCsfWdg conn s
  | .casHbSend => Sys2Proof.Machine.execCasHbSend s
  | .casAgreeSend => Sys2Proof.Machine.execCasAgreeSend s
  | .casMemberAbsent m => Sys2Proof.Machine.execCasMemberAbsent m s
  | .engineHeartbeatMiss e => Sys2Proof.Machine.execEngineHeartbeatMiss e s
  | .weatheringReplan ron flashBits wrong => Sys2Proof.Machine.execWeatheringReplan ron flashBits wrong s
  | .thatchDeviationMeasure cycles => Sys2Proof.Machine.execThatchDeviationMeasure cycles s
  | .slateRecheck cells dieTemp => Sys2Proof.Machine.execSlateRecheck cells dieTemp s
  | .equivalentHourUpdate => Sys2Proof.Machine.execEquivalentHourUpdate s
  | .equivalentHourFlashCopy => Sys2Proof.Machine.execEquivalentHourFlashCopy s
  | .weatheringDailyValue => Sys2Proof.Machine.execWeatheringDailyValue s
  | .tmrScrub flips => Sys2Proof.Machine.execTmrScrub s flips
  | .lullNAssert lowNs => Sys2Proof.Machine.execLullNAssert lowNs s
  | .lullTriggerFire => Sys2Proof.Machine.execLullTriggerFire s
  | .pairDiscrepancy xi => Sys2Proof.Machine.execPairDiscrepancy xi s
  | .resetStuck n => Sys2Proof.Machine.execResetStuck n s
  | .estopStopDelayEnd xi => Sys2Proof.Machine.execEstopStopDelayEnd xi s
  | .unlockTimeout xi => Sys2Proof.Machine.execUnlockTimeout xi s
  | .lockTimeout xi => Sys2Proof.Machine.execLockTimeout xi s
  | .mutingSeqTimeout xi => Sys2Proof.Machine.execMutingSeqTimeout xi s
  | .mutingTime xi => Sys2Proof.Machine.execMutingTime xi s
  | .twoHandSyncTimeout xi => Sys2Proof.Machine.execTwoHandSyncTimeout xi s
  | .enable3TMax xi => Sys2Proof.Machine.execEnable3TMax xi s
  | .modeImplausible xi => Sys2Proof.Machine.execModeImplausible xi s
  | .edmFault xi => Sys2Proof.Machine.execEdmFault xi s
  | .timerBlockExpiry xi => Sys2Proof.Machine.execTimerBlockExpiry xi s
  | .aThreshDelayEnd xi => Sys2Proof.Machine.execAThreshDelayEnd xi s
  | .ss1tStopTimeEnd xi => Sys2Proof.Machine.execSs1tStopTimeEnd xi s
  | .brakingEnd xi => Sys2Proof.Machine.execBrakingEnd xi s
  | .sosDelayEnd xi => Sys2Proof.Machine.execSosDelayEnd xi s
  | .sbcReleaseDelayEnd xi => Sys2Proof.Machine.execSbcReleaseDelayEnd xi s
  | .brakeTestEnd xi => Sys2Proof.Machine.execBrakeTestEnd xi s
  | .brakeTestDue xi => Sys2Proof.Machine.execBrakeTestDue xi s
  | .brakeTestOverdue xi => Sys2Proof.Machine.execBrakeTestOverdue xi s
  | .vbatRemoved mv => Sys2Proof.Machine.execVbatRemoved mv s
  | .lossOfLock => Sys2Proof.Machine.execLossOfLock s
  | .engineRestarted e sound => Sys2Proof.Machine.execEngineRestarted e sound s
  | .usbAttach => Sys2Proof.Machine.execUsbAttach s
  | .delayRequestReceive port isRequest requester t3 t4 seq => Sys2Proof.Machine.execDelayRequestReceive port isRequest requester t3 t4 s seq
  | .announceReceive port a => Sys2Proof.Machine.execAnnounceReceive port a s
  | .holdoverExpiry => Sys2Proof.Machine.execHoldoverExpiry s
  | .tmuCountStep n falling => Sys2Proof.Machine.execTmuCountStep n s falling
  | .gustPulseEnd m landMv onInHold => Sys2Proof.Machine.execGustPulseEnd m landMv onInHold s

end Sys2Proof.Machine
end

