-- ==== Sys2Proof/Safety.lean ====
section
/-! DEFINITION. What statements about runs are written in: the registers' reserved fields, and the invariant that every step
keeps. -/

namespace Sys2Proof.Safety

open Sys2Proof Sys2Proof.Machine

/-- A timer channel whose control fields are legal: reserved bits 0, SRC a source, N at least 1 (R37, Tables 2.11, 2.12). -/
def tmuLegal (c : TmuCh) : Bool :=
  c.ctrl &&& 0x7003FFFF == 0 && decide (fld c.ctrl 24 4 ≤ 8) && c.presc &&& 0x0000FF00 == 0 && decide (1 ≤ fld c.presc 16 16)

/-- A CVU_CTRL whose fields are legal: MODE not 3, PREFIX_B at most 8, WIDTH at most 64 and 0 only at the reset value, reserved bits 0
(R234, R238). -/
def cvuLegal (ctrl : W32) : Bool :=
  ctrl &&& 0x00FFFF80 == 0 && fld ctrl 30 2 != 3 && decide (fld ctrl 24 4 ≤ 8) && decide (fld ctrl 0 7 ≤ 64)
    && (fld ctrl 0 7 != 0 || ctrl == 0)

/-- A voted trigger register whose reserved bits [31:2] are 0 in every copy (Table 15.9). -/
def trigLegal (v : Voted 32) : Bool :=
  v.a &&& 0xFFFFFFFC == 0 && v.b &&& 0xFFFFFFFC == 0 && v.c &&& 0xFFFFFFFC == 0

/-- The registers that hold what is written to them: IRQ_ENABLE, IND_ADDR, LULL_TRIG, the timer unit, the CVU control
registers. -/
structure Held where
  irqEn : W32
  indAddr : BitVec 24
  trig : Voted 32
  tmu : List TmuCh
  cvu : List W32
  deriving DecidableEq, Repr

/-- Those registers of a state. -/
def held (s : State) : Held :=
  { irqEn := s.host.irqEn, indAddr := s.host.indAddr, trig := s.lull.trig, tmu := s.tmu.ch.toList
    cvu := s.cvu.toList.map (fun c => c.ctrl) }

/-- Every reserved field of them reads 0, every field that a write may be refused for holds a value that is not refused; TMU0 has no channel
below it to chain to (R37, R38, R234, R335). -/
def legal (h : Held) : Bool :=
  h.irqEn &&& 0xFFFFFC00 == 0 && h.indAddr.toNat % 4 == 0 && trigLegal h.trig && h.tmu.all tmuLegal
    && h.tmu.head?.all (fun c => fld c.ctrl 24 4 != 8) && h.cvu.all cvuLegal

/-- Has the source of a timer channel a cycle in the clock of the timebase that comes next (Table 2.11)? -/
def cycleNext (s : State) (n : Nat) : Bool :=
  let b := rtcClock s.bk
  srcTicks (b.rtcSub != s.bk.rtcSub || b.rtcSec != s.bk.rtcSec) (s.tb.count + 1).toNat (tmuAt s n)

/-- No engine runs, and the tick generators stand (R350). -/
def enginesStand (t : State) : Prop :=
  t.gableE.up = false ∧ t.n0.up = false ∧ t.n1.up = false ∧ t.w.up = false ∧ t.ridgeB.up = false ∧ t.tick.running = false ∧
    t.tick.pulse = false

/-- Commands one after another, from a state; a stop ends the run. -/
def runAll (l : List Instr) (s : State) : Host.Outcome State Fault Refusal :=
  match l with
  | [] => .next s
  | c :: rest =>
    match exec c s with
    | .next t => runAll rest t
    | .fault r => .fault r
    | .refused r => .refused r

/-! ## Mailbox commands -/

/-- Gable serves, the request is next in turn (R246) and no duplicate (R248), and it passes the checks of R251 made before its command is
looked at. -/
def admits (code : BitVec 16) (r : Req) (s : State) : Bool :=
  serves s && inTurn code r s && (turnedAway code r (touch r.port s)).isNone && (preCheck code r (touch r.port s)).isNone

/-- The request has been executed and answered with this status and payload: the response is kept with it (R248, Table 11.3). -/
def answered (code : BitVec 16) (r : Req) (st : Byte) (more : Bool) (payload : List Byte) (t : State) : Prop :=
  (keptOf r.port t).getLast? = some {
    tag := r.tag, body := reqBody code r
    rsp := rspMsg r.tag code ((if more then 64 else 0) + (if isLogged code r then 32 else 0)) st (pad4 payload) }

/-- Nothing but the mailbox service's own state differs: Gable's registers and queue, the mailbox memory, the interrupt events. -/
def quiet (s t : State) : Prop := { t with gable := s.gable, mbx := s.mbx, host := { t.host with irq := s.host.irq } } = s

/-- A request that changes the mode waits for the boundary, unanswered and without an effect yet (R275). -/
def holds (code : BitVec 16) (r : Req) (s t : State) : Prop :=
  { t with gable := s.gable } = s ∧ t.gable.held = some (code, r) ∧ t.gable.queue.head? = some (code, r) ∧
    t.gable.cand = s.gable.cand ∧ t.gable.verify = s.gable.verify ∧ (sessionOf r.port t).level = (sessionOf r.port s).level ∧
    keptOf r.port t = keptOf r.port s

/-- A held request comes to its boundary while Gable serves, passes the checks of R251 there, and nothing of a higher rank in R275 has come
(`overtaken`). -/
def heldNow (code : BitVec 16) (r : Req) (s : State) : Bool :=
  s.gable.held == some (code, r) && s.gable.up && (preCheck code r s).isNone

/-- The same for a logged command: the Shingle log and NEXT_COUNT may differ as well. -/
def quietLogged (s t : State) : Prop :=
  { t with gable := s.gable, mbx := s.mbx, host := { t.host with irq := s.host.irq }, flash := { t.flash with log := s.flash.log }
           bk := { t.bk with nextCount := s.bk.nextCount } } = s

/-! ## Block instances -/

/-- Instance `k`, of type `typ`, runs in the channel of lane `l` with block `b`, without a fault so far, in a mode that evaluates and in a
tick in which the channel has not evaluated and in which no time of the instance has run out yet. -/
def instAt (l : Lane) (s : State) (k typ : Nat) (b : Blk) : Prop :=
  s.mode.evaluates = true ∧ tableStill s = false ∧ (chanOf l s).frozen = false ∧ (chanOf l s).evaluated = false ∧
    (∀ q ∈ (chanOf l s).early, q.1 ≠ k) ∧ k < 65536 ∧ b.fault = 0 ∧ (chanOf l s).blk[k]? = some b ∧
    ∃ y, (evalCfg s).insts[k]? = some y ∧ y.typ = typ

/-- The command leaves instance `k` of that channel in `p`; every other instance of it, the lanes and the mode stay. -/
def expiresTo (l : Lane) (c : Instr) (s : State) (k : Nat) (p : Blk → Prop) : Prop :=
  ∃ t d, exec c s = .next t ∧ (chanOf l t).blk[k]? = some d ∧ p d ∧ (∀ j, j ≠ k → (chanOf l t).blk[j]? = (chanOf l s).blk[j]?) ∧
    t.laneP = s.laneP ∧ t.laneT = s.laneT ∧ t.field = s.field ∧ t.mode = s.mode

/-- The same, with the fault that the instance raises. -/
def faultsTo (l : Lane) (c : Instr) (s : State) (k : Nat) (code : BitVec 16) : Prop :=
  ∃ t d, exec c s = .next t ∧ (chanOf l t).blk[k]? = some d ∧ d.st = 4 ∧ d.out = 0 ∧ d.fault = code ∧ hasFault t code k = true ∧
    (∀ j, j ≠ k → (chanOf l t).blk[j]? = (chanOf l s).blk[j]?) ∧ t.laneP = s.laneP ∧ t.laneT = s.laneT ∧ t.mode = s.mode

/-- A time of the active or evaluated configuration in ticks. -/
def ticksAt (s : State) (p : Config.Param) (k dflt : Nat) : Nat :=
  ticksOf (cfgT (evalCfg s)) (lookN (evalCfg s) p k 0 dflt)

end Sys2Proof.Safety
end

