-- ==== Sys2Proof/Certificates/Slice0/Obligations.lean ====
section
/-! DEFINITION. What is to be proved of the model: one proposition per statement. -/

open Sys2Proof Sys2Proof.Machine Sys2Proof.Safety

/-- Tier 1. A step takes the command at the front of the queue and runs exactly it, with the queue's rest; no command changes what stands
behind it in the queue before it ends. -/
def Obligations.StepRunsFrontCommand : Prop :=
  ∀ (c : Instr) (rest : List Instr) (s : State), s.pending = c :: rest →
    step s = exec c { s with pending := rest }

/-- Tier 2. On an empty queue the block idles for one clock of the timebase (model's choice, log entry 1): while AO runs the timebase
advances by one (R34), the RTC runs and the timer unit takes the clock. A late match fires within it (R40). A running channel whose source
is carried by the timebase (its clock, every fourth clock the crystal, the RTC where it steps) counts the cycle in its prescaler step, and
at the end of the step adds one (R37), wraps to 0 with OVF and its interrupt where OVF_IE is 1, or holds with SAT under STICK (R39); onto
its armed compare value it matches, and the advance arms it again (R40, R42); its overflow steps the running channel chained above it
(R38). A channel without a cycle and a stopped one keep all they hold. Without L+ the RTC alone runs as long as BK has power (R322), with
what is left of the 10 ms for which AO holds itself in reset after a shutdown (R318; log entry 219), and nothing else moves. An ordered
shutdown in progress adds its steps (`SupplySteps`). -/
def Obligations.IdleStepMovesOnlyTime : Prop :=
  ∀ s : State, s.pending = [] → s.pwr.shutdown = none →
    (s.pwr.aoOn = true → ∃ t, step s = .next t ∧ t.tb = { s.tb with count := s.tb.count + 1 } ∧ t.bk = rtcClock s.bk ∧
      { t with tb := s.tb, bk := s.bk, tmu := s.tmu, host := { t.host with irq := s.host.irq } } = s ∧
      (∀ n : Fin 32, (tmuAt s n).en = false → (tmuAt s n).fire = false → (tmuAt s n).chained = false → tmuAt t n = tmuAt s n) ∧
      (∀ n : Fin 32, cycleNext s n = false → (tmuAt s n).fire = false → (tmuAt s n).chained = false → tmuAt t n = tmuAt s n) ∧
      (∀ n : Fin 32, (tmuAt s n).fire = true → (tmuAt s n).en = false → (tmuAt s n).chained = false →
        (tmuAt t n).cmpF = true ∧ (tmuAt t n).fire = false ∧ (tmuAt t n).count = (tmuAt s n).count ∧
        ((tmuAt s n).ctrl.getLsbD 18 = true → t.host.irq.getLsbD 3 = true)) ∧
      (∀ n : Fin 32, cycleNext s n = true → (tmuAt s n).en = true → (tmuAt s n).fire = false →
        (tmuAt s n).inCnt + 1 < (tmuAt s n).stepLen →
        tmuAt t n = { tmuAt s n with inCnt := (tmuAt s n).inCnt + 1 }) ∧
      (∀ n : Fin 32, cycleNext s n = true → (tmuAt s n).en = true → (tmuAt s n).fire = false →
        (tmuAt s n).stepLen ≤ (tmuAt s n).inCnt + 1 →
        ((tmuAt s n).count ≠ 0xFFFFFFFF → (tmuAt t n).count = (tmuAt s n).count + 1 ∧ (tmuAt t n).inCnt = 0 ∧
          (tmuAt t n).ovf = (tmuAt s n).ovf ∧
          ((tmuAt s n).armed = true → (tmuAt s n).cmp = (tmuAt s n).count + 1 → (tmuAt t n).cmpF = true ∧
            ((tmuAt s n).ctrl.getLsbD 18 = true → t.host.irq.getLsbD 3 = true) ∧
            ((tmuAt s n).ctrl.getLsbD 20 = true ∧ (tmuAt s n).adv ≠ 0 →
              (tmuAt t n).armed = true ∧ (tmuAt t n).cmp = (tmuAt s n).cmp + (tmuAt s n).adv) ∧
            ((tmuAt s n).ctrl.getLsbD 20 = false ∨ (tmuAt s n).adv = 0 → (tmuAt t n).armed = false)) ∧
          ((tmuAt s n).armed = false ∨ (tmuAt s n).cmp ≠ (tmuAt s n).count + 1 →
            (tmuAt t n).cmpF = (tmuAt s n).cmpF ∧ (tmuAt t n).armed = (tmuAt s n).armed)) ∧
        ((tmuAt s n).count = 0xFFFFFFFF → (tmuAt s n).stick = false → feeds s n = false →
          (tmuAt t n).count = 0 ∧ (tmuAt t n).ovf = true ∧
          ((tmuAt s n).ctrl.getLsbD 19 = true → t.host.irq.getLsbD 3 = true)) ∧
        ((tmuAt s n).count = 0xFFFFFFFF → (tmuAt s n).stick = true → feeds s n = false →
          (tmuAt t n).count = 0xFFFFFFFF ∧ (tmuAt t n).sat = true ∧ (tmuAt t n).ovf = (tmuAt s n).ovf) ∧
        ((tmuAt s n).count = 0xFFFFFFFF → feeds s n = true → (tmuAt s (n.val + 1)).en = true → (tmuAt s (n.val + 1)).fire = false →
          (tmuAt s (n.val + 1)).count ≠ 0xFFFFFFFF →
          (tmuAt t n).count = 0 ∧ (tmuAt t n).ovf = true ∧ (tmuAt t (n.val + 1)).count = (tmuAt s (n.val + 1)).count + 1))) ∧
    (s.pwr.aoOn = false → s.pwr.domains.getLsbD 9 = true →
      step s = .next { s with bk := rtcClock s.bk, pwr := { s.pwr with aoHold := s.pwr.aoHold - 1 } }) ∧
    (s.pwr.aoOn = false → s.pwr.domains.getLsbD 9 = false →
      step s = .next { s with pwr := { s.pwr with aoHold := s.pwr.aoHold - 1 } })

/-- Tier 2. No command writes the queue: whatever waits behind it waits there unchanged in the next state. -/
def Obligations.CommandsKeepTheQueue : Prop :=
  ∀ (c : Instr) (s t : State), exec c s = .next t → t.pending = s.pending

/-- Tier 1. Reads of the timebase (R35). At the SPI port TB_LO returns [31:0] and captures [63:32]; TB_HI returns and empties the shadow, or
returns [63:32] live and sets TB_TORN_RISK. An engine has a port of its own with its own shadow, and disturbs no other reader's. Nothing
else changes. A read of TMUn_COUNT (R38): a channel without a chain returns its count; the lowest of a chain returns its count and captures
the counts of every channel above it in the chain; a chained channel returns and empties its shadow, or returns its live count and sets
TORN. -/
def Obligations.TimebaseAndTimerReads : Prop :=
  (∀ s : State, portUp s = true →
    exec (.tbLoRead .spi) s = .next { s with
      tb := { s.tb with shadow := some (BitVec.ofNat 32 (s.tb.count.toNat / 2 ^ 32)) }
      host := { s.host with data := BitVec.ofNat 32 s.tb.count.toNat } }) ∧
  (∀ (s : State) (w : W32), portUp s = true → s.tb.shadow = some w →
    exec (.tbHiRead .spi) s = .next { s with tb := { s.tb with shadow := none }, host := { s.host with data := w } }) ∧
  (∀ s : State, portUp s = true → s.tb.shadow = none →
    exec (.tbHiRead .spi) s = .next { s with
      tb := { s.tb with torn := true }
      host := { s.host with data := BitVec.ofNat 32 (s.tb.count.toNat / 2 ^ 32) } }) ∧
  (∀ (s : State) (who : TbReader) (k : Fin 8), s.pwr.aoOn = true → tbPortNo who = some k →
    (∃ t, exec (.tbLoRead who) s = .next t ∧ { t with tb := { t.tb with ports := s.tb.ports } } = s ∧
      t.tb.ports[k] = { shadow := some (BitVec.ofNat 32 (s.tb.count.toNat / 2 ^ 32)), data := BitVec.ofNat 32 s.tb.count.toNat } ∧
      (∀ j : Fin 8, j ≠ k → t.tb.ports[j] = s.tb.ports[j])) ∧
    (∃ t, exec (.tbHiRead who) s = .next t ∧ { t with tb := { t.tb with ports := s.tb.ports } } = s ∧
      t.tb.ports[k] = { shadow := none, data := s.tb.ports[k].shadow.getD (BitVec.ofNat 32 (s.tb.count.toNat / 2 ^ 32)) } ∧
      (∀ j : Fin 8, j ≠ k → t.tb.ports[j] = s.tb.ports[j]))) ∧
  (∀ (s : State) (n : Fin 32), portUp s = true → (tmuAt s n).chained = false → feeds s n = false →
    exec (.tmuCountRead n) s = .next { s with host := { s.host with data := (tmuAt s n).count } }) ∧
  (∀ (s : State) (n : Fin 32), portUp s = true → (tmuAt s n).chained = false → feeds s n = true →
    ∃ t, exec (.tmuCountRead n) s = .next t ∧ t.host.data = (tmuAt s n).count ∧
      { t with tmu := s.tmu, host := { t.host with data := s.host.data } } = s ∧
      (∀ m ∈ chainAbove 32 s n, tmuAt t m = { tmuAt s m with shadow := some (tmuAt s m).count }) ∧
      (∀ m : Fin 32, m.val ∉ chainAbove 32 s n → tmuAt t m = tmuAt s m)) ∧
  (∀ (s : State) (n : Fin 32) (w : W32), portUp s = true → (tmuAt s n).chained = true → (tmuAt s n).shadow = some w →
    exec (.tmuCountRead n) s = .next (setData w (tmuUpd n (fun c => { c with shadow := none }) s))) ∧
  (∀ (s : State) (n : Fin 32), portUp s = true → (tmuAt s n).chained = true → (tmuAt s n).shadow = none →
    exec (.tmuCountRead n) s = .next (setData (tmuAt s n).count (tmuUpd n (fun c => { c with torn := true }) s)))

/-- Tier 1. The writers of a timer channel (R36): a write of the host to TMU28 to TMU31 changes nothing, and a host write to TMU0 to TMU27
or one of Gable to its own channels has its effect: CONTROL keeps the defined fields (Table 2.11), a reserved source or CHAIN on TMU0
only sets CFG_REJ (R38), PRESC stores N = 0 as 1 and clears the accumulator (R37). -/
def Obligations.TimerControlWrites : Prop :=
  (∀ (s : State) (n : Fin 32) (v : W32), 28 ≤ n.val →
    exec (.tmuCountWrite .host n v) s = .next s ∧ exec (.tmuCmpWrite .host n v) s = .next s ∧
    exec (.tmuCtrlWrite .host n v) s = .next s ∧ exec (.tmuPrescWrite .host n v) s = .next s) ∧
  (∀ (s : State) (who : Agent) (n : Fin 32) (v : W32), tmuWritable who n s = true → fld v 24 4 ≤ 8 →
    (fld v 24 4 = 8 → 0 < n.val) →
    exec (.tmuCtrlWrite who n v) s = .next (tmuUpd n (fun c => { c with ctrl := v &&& 0x8FFC0000 }) s)) ∧
  (∀ (s : State) (who : Agent) (n : Fin 32) (v : W32), tmuWritable who n s = true →
    (8 < fld v 24 4 ∨ fld v 24 4 = 8 ∧ n.val = 0) →
    exec (.tmuCtrlWrite who n v) s = .next (tmuUpd n (fun c => { c with rej := true }) s)) ∧
  (∀ (s : State) (who : Agent) (n : Fin 32) (v : W32), tmuWritable who n s = true → ∃ t,
    exec (.tmuPrescWrite who n v) s = .next t ∧ { t with tmu := s.tmu } = s ∧
    (∀ m : Fin 32, m ≠ n → tmuAt t m = tmuAt s m) ∧
    fld (tmuAt t n).presc 16 16 = max 1 (fld v 16 16) ∧ fld (tmuAt t n).presc 0 8 = fld v 0 8 ∧ (tmuAt t n).acc = 0)

/-- Tier 2. A compare write judged by D = (V − N) mod 2³² (R40): ahead arms; equal or behind sets CMP_LATE at once and, by LATE_POLICY,
fires within one clock or arms; a channel that sticks at its largest value counts a V that it could reach only by passing that value as
behind and acts as IMMEDIATE. The other channels and the rest of the module stay. That a write ahead leaves CMP_LATE as it stands, and that
a channel that feeds a chain is judged as one that wraps, is the model's choice (log entry 140). A write of COUNT (R40): on a disarmed
channel it sets the counter only; on an armed channel the compare value is judged again against the value written. -/
def Obligations.TimerCompareAndCountWrites : Prop :=
  (∀ (s : State) (who : Agent) (n : Fin 32) (v : W32), tmuWritable who n s = true →
    ∃ t, exec (.tmuCmpWrite who n v) s = .next t ∧ { t with tmu := s.tmu } = s ∧
      (∀ m : Fin 32, m ≠ n → tmuAt t m = tmuAt s m) ∧
      (let d := (v - (tmuAt s n).count).toNat
       let ahead := 1 ≤ d ∧ d < 2 ^ 31 ∧ ¬(sticks s n = true ∧ v.toNat < (tmuAt s n).count.toNat)
       let wrap := (tmuAt s n).ctrl.getLsbD 21 = true ∧ sticks s n = false
       (ahead → tmuAt t n = { tmuAt s n with cmp := v, armed := true, fire := false }) ∧
       (¬ahead → wrap → tmuAt t n = { tmuAt s n with cmp := v, armed := true, fire := false, late := true }) ∧
       (¬ahead → ¬wrap → tmuAt t n = { tmuAt s n with cmp := v, armed := false, fire := true, late := true }))) ∧
  (∀ (s : State) (who : Agent) (n : Fin 32) (v : W32), tmuWritable who n s = true → (tmuAt s n).armed = false →
    exec (.tmuCountWrite who n v) s = .next (tmuUpd n (fun c => { c with count := v }) s)) ∧
  (∀ (s : State) (who : Agent) (n : Fin 32) (v : W32), tmuWritable who n s = true → (tmuAt s n).armed = true →
    exec (.tmuCountWrite who n v) s =
      .next (tmuJudge n (tmuAt s n).cmp v (tmuUpd n (fun c => { c with count := v }) s)))

/-- Tier 2. An input cycle of a running channel, from the Thatch oscillator or as an edge of a land in the counting direction (R37; the
sources that the timebase carries are clocked by it, log entry 142): before the end of the prescaler's step it is only counted; at its end
a counter below its largest value that meets no compare value adds one and the accumulator takes F, the step whose addition of F carries
being one input cycle longer; a step at the largest value wraps to 0 with OVF, its interrupt where OVF_IE is 1, or holds with SAT under
STICK (R39). A channel that feeds a chain wraps and steps the channel above (R38); a chain whose channels all stand at the largest value
holds there under STICK of its highest channel, which alone sets SAT (R39). An edge in the other direction changes nothing. -/
def Obligations.TimerSteps : Prop :=
  (∀ (s : State) (n : Fin 32) (f : Bool), (tmuAt s n).tin = true → (tmuAt s n).falling ≠ f →
    exec (.tmuCountStep n f) s = .next s) ∧
  (∀ (s : State) (n : Fin 32) (f : Bool), s.pwr.aoOn = true → (tmuAt s n).en = true → (tmuAt s n).chained = false →
    (tmuAt s n).carried = false → ((tmuAt s n).tin = true → (tmuAt s n).falling = f) →
    (tmuAt s n).inCnt + 1 < (tmuAt s n).stepLen →
    exec (.tmuCountStep n f) s = .next (tmuUpd n (fun c => { c with inCnt := c.inCnt + 1 }) s)) ∧
  (∀ (s : State) (n : Fin 32) (f : Bool), s.pwr.aoOn = true → (tmuAt s n).en = true → (tmuAt s n).chained = false →
    (tmuAt s n).carried = false → ((tmuAt s n).tin = true → (tmuAt s n).falling = f) →
    (tmuAt s n).stepLen ≤ (tmuAt s n).inCnt + 1 →
    (tmuAt s n).count ≠ 0xFFFFFFFF → ((tmuAt s n).armed = true → (tmuAt s n).cmp ≠ (tmuAt s n).count + 1) →
    ∃ t, exec (.tmuCountStep n f) s = .next t ∧ { t with tmu := s.tmu } = s ∧
      (∀ m : Fin 32, m ≠ n → tmuAt t m = tmuAt s m) ∧
      tmuAt t n = { tmuAt s n with
        count := (tmuAt s n).count + 1
        inCnt := 0
        acc := BitVec.ofNat 8 ((tmuAt s n).acc.toNat + fld (tmuAt s n).presc 0 8)
        stepLen := fld (tmuAt s n).presc 16 16
          + (((tmuAt s n).acc.toNat + fld (tmuAt s n).presc 0 8) % 256 + fld (tmuAt s n).presc 0 8) / 256 }) ∧
  (∀ (s : State) (n : Fin 32), s.pwr.aoOn = true → (tmuAt s n).en = true → (tmuAt s n).chained = false →
    (tmuAt s n).carried = false → (tmuAt s n).stepLen ≤ (tmuAt s n).inCnt + 1 →
    (tmuAt s n).count = 0xFFFFFFFF → (tmuAt s n).stick = false → feeds s n = false →
    ∃ t, exec (.tmuOverflow n) s = .next t ∧ { t with tmu := s.tmu, host := s.host } = s ∧
      (∀ m : Fin 32, m ≠ n → tmuAt t m = tmuAt s m) ∧
      (tmuAt t n).count = 0 ∧ (tmuAt t n).ovf = true ∧ ((tmuAt s n).ctrl.getLsbD 19 = true → t.host.irq.getLsbD 3 = true)) ∧
  (∀ (s : State) (n : Fin 32), s.pwr.aoOn = true → (tmuAt s n).en = true → (tmuAt s n).chained = false →
    (tmuAt s n).carried = false → (tmuAt s n).stepLen ≤ (tmuAt s n).inCnt + 1 →
    (tmuAt s n).count = 0xFFFFFFFF → (tmuAt s n).stick = true → feeds s n = false →
    ∃ t, exec (.tmuOverflow n) s = .next t ∧ { t with tmu := s.tmu } = s ∧
      (tmuAt t n).count = 0xFFFFFFFF ∧ (tmuAt t n).sat = true) ∧
  (∀ (s : State) (n : Nat), n + 1 < 32 → s.pwr.aoOn = true → (tmuAt s n).en = true → (tmuAt s n).chained = false →
    (tmuAt s n).carried = false → (tmuAt s n).stepLen ≤ (tmuAt s n).inCnt + 1 →
    (tmuAt s n).count = 0xFFFFFFFF → (tmuAt s (n + 1)).chained = true → (tmuAt s (n + 1)).en = true →
    (tmuAt s (n + 1)).count ≠ 0xFFFFFFFF → feeds s (n + 1) = false →
    ∃ t, exec (.tmuOverflow (Fin.ofNat 32 n)) s = .next t ∧
      (tmuAt t n).count = 0 ∧ (tmuAt t n).ovf = true ∧ (tmuAt t (n + 1)).count = (tmuAt s (n + 1)).count + 1) ∧
  (∀ (s : State) (n : Fin 32) (top : Nat), s.pwr.aoOn = true → (tmuAt s n).en = true → (tmuAt s n).chained = false →
    (tmuAt s n).carried = false → (tmuAt s n).stepLen ≤ (tmuAt s n).inCnt + 1 → feeds s n = true →
    (∀ m ∈ n.val :: chainAbove 32 s n, (tmuAt s m).count = 0xFFFFFFFF) → (chainAbove 32 s n).getLast? = some top →
    (tmuAt s top).stick = true →
    ∃ t, exec (.tmuOverflow n) s = .next t ∧ { t with tmu := s.tmu } = s ∧ (tmuAt t top).sat = true ∧
      (∀ m ∈ n.val :: chainAbove 32 s n, (tmuAt t m).count = 0xFFFFFFFF ∧ (tmuAt t m).ovf = (tmuAt s m).ovf ∧
        (m ≠ top → (tmuAt t m).sat = (tmuAt s m).sat)))

/-- Tier 1. A late match fires without a step, an armed one at the step onto its compare value (R40): CMP sets, CMP_IE raises the interrupt,
and the channel is disarmed, unless ADV_EN is 1 and ADV is not 0: then ADV is added to CMP, modulo 2³², and the channel is armed again
(R42). The matches of channels that the timebase carries are those of an idle clock (`IdleStepMovesOnlyTime`). -/
def Obligations.TimerMatchFires : Prop :=
  (∀ (s : State) (n : Fin 32), s.pwr.aoOn = true → (tmuAt s n).fire = true → (tmuAt s n).ctrl.getLsbD 18 = false →
    ((tmuAt s n).ctrl.getLsbD 20 = false ∨ (tmuAt s n).adv = 0) →
    exec (.tmuMatch n) s = .next (tmuUpd n (fun c => { c with cmpF := true, fire := false, armed := false }) s)) ∧
  (∀ (s : State) (n : Fin 32), s.pwr.aoOn = true → (tmuAt s n).fire = true → (tmuAt s n).ctrl.getLsbD 18 = false →
    (tmuAt s n).ctrl.getLsbD 20 = true → (tmuAt s n).adv ≠ 0 →
    exec (.tmuMatch n) s =
      .next (tmuUpd n (fun c => { c with cmpF := true, fire := false, armed := true, cmp := c.cmp + c.adv }) s)) ∧
  (∀ (s : State) (n : Fin 32), s.pwr.aoOn = true → (tmuAt s n).fire = true → (tmuAt s n).ctrl.getLsbD 18 = true →
    ∃ t, exec (.tmuMatch n) s = .next t ∧ t.host.irq = setBit s.host.irq 3 true ∧ (tmuAt t n).cmpF = true) ∧
  (∀ (s : State) (n : Fin 32), s.pwr.aoOn = true → (tmuAt s n).en = true → (tmuAt s n).chained = false →
    (tmuAt s n).carried = false → (tmuAt s n).stepLen ≤ (tmuAt s n).inCnt + 1 →
    (tmuAt s n).fire = false → (tmuAt s n).armed = true → (tmuAt s n).cmp = (tmuAt s n).count + 1 →
    (tmuAt s n).count ≠ 0xFFFFFFFF →
    ∃ t, exec (.tmuMatch n) s = .next t ∧ { t with tmu := s.tmu, host := { t.host with irq := s.host.irq } } = s ∧
      (∀ m : Fin 32, m ≠ n → tmuAt t m = tmuAt s m) ∧
      (tmuAt t n).count = (tmuAt s n).cmp ∧ (tmuAt t n).cmpF = true ∧ (tmuAt t n).fire = false ∧
      ((tmuAt s n).ctrl.getLsbD 18 = true → t.host.irq = setBit s.host.irq 3 true) ∧
      ((tmuAt s n).ctrl.getLsbD 18 = false → t.host.irq = s.host.irq) ∧
      ((tmuAt s n).ctrl.getLsbD 20 = true ∧ (tmuAt s n).adv ≠ 0 →
        (tmuAt t n).armed = true ∧ (tmuAt t n).cmp = (tmuAt s n).cmp + (tmuAt s n).adv) ∧
      ((tmuAt s n).ctrl.getLsbD 20 = false ∨ (tmuAt s n).adv = 0 →
        (tmuAt t n).armed = false ∧ (tmuAt t n).cmp = (tmuAt s n).cmp))

/-- Tier 2. A write of TMU_STAGGER with GO = 1 whose group stays within TMU27 and whose P / n is at least 1 gives every channel of the group
the count of the first one, its compare value N + L + floor(k × P / n), the advance P, and EN and ADV_EN; every other channel keeps all
it holds. A group that is refused changes nothing but CFG_REJ of its first channel (R43). -/
def Obligations.TimerStagger : Prop :=
  (∀ (s : State) (v : W32) (first n : Nat), portUp s = true → v.getLsbD 31 = true → first = fld v 8 5 → n = fld v 0 5 + 1 →
    first + n ≤ 28 → n ≤ s.tmu.per.toNat →
     ∃ t, exec (.tmuStagger v) s = .next t ∧ { t with tmu := s.tmu } = s ∧
      (∀ k, k < n → (tmuAt t (first + k)).count = (tmuAt s first).count ∧
        (tmuAt t (first + k)).cmp = (tmuAt s first).count + s.tmu.lead + BitVec.ofNat 32 (k * s.tmu.per.toNat / n) ∧
        (tmuAt t (first + k)).adv = s.tmu.per ∧ (tmuAt t (first + k)).presc = (tmuAt s first).presc ∧
        (tmuAt t (first + k)).src = (tmuAt s first).src ∧ (tmuAt t (first + k)).en = true ∧
        (tmuAt t (first + k)).ctrl.getLsbD 20 = true) ∧
      (∀ m, m < first ∨ first + n ≤ m → tmuAt t m = tmuAt s m)) ∧
  (∀ (s : State) (v : W32), portUp s = true → v.getLsbD 31 = true →
    (28 < fld v 8 5 + (fld v 0 5 + 1) ∨ s.tmu.per.toNat < fld v 0 5 + 1) →
    exec (.tmuStagger v) s = .next (tmuUpd (fld v 8 5) (fun c => { c with rej := true }) s))

/-- Tier 1. Writes of a unit's CVU_CTRL by its owner (R232, R234): MODE 3, WIDTH 0 or above 64, PREFIX_B above 8, or a CHECK of a frame in
progress whose length is below the check value leave CVU_CTRL unchanged and set CFG_REJ; any other write is kept without the reserved
bits, and while BUSY sets CFG_MIDFRAME. The other owner accesses (R232 to R234, R238): a parameter word replaces its half of its register
alone and sets CFG_MIDFRAME while BUSY; CVU_LENGTH is replaced, but for a CHECK in progress that it would make too short; CVU_VALUE_LO is
held until CVU_VALUE_HI is written, and both then wait for the next beat; a read returns the register it names: one of CVU_VALUE_LO
returns [31:0] and captures [63:32], one of CVU_VALUE_HI returns and empties the shadow, or is live; one of CVU_STAT clears all but BUSY;
RESUME starts a frame from the value without INIT and prefix; ABORT leaves BUSY = 0 and DONE = 0. Which writes set CFG_MIDFRAME and
CVU_VALUE_HI without a held low word are the model's choice (log entry 83), and so is that RESUME clears the bytes set aside (log entry
175). -/
def Obligations.CvuOwnerAccess : Prop :=
  (∀ (u : Fin 4) (v : W32) (s : State), cvuOn u s = true →
    (fld v 30 2 = 3 ∨ fld v 0 7 = 0 ∨ 64 < fld v 0 7 ∨ 8 < fld v 24 4 ∨
      ((cvuAt u s).busy = true ∧ fld v 30 2 = 2 ∧ (cvuAt u s).total.toNat < ceilDiv (fld v 0 7) 8)) →
    exec (.cvuCtrlWrite u v) s = .next (cvuUpd u (fun c => { c with rej := true }) s)) ∧
  (∀ (u : Fin 4) (v : W32) (s : State), cvuOn u s = true →
    fld v 30 2 ≠ 3 → fld v 0 7 ≠ 0 → fld v 0 7 ≤ 64 → fld v 24 4 ≤ 8 →
    ((cvuAt u s).busy = true → fld v 30 2 = 2 → ceilDiv (fld v 0 7) 8 ≤ (cvuAt u s).total.toNat) →
    exec (.cvuCtrlWrite u v) s =
      .next (cvuUpd u (fun c => { c with ctrl := v &&& 0xFF00007F, midframe := c.midframe || c.busy }) s)) ∧
  (∀ (u : Fin 4) (v : W32) (s : State), cvuOn u s = true →
    (let lo (w : W64) : W64 := BitVec.ofNat 64 (w.toNat / 2 ^ 32 * 2 ^ 32 + v.toNat)
     let hi (w : W64) : W64 := BitVec.ofNat 64 (v.toNat * 2 ^ 32 + w.toNat % 2 ^ 32)
     let put (f : Cvu → Cvu) : Host.Outcome State Fault Refusal :=
       .next (cvuUpd u (fun c => { f c with midframe := c.midframe || c.busy }) s)
     exec (.cvuParamWrite u .polyLo v) s = put (fun c => { c with poly := lo c.poly }) ∧
     exec (.cvuParamWrite u .polyHi v) s = put (fun c => { c with poly := hi c.poly }) ∧
     exec (.cvuParamWrite u .initLo v) s = put (fun c => { c with init := lo c.init }) ∧
     exec (.cvuParamWrite u .initHi v) s = put (fun c => { c with init := hi c.init }) ∧
     exec (.cvuParamWrite u .xorLo v) s = put (fun c => { c with xor := lo c.xor }) ∧
     exec (.cvuParamWrite u .xorHi v) s = put (fun c => { c with xor := hi c.xor }) ∧
     exec (.cvuParamWrite u .prefixLo v) s = put (fun c => { c with prefixV := lo c.prefixV }) ∧
     exec (.cvuParamWrite u .prefixHi v) s = put (fun c => { c with prefixV := hi c.prefixV }) ∧
     exec (.cvuParamWrite u .valueLo v) s = .next (cvuUpd u (fun c => { c with heldLo := some v }) s))) ∧
  (∀ (u : Fin 4) (v : W32) (s : State), cvuOn u s = true →
    ∃ t, exec (.cvuParamWrite u .length v) s = .next t ∧ { t with cvu := s.cvu } = s ∧
      (if (cvuAt u s).busy = true ∧ (cvuAt u s).mode = 2 ∧ v.toNat < (cvuAt u s).checkBytes then
        cvuAt u t = { cvuAt u s with rej := true }
       else (cvuAt u t).length = v ∧ (cvuAt u t).rej = (cvuAt u s).rej ∧
        (cvuAt u t).midframe = ((cvuAt u s).midframe || (cvuAt u s).busy) ∧ (cvuAt u t).value = (cvuAt u s).value)) ∧
  (∀ (u : Fin 4) (s : State), cvuOn u s = true →
    (let lo (w : W64) : W32 := BitVec.ofNat 32 w.toNat
     let hi (w : W64) : W32 := BitVec.ofNat 32 (w.toNat / 2 ^ 32)
     let gives (reg : CvuRead) (f : Cvu → W32) : Prop :=
       exec (.cvuValueLoRead u reg) s = .next (cvuUpd u (fun c => { c with data := f c }) s)
     gives .ctrl (fun c => c.ctrl) ∧ gives .polyLo (fun c => lo c.poly) ∧ gives .polyHi (fun c => hi c.poly) ∧
     gives .initLo (fun c => lo c.init) ∧ gives .initHi (fun c => hi c.init) ∧ gives .xorLo (fun c => lo c.xor) ∧
     gives .xorHi (fun c => hi c.xor) ∧ gives .prefixLo (fun c => lo c.prefixV) ∧ gives .prefixHi (fun c => hi c.prefixV) ∧
     gives .resultLo (fun c => lo c.result) ∧ gives .resultHi (fun c => hi c.result))) ∧
  (∀ (u : Fin 4) (hi : W32) (s : State), cvuOn u s = true →
    ∃ t w, exec (.cvuValueHiWrite u hi) s = .next t ∧ { t with cvu := s.cvu } = s ∧
      cvuAt u t = { cvuAt u s with next := some w, heldLo := none } ∧
      w.toNat = hi.toNat * 2 ^ 32 + ((cvuAt u s).heldLo.getD (BitVec.ofNat 32 (cvuAt u s).value.toNat)).toNat) ∧
  (∀ (u : Fin 4) (s : State), cvuOn u s = true →
    exec (.cvuValueLoRead u .valueLo) s = .next (cvuUpd u (fun c => { c with
      data := BitVec.ofNat 32 c.value.toNat, shadow := some (BitVec.ofNat 32 (c.value.toNat / 2 ^ 32)) }) s) ∧
    exec (.cvuValueLoRead u .valueHi) s = .next (cvuUpd u (fun c => { c with
      data := c.shadow.getD (BitVec.ofNat 32 (c.value.toNat / 2 ^ 32)), shadow := none }) s) ∧
    exec (.cvuValueLoRead u .length) s = .next (cvuUpd u (fun c => { c with data := c.length }) s) ∧
    exec (.cvuValueLoRead u .stat) s = .next (cvuUpd u (fun c => { c with
      data := cvuStat c, done := false, checkFail := false, lenErr := false, midframe := false, rej := false, selfFail := false
      restarted := false }) s)) ∧
  (∀ (u : Fin 4) (s : State), cvuOn u s = true →
    ((cvuAt u s).mode = 2 → (cvuAt u s).checkBytes ≤ (cvuAt u s).length.toNat) →
    exec (.cvuResume u) s = .next (cvuUpd u (fun c => { c with
      value := c.next.getD c.value, next := none, busy := true, total := c.length, tail := [], emitted := [] }) s)) ∧
  (∀ (u : Fin 4) (s : State), cvuOn u s = true → (cvuAt u s).mode = 2 → (cvuAt u s).length.toNat < (cvuAt u s).checkBytes →
    exec (.cvuResume u) s = .next (cvuUpd u (fun c => { c with rej := true }) s)) ∧
  (∀ (u : Fin 4) (s : State), cvuOn u s = true →
    exec (.cvuAbort u) s = .next (cvuUpd u (fun c => { c with busy := false, done := false }) s))

/-- Tier 2. A PLAIN frame gives the CRC of R229 to R231: START, the data words of a frame of any length below 2³² bytes, the last one with
whatever follows the frame's last byte, and the end of the frame leave in CVU_RESULT the CRC of the prefix bytes followed by the data,
with DONE set, BUSY clear and no byte left to take. The prefix counts whole, its PREFIX_B bytes, also where WIDTH is less (model's choice,
log entry 82). -/
def Obligations.CvuPlainFrameComputesTheCrc : Prop :=
  ∀ (u : Fin 4) (s : State) (ws : List W32) (data : List Byte), cvuOn u s = true →
    (cvuAt u s).mode = 0 → 1 ≤ (cvuAt u s).width → (cvuAt u s).width ≤ 64 →
    (cvuAt u s).length.toNat = data.length → ws.length = ceilDiv data.length 4 →
    (ws.flatMap (fun w => be 4 w.toNat)).take data.length = data →
    ∃ t, runAll (.cvuStart u :: ws.map (fun w => .cvuDataWrite u w) ++ [.cvuFrameDone u]) s = .next t ∧
      { t with cvu := s.cvu } = s ∧
      (cvuAt u t).result.toNat =
        (cvuAt u s).set.crc (be (cvuAt u s).prefixB ((cvuAt u s).prefixV.toNat % 2 ^ (8 * (cvuAt u s).prefixB))) data ∧
      (cvuAt u t).done = true ∧ (cvuAt u t).busy = false ∧ (cvuAt u t).length = 0

/-- Tier 1. START (R231, R232, R234): the running value becomes INIT with the prefix taken in, BUSY sets, and a frame in progress is
discarded with RESTARTED; in CHECK a length below the check value is refused with CFG_REJ. Data and the end of a frame (R230, R232): a
word with no byte left to take only sets LEN_ERR; any other gives its first bytes, at most those left, the ones of the data to the running
value, and in CHECK those of the check value aside; at the end APPEND emits the result after the data, CHECK sets CHECK_FAIL where the
bytes that came for the check value differ from it, and DONE sets. The self-check of an idle unit, 10 s after its last (R237): the vector
leaves DONE; a wrong result sets SELFTEST_FAIL and raises CVU_FAIL of the unit, a class C warning; a right one, that of Table 10.2,
clears both. No switch command changes. The prefix counts whole (log entry 82), a frame with WIDTH 0 gives 0 (log entry 84) and the vector
leaves its parameters and DONE (log entry 184): these are the model's choices. -/
def Obligations.CvuFramesAndSelfCheck : Prop :=
  (∀ (u : Fin 4) (s : State), cvuOn u s = true →
    ((cvuAt u s).mode = 2 → (cvuAt u s).checkBytes ≤ (cvuAt u s).length.toNat) →
    ∃ t, exec (.cvuStart u) s = .next t ∧ { t with cvu := s.cvu } = s ∧ (cvuAt u t).busy = true ∧
      (cvuAt u t).restarted = ((cvuAt u s).restarted || (cvuAt u s).busy) ∧ (cvuAt u t).length = (cvuAt u s).length ∧
      (cvuAt u t).value = { cvuAt u s with value := BitVec.ofNat 64 ((cvuAt u s).init.toNat % 2 ^ (cvuAt u s).width) }.take
        (be (cvuAt u s).prefixB ((cvuAt u s).prefixV.toNat % 2 ^ (8 * (cvuAt u s).prefixB)))) ∧
  (∀ (u : Fin 4) (s : State), cvuOn u s = true → (cvuAt u s).mode = 2 →
    (cvuAt u s).length.toNat < (cvuAt u s).checkBytes →
    ∃ t, exec (.cvuStart u) s = .next t ∧ (cvuAt u t).rej = true ∧ (cvuAt u t).ctrl = (cvuAt u s).ctrl) ∧
  (∀ (u : Fin 4) (v : W32) (s : State), cvuOn u s = true → ((cvuAt u s).busy = false ∨ (cvuAt u s).length = 0) →
    exec (.cvuDataWrite u v) s = .next (cvuUpd u (fun c => { c with lenErr := true }) s)) ∧
  (∀ (u : Fin 4) (v : W32) (s : State), cvuOn u s = true → (cvuAt u s).busy = true → (cvuAt u s).length ≠ 0 →
    (let c := cvuAt u s
     let l := (be 4 v.toNat).take (min 4 c.length.toNat)
     let k := if c.mode = 2 then c.length.toNat - c.checkBytes else c.length.toNat
     ∃ t, exec (.cvuDataWrite u v) s = .next t ∧ { t with cvu := s.cvu } = s ∧
      (cvuAt u t).value = c.beat.take (l.take k) ∧ (cvuAt u t).length.toNat = c.length.toNat - l.length ∧
      (cvuAt u t).tail = c.tail ++ l.drop k ∧ (cvuAt u t).busy = true ∧
      (cvuAt u t).emitted = (if c.mode = 0 then c.emitted else c.emitted ++ l.take k))) ∧
  (∀ (u : Fin 4) (s : State), cvuOn u s = true → (cvuAt u s).busy = true → (cvuAt u s).length = 0 →
    ∃ t, exec (.cvuFrameDone u) s = .next t ∧ { t with cvu := s.cvu } = s ∧ (cvuAt u t).done = true ∧
      (cvuAt u t).busy = false ∧
      (let c := cvuAt u s
       let check := be c.checkBytes (c.set.result (c.beat.value.toNat % 2 ^ c.width))
       (c.mode = 1 → (cvuAt u t).emitted = c.emitted ++ check) ∧ (c.mode ≠ 1 → (cvuAt u t).emitted = c.emitted) ∧
       (c.mode = 2 → c.checkFail = false → ((cvuAt u t).checkFail = false ↔ c.tail = check)))) ∧
  (∀ (u : Fin 4) (ok : Bool) (s : State), cvuOn u s = true → (cvuAt u s).busy = false → tableStill s = false →
    (cvuAt u s).vecAt.toNat + 1000000000 ≤ s.tb.count.toNat →
    ∃ t, exec (.cvuSelfCheck u ok) s = .next t ∧ (cvuAt u t).selfFail = !ok ∧ (cvuAt u t).done = true ∧
      (cvuAt u t).vecAt = s.tb.count ∧ hasFault t (fcCvuFail0 + BitVec.ofNat 16 u.val) 0 = !ok ∧
      (ok = true → (cvuAt u t).result = [0xCBF43926, 0xE3069283, 0xE3069283, 0x29B1].getD u.val 0) ∧
      (∀ k : Fin 4, k ≠ u → cvuAt k t = cvuAt k s) ∧ t.ridge = s.ridge ∧ t.thatch = s.thatch ∧ t.mode = s.mode) ∧
  (∀ (u : Fin 4) (ok : Bool) (s : State), s.tb.count.toNat < (cvuAt u s).vecAt.toNat + 1000000000 →
    exec (.cvuSelfCheck u ok) s = .next s)

/-- Tier 1. The guard of RWK registers (R338): the key opens it until 1 ms later by the timebase, any other value closes it and adds 1 to
UNLOCK.FAIL, which stays at 255, and it closes when its time has run out. Nothing else changes. A write of LULL_CTRL (R338, R349):
ignored while the guard is closed; with the guard open a write with ENTER = 0 only closes the guard, and one with ENTER = 1 closes it
and enters LULL with CAUSE 2. -/
def Obligations.UnlockGuardAndLullControl : Prop :=
  (∀ s : State, portUp s = true →
    exec (.unlockWrite 0x00005A3C) s = .next { s with host := { s.host with guard := some (s.tb.count + 100000) } }) ∧
  (∀ (s : State) (v : W32), portUp s = true → v ≠ 0x00005A3C →
    exec (.unlockWrite v) s = .next { s with host := { s.host with
      guard := none, keyFails := if s.host.keyFails = 255 then 255 else s.host.keyFails + 1 } }) ∧
  (∀ (s : State) (t : W64), s.host.guard = some t → t.toNat ≤ s.tb.count.toNat →
    exec .unlockGuardTimeout s = .next { s with host := { s.host with guard := none } }) ∧
  (∀ (s : State) (t : W64), s.host.guard = some t → s.tb.count.toNat < t.toNat → exec .unlockGuardTimeout s = .next s) ∧
  (∀ (s : State) (v : W32), portUp s = true → guardOpen s = false → exec (.lullCtrlEnter v) s = .next s) ∧
  (∀ (s : State) (v : W32), portUp s = true → guardOpen s = true → v.getLsbD 31 = false →
    exec (.lullCtrlEnter v) s = .next { s with host := { s.host with guard := none } }) ∧
  (∀ (s : State) (v : W32), portUp s = true → guardOpen s = true → v.getLsbD 31 = true → lullTaken s = true →
    ∃ t, exec (.lullCtrlEnter v) s = .next t ∧ t.mode = .lull ∧ t.lull.active = true ∧ t.lull.cause = 2 ∧
      t.host.guard = none ∧ t.lull.stamp = s.tb.count + 100)

/-- Tier 2. Entry into LULL by LULL_N held low for 1 µs or more and by an armed trigger that is met (R349, R352, Table 15.11): the static
level stands on both lanes, LULL_STAMP is the timebase 1 µs after the request, Gable is down, IRQ_STATUS.LULL is set, the engines and
the tick generators stand, a class H fault that waits for LOCKOUT has left its flag in BK (R351), and the two channels, their latches, the settings of the timer
unit and the fault table stand as they were. A low level below 0.1 µs is ignored. -/
def Obligations.LullEntry : Prop :=
  (∀ (s : State) (lowNs : Nat), 1000 ≤ lowNs → lullTaken s = true →
    ∃ t, exec (.lullNAssert lowNs) s = .next t ∧ t.mode = .lull ∧ t.lull.active = true ∧ t.lull.cause = 1 ∧
      t.lull.stamp = s.tb.count + 100 ∧ t.tb.count = s.tb.count + 100 ∧ t.gable.up = false ∧ enginesStand t ∧
      t.host.irq.getLsbD 9 = true ∧ t.laneP.resetLevel = true ∧ t.laneT.resetLevel = true ∧ t.fa.inLull = true ∧
      (s.hPend ≠ none → t.bk.lockFlag.val = 1) ∧
      t.ridge = s.ridge ∧ t.thatch = s.thatch ∧ t.faults = s.faults ∧ t.mbx = s.mbx ∧
      (∀ n : Fin 32, (tmuAt t n).ctrl = (tmuAt s n).ctrl ∧ (tmuAt t n).presc = (tmuAt s n).presc ∧
        (tmuAt t n).adv = (tmuAt s n).adv)) ∧
  (∀ (s : State), trigMet s = true → lullTaken s = true →
    ∃ t, exec .lullTriggerFire s = .next t ∧ t.mode = .lull ∧ t.lull.cause = 3 ∧ t.lull.trig.val = 0 ∧
      t.lull.stamp = s.tb.count + 100 ∧ enginesStand t ∧ t.laneP.resetLevel = true ∧ t.laneT.resetLevel = true ∧
      t.ridge = s.ridge ∧ t.thatch = s.thatch) ∧
  (∀ (s : State) (lowNs : Nat), lowNs < 100 → exec (.lullNAssert lowNs) s = .next { s with free := s.free + 1 })

/-- Tier 1. Window writes with a rule of their own (R334, R335, R346): IND_ADDR keeps a word address of 24 bits; the identity registers, the
stamps, the timebase, the mirror, the response and the event mailbox ignore a write. A direct write of LULL_TRIG keeps bits [1:0] in all
three copies and begins the arming anew; its argument words take all 32 bits (R334, R352). IRQ_ENABLE keeps bits [9:0] (R344). A write
at an alias is a write of V OR D, V AND NOT D or V XOR D (R337), shown on IRQ_ENABLE; everywhere but at IND_DATA it is the plain write
of that value. -/
def Obligations.WindowTriggerAndAliasWrites : Prop :=
  (∀ (s : State) (d : W32), portUp s = true →
    exec (.registerWrite 0x040 d) s =
      .next { s with host := { s.host with indAddr := BitVec.ofNat 24 (d.toNat / 4 * 4) } }) ∧
  (∀ (s : State) (addr : BitVec 12) (d : W32),
    (addr.toNat ∈ [0x00, 0x04, 0x08, 0x0C, 0x14, 0x20, 0x54, 0x58, 0x60, 0x64, 0x68, 0x6C] ∨
      (0x200 ≤ addr.toNat ∧ addr.toNat < 0x400) ∨ 0x800 ≤ addr.toNat) →
    exec (.registerWrite addr d) s = .next s) ∧
  (∀ (s : State) (v : W32), portUp s = true →
    exec (.lullTrigWrite 0 v) s = .next { s with lull := { s.lull with
      trig := { a := v &&& 3, b := v &&& 3, c := v &&& 3 }, matched := 0 } }) ∧
  (∀ (s : State) (v : W32), portUp s = true →
    exec (.lullTrigWrite 1 v) s = .next { s with lull := { s.lull with argLo := { a := v, b := v, c := v } } } ∧
    exec (.lullTrigWrite 2 v) s = .next { s with lull := { s.lull with argHi := { a := v, b := v, c := v } } }) ∧
  (∀ (s : State) (v : W32), portUp s = true →
    exec (.irqEnableWrite v) s = .next { s with host := { s.host with irqEn := v &&& 0x3FF } }) ∧
  (∀ (s : State) (d : W32), portUp s = true →
    exec (.aliasSetWrite 0x024 d) s = .next { s with host := { s.host with irqEn := (s.host.irqEn ||| d) &&& 0x3FF } } ∧
    exec (.aliasClearWrite 0x024 d) s = .next { s with host := { s.host with irqEn := (s.host.irqEn &&& ~~~d) &&& 0x3FF } } ∧
    exec (.aliasToggleWrite 0x024 d) s = .next { s with host := { s.host with irqEn := (s.host.irqEn ^^^ d) &&& 0x3FF } }) ∧
  (∀ (s : State) (addr : BitVec 12) (d : W32), addr ≠ 0x044 →
    exec (.aliasSetWrite addr d) s = exec (.registerWrite addr (peekWin addr.toNat s ||| d)) s ∧
    exec (.aliasClearWrite addr d) s = exec (.registerWrite addr (peekWin addr.toNat s &&& ~~~d)) s ∧
    exec (.aliasToggleWrite addr d) s = exec (.registerWrite addr (peekWin addr.toNat s ^^^ d)) s)

/-- Tier 1. A host read of a read-clear register returns its value and clears it (R336): IRQ_STATUS, TB_STATUS, CH_FLAGS, PWR_EVT, WTH_EVT,
SLATE_EVT; TMUn_STAT but for ARMED, which is live; while their domains are on IN_EVT0 and IN_EVT1, OUT_EVT, AN_EVT, MO_STAT's events,
AXn_EVT, NETA_EVT and NETB_EVT. Of a domain that is off the read returns 0 and clears nothing (Table 15.7). -/
def Obligations.ReadClearRegisters : Prop :=
  (∀ s : State, portUp s = true →
    exec (.readClearRegister 0x20) s = .next { s with host := { s.host with data := s.host.irq, irq := 0 } } ∧
    exec (.readClearRegister 0x68) s = .next { s with
      tb := { s.tb with torn := false }, host := { s.host with data := if s.tb.torn then 1 else 0 } } ∧
    exec (.readClearRegister 0x002004) s = .next { s with
      ev := { s.ev with chFlags := 0 }, host := { s.host with data := s.ev.chFlags } } ∧
    exec (.readClearRegister 0x003004) s = .next { s with
      ev := { s.ev with pwr := 0 }, host := { s.host with data := s.ev.pwr } } ∧
    exec (.readClearRegister 0x004010) s = .next { s with
      ev := { s.ev with wth := 0 }, host := { s.host with data := s.ev.wth } } ∧
    exec (.readClearRegister 0x500804) s = .next { s with
      ev := { s.ev with slate := 0 }, host := { s.host with data := s.ev.slate } }) ∧
  (∀ s : State, portUp s = true → s.pwr.domains.getLsbD 0 = true →
    exec (.readClearRegister 0x200100) s = .next { s with
      ev := { s.ev with anEvt := 0 }, host := { s.host with data := BitVec.ofNat 32 s.ev.anEvt.toNat } }) ∧
  (∀ (s : State) (n : Fin 32), portUp s = true →
    exec (.readClearRegister (BitVec.ofNat 24 (0x00100C + 16 * n.val))) s = .next (setData (tmuStat (tmuAt s n))
      (tmuUpd n (fun c => { c with
        rej := false, torn := false, sat := false, late := false, cmpF := false, ovf := false }) s))) ∧
  (∀ s : State, portUp s = true → s.pwr.domains.getLsbD 1 = true →
    exec (.readClearRegister 0x10011C) s = .next { s with
      ev := { s.ev with inEvt := s.ev.inEvt &&& 0xFFFF00000000 }
      host := { s.host with data := BitVec.ofNat 32 s.ev.inEvt.toNat } } ∧
    exec (.readClearRegister 0x100120) s = .next { s with
      ev := { s.ev with inEvt := s.ev.inEvt &&& 0xFFFFFFFF }
      host := { s.host with data := BitVec.ofNat 32 (s.ev.inEvt.toNat / 2 ^ 32) } } ∧
    exec (.readClearRegister 0x100410) s = .next { s with
      ev := { s.ev with outEvt := 0 }, host := { s.host with data := BitVec.ofNat 32 s.ev.outEvt.toNat } }) ∧
  (∀ s : State, portUp s = true → s.pwr.domains.getLsbD 2 = true →
    exec (.readClearRegister 0x300500) s = .next { s with
      ev := { s.ev with moEvt := 0 }, host := { s.host with data := moStatus s } } ∧
    ∀ n : Fin 8, exec (.readClearRegister (BitVec.ofNat 24 (0x30002C + 64 * n.val))) s = .next { s with
      ev := { s.ev with axEvt := setBit s.ev.axEvt n false }
      host := { s.host with data := if s.ev.axEvt.getLsbD n then 1 else 0 } }) ∧
  (∀ s : State, portUp s = true →
    (s.pwr.domains.getLsbD 4 = true → exec (.readClearRegister 0x400004) s = .next { s with
      ev := { s.ev with netA := 0 }, host := { s.host with data := s.ev.netA } }) ∧
    (s.pwr.domains.getLsbD 3 = true → exec (.readClearRegister 0x400104) s = .next { s with
      ev := { s.ev with netB := 0 }, host := { s.host with data := s.ev.netB } })) ∧
  (∀ (s : State) (a : BitVec 24), portUp s = true →
    (a = 0x200100 ∧ s.pwr.domains.getLsbD 0 = false ∨ (a = 0x10011C ∨ a = 0x100120 ∨ a = 0x100410) ∧ s.pwr.domains.getLsbD 1 = false ∨
      (a = 0x300500 ∨ ∃ n : Fin 8, a = BitVec.ofNat 24 (0x30002C + 64 * n.val)) ∧ s.pwr.domains.getLsbD 2 = false ∨
      a = 0x400104 ∧ s.pwr.domains.getLsbD 3 = false ∨ a = 0x400004 ∧ s.pwr.domains.getLsbD 4 = false) →
    exec (.readClearRegister a) s = .next { s with host := { s.host with data := 0 } })

/-- Tier 2. HOST_IRQ_N (R344): it is low exactly while some event is set and enabled by the bit of the same number; clearing TMU leaves
every flag of the timer unit; the bit sets again at the next enabled timer event; at reset HOST_IRQ_N is high although RESET reads 1. -/
def Obligations.HostInterruptLine : Prop :=
  (∀ s : State, hostIrqLow s = true ↔ ∃ k : Fin 32, s.host.irq.getLsbD k = true ∧ s.host.irqEn.getLsbD k = true) ∧
  (∀ s : State, portUp s = true → ∃ t, exec (.readClearRegister 0x20) s = .next t ∧ t.host.irq = 0 ∧ t.tmu = s.tmu) ∧
  (∀ (s : State) (n : Fin 32), s.pwr.aoOn = true → (tmuAt s n).fire = true → (tmuAt s n).ctrl.getLsbD 18 = true →
    ∃ t, exec (.tmuMatch n) s = .next t ∧ t.host.irq.getLsbD 3 = true) ∧
  (∀ (s : State) (n : Fin 32), s.pwr.aoOn = true → (tmuAt s n).en = true → (tmuAt s n).chained = false →
    (tmuAt s n).carried = false → (tmuAt s n).stepLen ≤ (tmuAt s n).inCnt + 1 → (tmuAt s n).count = 0xFFFFFFFF →
    (tmuAt s n).stick = false → feeds s n = false → (tmuAt s n).ctrl.getLsbD 19 = true →
    ∃ t, exec (.tmuOverflow n) s = .next t ∧ t.host.irq.getLsbD 3 = true) ∧
  State.reset.host.irq.getLsbD 0 = true ∧ State.reset.host.irqEn = 0 ∧ hostIrqLow State.reset = false

/-- Tier 1. IND_DATA (R346): a read of a location of a domain that is on returns its value, and IND_ADDR advances by 4 modulo 2²⁴; a write
of LULL_TRIG through it arms the trigger; an access to a domain that is off, or to the capture outside LULL, reads 0, changes nothing
there and sets DOM_OFF. In LULL the capture shows a word of Ridge A's instruction memory, the byte at the lowest address first (the model's
choice, log entry 16), and one with a double-bit error adds 1 to LULL_ECC (R353). A read of a low position register returns [31:0] of the position and captures [63:32] into its shadow (R178). -/
def Obligations.IndirectAndPositionAccess : Prop :=
  (∀ (s : State) (a : Nat), portUp s = true → a < 0x600000 → a % 4 = 0 → s.host.indAddr = BitVec.ofNat 24 a →
    indOff a s = false →
    ∃ t, exec (.indDataAccess .read) s = .next t ∧ t.host.data = peekInd a s ∧
      t.host.indAddr = BitVec.ofNat 24 (a + 4) ∧ t.host.domOff = false ∧
      { t with ev := s.ev, host := s.host, tmu := s.tmu, lull := s.lull } = s) ∧
  (∀ (s : State) (v : W32), portUp s = true → s.host.indAddr = 0x000010 →
    exec (.indDataAccess (.write v)) s = .next { s with
      lull := { s.lull with trig := { a := v &&& 3, b := v &&& 3, c := v &&& 3 }, matched := 0 }
      host := { s.host with domOff := false, indAddr := 0x000014 } }) ∧
  (∀ (s : State) (op : WinOp) (a : Nat), portUp s = true → a % 4 = 0 → s.host.indAddr = BitVec.ofNat 24 a →
    (0x100000 ≤ a ∧ a < 0x200000 ∧ s.pwr.domains.getLsbD 1 = false ∨ 0x200000 ≤ a ∧ a < 0x300000 ∧ s.pwr.domains.getLsbD 0 = false ∨
      0x300000 ≤ a ∧ a < 0x400000 ∧ s.pwr.domains.getLsbD 2 = false ∨ 0x400000 ≤ a ∧ a < 0x400100 ∧ s.pwr.domains.getLsbD 4 = false ∨
      0x400100 ≤ a ∧ a < 0x400200 ∧ s.pwr.domains.getLsbD 3 = false ∨
      0x400200 ≤ a ∧ a < 0x500000 ∧ s.pwr.domains.getLsbD 4 = false ∧ s.pwr.domains.getLsbD 3 = false) →
    exec (.indDataAccess op) s = .next { s with host := { s.host with
      domOff := true, indAddr := BitVec.ofNat 24 (a + 4), data := if op = .read then 0 else s.host.data } }) ∧
  (∀ (s : State) (op : WinOp), portUp s = true → s.mode ≠ .lull → s.host.indAddr = 0xFFFFFC → op ≠ .read →
    exec (.indDataAccess op) s = .next { s with host := { s.host with domOff := true, indAddr := 0 } }) ∧
  (∀ (s : State), portUp s = true → s.mode ≠ .lull → s.host.indAddr = 0xFFFFFC →
    exec (.indDataAccess .read) s = .next { s with host := { s.host with domOff := true, indAddr := 0, data := 0 } }) ∧
  (∀ (s : State) (a : Nat), portUp s = true → s.mode = .lull → a < 0x40000 → a % 4 = 0 →
    s.host.indAddr = BitVec.ofNat 24 (0x700000 + a) →
    ∃ t, exec (.indDataAccess .read) s = .next t ∧ t.host.data = memReadWord s.tcm.instrA a ∧ t.tcm = s.tcm ∧
      t.lull.ecc.toNat = if s.tcm.ded.contains (0x700000 + a) then min (2 ^ 32 - 1) (s.lull.ecc.toNat + 1) else s.lull.ecc.toNat) ∧
  (∀ (s : State) (ax : Fin 8) (srcB : Bool), portUp s = true → s.pwr.domains.getLsbD 2 = true →
    ∃ t, exec (.positionLoRead ax srcB) s = .next t ∧
      t.host.data = BitVec.ofNat 32 (axPos s.buf ax.val srcB).toNat ∧
      posShadow t ax.val srcB = some (BitVec.ofNat 32 ((axPos s.buf ax.val srcB).toNat / 2 ^ 32)) ∧
      { t with host := s.host } = s)

/-- Tier 2. SPI frames (R239 to R243): a frame with a bad CRC executes nothing and is answered CRC_ERROR, a read with data of zeros; the last
accepted frame sent again executes nothing and is answered DUPLICATE with the data of its response; another frame executes at its end and
its response is kept. One whose ADDR is no multiple of 4, or whose burst runs past 0x3FFC, executes nothing and is answered BAD_ADDRESS, a
read with zeros. A write of n words writes them in ascending order, each as the state of the one before has left it, and is answered OK,
or LOCKED where one has met a closed guard; a read of n words returns them in ascending order. An OP kind of 0 or 3 is answered
BAD_OPCODE; a discarded frame leaves everything. -/
def Obligations.SpiFrames : Prop :=
  (∀ (s : State) (f : List Byte), portUp s = true → spiCrcOk f s = false →
    ∃ t, exec (.spiWriteFrame f) s = .next t ∧ t.host.miso = spiReply 2 (spiSeq f) [] ∧
      { t with host := { t.host with miso := s.host.miso } } = s) ∧
  (∀ (s : State) (f : List Byte), portUp s = true → spiCrcOk f s = false →
    exec (.spiReadFrame f) s = .next { s with host := { s.host with
      miso := spiReply 2 (spiSeq f) (List.replicate (4 * spiWords f) 0) } }) ∧
  (∀ (s : State) (f data : List Byte) (st : Byte), portUp s = true → spiCrcOk f s = true →
    s.host.kept = some (f, spiReply st (spiSeq f) data) →
    exec (.spiWriteFrame f) s = .next { s with host := { s.host with miso := spiReply 1 (spiSeq f) data } } ∧
    exec (.spiReadFrame f) s = .next { s with host := { s.host with miso := spiReply 1 (spiSeq f) data } }) ∧
  (∀ (s : State) (f : List Byte), portUp s = true → spiCrcOk f s = true → (∀ rsp, s.host.kept ≠ some (f, rsp)) →
    (spiAddr f % 4 ≠ 0 ∨ (1 < spiWords f ∧ 0x3FFC < spiAddr f + 4 * (spiWords f - 1))) →
    (let w := spiReply 4 (spiSeq f) []
     let r := spiReply 4 (spiSeq f) (List.replicate (4 * spiWords f) 0)
     exec (.spiWriteFrame f) s = .next { s with host := { s.host with miso := w, kept := some (f, w) } } ∧
     exec (.spiReadFrame f) s = .next { s with host := { s.host with miso := r, kept := some (f, r) } })) ∧
  (∀ (s : State) (f : List Byte), portUp s = true → spiCrcOk f s = true → (∀ rsp, s.host.kept ≠ some (f, rsp)) →
    spiAddr f % 4 = 0 → (spiWords f ≤ 1 ∨ spiAddr f + 4 * (spiWords f - 1) ≤ 0x3FFC) →
    (let put (r : Bool × State) (k : Nat) : Bool × State :=
       let x := hostWrite (spiAddr f + 4 * k) (BitVec.ofNat 32 (beAt f (4 + 4 * k) 4)) r.2
       (r.1 || x.1, x.2)
     let w := (List.range (spiWords f)).foldl put (false, s)
     let rsp := spiReply (if w.1 then 5 else 0) (spiSeq f) []
     exec (.spiWriteFrame f) s = .next { w.2 with host := { w.2.host with miso := rsp, kept := some (f, rsp) } })) ∧
  (∀ (s : State) (f : List Byte), portUp s = true → spiCrcOk f s = true → (∀ rsp, s.host.kept ≠ some (f, rsp)) →
    spiAddr f % 4 = 0 → (spiWords f ≤ 1 ∨ spiAddr f + 4 * (spiWords f - 1) ≤ 0x3FFC) →
    (let get (r : List Byte × State) (k : Nat) : List Byte × State :=
       let x := hostWord (spiAddr f + 4 * k) r.2
       (r.1 ++ be 4 x.1.toNat, x.2)
     let r := (List.range (spiWords f)).foldl get ([], s)
     let rsp := spiReply 0 (spiSeq f) r.1
     exec (.spiReadFrame f) s = .next { r.2 with host := { r.2.host with miso := rsp, kept := some (f, rsp) } })) ∧
  (∀ (s : State) (f : List Byte), portUp s = true → spiCrcOk f s = true → (∀ rsp, s.host.kept ≠ some (f, rsp)) →
    spiWords f = 1 → spiAddr f % 4 = 0 →
    (let w := hostWrite (spiAddr f) (BitVec.ofNat 32 (beAt f 4 4)) s
     let rsp := spiReply (if w.1 then 5 else 0) (spiSeq f) []
     exec (.spiWriteFrame f) s = .next { w.2 with host := { w.2.host with miso := rsp, kept := some (f, rsp) } })) ∧
  (∀ (s : State) (f : List Byte), portUp s = true → spiCrcOk f s = true → (∀ rsp, s.host.kept ≠ some (f, rsp)) →
    spiWords f = 1 → spiAddr f % 4 = 0 →
    (let r := hostWord (spiAddr f) s
     let rsp := spiReply 0 (spiSeq f) (be 4 r.1.toNat)
     exec (.spiReadFrame f) s = .next { r.2 with host := { r.2.host with miso := rsp, kept := some (f, rsp) } })) ∧
  (∀ (s : State) (f : List Byte), portUp s = true → f.length = 6 → spiCrcOk f s = true →
    (∀ rsp, s.host.kept ≠ some (f, rsp)) →
    exec (.spiBadOpcodeFrame f) s = .next { s with host := { s.host with
      miso := spiReply 3 (spiSeq f) [], kept := some (f, spiReply 3 (spiSeq f) []) } }) ∧
  (∀ s : State, exec .spiFrameDiscard s = .next s)

/-- Tier 2. The scrub (R340), after any upsets of single bits of the copies: every voted register copy that two others outvote is rewritten,
no voted value changes, and each word corrected is counted; on words whose copies agree it changes nothing, and one upset of one copy is
corrected whole. -/
def Obligations.ScrubKeepsVotedValues : Prop :=
  (∀ (s : State) (l : List TmrUpset), s.pwr.aoOn = true →
    (let u := l.foldl tmrUpset s
     ∃ t, exec (.tmrScrub l) s = .next t ∧
      t.lull.trig.val = u.lull.trig.val ∧ t.lull.argLo.val = u.lull.argLo.val ∧ t.lull.argHi.val = u.lull.argHi.val ∧
      t.bk.lockFlag.val = u.bk.lockFlag.val ∧ t.bk.lockCause.val = u.bk.lockCause.val ∧
      t.slate.shadow.val = u.slate.shadow.val ∧
      t.lull.trig.agrees = true ∧ t.lull.argLo.agrees = true ∧ t.lull.argHi.agrees = true ∧ t.bk.lockFlag.agrees = true ∧
      t.bk.lockCause.agrees = true ∧ t.scrubs.toNat = min (2 ^ 32 - 1) (s.scrubs.toNat + upsets u))) ∧
  (∀ (s : State) (u : TmrUpset), s.pwr.aoOn = true → s.lull.trig.agrees = true → s.lull.argLo.agrees = true →
    s.lull.argHi.agrees = true → s.bk.lockFlag.agrees = true → s.bk.lockCause.agrees = true → s.slate.shadow.agrees = true →
    exec (.tmrScrub []) s = .next s ∧ ∃ t, exec (.tmrScrub [u]) s = .next t ∧ { t with scrubs := s.scrubs } = s)

/-- Tier 2. The mailbox memory (R245, Table 15.2): a byte reads as it was written last, every other one as before; bytes written together
read back together; equal contents are equal data. A host write of a word of the request mailbox while REQ_BUSY is 0 stores its four
bytes, most significant byte first, and leaves every other byte of the mailbox memory and everything else alone; while REQ_BUSY is 1 it
is ignored (R245, R246). -/
def Obligations.MailboxMemoryAndRequestWrites : Prop :=
  (∀ (m : List Host.Cell) (a : Nat) (b : Byte), Memory.wf m = true → memRead (memWrite m a b) a = b) ∧
  (∀ (m : List Host.Cell) (a c : Nat) (b : Byte), Memory.wf m = true → c ≠ a → memRead (memWrite m a b) c = memRead m c) ∧
  (∀ (m n : List Host.Cell), Memory.wf m = true → Memory.wf n = true → (∀ a, memRead m a = memRead n a) → m = n) ∧
  (∀ (m : List Host.Cell) (a : Nat) (l : List Byte), Memory.wf m = true → memReadBytes (memWriteBytes m a l) a l.length = l) ∧
  (∀ (s : State) (addr : BitVec 12) (d : W32), Memory.wf s.mbx = true → portUp s = true → s.gable.reqBusy = false →
    addr.toNat % 4 = 0 →
    0x400 ≤ addr.toNat → addr.toNat < 0x800 →
    ∃ t, exec (.registerWrite addr d) s = .next t ∧ { t with mbx := s.mbx } = s ∧
      (∀ a, a < addr.toNat ∨ addr.toNat + 4 ≤ a → memRead t.mbx a = memRead s.mbx a) ∧
      memReadWord t.mbx addr.toNat = d) ∧
  (∀ (s : State) (addr : BitVec 12) (d : W32), portUp s = true → s.gable.reqBusy = true →
    0x400 ≤ addr.toNat → addr.toNat < 0x800 → exec (.registerWrite addr d) s = .next s)

/-- Tier 2. The doorbell (R246, Table 11.5): a REQ while REQ_BUSY or RSP_READY is 1, or while Gable is down, only sets OVERRUN; a request
whose LENGTH, CRC and FLAGS are good, whose TAG is not kept and whose code is known is queued for Gable with REQ_BUSY set and OVERRUN
clear; RSP_ACK clears RSP_READY, and a restart that waits for the host comes 100 ms later at the latest (R264). The event mailbox
(R250): EVT_ACK_N takes that many entries, at most those pending, off the pending ones; without dropped entries nothing is written. -/
def Obligations.DoorbellAndEventAcknowledge : Prop :=
  (∀ s : State, portUp s = true → (s.gable.up = false ∨ s.gable.reqBusy = true ∨ s.gable.rspReady = true) →
    exec .mbxRequest s = .next { s with gable := { s.gable with overrun := true } }) ∧
  (∀ (s : State) (m : List Byte) (n : Nat), portUp s = true → s.gable.up = true → s.gable.reqBusy = false →
     s.gable.rspReady = false → m = memReadBytes s.mbx 0x400 1024 → n = beAt m 4 2 →
     n ≤ 1012 → n % 4 = 0 → beAt m (8 + n) 4 = (crc32 (m.take (8 + n))).toNat → beAt m 6 2 ≤ 1 →
     (∀ k ∈ s.gable.keptSpi, k.tag ≠ BitVec.ofNat 16 (beAt m 0 2)) →
     knownCommand (BitVec.ofNat 16 (beAt m 2 2)) = true →
     ∃ t, exec .mbxRequest s = .next t ∧ t.gable.reqBusy = true ∧ t.gable.overrun = false ∧ t.mbx = s.mbx ∧
       t.gable.queue = s.gable.queue ++ [(BitVec.ofNat 16 (beAt m 2 2),
         { port := .spi, tag := BitVec.ofNat 16 (beAt m 0 2), flags := BitVec.ofNat 16 (beAt m 6 2)
           payload := (m.drop 8).take n })]) ∧
  (∀ s : State, portUp s = true → s.restart = none →
    exec .mbxResponseAck s = .next { s with gable := { s.gable with rspReady := false } }) ∧
  (∀ (s : State) (x : RestartDue), portUp s = true → s.restart = some x → x.port = .spi → s.gable.rspReady = true →
    ∃ t, exec .mbxResponseAck s = .next t ∧ t.gable.rspReady = false ∧
      t.restart = some { x with due := BitVec.ofNat 64 (min x.due.toNat (s.tb.count.toNat + 10000000)) }) ∧
  (∀ (s : State) (n : BitVec 8), portUp s = true → s.gable.evtDropped = 0 → 1 ≤ min n.toNat s.gable.evtPending →
    hasFault s fcEvtLost 0 = false →
    ∃ t, exec (.mbxEventAck n) s = .next t ∧ t.gable.evtPending = s.gable.evtPending - min n.toNat s.gable.evtPending ∧
      t.gable.evtLost = false ∧ t.mbx = s.mbx ∧ t.gable.evtSeq = s.gable.evtSeq)

/-- Tier 2. Requests that are not executed (R245, R248): a kept request sent again over USB is answered with the kept response with
DUPLICATE set, and one with a kept TAG and other content with TAG_CONFLICT; neither changes the queue or what is kept. Behind a request of
the other port it waits for its turn (R246): it is answered once that one has ended. A request on USB
before the earlier response is there or read is answered BUSY (R244). A good request on USB is queued for Gable. A request in execution
whose timeout has run out is answered TIMEOUT, leaves the queue and has no other effect (R247); a split or join whose timeout runs out
before its step 2 is given up and answered TIMEOUT, and from step 2 on it runs to its end (R70). -/
def Obligations.RepeatsQueueAndTimeout : Prop :=
  (∀ (s : State) (m : List Byte) (k : Kept), s.gable.usbAttached = true → s.gable.up = true →
    usbWaits s = false → 12 ≤ m.length → beAt m 4 2 ≤ 1012 → beAt m 4 2 % 4 = 0 → m.length = 12 + beAt m 4 2 →
    beAt m (8 + beAt m 4 2) 4 = (crc32 (m.take (8 + beAt m 4 2))).toNat → beAt m 6 2 ≤ 1 →
    s.gable.keptUsb.find? (fun q => q.tag == BitVec.ofNat 16 (beAt m 0 2)) = some k →
    ∃ t, exec (.usbRequest m true) s = .next t ∧ t.gable.queue = s.gable.queue ∧ t.gable.keptUsb = s.gable.keptUsb ∧
      t.gable.keptSpi = s.gable.keptSpi ∧ t.mode = s.mode ∧
      (s.gable.queue = [] → k.body = m.drop 2 → t.gable.usbRsp = [dupMsg k.rsp]) ∧
      (s.gable.queue = [] → k.body ≠ m.drop 2 → t.gable.usbRsp =
        [rspMsg (BitVec.ofNat 16 (beAt m 0 2)) (BitVec.ofNat 16 (beAt m 2 2)) 0 stTagConflict []]) ∧
      (s.gable.queue ≠ [] → t.gable.usbRsp = [] ∧ t.gable.parked = some (.usb, m))) ∧
  (∀ (s : State) (m : List Byte) (k : Kept) (code : BitVec 16) (r : Req), s.gable.up = true → s.pair.splitReq = none →
    s.gable.queue = [(code, r)] → r.port = .spi → s.gable.parked = some (.usb, m) →
    s.gable.started.toNat + timeoutOf s code ≤ s.tb.count.toNat →
    12 ≤ m.length → beAt m 4 2 ≤ 1012 → beAt m 4 2 % 4 = 0 → m.length = 12 + beAt m 4 2 →
    beAt m (8 + beAt m 4 2) 4 = (crc32 (m.take (8 + beAt m 4 2))).toNat → beAt m 6 2 ≤ 1 →
    s.gable.keptUsb.find? (fun q => q.tag == BitVec.ofNat 16 (beAt m 0 2)) = some k → k.body = m.drop 2 →
    ∃ t, exec .mailboxCommandTimeout s = .next t ∧ t.gable.queue = [] ∧ t.gable.parked = none ∧
      answered code r stTimeout false [] t ∧ t.gable.usbRsp = s.gable.usbRsp ++ [dupMsg k.rsp] ∧
      t.gable.keptUsb = s.gable.keptUsb) ∧
  (∀ (s : State) (m : List Byte), s.gable.usbAttached = true → s.gable.up = true →
    (s.gable.usbRsp ≠ [] ∨ usbWaits s = true) →
    ∃ t, exec (.usbRequest m false) s = .next t ∧ t.gable.queue = s.gable.queue ∧ t.gable.keptUsb = s.gable.keptUsb ∧
      t.gable.usbRsp = s.gable.usbRsp ++
        [rspMsg (BitVec.ofNat 16 (beAt m 0 2)) (BitVec.ofNat 16 (beAt m 2 2)) 0 stBusy []]) ∧
  (∀ (s : State) (m : List Byte), s.gable.usbAttached = true → s.gable.up = true →
    usbWaits s = false → 12 ≤ m.length → beAt m 4 2 ≤ 1012 → beAt m 4 2 % 4 = 0 → m.length = 12 + beAt m 4 2 →
    beAt m (8 + beAt m 4 2) 4 = (crc32 (m.take (8 + beAt m 4 2))).toNat → beAt m 6 2 ≤ 1 →
    (∀ k ∈ s.gable.keptUsb, k.tag ≠ BitVec.ofNat 16 (beAt m 0 2)) → knownCommand (BitVec.ofNat 16 (beAt m 2 2)) = true →
    ∃ t, exec (.usbRequest m true) s = .next t ∧ t.gable.queue = s.gable.queue ++ [(BitVec.ofNat 16 (beAt m 2 2),
      { port := .usb, tag := BitVec.ofNat 16 (beAt m 0 2), flags := BitVec.ofNat 16 (beAt m 6 2)
        payload := (m.drop 8).take (beAt m 4 2) })] ∧ t.mbx = s.mbx ∧ t.mode = s.mode) ∧
  (∀ (s : State) (code : BitVec 16) (r : Req) (rest : List (BitVec 16 × Req)), s.gable.up = true →
    s.pair.splitReq = none → s.gable.queue = (code, r) :: rest → s.gable.parked = none →
    s.gable.started.toNat + timeoutOf s code ≤ s.tb.count.toNat →
    ∃ t, exec .mailboxCommandTimeout s = .next t ∧ t.gable.queue = rest ∧ answered code r stTimeout false [] t ∧
      t.lockWin = none ∧ t.gable.held = none ∧ t.mode = s.mode ∧ t.want = s.want ∧ t.slate = s.slate ∧ t.active = s.active ∧
      t.gable.cand = s.gable.cand) ∧
  (∀ (s : State) (code : BitVec 16) (r : Req), s.gable.up = true → s.pair.splitReq = some (code, r) →
    (∀ x, s.pair.splitAt = some x → s.tick.count.toNat + 1 < x.toNat ∨ s.pair.splitBusy = true ∧ s.pair.firewall = false) →
    s.gable.started.toNat + timeoutOf s code ≤ s.tb.count.toNat →
    ∃ t, exec .mailboxCommandTimeout s = .next t ∧ t.pair.splitReq = none ∧ t.pair.splitAt = none ∧ t.pair.splitBusy = false ∧
      t.pair.split = s.pair.split ∧ t.ridgeB = s.ridgeB ∧ answered code r stTimeout false [] t) ∧
  (∀ (s : State) (q : BitVec 16 × Req) (x : W32), s.pair.splitReq = some q → s.pair.splitAt = some x →
    x.toNat ≤ s.tick.count.toNat + 1 → (s.pair.splitBusy = true → s.pair.firewall = true) →
    exec .mailboxCommandTimeout s = .next s)

/-- Tier 2. Status commands (R251, Tables 11.6, 11.7): GET_STATUS, GET_FAULTS, LOG_READ and SLATE_READ answer with their payloads and change
nothing but the mailbox service's own state. WEATHER_REPORT answers a page of at most 63 margins, or NOT_AVAILABLE while W is down or
its reports are shed (R332, R316); CASCADE_STATUS answers CAS_STATUS, the members, PTP_STATUS and PTP_OFFSET (R228). Neither changes
anything else. -/
def Obligations.StatusAndReportCommands : Prop :=
  (∀ (r : Req) (s : State), admits ccGetStatus r s = true → r.payload = [] →
    ∃ t, exec (.getStatus r) s = .next t ∧ quiet s t ∧ answered ccGetStatus r stOk false (statusPayload r.port s) t) ∧
  (∀ (r : Req) (s : State), admits ccGetFaults r s = true → r.payload.length = 4 → r.num 0 4 ≤ s.faults.length →
    ∃ t, exec (.getFaults r) s = .next t ∧ quiet s t ∧
      answered ccGetFaults r stOk (decide (r.num 0 4 + 62 < s.faults.length))
        (be 4 s.faults.length ++ ((s.faults.drop (r.num 0 4)).take 62).flatMap faultBytes) t) ∧
  (∀ (r : Req) (s : State), admits ccLogRead r s = true → r.payload.length = 8 → 1 ≤ r.num 4 4 → r.num 4 4 ≤ 15 →
    ∃ t, exec (.logRead r) s = .next t ∧ quiet s t ∧
      answered ccLogRead r stOk false (be 4 (oldestCount s) ++ be 4 s.bk.nextCount.toNat ++ be 4 (r.num 4 4)
        ++ (List.range (r.num 4 4)).flatMap (fun k => rawSlot s (r.num 0 4 + k))) t) ∧
  (∀ (r : Req) (s : State), admits ccSlateRead r s = true → r.payload.length = 8 → r.num 0 1 ≤ 4 → r.num 1 1 = 0 →
    1 ≤ r.num 4 4 → r.num 4 4 ≤ 120 → r.num 2 2 + r.num 4 4 ≤ (regionWords (r.num 0 1)).2 →
    ∃ t, exec (.slateRead r) s = .next t ∧ quiet s t ∧
      answered ccSlateRead r stOk false (be 4 (r.num 4 4)
        ++ (List.range (r.num 4 4)).flatMap (fun k => be 4 (fld (shadowOf s) (32 * ((regionWords (r.num 0 1)).1 + r.num 2 2 + k)) 32))
        ++ (List.range (r.num 4 4)).flatMap (fun k => be 4 (fld s.slate.weak (32 * ((regionWords (r.num 0 1)).1 + r.num 2 2 + k)) 32)))
        t) ∧
  (∀ (r : Req) (s : State), admits ccWeatherReport r s = true → r.payload.length = 4 →
    (s.w.up = false ∨ s.pwr.shedWrep = true) →
    ∃ t, exec (.weatherReport r) s = .next t ∧ quiet s t ∧ answered ccWeatherReport r stNotAvailable false [] t) ∧
  (∀ (r : Req) (s : State), admits ccWeatherReport r s = true → r.payload.length = 4 → s.w.up = true →
    s.pwr.shedWrep = false → r.num 0 4 = 0 →
    ∃ t, exec (.weatherReport r) s = .next t ∧ quiet s t ∧
      answered ccWeatherReport r stOk (decide (63 < (margins s).length))
        (be 4 (min 63 (margins s).length) ++ ((margins s).take 63).flatMap (marginBytes s)) t) ∧
  (∀ (r : Req) (s : State), admits ccCascadeStatus r s = true → r.payload = [] →
    ∃ t, exec (.cascadeStatus r) s = .next t ∧ quiet s t ∧ answered ccCascadeStatus r stOk false (cascadePayload s) t)

/-- Tier 2. Configuration download (R257, R258, R275): CFG_BEGIN in CONFIGURE opens a candidate at once; in SAFE_HOLD it waits for the next
boundary, where it opens the candidate and asks for CONFIGURE, or is answered WRONG_MODE where a higher event has come; CFG_BLOCK in order
appends its data and answers RECEIVED and the clamps so far; a block out of order is answered OUT_OF_ORDER and changes nothing. CFG_END
with PAGE 0 (R259, R260): a candidate that is complete, carries one source digest, holds at most 4 096 clamps and breaks no structural
condition is ended, with REPORT_DIGEST the SHA-256 over the entries of its clamp report; one with two digests, or with a structural
condition broken, is discarded with the status that says so, one whose length or CRC is wrong with INCOMPLETE; the active configuration
stays. That CFG_BEGIN stands unanswered until the boundary is the model's choice (log entry 41), and so are the statuses that Table 11.7
leaves out (log entry 42). -/
def Obligations.ConfigurationDownload : Prop :=
  (∀ (r : Req) (s : State), admits ccCfgBegin r s = true → ownedBy r.port s = true → r.payload.length = 8 →
    64 ≤ r.num 0 4 → r.num 0 4 ≤ 1048576 → r.num 0 4 % 4 = 0 → overtaken s = false →
    ∃ t, exec (.cfgBegin r) s = .next t ∧
      (s.mode = .configure → quietLogged s { t with want := s.want } ∧ answered ccCfgBegin r stOk false [] t ∧ t.want = none ∧
        t.gable.cand = some (newCandidate r.port (r.num 0 4) (BitVec.ofNat 32 (r.num 4 4))) ∧ t.gable.verify = none) ∧
      (s.mode ≠ .configure → holds ccCfgBegin r s t)) ∧
  (∀ (r : Req) (s : State), heldNow ccCfgBegin r s = true → ownedBy r.port s = true → r.payload.length = 8 →
    64 ≤ r.num 0 4 → r.num 0 4 ≤ 1048576 → r.num 0 4 % 4 = 0 → s.mode ≠ .configure →
    (heldStep s).gable.held = none ∧ (heldStep s).mode = s.mode ∧ (heldStep s).active = s.active ∧
      (overtaken s = false → (heldStep s).want = some .configure ∧ (heldStep s).gable.verify = none ∧
        (heldStep s).gable.cand = some (newCandidate r.port (r.num 0 4) (BitVec.ofNat 32 (r.num 4 4))) ∧
        answered ccCfgBegin r stOk false [] (heldStep s)) ∧
      (overtaken s = true → (heldStep s).want = s.want ∧ (heldStep s).gable.cand = s.gable.cand ∧
        answered ccCfgBegin r stWrongMode false [] (heldStep s))) ∧
  (∀ (r : Req) (s : State) (c : Candidate), admits ccCfgBlock r s = true → s.gable.cand = some c → c.owner = r.port →
    8 ≤ r.payload.length → r.payload.length ≤ 1012 → r.num 0 4 = c.data.length →
    c.data.length + (r.payload.length - 4) ≤ c.totalLen →
    ∃ t, exec (.cfgBlock r) s = .next t ∧ quiet s t ∧
      t.gable.cand = some { c with
        data := c.data ++ r.payload.drop 4, clamps := clampsOf (Config.image (c.data ++ r.payload.drop 4)) } ∧
      answered ccCfgBlock r stOk false (be 4 (c.data ++ r.payload.drop 4).length
        ++ be 4 (clampsOf (Config.image (c.data ++ r.payload.drop 4))).length) t) ∧
  (∀ (r : Req) (s : State) (c : Candidate), admits ccCfgBlock r s = true → s.gable.cand = some c → c.owner = r.port →
    8 ≤ r.payload.length → r.payload.length ≤ 1012 → r.num 0 4 ≠ c.data.length →
    ∃ t, exec (.cfgBlock r) s = .next t ∧ quiet s t ∧ t.gable.cand = some c ∧ answered ccCfgBlock r stOutOfOrder false [] t) ∧
  (∀ (r : Req) (s : State) (c : Candidate), admits ccCfgEnd r s = true → s.gable.cand = some c → c.owner = r.port →
    c.ended = false → r.payload.length = 4 → r.num 0 4 = 0 → c.data.length = c.totalLen → crc32 c.data = c.totalCrc →
    ∃ t, exec (.cfgEnd r) s = .next t ∧ quietLogged s t ∧
      ((Config.image c.data).ridgeDigest ≠ (Config.image c.data).thatchDigest →
        t.gable.cand = none ∧ answered ccCfgEnd r stImageDigestMismatch false [] t) ∧
      ((Config.image c.data).ridgeDigest = (Config.image c.data).thatchDigest → c.clamps.length ≤ 4096 →
        (∀ p, structureFault (Config.image c.data) = some p →
          t.gable.cand = none ∧ answered ccCfgEnd r stStructure false (be 8 p.1.toNat ++ be 4 p.2) t) ∧
        (structureFault (Config.image c.data) = none →
          t.gable.cand = some { c with
            ended := true, digest := shaNum (c.clamps.flatMap clampBytes), endedAt := s.tb.count } ∧
          answered ccCfgEnd r stOk (decide (40 < c.clamps.length))
            (be 4 c.clamps.length ++ be 32 (shaNum (c.clamps.flatMap clampBytes)).toNat ++ be 4 0
              ++ be 4 (min 40 c.clamps.length) ++ (c.clamps.take 40).flatMap clampBytes) t))) ∧
  (∀ (r : Req) (s : State) (c : Candidate), admits ccCfgEnd r s = true → s.gable.cand = some c → c.owner = r.port →
    c.ended = false → r.payload.length = 4 → r.num 0 4 = 0 → (c.data.length ≠ c.totalLen ∨ crc32 c.data ≠ c.totalCrc) →
    ∃ t, exec (.cfgEnd r) s = .next t ∧ quietLogged s t ∧ t.gable.cand = none ∧ answered ccCfgEnd r stIncomplete false [] t)

/-- Tier 2. CFG_ACCEPT_CLAMPS on an ended candidate (R261): the quoted digest must equal REPORT_DIGEST, else REPORT_MISMATCH and nothing
changes; equal, the report is accepted; a candidate without clamps answers OK without effect. -/
def Obligations.ClampAcceptance : Prop :=
  ∀ (r : Req) (s : State) (c : Candidate), admits ccCfgAcceptClamps r s = true → s.gable.cand = some c → c.owner = r.port →
    c.ended = true → r.payload.length = 32 →
    ∃ t, exec (.cfgAcceptClamps r) s = .next t ∧ quietLogged s t ∧
      (c.clamps = [] → t.gable.cand = some c ∧ answered ccCfgAcceptClamps r stOk false [] t) ∧
      (c.clamps ≠ [] → r.num 0 32 = c.digest.toNat →
        t.gable.cand = some { c with accepted := true } ∧ answered ccCfgAcceptClamps r stOk false [] t) ∧
      (c.clamps ≠ [] → r.num 0 32 ≠ c.digest.toNat →
        t.gable.cand = some c ∧ answered ccCfgAcceptClamps r stReportMismatch false [] t)

/-- Tier 2. VERIFY (R262, R275): VERIFY_START on an ended candidate waits for the next boundary and asks for VERIFY there, or is answered
WRONG_MODE where a higher event has come. On the entry into VERIFY the candidate is loaded, with the checks of R49 and R50: equal digests,
and reference vectors that all pass; if they hold, the run of DURATION begins, and if not it ends at once, failed, and CONFIGURE is asked
for. The end of DURATION in VERIFY passes the run and asks for CONFIGURE. VERIFY_REPORT without a report answers STATE 3. That
VERIFY_START stands unanswered until the boundary (log entry 41), and that every reference vector runs at the boundary of the entry into
VERIFY (log entry 181), is the model's choice. -/
def Obligations.VerifyRuns : Prop :=
  (∀ (r : Req) (s : State) (c : Candidate), admits ccVerifyStart r s = true → s.gable.cand = some c → c.owner = r.port →
    c.ended = true → r.payload.length = 4 → 1000 ≤ r.num 0 4 → r.num 0 4 ≤ 600000 → verifyBusy s = false →
    overtaken s = false →
    ∃ t, exec (.verifyStart r) s = .next t ∧ holds ccVerifyStart r s t) ∧
  (∀ (r : Req) (s : State) (c : Candidate), heldNow ccVerifyStart r s = true → s.gable.cand = some c → c.owner = r.port →
    c.ended = true → r.payload.length = 4 → 1000 ≤ r.num 0 4 → r.num 0 4 ≤ 600000 → verifyBusy s = false →
    (heldStep s).gable.held = none ∧ (heldStep s).gable.cand = some c ∧ (heldStep s).mode = s.mode ∧
      (overtaken s = false → answered ccVerifyStart r stOk false [] (heldStep s) ∧ (heldStep s).want = some .verify ∧
        ∃ v, (heldStep s).gable.verify = some v ∧ v.state = 0 ∧ v.afterAccept = c.accepted ∧ v.entries = [] ∧
          v.dur = BitVec.ofNat 64 (r.num 0 4 * 100000)) ∧
      (overtaken s = true → answered ccVerifyStart r stWrongMode false [] (heldStep s) ∧ (heldStep s).want = s.want ∧
        (heldStep s).gable.verify = s.gable.verify)) ∧
  (∀ (s : State) (c : Candidate) (v : VerifyRun), s.mode = .configure → s.hPend = none → s.pwr.shutdown = none →
    s.want = some .verify → s.gable.cand = some c → s.gable.verify = some v →
    (let cfg := cfgOf c.data
     let ok := cfg.ridgeDigest = cfg.thatchDigest ∧ cfg.vectors ≠ [] ∧ vectorsPassed cfg = cfg.vectors.length
     ∃ w, (modeStep s).mode = .verify ∧ (modeStep s).gable.verify = some w ∧ w.vectors = BitVec.ofNat 16 (vectorsPassed cfg) ∧
      w.ends = s.tb.count + v.dur ∧ (ok → w.state = 0 ∧ (modeStep s).want = none) ∧
      (¬ok → w.state = 2 ∧ (modeStep s).want = some .configure))) ∧
  (∀ (s : State) (v : VerifyRun), s.mode = .verify → s.gable.verify = some v → v.state = 0 →
    v.ends.toNat ≤ s.tb.count.toNat →
    exec .verifyRunEnd s = .next { s with
      gable := { s.gable with verify := some { v with state := 1 } }, want := some .configure }) ∧
  (∀ (r : Req) (s : State), admits ccVerifyReport r s = true → ownedBy r.port s = true → r.payload.length = 4 → r.num 0 4 = 0 →
    s.gable.verify = none →
    ∃ t, exec (.verifyReport r) s = .next t ∧ quiet s t ∧
      answered ccVerifyReport r stOk false (be 1 3 ++ List.replicate 47 0) t)

/-- Tier 2. COMMIT (R263, R264): refused in the order of R263 it changes no bank and asks for no restart; accepted, the inactive bank holds
the candidate with GEN one more than the highest valid generation and GEN_N its inverse, BOOTED erased, the other bank stays, two log
entries are written, and the restart is due 1 s after the response. A reset between the steps leaves the bank as the last whole step has
left it (Table 11.9), without a response and without a restart; that the command's operand says how far it comes, with the bank left
erased at the first step, is the model's choice (log entry 20). Once due, the restart enters SELFTEST on the bank that R265 selects; where
every domain that its configuration uses was on, all of them are on again. -/
def Obligations.CommitWritesTheInactiveBank : Prop :=
  (∀ (r : Req) (run : FlashRun) (s : State) (st : Byte), admits ccCommit r s = true → ownedBy r.port s = true →
    r.payload.length = 36 → commitRefusal r s = some st →
    ∃ t, exec (.commit r run) s = .next t ∧ quietLogged s t ∧ t.gable.cand = s.gable.cand ∧ answered ccCommit r st false [] t) ∧
  (∀ (r : Req) (s : State) (c : Candidate), admits ccCommit r s = true → s.gable.cand = some c → c.owner = r.port →
    r.payload.length = 36 → commitRefusal r s = none →
    ∃ t, exec (.commit r .done) s = .next t ∧
      (let g := nextGen s.flash.cfgA s.flash.cfgB
       let toB := s.active.valid && !s.active.bankB
       let bank : Bank := { gen := BitVec.ofNat 32 g, genN := ~~~(BitVec.ofNat 32 g), booted := 0xFFFFFFFF, crc := c.totalCrc
                            image := c.data }
       t.flash.cfgB = (if toB then bank else s.flash.cfgB) ∧ t.flash.cfgA = (if toB then s.flash.cfgA else bank) ∧
       t.restart = some { kind := .commit, port := r.port, due := s.tb.count + 100000000 } ∧
       t.bk.nextCount = s.bk.nextCount + 2 ∧ t.active = s.active ∧
       answered ccCommit r stOk false (be 4 g ++ be 1 (if toB then 1 else 0)) t)) ∧
  (∀ (r : Req) (k : Fin 6) (s : State) (c : Candidate), admits ccCommit r s = true → s.gable.cand = some c → c.owner = r.port →
    r.payload.length = 36 → commitRefusal r s = none →
    ∃ t, exec (.commit r (.cut k)) s = .next t ∧
      (let toB := s.active.valid && !s.active.bankB
       let bank := if toB then t.flash.cfgB else t.flash.cfgA
       (if toB then t.flash.cfgA = s.flash.cfgA else t.flash.cfgB = s.flash.cfgB) ∧
       (k.val < 4 → bank.validGen = false) ∧ (k.val = 0 → bank = Bank.erased) ∧ (1 ≤ k.val → bank.image = c.data) ∧
       (4 ≤ k.val → bank.genN = ~~~bank.gen ∧ bank.isBooted = false) ∧
       t.restart = s.restart ∧ keptOf r.port t = keptOf r.port s ∧ t.active = s.active)) ∧
  (∀ (s : State) (x : RestartDue), s.restart = some x → x.kind = .commit → x.due.toNat ≤ s.tb.count.toNat →
    s.pwr.shutdown = none → tableStill s = false →
    ∃ t, exec .commitRestart s = .next t ∧ t.mode = .selftest ∧ t.restart = none ∧ t.gable.cand = none ∧ t.tick.running = true ∧
      t.tb = s.tb ∧ t.laneP.resetLevel = true ∧ t.laneT.resetLevel = true ∧
      ((∀ k : Fin 10, (domainsFor t.active.image).getLsbD k = true → s.pwr.domains.getLsbD k = true) →
        t.pwr.domains = domainsFor t.active.image) ∧
      t.flash.cfgA = s.flash.cfgA ∧ t.flash.cfgB = s.flash.cfgB ∧
      (∀ b : Bool × Bank, (chooseCfg s).1 = some b →
        t.active.valid = true → t.active.bankB = b.1 ∧ t.active.gen = b.2.gen ∧ t.active.crc = b.2.crc))

/-- Tier 2. Firmware (R258, R266): FW_UPDATE_BLOCK in order writes the inactive bank, its generation erased; FW_ACTIVATE of a whole image
whose CRCs agree programs that bank's generation and asks for the restart 1 s later. The active bank stays, also where a reset cuts the
steps. Once due, the restart enters BOOT with cause 2, with flash and the timebase as they were: at step 1, which is the model's choice
(log entry 48), as is that FW_ACTIVATE begins the count of boot attempts anew (log entry 49). -/
def Obligations.FirmwareUpdate : Prop :=
  (∀ (r : Req) (s : State), admits ccFwUpdateBlock r s = true → 8 ≤ r.payload.length → r.payload.length ≤ 1012 →
    r.num 0 4 = s.gable.fwData.length → 32 ≤ (s.gable.fwData ++ r.payload.drop 4).length →
    (s.gable.fwData ++ r.payload.drop 4).length ≤ fwLength (s.gable.fwData ++ r.payload.drop 4) →
    ∃ t, exec (.fwUpdateBlock r true) s = .next t ∧ t.gable.fwData = s.gable.fwData ++ r.payload.drop 4 ∧
      (let bank := { Bank.erased with image := s.gable.fwData ++ r.payload.drop 4 }
       (t.flash.fwA, t.flash.fwB) = if s.gable.fwActive then (bank, s.flash.fwB) else (s.flash.fwA, bank)) ∧
      answered ccFwUpdateBlock r stOk false (be 4 (s.gable.fwData ++ r.payload.drop 4).length) t) ∧
  (∀ (r : Req) (s : State), admits ccFwActivate r s = true → r.payload.length = 4 → 32 ≤ s.gable.fwData.length →
    s.gable.fwData.length = fwLength s.gable.fwData → beAt s.gable.fwData 12 4 = r.num 0 4 →
    (fwCrc s.gable.fwData).toNat = r.num 0 4 →
    (s.active.valid = true → beAt s.gable.fwData 0 2 = s.active.image.fwClass ∨ r.confirm = true) →
    ∃ t, exec (.fwActivate r .done) s = .next t ∧
      (let g := nextGen s.flash.fwA s.flash.fwB
       let bank : Bank := { gen := BitVec.ofNat 32 g, genN := ~~~(BitVec.ofNat 32 g), booted := 0xFFFFFFFF
                            crc := fwCrc s.gable.fwData, image := s.gable.fwData }
       (t.flash.fwA, t.flash.fwB) = (if s.gable.fwActive then (bank, s.flash.fwB) else (s.flash.fwA, bank)) ∧
       t.restart = some { kind := .fwActivate, port := r.port, due := s.tb.count + 100000000 } ∧ t.bk.fwAttempts = 0 ∧
       answered ccFwActivate r stOk false (be 4 g ++ be 1 (if s.gable.fwActive then 0 else 1)) t)) ∧
  (∀ (r : Req) (k : Fin 6) (s : State), admits ccFwActivate r s = true → r.payload.length = 4 → 32 ≤ s.gable.fwData.length →
    s.gable.fwData.length = fwLength s.gable.fwData → beAt s.gable.fwData 12 4 = r.num 0 4 →
    (fwCrc s.gable.fwData).toNat = r.num 0 4 →
    (s.active.valid = true → beAt s.gable.fwData 0 2 = s.active.image.fwClass ∨ r.confirm = true) →
    ∃ t, exec (.fwActivate r (.cut k)) s = .next t ∧ t.restart = s.restart ∧ keptOf r.port t = keptOf r.port s ∧
      (if s.gable.fwActive then t.flash.fwB = s.flash.fwB else t.flash.fwA = s.flash.fwA)) ∧
  (∀ (s : State) (x : RestartDue), s.restart = some x → x.kind = .fwActivate → x.due.toNat ≤ s.tb.count.toNat →
    s.pwr.shutdown = none → tableStill s = false →
    ∃ t, exec .commitRestart s = .next t ∧ t.mode = .boot ∧ t.resetCause = 2 ∧ t.bootStep = 1 ∧ t.flash = s.flash ∧
      t.tb.count = s.tb.count ∧ t.bk = s.bk ∧ t.gable.up = false ∧ t.laneP.resetLevel = true ∧ t.laneT.resetLevel = true ∧
      t.restart = none)

/-- Tier 2. Sessions (R253 to R255): a LOGIN to a higher level with the right password grants the level and sets the failure count and the
back-off to 0; a wrong one leaves the level and counts the failure, the fifth in a row starting a back-off of 60 s; during a back-off
nothing is checked or counted. LOGIN with SERVICE = 1 in SAFE_HOLD waits for the boundary, where it grants the level and asks for SERVICE
(R256, R275). LOGOUT, ten minutes without a request, and the end of USB return a session to Observe; a back-off ends at
its time. That such a LOGIN stands unanswered until the boundary (log entry 41), and what a failure during a back-off counts (log entry
180), is the model's choice. SET_PASSWORD at Integrate (R254): the new record holds a salt drawn from the noise source and the SHA-256 digest of the salt
followed by the password; NEW_LEN = 0 clears the Maintain password. -/
def Obligations.SessionsAndPasswords : Prop :=
  (∀ (r : Req) (s : State), admits ccLogin r s = true → s.gable.backoffEnd = none → 4 ≤ r.payload.length →
    r.payload.length = 4 + padded (r.num 2 1) → r.num 1 1 = 0 → r.num 3 1 = 0 → 8 ≤ r.num 2 1 → r.num 2 1 ≤ 64 →
    r.num 0 1 ≤ 2 → (sessionOf r.port s).level.toNat < r.num 0 1 →
    (r.num 0 1 = 2 → (sessionOf (otherPort r.port) s).level ≠ 2) → (passwordOf (r.num 0 1) s).isSome = true →
    (passwordOk (r.num 0 1) ((r.payload.drop 4).take (r.num 2 1)) s = true →
      ∃ t, exec (.login r) s = .next t ∧ (sessionOf r.port t).level = BitVec.ofNat 2 (r.num 0 1) ∧ t.gable.fails = 0 ∧
        t.gable.backoffEnd = none ∧ t.mode = s.mode ∧ t.want = s.want) ∧
    (passwordOk (r.num 0 1) ((r.payload.drop 4).take (r.num 2 1)) s = false →
      ∃ t, exec (.login r) s = .next t ∧ (sessionOf r.port t).level = (sessionOf r.port s).level ∧
        t.gable.fails = s.gable.fails + 1 ∧
        (s.gable.fails = 4 → t.gable.backoffEnd = some (s.tb.count + 6000000000)))) ∧
  (∀ (r : Req) (s : State), admits ccLogout r s = true → r.payload = [] → ownsMode s = false →
    ∃ t, exec (.logout r) s = .next t ∧ quietLogged s t ∧ (sessionOf r.port t).level = 0 ∧ answered ccLogout r stOk false [] t) ∧
  (∀ (p : Port) (s : State), (s.gable.up = true ∨ romServes s = true) → flashClosed s = false → (sessionOf p s).level ≠ 0 →
    ownsMode s = false → (sessionOf p s).lastReq.toNat + 60000000000 ≤ s.tb.count.toNat →
    ∃ t, exec (.sessionInactivityTimeout p) s = .next t ∧ (sessionOf p t).level = 0 ∧
      t.bk.nextCount = s.bk.nextCount + 1 ∧ quietLogged s t) ∧
  (∀ (r : Req) (s : State), admits ccLogin r s = true → 4 ≤ r.payload.length → r.payload.length = 4 + padded (r.num 2 1) →
    r.num 0 1 ≤ 2 → r.num 1 1 = 0 → r.num 3 1 = 0 → 8 ≤ r.num 2 1 → r.num 2 1 ≤ 64 → s.gable.backoffEnd ≠ none →
    ∃ t, exec (.login r) s = .next t ∧ (sessionOf r.port t).level = (sessionOf r.port s).level ∧ t.gable.fails = s.gable.fails ∧
      t.gable.backoffEnd = s.gable.backoffEnd ∧ t.want = s.want) ∧
  (∀ (r : Req) (s : State), admits ccLogin r s = true → s.gable.backoffEnd = none → 4 ≤ r.payload.length →
    r.payload.length = 4 + padded (r.num 2 1) → r.num 0 1 = 2 → r.num 1 1 = 1 → r.num 3 1 = 0 → 8 ≤ r.num 2 1 → r.num 2 1 ≤ 64 →
    s.mode = .safeHold → overtaken s = false → (sessionOf r.port s).level ≠ 2 → (sessionOf (otherPort r.port) s).level ≠ 2 →
    s.gable.integrate.isSome = true → passwordOk 2 ((r.payload.drop 4).take (r.num 2 1)) s = true →
    ∃ t, exec (.login r) s = .next t ∧ holds ccLogin r s t) ∧
  (∀ (r : Req) (s : State), heldNow ccLogin r s = true → s.gable.backoffEnd = none → 4 ≤ r.payload.length →
    r.payload.length = 4 + padded (r.num 2 1) → r.num 0 1 = 2 → r.num 1 1 = 1 → r.num 3 1 = 0 → 8 ≤ r.num 2 1 → r.num 2 1 ≤ 64 →
    s.mode = .safeHold → (sessionOf r.port s).level ≠ 2 → (sessionOf (otherPort r.port) s).level ≠ 2 →
    s.gable.integrate.isSome = true → passwordOk 2 ((r.payload.drop 4).take (r.num 2 1)) s = true →
    (heldStep s).gable.held = none ∧ (heldStep s).mode = s.mode ∧
      (overtaken s = false → (heldStep s).want = some .service ∧ (sessionOf r.port (heldStep s)).level = 2 ∧
        (heldStep s).gable.fails = 0) ∧
      (overtaken s = true → (heldStep s).want = s.want ∧ answered ccLogin r stWrongMode false [] (heldStep s) ∧
        (sessionOf r.port (heldStep s)).level = (sessionOf r.port s).level)) ∧
  (∀ (s : State) (e : W64), s.gable.backoffEnd = some e → s.gable.backoffHeld = false → e.toNat ≤ s.tb.count.toNat →
    exec .loginBackoffEnd s = .next { s with gable := { s.gable with backoffEnd := none } }) ∧
  (∀ s : State, s.gable.usbAttached = true → ownsMode s = false →
    ∃ t, exec .usbDetach s = .next t ∧ quiet s { t with lockWin := s.lockWin } ∧ t.gable.usbAttached = false ∧ t.gable.usb.level = 0 ∧
      t.gable.usbRsp = [] ∧ (∀ q ∈ t.gable.queue, q.2.port ≠ .usb) ∧
      (∀ w, s.lockWin = some w → t.lockWin = if w.req.port = .usb then none else some w)) ∧
  (∀ s : State, s.pwr.aoOn = true → s.pwr.shedUsb = false → s.gable.up = true →
    exec .usbAttach s = .next { s with gable := { s.gable with usbAttached := true } }) ∧
  (∀ (r : Req) (s : State), admits ccSetPassword r s = true → (sessionOf r.port s).level = 2 → 4 ≤ r.payload.length →
    r.payload.length = 4 + padded (r.num 1 1) + padded (r.num 2 1) → r.num 0 1 = 2 → r.num 3 1 = 0 → r.num 1 1 ≤ 64 →
    8 ≤ r.num 2 1 → r.num 2 1 ≤ 64 →
    ∃ t, exec (.setPassword r true) s = .next t ∧
      t.gable.integrate = some {
        salt := Config.noise s.free
        digest := shaNum (be 16 (Config.noise s.free).toNat ++ (r.payload.drop (4 + padded (r.num 1 1))).take (r.num 2 1)) } ∧
      t.gable.maintain = s.gable.maintain ∧ answered ccSetPassword r stOk false [] t) ∧
  (∀ (r : Req) (s : State), admits ccSetPassword r s = true → (sessionOf r.port s).level = 2 → 4 ≤ r.payload.length →
    r.payload.length = 4 + padded (r.num 1 1) → r.num 0 1 = 1 → r.num 3 1 = 0 → r.num 1 1 ≤ 64 → r.num 2 1 = 0 →
    ∃ t, exec (.setPassword r true) s = .next t ∧ t.gable.maintain = none ∧ t.gable.integrate = s.gable.integrate)

/-- Tier 2. The deliberate reset (R283): CLEAR_LOCKOUT opens a window of 10 s and answers nothing yet; a valid press inside it answers OK
with the cause, clears the flag and the cause in BK and asks for a restart; a window that ends answers ACK_MISSING and leaves both as they
were. The restart then enters SELFTEST without class H entries. Ridge split and join (R65, R66, R69): a permitted split with equal CRCs
takes effect at the next boundary, a join three boundaries on, and neither is answered before it has ended, with that tick; no switch
command changes. Step 2 of the split resets Ridge B behind the firewall; at the end of tick k + 1 the split image stands in its
instruction memory, it runs unless ENGINE_DOWN holds it (R290), and the split is answered; at boundary j + 3 the pair runs joined, and the
join is answered. When a split and a join are answered (log entry 116), and when the press of the acknowledge is judged (log entry 119), is
the model's choice. LULL_ARM writes the trigger and its 64-bit argument (R352). -/
def Obligations.LockoutClearanceSplitAndArm : Prop :=
  (∀ (r : Req) (s : State), admits ccClearLockout r s = true → r.payload = [] →
    ∃ t, exec (.clearLockout r) s = .next t ∧
      t.lockWin = some { req := r, opened := s.tb.count, ends := s.tb.count + 1000000000 } ∧ t.bk = s.bk ∧ t.mode = s.mode ∧
      keptOf r.port t = keptOf r.port s) ∧
  (∀ (s : State) (w : LockWindow), s.lockWin = some w → s.gable.up = true → s.pair.ackPress = true →
    s.tb.count.toNat < w.ends.toNat →
    ∃ t, exec .lockoutAckRelease s = .next t ∧ t.lockWin = none ∧ t.bk.lockFlag.val = 0 ∧ t.bk.lockCause.val = 0 ∧
      t.restart = some { kind := .lockout, port := w.req.port, due := s.tb.count + 100000000 } ∧ t.mode = s.mode ∧
      answered ccClearLockout w.req stOk false (be 2 (lockCauseOf s)) t) ∧
  (∀ (s : State) (w : LockWindow), s.lockWin = some w → s.gable.up = true → w.ends.toNat ≤ s.tb.count.toNat →
    ∃ t, exec .ackMissing s = .next t ∧ t.lockWin = none ∧ t.bk.lockFlag = s.bk.lockFlag ∧ t.bk.lockCause = s.bk.lockCause ∧
      t.mode = s.mode ∧ t.restart = s.restart ∧ answered ccClearLockout w.req stAckMissing false (be 2 (lockCauseOf s)) t) ∧
  (∀ (s : State) (x : RestartDue), s.restart = some x → x.kind = .lockout → x.due.toNat ≤ s.tb.count.toNat →
    s.pwr.shutdown = none → s.resetHeld = false → s.mode = .lockout →
    ∃ t, exec .lockoutRestart s = .next t ∧ t.mode = .selftest ∧ t.restart = none) ∧
  (∀ (r : Req) (s : State), admits ccRidgeSplit r s = true → r.payload = [] →
    lookB s.active.image .splitPermitted 0 false = true → s.active.image.split = true → s.pair.split = false →
    s.pair.splitAt = none → s.pair.diverged = false →
    ∃ t, exec (.ridgeSplit r true) s = .next t ∧ t.pair.splitBusy = true ∧ t.pair.splitAt = some (s.tick.count + 1) ∧
      t.pair.splitReq = some (ccRidgeSplit, r) ∧ keptOf r.port t = keptOf r.port s ∧ t.mbx = s.mbx ∧
      t.pair.split = false ∧ t.ridge = s.ridge ∧ t.thatch = s.thatch) ∧
  (∀ s : State, s.pair.splitAt = some s.tick.count → s.pair.splitBusy = true →
    (splitBoundary s).pair.firewall = true ∧ (splitBoundary s).ridgeB.up = false ∧ (splitBoundary s).pair.split = s.pair.split ∧
      (splitBoundary s).ridge = s.ridge ∧ (splitBoundary s).thatch = s.thatch) ∧
  (∀ (r : Req) (s : State), s.pair.splitReq = some (ccRidgeSplit, r) → s.pair.splitAt = some s.tick.count →
    s.pair.splitBusy = true → s.pair.firewall = true → s.pair.split = false → s.gable.up = true →
    (splitEnd s).pair.split = true ∧ (splitEnd s).ridgeB.up = !s.ridgeB.down ∧ (splitEnd s).ridge = s.ridge ∧
      (splitEnd s).thatch = s.thatch ∧ (splitEnd s).tcm.instrB = memWriteBytes [] 0 s.active.image.splitCode ∧
      answered ccRidgeSplit r stOk false (be 4 s.tick.count.toNat) (splitEnd s)) ∧
  (∀ (r : Req) (s : State), admits ccRidgeJoin r s = true → r.payload = [] → s.pair.split = true → s.pair.splitAt = none →
    ∃ t, exec (.ridgeJoin r true) s = .next t ∧ t.pair.splitAt = some (s.tick.count + 3) ∧ t.pair.joinBad = false ∧
      t.pair.splitReq = some (ccRidgeJoin, r) ∧ keptOf r.port t = keptOf r.port s ∧ t.mbx = s.mbx ∧
      t.pair.split = true ∧ t.ridge = s.ridge ∧ t.thatch = s.thatch) ∧
  (∀ (r : Req) (s : State), s.pair.splitReq = some (ccRidgeJoin, r) → s.pair.splitAt = some s.tick.count →
    s.pair.splitBusy = false → s.gable.up = true →
    (splitBoundary s).pair.split = false ∧ (splitBoundary s).pair.joinBusy = false ∧ (splitBoundary s).ridge = s.ridge ∧
      (splitBoundary s).thatch = s.thatch ∧ answered ccRidgeJoin r stOk false (be 4 s.tick.count.toNat) (splitBoundary s)) ∧
  (∀ (r : Req) (s : State), admits ccLullArm r s = true → r.payload.length = 12 → r.num 0 1 ≤ 3 → r.num 1 3 = 0 →
    ∃ t, exec (.lullArm r) s = .next t ∧ t.lull.trig.val = BitVec.ofNat 32 (r.num 0 1) ∧
      t.lull.argHi.val = BitVec.ofNat 32 (r.num 4 4) ∧ t.lull.argLo.val = BitVec.ofNat 32 (r.num 8 4) ∧ t.lull.matched = 0 ∧
      t.mode = s.mode ∧ answered ccLullArm r stOk false [] t)

/-- Tier 2. Slate programming (R299 to R301, R304, R311): an allowed bit whose margin verify passes at round n reads 1 on both copies at
every reference afterwards, every other cell as before, and the answer gives the pulses, one where it passes already; one that never
passes is answered SLATE_BIT_FAILED, and no cell goes back to 0; a bit that the rules refuse is answered SLATE_DENIED (or BAD_PARAMETER for
a LIFE bit without CONFIRM) and no cell changes. A pulse that a reset cuts changes that bit alone and leaves no answer. A voltage above
3 V on SLATE_VPP sets VPP_IGNORED from SHIPPED on (R300). SLATE_LOCK programs its lock bit under the same terms. What a cell that failed
reads (log entry 31) and the operand that cuts a pulse (log entry 20) are the model's choices. -/
def Obligations.SlateProgramming : Prop :=
  (∀ (r : Req) (p : SlatePulse) (s : State), admits ccSlateProgramBit r s = true → r.payload.length = 4 → r.num 0 2 ≤ 8191 →
    10 ≤ r.num 2 1 → r.num 2 1 ≤ 50 → r.num 3 1 = 0 → programRefusal r (r.num 0 2) s = none →
    alreadySet s (r.num 0 2) = false → p.cut = false → 1 ≤ p.passRound → p.passRound ≤ 4 →
    ∃ t, exec (.slateProgramBit r p) s = .next t ∧ alreadySet t (r.num 0 2) = true ∧
      (∀ (k : Fin 6) (b : Nat), b ≠ r.num 0 2 → t.slate.cells[k].getLsbD b = s.slate.cells[k].getLsbD b) ∧
      (2 ≤ lifeState (shadowOf s) → 3000 < p.vppMv → t.ev.slate.getLsbD 1 = true) ∧ t.slate.shadow = s.slate.shadow ∧
      answered ccSlateProgramBit r stOk false
        [BitVec.ofNat 8 (if verifies s.slate.cells (r.num 0 2) then 1 else p.passRound), 0, 0, 0] t) ∧
  (∀ (r : Req) (p : SlatePulse) (s : State), admits ccSlateProgramBit r s = true → r.payload.length = 4 → r.num 0 2 ≤ 8191 →
    10 ≤ r.num 2 1 → r.num 2 1 ≤ 50 → r.num 3 1 = 0 → programRefusal r (r.num 0 2) s = none →
    verifies s.slate.cells (r.num 0 2) = false → p.cut = false → p.passRound = 0 →
    ∃ t, exec (.slateProgramBit r p) s = .next t ∧ alreadySet t (r.num 0 2) = false ∧
      (∀ (k : Fin 6) (b : Nat), b ≠ r.num 0 2 → t.slate.cells[k].getLsbD b = s.slate.cells[k].getLsbD b) ∧
      (∀ k : Fin 6, s.slate.cells[k].getLsbD (r.num 0 2) = true → t.slate.cells[k].getLsbD (r.num 0 2) = true) ∧
      answered ccSlateProgramBit r stSlateBitFailed false [4, 0, 0, 0] t) ∧
  (∀ (r : Req) (p : SlatePulse) (s : State), admits ccSlateProgramBit r s = true → r.payload.length = 4 → r.num 0 2 ≤ 8191 →
    10 ≤ r.num 2 1 → r.num 2 1 ≤ 50 → r.num 3 1 = 0 → programRefusal r (r.num 0 2) s = none →
    alreadySet s (r.num 0 2) = false → p.cut = true →
    ∃ t, exec (.slateProgramBit r p) s = .next t ∧ keptOf r.port t = keptOf r.port s ∧ t.flash = s.flash ∧
      t.slate.prog = s.slate.prog ∧
      (∀ (k : Fin 6) (b : Nat), b ≠ r.num 0 2 → t.slate.cells[k].getLsbD b = s.slate.cells[k].getLsbD b)) ∧
  (∀ (r : Req) (p : SlatePulse) (s : State) (st : Byte), admits ccSlateProgramBit r s = true → r.payload.length = 4 →
    r.num 0 2 ≤ 8191 → 10 ≤ r.num 2 1 → r.num 2 1 ≤ 50 → r.num 3 1 = 0 → programRefusal r (r.num 0 2) s = some st →
    ∃ t, exec (.slateProgramBit r p) s = .next t ∧ t.slate = s.slate ∧ answered ccSlateProgramBit r st false [] t) ∧
  (∀ (r : Req) (p : SlatePulse) (slot : Nat) (s : State), admits ccSlateLock r s = true → r.payload.length = 4 → r.num 0 1 = 3 →
    r.num 1 1 = slot → slot ≤ 7 → r.num 2 2 = 0 → lockAllowed 3 slot s = true → alreadySet s (3648 + slot) = false →
    p.cut = false → 1 ≤ p.passRound → p.passRound ≤ 4 →
    ∃ t, exec (.slateLock r p) s = .next t ∧ alreadySet t (3648 + slot) = true ∧
      (∀ (k : Fin 6) (b : Nat), b ≠ 3648 + slot → t.slate.cells[k].getLsbD b = s.slate.cells[k].getLsbD b) ∧
      answered ccSlateLock r stOk false [] t) ∧
  (∀ (r : Req) (p : SlatePulse) (slot : Nat) (s : State), admits ccSlateLock r s = true → r.payload.length = 4 → r.num 0 1 = 3 →
    r.num 1 1 = slot → slot ≤ 7 → r.num 2 2 = 0 → lockAllowed 3 slot s = false →
    ∃ t, exec (.slateLock r p) s = .next t ∧ t.slate = s.slate ∧ answered ccSlateLock r stSlateDenied false [] t)

/-- Tier 2. Squall throttling (R27, R315, R316, Table 14.2): three samples below a step's threshold ask for that step in the next phase 0,
and change nothing else but the readings; while no tick runs it is taken at once, with LPLUS_LOW, USB and the event mailbox shed, and at
the floor the mirror and the W reports as well; a step up, one at a time, needs 100 ms at its level and 100 ms since the last step.
Ride-through and ordered shutdown (R317, Table 14.3): below 16.0 V the module runs from HOLD at the floor; 16.5 V ends the ride-through
and leaves clock and services as they are; HOLD at 13.0 V, or 50 ms, start the shutdown: every switch command and set-point of both
latches is forced, and every service shed; the domains go off at their instants after b1, with the log entry and the snapshot at
b1 + 6 ms, and 10 ms after s the module is in BACKUP or OFF; the latest times of Table 14.3 are taken as the instants themselves (log entry
47). With L+ back after it AO holds itself in reset for 10 ms (R318; log entry 219). HOLD at 9.0 V puts AO into power-on reset: both lanes at the reset level, the
timebase gone, flash, the Slate cells and, above 1.8 V of VBAT, BK kept. -/
def Obligations.SupplySteps : Prop :=
  (∀ (s : State) (mv : Vector Nat 3), squallActs s = true → s.tick.running = true → s.pwr.ride = none →
    (nowStep s).num < (stepOf (max mv[0] (max mv[1] mv[2]))).num →
    exec (.squallStepDown mv) s = .next { s with
      tick := { s.tick with pendClk := some (stepOf (max mv[0] (max mv[1] mv[2]))) }
      pwr := { s.pwr with
        lplus := mv[2], hold := if mv[2] < 16000 then max s.pwr.hold (mv[2] - 400) else mv[2] - 400, lowAt := some s.tb.count } }) ∧
  (∀ (s : State) (mv : Vector Nat 3), squallActs s = true → s.tick.running = false → s.tick.pendClk = none → ownsMode s = false →
    s.tick.clk.num < (stepOf (max mv[0] (max mv[1] mv[2]))).num →
    ∃ t, exec (.squallStepDown mv) s = .next t ∧ t.tick.clk = stepOf (max mv[0] (max mv[1] mv[2])) ∧ t.tick.pendClk = none ∧
      hasFault t fcLplusLow 0 = true ∧ t.pwr.lplus = mv[2] ∧ t.pwr.shedUsb = true ∧ t.pwr.shedEvt = true ∧
      t.pwr.shedMirror = decide (max mv[0] (max mv[1] mv[2]) < 18500) ∧
      t.pwr.shedWrep = decide (max mv[0] (max mv[1] mv[2]) < 18500) ∧ t.gable.usbAttached = false ∧ t.ev.pwr.getLsbD 3 = true ∧
      t.mode = s.mode ∧ t.tb = s.tb ∧ t.ridge = s.ridge ∧ t.thatch = s.thatch) ∧
  (∀ (s : State) (mv least : Nat), squallActs s = true → s.pwr.ride = none → s.tick.running = true →
    (s.pwr.lastUp = none ∨ ∃ x, s.pwr.lastUp = some x ∧ x.toNat + 10000000 ≤ s.tb.count.toNat) →
    (s.pwr.lowAt = none ∨ ∃ x, s.pwr.lowAt = some x ∧ x.toNat + 10000000 ≤ s.tb.count.toNat) →
    (nowStep s = .c200 → 19000 ≤ min mv least →
      exec (.squallStepUp mv least) s = .next { s with
        tick := { s.tick with pendClk := some .c300 }
        pwr := { s.pwr with lplus := mv, hold := mv - 400, lastUp := some s.tb.count } }) ∧
    (nowStep s = .c300 → 20500 ≤ min mv least →
      exec (.squallStepUp mv least) s = .next { s with
        tick := { s.tick with pendClk := some .c400 }
        pwr := { s.pwr with lplus := mv, hold := mv - 400, lastUp := some s.tb.count } })) ∧
  (∀ (s : State) (mv least : Nat), squallActs s = true → s.pwr.ride = none →
    (nowStep s = .c200 ∧ min mv least < 19000 ∨ nowStep s = .c300 ∧ min mv least < 20500 ∨
      ∃ x, s.pwr.lastUp = some x ∧ s.tb.count.toNat < x.toNat + 10000000) →
    exec (.squallStepUp mv least) s = .next { s with pwr := { s.pwr with
      lplus := mv, hold := if mv < 16000 then max s.pwr.hold (mv - 400) else mv - 400 } }) ∧
  (∀ (s : State) (mv : Vector Nat 3), squallActs s = true → ownsMode s = false → mv[0] < 16000 → mv[1] < 16000 → mv[2] < 16000 →
    s.pwr.ride = none →
    ∃ t, exec (.rideThroughStart mv) s = .next t ∧ t.pwr.ride = some s.tb.count ∧ t.pwr.lplus = mv[2] ∧
      t.pwr.hold = max s.pwr.hold (mv[2] - 400) ∧ nowStep t = .c200 ∧
      t.mode = s.mode ∧ t.tb = s.tb ∧ t.ridge = s.ridge ∧ t.thatch = s.thatch) ∧
  (∀ (s : State) (mv : Vector Nat 3) (x : W64), squallActs s = true → 16500 ≤ mv[0] → 16500 ≤ mv[1] → 16500 ≤ mv[2] →
    s.pwr.ride = some x →
    exec (.rideThroughEnd mv) s = .next { s with
      pwr := { s.pwr with lplus := mv[2], hold := mv[2] - 400, ride := none, lastUp := some s.tb.count }
      ev := { s.ev with pwr := s.ev.pwr ||| 2 } }) ∧
  (∀ (s : State) (mv hold : Nat) (x : W64), squallActs s = true → s.pwr.ride = some x →
    (hold ≤ 13000 ∧ mv < 16000 ∨ x.toNat + 5000000 ≤ s.tb.count.toNat) →
    ∃ t, exec (.orderedShutdown mv hold) s = .next t ∧ t.pwr.shutdown = some s.tb.count ∧ t.pwr.lplus = mv ∧ t.pwr.hold = hold ∧
      hasFault t fcLplusShutdown 0 = true ∧ t.ridge.latch.cmds = 0 ∧ t.thatch.latch.cmds = 0 ∧
      (∀ n : Fin 8, t.ridge.latch.setpt[n] = alarmCode (lookN s.active.image .uacMode n 0 0) ∧
        t.thatch.latch.setpt[n] = alarmCode (lookN s.active.image .uacMode n 0 0)) ∧
      t.ridge.forced = true ∧ t.thatch.forced = true ∧ t.restart = none ∧ t.want = none ∧ t.gable.reqBusy = false ∧
      t.gable.queue = [] ∧ t.pwr.shedUsb = true ∧ t.pwr.shedEvt = true ∧ t.pwr.shedMirror = true ∧ t.pwr.shedWrep = true ∧
      t.mode = s.mode ∧ t.tb = s.tb) ∧
  (∀ (s : State) (x b : W64), s.pending = [] → s.pwr.aoOn = true → s.pwr.shutdown = some x → s.pwr.b1 = some b → s.pwr.doneAt = none →
    ((s.tb.count + 1).toNat = b.toNat + 10000 →
      ∃ t, step s = .next t ∧ t.laneP.resetLevel = true ∧ t.laneT.resetLevel = true ∧ t.pwr.domains = s.pwr.domains &&& 0x3FC) ∧
    ((s.tb.count + 1).toNat = b.toNat + 15000 →
      ∃ t, step s = .next t ∧ t.tick.running = false ∧ t.pwr.domains = s.pwr.domains &&& 0x33B) ∧
    ((s.tb.count + 1).toNat = b.toNat + 20000 →
      ∃ t, step s = .next t ∧ t.n0.up = false ∧ t.n1.up = false ∧ t.portA.link = false ∧ t.portB.link = false ∧
        t.pwr.domains = s.pwr.domains &&& 0x3E7) ∧
    ((s.tb.count + 1).toNat = b.toNat + 600000 → s.gable.up = true → s.w.up = true →
      ∃ t, step s = .next t ∧ t.bk.nextCount = s.bk.nextCount + 1 ∧ t.bk.hasSnap = true ∧ t.bk.snapDt = s.wth.dt ∧
        t.bk.snapGen = s.active.gen)) ∧
  (∀ (s : State) (x : W64), s.pending = [] → s.pwr.aoOn = true → s.pwr.shutdown = some x → s.pwr.doneAt = none →
    (∀ b, s.pwr.b1 = some b → (s.tb.count + 1).toNat ∉ [b.toNat + 10000, b.toNat + 15000, b.toNat + 20000, b.toNat + 600000]) →
    (s.tb.count + 1).toNat = x.toNat + 1000000 →
    ∃ t, step s = .next t ∧ t.mode = (if 1800 ≤ s.pwr.vbatNow then .backup else .off) ∧ t.gable.up = false ∧ t.w.up = false ∧
      t.pwr.domains = 0x300 ∧ t.pwr.doneAt = some (s.tb.count + 1)) ∧
  (∀ (s : State) (x d : W64), s.pending = [] → s.pwr.aoOn = true → s.pwr.shutdown = some x → s.pwr.doneAt = some d →
    16500 ≤ s.pwr.lplus →
    ∃ t, step s = .next t ∧ t.pwr.aoOn = false ∧ t.mode = .boot ∧ t.bootStep = 1 ∧ t.pwr.aoHold = 1000000 ∧ t.pwr.lplus = s.pwr.lplus ∧
      t.laneP.resetLevel = true ∧ t.laneT.resetLevel = true ∧ t.flash = s.flash ∧ t.bk = rtcClock s.bk) ∧
  (∀ (s : State) (hold : Nat), s.pwr.aoOn = true → hold ≤ 9000 →
    ∃ t, exec (.holdPowerOnReset hold) s = .next t ∧ t.mode = (if 1800 ≤ s.pwr.vbatNow then .backup else .off) ∧
      t.pwr.aoOn = false ∧ t.laneP.resetLevel = true ∧ t.laneT.resetLevel = true ∧ t.gable.up = false ∧ t.faults = [] ∧
      t.flash = s.flash ∧ t.slate.cells = s.slate.cells ∧
      (1800 ≤ s.pwr.vbatNow → { t.bk with reserve := s.bk.reserve, hasReserve := s.bk.hasReserve } = s.bk) ∧
      (∀ x, s.pwr.shutdown = some x → t.bk.hasReserve = true ∧
        t.bk.reserve = BitVec.ofNat 16 (min 65535 ((s.tb.count.toNat - x.toNat) / 10000))) ∧
      (s.pwr.vbatNow < 1800 → t.bk.valid = false)) ∧
  (∀ (s : State) (hold : Nat), 9000 < hold → exec (.holdPowerOnReset hold) s = .next s)

/-- Tier 2. The backup domain (R320 to R322): VBAT applied without L+ ends OFF in BACKUP; without L+ a VBAT below 1.8 V loses BK, and with
L+ present neither does anything; a measurement raises VBAT_LOW below 2.2 V and clears it from 2.3 V on; a tamper event latches with its
RTC seconds, in BACKUP as well. Temperatures (R324, Table 14.5): TEMP_HIGH and TEMP_LIMIT rise once every measurement of a sensor has been
over its limit for 1 s; TEMP_HIGH clears at the first measurement 5 K below both limits; 145 °C of the logic die puts AO into power-on
reset, with L+ present at the start of BOOT, and BK stays (the model's choice, log entry 72). -/
def Obligations.BackupDomainAndTemperatures : Prop :=
  (∀ (s : State) (mv : Nat), s.mode = .off → 1800 ≤ mv →
    ∃ t, exec (.vbatApplied mv) s = .next t ∧ t.mode = .backup ∧ t.pwr.domains.getLsbD 9 = true ∧ t.pwr.vbatNow = mv ∧
      { t with mode := s.mode, pwr := s.pwr } = s) ∧
  (∀ (s : State) (mv : Nat), s.mode ≠ .off → s.mode ≠ .backup →
    exec (.vbatRemoved mv) s = .next { s with pwr := { s.pwr with vbatNow := mv } } ∧
    exec (.vbatApplied mv) s = .next { s with pwr := { s.pwr with vbatNow := mv } }) ∧
  (∀ (s : State) (mv : Nat), s.pwr.aoOn = false → (s.mode = .off ∨ s.mode = .backup) → mv < 1800 →
    ∃ t, exec (.vbatRemoved mv) s = .next t ∧ t.mode = .off ∧ t.bk.valid = false ∧ t.pwr.domains.getLsbD 9 = false ∧
      { t with mode := s.mode, pwr := s.pwr, bk := s.bk } = s) ∧
  (∀ (s : State) (mv : Nat), s.pwr.aoOn = true → tableStill s = false → mv < 2200 →
    ∃ t, exec (.vbatMeasurement mv) s = .next t ∧ t.pwr.vbat = mv ∧ hasFault t fcVbatLow 0 = true ∧ t.mode = s.mode ∧
      t.ridge = s.ridge ∧ t.thatch = s.thatch ∧ t.bk.valid = s.bk.valid) ∧
  (∀ (s : State) (mv : Nat), s.pwr.aoOn = true → tableStill s = false → 2300 ≤ mv →
    ∃ t, exec (.vbatMeasurement mv) s = .next t ∧ t.pwr.vbat = mv ∧ hasFault t fcVbatLow 0 = false ∧ t.mode = s.mode ∧
      t.ridge = s.ridge ∧ t.thatch = s.thatch) ∧
  (∀ s : State, s.pwr.domains.getLsbD 9 = false → exec .tamperNLow s = .next s) ∧
  (∀ s : State, s.pwr.domains.getLsbD 9 = true →
    ∃ t, exec .tamperNLow s = .next t ∧ t.bk.tamper = true ∧ t.bk.tamperSec = s.bk.rtcSec ∧
      (s.pwr.aoOn = true → t.ev.pwr.getLsbD 4 = true) ∧
      { t with bk := { t.bk with tamper := s.bk.tamper, tamperSec := s.bk.tamperSec }, ev := s.ev } = s) ∧
  (∀ (s : State) (die fs : Int), s.pwr.aoOn = true → tableStill s = false → die ≤ 1150 → fs ≤ 1100 →
    ∃ t, exec (.temperatureMeasurement die fs) s = .next t ∧ t.pwr.die = die ∧ t.pwr.fieldSide = fs ∧
      hasFault t fcTempHigh 0 = false ∧ t.mode = s.mode ∧ t.ridge = s.ridge ∧ t.thatch = s.thatch) ∧
  (∀ (s : State) (die fs : Int) (x : W64), s.pwr.aoOn = true → tableStill s = false → 1200 ≤ die → die < 1450 →
    s.pwr.highSince[0] = some x → x.toNat + 100000000 ≤ s.tb.count.toNat →
    ∃ t, exec (.temperatureMeasurement die fs) s = .next t ∧ hasFault t fcTempHigh 0 = true ∧ t.mode = s.mode) ∧
  (∀ (s : State) (die fs : Int) (x : W64), s.pwr.aoOn = true → tableStill s = false → 1300 ≤ die → die < 1450 →
    s.pwr.highSince[2] = some x → x.toNat + 100000000 ≤ s.tb.count.toNat →
    ∃ t, exec (.temperatureMeasurement die fs) s = .next t ∧ hasFault t fcTempLimit 0 = true ∧ t.mode = s.mode) ∧
  (∀ (s : State) (die fs : Int), s.pwr.aoOn = true → 1450 ≤ die →
    ∃ t, exec (.temperatureMeasurement die fs) s = .next t ∧ t.pwr.aoOn = false ∧ t.pwr.die = die ∧
      t.laneP.resetLevel = true ∧ t.laneT.resetLevel = true ∧ t.mode = .boot ∧ t.bootStep = 1 ∧ t.bk = s.bk ∧ t.flash = s.flash)

/-- Tier 2. Power-on, RESET_N and BOOT (R277, R281, R318, R319, Table 12.4): L+ that has stayed at or above 17.5 V for 10 ms from a sample
at or above 18.0 V starts BOOT with cause 0 and the timebase at 0, both lanes at the reset level; with the PLL locked, every regulator
good and a valid firmware bank the steps go on to the end of step 5, with Gable up. RESET_N low for 10 µs resets all but flash, BK, the
timebase and a TPO_OVERLOAD and holds BOOT off until its release with cause 1, where a low LULL_N freezes the module in BOOT (R351);
below 1 µs it is ignored, and during an ordered shutdown it only puts the lanes, the field side and FA at the reset level. The end of BOOT
is the entry into SELFTEST with the domains that the configuration uses, also without a valid configuration (the model's choice, log entry
28); where RG is not in regulation, the domains after it stay off, and where AO is not, it stays in reset (R319). -/
def Obligations.BootAndReset : Prop :=
  (∀ (s : State) (env : BootEnv), (s.mode = .off ∨ s.mode = .backup) → s.resetHeld = false → s.pwr.die < 1250 →
    s.pwr.aoHold = 0 → (∀ x, s.pwr.doneAt = some x → x.toNat + 1000000 ≤ s.tb.count.toNat) →
    18000 ≤ env.lplusFirst → 17500 ≤ env.lplusLeast → 10000 ≤ env.lplusUs → env.lplusLeast ≤ env.lplus →
    env.badDomains.getLsbD 8 = false →
    ∃ t, exec (.lplusPowerOn env) s = .next t ∧ t.mode = .boot ∧ t.resetCause = 0 ∧ t.tb.count = 0 ∧ t.resetHeld = false ∧
      t.laneP.resetLevel = true ∧ t.laneT.resetLevel = true ∧ t.pwr.aoOn = true ∧ t.pwr.lplus = env.lplus ∧
      t.pair.diverged = false ∧ t.fa.almOpen = env.almOpen ∧ t.tick.running = false ∧
      (env.testPort = [] → t.slate.cells = s.slate.cells) ∧
      (env.pllOk = true → env.badDomains = 0 → (chooseFw s).1.isSome = true →
        t.bootStep = 5 ∧ t.gable.up = true ∧ t.gableE.up = true ∧ (env.slateInTime = true → t.slate.readDone = true))) ∧
  (∀ (s : State) (env : BootEnv), waitsForPower s = true → lplusCounted env = true → env.badDomains.getLsbD 8 = true →
    ∃ t, exec (.lplusPowerOn env) s = .next t ∧ t.pwr.aoOn = false ∧ t.mode = .boot ∧ t.bootStep = 1 ∧ t.laneP.resetLevel = true ∧
      t.laneT.resetLevel = true ∧ t.gable.up = false) ∧
  (∀ (s : State) (env : BootEnv), 0 < s.pwr.aoHold → exec (.lplusPowerOn env) s = .next s) ∧
  (∀ (s : State) (env : BootEnv), (env.lplusFirst < 18000 ∨ env.lplusLeast < 17500 ∨ env.lplusUs < 10000) →
    exec (.lplusPowerOn env) s = .next s) ∧
  (∀ (s : State) (lowNs : Nat), s.pwr.aoOn = true → s.mode ≠ .off → s.mode ≠ .backup → 10000 ≤ lowNs → s.pwr.shutdown = none →
    ∃ t, exec (.resetNAssert lowNs) s = .next t ∧ t.resetHeld = true ∧ t.mode = s.mode ∧
      t.laneP.resetLevel = true ∧ t.laneT.resetLevel = true ∧
      t.gable.up = false ∧ t.faults = s.faults.filter (fun e => e.code == fcTpoOverload) ∧ t.tick.running = false ∧
      t.tb.count = s.tb.count ∧ t.flash = s.flash ∧ t.bk = s.bk ∧
      t.slate.cells = s.slate.cells ∧ t.tmu = State.reset.tmu ∧ t.cvu = State.reset.cvu ∧ t.mbx = []) ∧
  (∀ (s : State) (lowNs : Nat), s.pwr.aoOn = true → s.mode ≠ .off → s.mode ≠ .backup → 10000 ≤ lowNs → s.pwr.shutdown ≠ none →
    ∃ t, exec (.resetNAssert lowNs) s = .next t ∧ t.laneP.resetLevel = true ∧ t.laneT.resetLevel = true ∧
      (∀ n : Fin 48, t.field.inp[n] = InFc.reset) ∧ t.field.sup = s.field.sup ∧ t.fa = { Fa.reset with almOpen := s.fa.almOpen } ∧
      { t with free := s.free, laneP := s.laneP, laneT := s.laneT, field := s.field, fa := s.fa } = s) ∧
  (∀ (s : State) (lowNs : Nat), s.pwr.aoOn = true → s.mode ≠ .off → s.mode ≠ .backup → lowNs < 10000 →
    ∃ t, exec (.resetNAssert lowNs) s = .next t ∧
      (t = { s with free := s.free + 1 } ∨ 1000 ≤ lowNs ∧ t.laneP.resetLevel = true ∧ t.laneT.resetLevel = true)) ∧
  (∀ (s : State) (env : BootEnv), s.resetHeld = true → env.lullN = true →
    ∃ t, exec (.resetNRelease env) s = .next t ∧ t.mode = .lull ∧ t.resetCause = 1 ∧ t.bootStep = 1 ∧ t.resetHeld = false ∧
      t.lull.active = true ∧ t.lull.cause = 1 ∧ t.lull.fromMode = BitVec.ofNat 4 Mode.boot.code ∧
      t.lull.stamp = s.tb.count + 100 ∧ t.laneP.resetLevel = true ∧ t.laneT.resetLevel = true) ∧
  (∀ (s : State) (env : BootEnv), s.resetHeld = true → env.lullN = false → env.badDomains.getLsbD 8 = false →
    ∃ t, exec (.resetNRelease env) s = .next t ∧ t.mode = .boot ∧ t.resetCause = 1 ∧ t.resetHeld = false ∧
      t.tb.count = s.tb.count ∧ t.laneP.resetLevel = true ∧ t.laneT.resetLevel = true ∧ t.fa.almOpen = env.almOpen ∧
      (env.pllOk = true → env.badDomains = 0 → (chooseFw s).1.isSome = true → t.bootStep = 5 ∧ t.gable.up = true)) ∧
  (∀ (s : State) (env : BootEnv), s.resetHeld = false → exec (.resetNRelease env) s = .next s) ∧
  (∀ (s : State) (env : BootEnv), s.mode = .boot → s.resetHeld = false → s.pwr.aoOn = true → s.bootStep = 5 → env.badDomains = 0 →
    ∃ t, exec (.bootComplete env) s = .next t ∧ t.mode = .selftest ∧ t.tick.running = true ∧ t.laneP.resetLevel = true ∧
      t.laneT.resetLevel = true ∧ t.pwr.domains = domainsFor s.active.image ∧ t.active = s.active ∧ t.tb = s.tb) ∧
  (∀ (s : State) (env : BootEnv), s.mode = .boot → s.resetHeld = false → s.pwr.aoOn = true → s.bootStep < 5 →
    s.pwr.domains.getLsbD 1 = true → env.badDomains = 0 → env.pllOk = true → (chooseFw s).1.isSome = true →
    ∃ t, exec (.bootComplete env) s = .next t ∧ t.mode = .selftest ∧ t.tick.running = true ∧ t.laneP.resetLevel = true ∧
      t.laneT.resetLevel = true ∧ t.pwr.domains = domainsFor t.active.image ∧ t.gable.up = true ∧ t.tb = s.tb) ∧
  (∀ (s : State) (env : BootEnv), s.mode = .boot → s.resetHeld = false → s.pwr.aoOn = true → s.bootStep = 5 →
    env.badDomains.getLsbD 7 = true → env.badDomains.getLsbD 1 = false →
    ∃ t, exec (.bootComplete env) s = .next t ∧ t.mode = .selftest ∧ hasFault t fcRegulatorFault 7 = true ∧ t.ridge.frozen = true ∧
      t.thatch.frozen = true ∧ t.pwr.domains.getLsbD 7 = false ∧ t.pwr.domains.getLsbD 6 = false ∧ t.ev.pwr.getLsbD 0 = true)

/-- Tier 2. SELFTEST and the start of RUN (R50, R58, R276, R278, R279, Table 12.3): without a class H failure, once every reference vector
has been evaluated, SELFTEST ends with TICK 0, both images loaded and SAFE_HOLD asked for, LOCKOUT under an open record; a class H
failure, one that is present already among them, is listed and asks for LOCKOUT, and so does a row of the Thatch configuration that does
not verify; at a tick boundary RUN follows SAFE_HOLD only under every start condition, and nothing but the mode, its records and the first
state of the blocks changes. Step 4 of SELFTEST (R49, R50): different digests raise IMAGE_DIGEST_MISMATCH; a reference vector whose record
differs in a channel from the one its own image expects raises IMAGE_VECTOR_FAIL with its number; one vector counts per tick. The SELFTEST without a valid configuration (log entry
28), START_RUN as the only way from SAFE_HOLD to RUN (log entry 36), and the points of log entries 98 and 197 are the model's choices. -/
def Obligations.SelftestAndStart : Prop :=
  (∀ s : State, s.mode = .selftest → s.hPend = none → s.thatchMem.rows.all rowOk = true →
    (s.active.valid = true → s.active.image.vectors.length ≤ s.pair.vecDone) →
    ∃ t, exec (.selftestEnd []) s = .next t ∧ t.mode = .selftest ∧ t.tick.count = 0 ∧
      (s.active.valid = true → t.pair.ridgeLoaded = true ∧ t.pair.thatchLoaded = true) ∧
      t.want = some (if lockoutOpen s then .lockout else .safeHold) ∧
      (∀ k : Fin 128, t.ridge.conn[k] = Conn.reset ∧ t.thatch.conn[k] = Conn.reset) ∧ t.faults = s.faults) ∧
  (∀ (s : State) (f : TestFail), s.mode = .selftest → s.resetHeld = false → s.pwr.shutdown = none → selftestCode f.code = true →
    faultClass f.code = .h →
    ∃ t, exec (.selftestEnd [f]) s = .next t ∧ hasFault t f.code (f.arg.toNat % 65536) = true ∧ t.hPend ≠ none ∧
      t.want = s.want ∧ t.mode = .selftest) ∧
  (∀ s : State, s.mode = .selftest → s.resetHeld = false → s.pwr.shutdown = none → s.thatchMem.rows.all rowOk = false →
    ∃ t, exec (.selftestEnd []) s = .next t ∧ hasFault t fcThatchCfgUpset 0 = true ∧ t.hPend ≠ none ∧ t.want = s.want ∧
      t.mode = .selftest) ∧
  (∀ (s : State) (l : List TestFail), s.mode = .selftest → s.active.valid = true →
    s.pair.vecDone < s.active.image.vectors.length →
    ∃ t, exec (.selftestEnd l) s = .next t ∧ t.mode = .selftest ∧ t.want = s.want) ∧
  (∀ s : State, s.mode = .safeHold → s.tick.began = true → s.tb.count = s.tick.boundary → s.want = none →
    s.pwr.shutdown = none → startConditions s = true →
    ∃ t, exec .startRun s = .next t ∧ t.mode = .run ∧ t.ridge.latch = s.ridge.latch ∧ t.thatch.latch = s.thatch.latch ∧
      (∀ b ∈ t.ridge.blk ++ t.thatch.blk, b.start = true ∧ b.first = true ∧ b.out = 0) ∧
      t.ridge.blk.map (fun b => b.fault) = s.ridge.blk.map (fun b => b.fault) ∧ t.faults = s.faults ∧ t.tick = s.tick ∧ t.pwr = s.pwr ∧
      t.laneP = s.laneP ∧ t.laneT = s.laneT) ∧
  (∀ s : State, startConditions s = false → exec .startRun s = .next s) ∧
  (∀ (s : State) (env : BootEnv), s.mode = .boot → s.resetHeld = false → s.pwr.aoOn = true → s.bootStep = 5 → env.badDomains = 0 →
    ∃ t, exec (.bootComplete env) s = .next t ∧ t.mode = .selftest ∧ t.want = none ∧ t.pair.vecDone = 0 ∧ t.pair.vecOk = false ∧
      t.ridge = chanLoad .p s.active.image ∧ t.thatch = chanLoad .t s.active.image) ∧
  (∀ (s : State) (errP errT : BitVec 256) (badP badT : Bool), s.mode = .selftest → s.active.valid = true → s.ridge.committed = false →
    phase2Open s = true → tableStill s = false → s.pair.vecDone = 0 → s.active.image.ridgeDigest ≠ s.active.image.thatchDigest →
    ∃ t, exec (.crossCompare errP errT badP badT) s = .next t ∧ hasFault t fcImageDigestMismatch 0 = true ∧
      t.pair.digestOk = false) ∧
  (∀ (s : State) (errP errT : BitVec 256) (badP badT : Bool) (v : Config.RefVec), s.mode = .selftest → s.active.valid = true →
    s.ridge.committed = false → phase2Open s = true → tableStill s = false → s.pair.vecDone < 64 →
    s.active.image.vectors[s.pair.vecDone]? = some v →
    ∃ t, exec (.crossCompare errP errT badP badT) s = .next t ∧ t.pair.vecDone = s.pair.vecDone + 1 ∧ t.ridge.committed = true ∧
      t.ridge.blk = s.ridge.blk ∧ t.thatch.blk = s.thatch.blk ∧ t.mode = s.mode ∧
      (readRecord (vecRecord .p s.active.image v) errP ≠ v.expP ∨ readRecord (vecRecord .t s.active.image v) errT ≠ v.expT →
        hasFault t fcImageVectorFail s.pair.vecDone = true ∧ t.pair.vecOk = false)) ∧
  (∀ (s : State) (errP errT : BitVec 256) (badP badT : Bool), s.mode = .selftest →
    (s.active.valid = false ∨ s.ridge.committed = true ∨ phase2Open s = false) →
    exec (.crossCompare errP errT badP badT) s = .next s)

/-- Tier 2. Engine supervision, regulators and the PLL (R288, R290, R319, Table 1.5, Table 14.4): a missed heartbeat resets the engine, the
fourth within 60 s keeps it down with ENGINE_DOWN; neither touches the channels or the mode. A reset engine that serves again, started
by Gable or for Gable by the Ridge pair, counts its restart; Ridge B, while the pair is split, begins with the split image, and stays
stopped in LOCKOUT and under a class H fault (R67). A regulator
fault of RG, TH, MO, FA or FD switches that domain off with REGULATOR_FAULT and stops RG's or TH's channel, after which neither lane
carries a pulse (R272); one of NA or NB is LINK_DOWN, with its event;
one of AO a power-on reset, one of BK the loss of its contents, one of GB a reset of Gable; loss of lock stops every engine that the main
clock serves. -/
def Obligations.EnginesAndRegulators : Prop :=
  (∀ (s : State) (e : Engine), supervised e s = true → tableStill s = false →
    ∃ t, exec (.engineHeartbeatMiss e) s = .next t ∧ (engineOf e t).up = false ∧ t.ridge = s.ridge ∧ t.thatch = s.thatch ∧
      t.mode = s.mode ∧ t.tb = s.tb ∧
      (let recent := (engineOf e s).misses.filter (fun x => decide (s.tb.count.toNat < x.toNat + 6000000000))
       ((engineOf e t).down = true ↔ 3 ≤ recent.length) ∧
       (3 ≤ recent.length → hasFault t fcEngineDown (engineNum e) = true) ∧
       (engineOf e t).misses = recent ++ [s.tb.count])) ∧
  (∀ (s : State) (e : Engine) (sound : Bool), (engineOf e s).up = false → (engineOf e s).down = false → (engineOf e s).misses ≠ [] →
    s.mode ≠ .lull → s.resetHeld = false → s.pwr.aoOn = true → s.mode ≠ .configure → s.mode ≠ .verify → s.mode ≠ .service →
    (e = .gable ∨ s.gableE.up = true) →
    (e = .ridgeB → s.pair.split = true ∧ s.pair.joinBusy = false ∧ s.mode ≠ .lockout ∧ ∀ f ∈ s.faults ++ s.unlisted, f.cls ≠ .h) →
    ∃ t, exec (.engineRestarted e sound) s = .next t ∧ (engineOf e t).up = true ∧
      (engineOf e t).restarts.toNat = min 255 ((engineOf e s).restarts.toNat + 1) ∧ (e = .gable → t.gable.up = true) ∧
      (e = .ridgeB → t.tcm.instrB = memWriteBytes [] 0 s.active.image.splitCode ∧ t.tcm.dataB = []) ∧
      t.mode = s.mode ∧ t.ridge = s.ridge ∧ t.thatch = s.thatch) ∧
  (∀ (s : State) (sound : Bool), (s.mode = .lockout ∨ anyClassH s = true) →
    exec (.engineRestarted .ridgeB sound) s = .next s) ∧
  (∀ (s : State) (d : Fin 10), s.pwr.domains.getLsbD d = true → tableStill s = false → d.val ∈ [0, 1, 2, 6, 7] →
    ∃ t, exec (.regulatorFault d) s = .next t ∧ hasFault t fcRegulatorFault d.val = true ∧ t.pwr.domains.getLsbD d = false ∧
      t.ev.pwr.getLsbD 0 = true ∧ (d.val = 7 → t.ridge.frozen = true) ∧ (d.val = 6 → t.thatch.frozen = true) ∧
      (6 ≤ d.val → t.ridge.latch.gust = Latch.safe.gust ∧ t.thatch.latch.gust = Latch.safe.gust) ∧
      (d.val = 2 → t.motion.silent0 = true ∧ t.motion.silent1 = true) ∧
      (d.val = 1 → t.laneP.resetLevel = true ∧ t.laneT.resetLevel = true) ∧
      (d.val = 0 → t.fa.silentP = true ∧ t.fa.silentT = true)) ∧
  (∀ s : State, tableStill s = false →
    (s.pwr.domains.getLsbD 4 = true → ∃ t, exec (.regulatorFault 4) s = .next t ∧ hasFault t fcLinkDownA 0 = true ∧
      t.portA.link = false ∧ (s.portA.link = true → t.ev.netA.getLsbD 2 = true) ∧ t.ridge = s.ridge ∧ t.thatch = s.thatch ∧
      t.mode = s.mode) ∧
    (s.pwr.domains.getLsbD 3 = true → ∃ t, exec (.regulatorFault 3) s = .next t ∧ hasFault t fcLinkDownB 0 = true ∧
      t.portB.link = false ∧ (s.portB.link = true → t.ev.netB.getLsbD 2 = true) ∧ t.ridge = s.ridge ∧ t.thatch = s.thatch ∧
      t.mode = s.mode)) ∧
  (∀ s : State, s.pwr.domains.getLsbD 5 = true → s.gableE.up = true → tableStill s = false →
    ∃ t, exec (.regulatorFault 5) s = .next t ∧ t.gableE.up = false ∧ t.gable.up = false ∧ t.w.up = false ∧ t.ridge = s.ridge ∧
      t.thatch = s.thatch ∧ t.mode = s.mode) ∧
  (∀ s : State, s.pwr.domains.getLsbD 8 = true →
    ∃ t, exec (.regulatorFault 8) s = .next t ∧ t.pwr.aoOn = false ∧ t.mode = .boot ∧ t.bootStep = 1 ∧ t.laneP.resetLevel = true ∧
      t.laneT.resetLevel = true ∧ t.bk = s.bk ∧ t.flash = s.flash) ∧
  (∀ s : State, s.pwr.domains.getLsbD 9 = true →
    exec (.regulatorFault 9) s = .next { s with
      bk := { s.bk with valid := false }, ev := { s.ev with pwr := setBit s.ev.pwr 0 true } }) ∧
  (∀ (s : State) (d : Fin 10), s.pwr.domains.getLsbD d = false → exec (.regulatorFault d) s = .next s) ∧
  (∀ s : State, s.pwr.aoOn = true → s.resetHeld = false → s.mode ≠ .off → s.mode ≠ .backup → s.mode ≠ .lull →
    ∃ t, exec .lossOfLock s = .next t ∧ t.ridge.frozen = true ∧ t.gable.up = false ∧ t.gableE.up = false ∧ t.n0.up = false ∧
      t.n1.up = false ∧ t.w.up = false ∧ t.ridgeB.up = false ∧ t.motion.silent0 = true ∧ t.motion.silent1 = true ∧
      t.ridge.latch.gust = Latch.safe.gust ∧ t.thatch.latch.gust = Latch.safe.gust ∧ t.ridge.latch.cmds = s.ridge.latch.cmds ∧
      t.mode = s.mode ∧ t.laneP = s.laneP ∧ t.laneT = s.laneT ∧ t.tb = s.tb)

/-- Tier 2. The tick boundary (R22 to R24, R27, R194, R274 to R276, R279, R285, R318): at a boundary that is due TICK rises by one, a waiting clock step takes effect and
the timebase stays, whatever the Thatch side has measured; with a class H fault whose forced commands reach it the module enters LOCKOUT
with every switch commanded open and every set-point at its alarm code on both lanes and the lock-out flag in BK, at TICK 0 where it ends a
SELFTEST (the model's choice, log entry 220). Below that a module-wide class S condition takes RUN and LEE to SAFE_HOLD and overtakes a
wish; a mode that is wished for is entered; and RUN goes to LEE while a consumed connection is in SINGLE or GAP, and back. A step down of the clock sheds its services with LPLUS_LOW, a
step up restores them (R315); after the start of an ordered shutdown the first boundary at least 1 µs later is b1, its frames open every
switch, and no mode changes. Otherwise nothing happens. -/
def Obligations.TickBoundaries : Prop :=
  (∀ (s : State) (cycles : Nat), boundaryDue s = true → s.pwr.shutdown = none →
    (s.mode = .selftest → ∀ v, s.hPend = some v → s.tb.count.toNat < v) →
    ∃ t, exec (.tickBoundary cycles) s = .next t ∧ t.tick.count = s.tick.count + 1 ∧ t.tick.boundary = s.tb.count ∧
      t.tick.phase3 = false ∧ t.tick.pulse = false ∧ t.tick.pendClk = none ∧ t.tick.clk = s.tick.pendClk.getD s.tick.clk ∧
      t.tb = s.tb ∧ t.ridge.committed = false ∧ t.thatch.committed = false ∧ t.ridge.evaluated = false ∧
      t.thatch.evaluated = false ∧ t.ridge.frameOk = false ∧ t.thatch.frameOk = false ∧ t.laneP.inTx = none ∧ t.laneT.inTx = none ∧
      t.laneP.accepted = false ∧ t.laneT.accepted = false) ∧
  (∀ (s : State) (cycles : Nat), boundaryDue s = true → s.pwr.shutdown = none → s.tick.began = true → s.tick.silentT = false →
    s.pwr.domains.getLsbD 6 = true → tableStill s = false → cyclesInside s cycles = false →
    ∃ t, exec (.tickBoundary cycles) s = .next t ∧ hasFault t fcTickGenMismatch 0 = true) ∧
  (∀ (s : State) (v cycles : Nat), boundaryDue s = true → s.pwr.shutdown = none → s.hPend = some v → v ≤ s.tb.count.toNat →
    s.mode ≠ .lockout → (s.tick.pendClk = none ∨ ownsMode s = false) →
    ∃ t, exec (.tickBoundary cycles) s = .next t ∧ t.mode = .lockout ∧ t.hPend = none ∧ t.ridge.tx.cmds = 0 ∧ t.thatch.tx.cmds = 0 ∧
      t.bk.lockFlag.val = 1 ∧ t.want = none ∧ t.gable.cand = none ∧ (s.mode = .selftest → t.tick.count = 0) ∧
      (∀ n : Fin 8, (t.ridge.tx.ftype = 1 → t.ridge.tx.setpt[n] = alarmCode (lookN s.active.image .uacMode n 0 0)) ∧
        (t.thatch.tx.ftype = 1 → t.thatch.tx.setpt[n] = alarmCode (lookN s.active.image .uacMode n 0 0)))) ∧
  (∀ (s : State) (m : Mode) (cycles : Nat), boundaryDue s = true → s.pwr.shutdown = none → s.hPend = none → s.want = some m →
    s.mode.runs = false → s.tick.pendClk = none → s.gable.held = none → s.pair.splitAt = none →
    ∃ t, exec (.tickBoundary cycles) s = .next t ∧ t.mode = m ∧ (m ≠ .verify → t.want = none)) ∧
  (∀ (s : State) (m : Mode), s.pwr.shutdown = none → s.hPend = none → s.want = some m → (s.mode.runs = true → holdCond s = false) →
    (modeStep s).mode = m ∧ (m ≠ .verify → (modeStep s).want = none) ∧ (modeStep s).ridge.latch = s.ridge.latch ∧
      (modeStep s).thatch.latch = s.thatch.latch ∧ (modeStep s).laneP = s.laneP ∧ (modeStep s).laneT = s.laneT) ∧
  (∀ s : State, s.pwr.shutdown = none → s.hPend = none → s.mode.runs = true → holdCond s = true →
    (modeStep s).mode = .safeHold ∧ (modeStep s).want = none ∧ (s.want = some .configure → (modeStep s).gable.cand = none) ∧
      (modeStep s).ridge = s.ridge ∧ (modeStep s).thatch = s.thatch) ∧
  (∀ s : State, s.pwr.shutdown = none → s.hPend = none → s.want = none → holdCond s = false →
    (let degraded := ∃ k ∈ consumers s.active.image, (vget (chanOf (viewLane s) s).conn k Conn.reset).st = 2 ∨
       (vget (chanOf (viewLane s) s).conn k Conn.reset).st = 3
     (s.mode = .run → degraded → (modeStep s).mode = .lee) ∧ (s.mode = .lee → ¬degraded → (modeStep s).mode = .run) ∧
     (s.mode = .run → ¬degraded → modeStep s = s) ∧ (s.mode = .lee → degraded → modeStep s = s) ∧
     (modeStep s).ridge = s.ridge ∧ (modeStep s).thatch = s.thatch)) ∧
  (∀ s : State, s.pwr.shutdown = none → s.hPend = none → s.want = none → s.mode.runs = false → modeStep s = s) ∧
  (∀ (s : State) (cycles : Nat) (c : ClkStep), boundaryDue s = true → s.tick.pendClk = some c →
    (s.tick.clk.num < c.num → ownsMode s = false →
      ∃ t, exec (.tickBoundary cycles) s = .next t ∧ t.tick.clk = c ∧ hasFault t fcLplusLow 0 = true ∧ t.pwr.shedUsb = true ∧
        t.pwr.shedEvt = true ∧ (t.pwr.shedMirror = true ↔ c = .c200) ∧ (t.pwr.shedWrep = true ↔ c = .c200) ∧
        t.gable.usbAttached = false ∧ t.ev.pwr.getLsbD 3 = true) ∧
    (c.num < s.tick.clk.num →
      ∃ t, exec (.tickBoundary cycles) s = .next t ∧ t.tick.clk = c ∧ (t.pwr.shedUsb = true ↔ c ≠ .c400) ∧
        (t.pwr.shedMirror = true ↔ c = .c200) ∧ (c = .c400 → hasFault t fcLplusLow 0 = false) ∧ t.ev.pwr.getLsbD 2 = true)) ∧
  (∀ (s : State) (cycles : Nat) (x : W64), boundaryDue s = true → s.pwr.shutdown = some x → s.pwr.b1 = none →
    x.toNat + 100 ≤ s.tb.count.toNat → s.ridge.latch.cmds = 0 → s.thatch.latch.cmds = 0 → s.ridge.late = none → s.thatch.late = none →
    ∃ t, exec (.tickBoundary cycles) s = .next t ∧ t.pwr.b1 = some s.tb.count ∧ t.ridge.tx.cmds = 0 ∧ t.thatch.tx.cmds = 0 ∧
      t.mode = s.mode ∧ t.pwr.shutdown = some x) ∧
  (∀ (s : State) (cycles : Nat), boundaryDue s = false → exec (.tickBoundary cycles) s = .next s)

/-- Tier 2. An outbound frame at its field controller (R16, R17, R21, R128, R141): its detection, within 2 µs of its start, starts the
inbound frame of the tick with the echo of the last accepted one; a sound frame with the next sequence number is accepted, an open
command opens its switch, also under a dark test, and a close command closes a switch that no trip and no dark test holds; a parameter
frame opens every switch; a frame that fails its checks is only counted as rejected, and every switch stays. A lane that sends nothing
starts no inbound frame. -/
def Obligations.OutboundFrames : Prop :=
  (∀ (s : State) (lane : Lane) (f : OutFrame) (det : Nat), takesFrames (laneOf lane s) = true → (chanOf lane s).tx.ftype ≠ 0 →
    (laneOf lane s).inTx = none → outSound f = true → seqNext (laneOf lane s).ref f.seq = true →
    ∃ t, exec (.eaveOutboundFrame lane (.other f) det) s = .next t ∧ (laneOf lane t).inTx = some (inFrameOf lane s) ∧
      (inFrameOf lane s).echo = (laneOf lane s).ref.getD 0 ∧
      (laneOf lane t).det = (chanOf lane s).txAt + BitVec.ofNat 64 (min det 200) ∧
      (laneOf lane t).accepted = true ∧ (laneOf lane t).ref = some f.seq ∧ (laneOf lane t).since = (laneOf lane t).det ∧
      (∀ o : Fin 28, (f.ftype = 2 ∨ f.cmds.getLsbD o = false) → (laneOf lane t).sw.getLsbD o = false) ∧
      (∀ o : Fin 28, f.ftype ≠ 2 → f.cmds.getLsbD o = true → (laneOf lane s).trip[o] = none → (laneOf lane s).dt = none →
        (laneOf lane t).sw.getLsbD o = true) ∧
      laneOf (otherLane lane) t = laneOf (otherLane lane) s ∧ t.ridge = s.ridge ∧ t.thatch = s.thatch ∧ t.faults = s.faults) ∧
  (∀ (s : State) (lane : Lane) (f : OutFrame) (det : Nat), takesFrames (laneOf lane s) = true → (chanOf lane s).tx.ftype ≠ 0 →
    (laneOf lane s).inTx = none → (outSound f = false ∨ seqNext (laneOf lane s).ref f.seq = false) →
    ∃ t, exec (.eaveOutboundFrame lane (.other f) det) s = .next t ∧ (laneOf lane t).inTx = some (inFrameOf lane s) ∧
      (laneOf lane t).sw = (laneOf lane s).sw ∧ (laneOf lane t).ref = (laneOf lane s).ref ∧ (laneOf lane t).accepted = false ∧
      (laneOf lane t).rejected = BitVec.ofNat 16 (min 65535 ((laneOf lane s).rejected.toNat + 1)) ∧
      laneOf (otherLane lane) t = laneOf (otherLane lane) s ∧ { setLane lane (laneOf lane s) t with fa := s.fa } = s) ∧
  (∀ (s : State) (lane : Lane) (rx : OutRx) (det : Nat), (laneOf lane s).silent = true → (laneOf lane s).resetLevel = false →
    (chanOf lane s).tx.ftype ≠ 0 → (laneOf lane s).inTx = none →
    exec (.eaveOutboundFrame lane rx det) s = .next (startInbound lane det s)) ∧
  (∀ (s : State) (lane : Lane) (rx : OutRx) (det : Nat), ((laneOf lane s).resetLevel = true ∨ (chanOf lane s).tx.ftype = 0) →
    exec (.eaveOutboundFrame lane rx det) s = .next s)

/-- Tier 2. An inbound frame at its channel (R16, R23, R26, R140): a sound frame with the due echo is the channel's snapshot; the Ridge pair
evaluates on it at once, the Thatch fabric at the end of the pass of 2 048 cycles that it starts; neither evaluation touches the other
channel. Bit 10 of the header, which the hypotheses ask to be 0, is the schedule mismatch by log entry 14. A missing or unsound frame raises EAVE_LANE_FAULT of the lane and leaves the snapshot, and no pass starts. A longer pass is
TICK_OVERRUN_TH. -/
def Obligations.InboundFramesAndEvaluation : Prop :=
  (∀ (s : State) (f : InFrame), s.laneP.inTx = some f → s.ridge.tx.ftype ≠ 0 → s.ridge.frozen = false → s.ridge.frameOk = false →
    s.ridge.evaluated = false → inSound .p f = true → (∀ e, s.ridge.echoDue = some e → f.echo = e) → f.header.getLsbD 10 = false →
    s.mode.evaluates = true →
    ∃ t, exec (.eaveInboundFrame .p .asSent) s = .next t ∧ t.thatch = s.thatch ∧ t.ridge.snap = snapOf f ∧
      t.ridge.evaluated = true ∧ t.ridge.committed = false ∧
      t.ridge.record = (evalChan (evalCfg s) (sharedOf s) (tickView s)
        { s.ridge with snap := snapOf f, frameOk := true, passAt := s.tb.count }).record) ∧
  (∀ (s : State) (f : InFrame), s.laneT.inTx = some f → s.thatch.tx.ftype ≠ 0 → s.thatch.frozen = false → s.thatch.frameOk = false →
    s.thatch.evaluated = false → inSound .t f = true → (∀ e, s.thatch.echoDue = some e → f.echo = e) →
    f.header.getLsbD 10 = false →
    exec (.eaveInboundFrame .t .asSent) s = .next { s with
      laneT := { s.laneT with echoOk := true, lastHdr := f.header }
      thatch := { s.thatch with snap := snapOf f, frameOk := true, passAt := s.tb.count } }) ∧
  (∀ (s : State) (lane : Lane) (g : InFrame), (chanOf lane s).tx.ftype ≠ 0 → (chanOf lane s).frozen = false →
    (chanOf lane s).frameOk = false → (chanOf lane s).evaluated = false → tableStill s = false → inSound lane g = false →
    ∃ t u, exec (.eaveInboundFrame lane .missing) s = .next t ∧ exec (.eaveInboundFrame lane (.other g)) s = .next u ∧
      hasFault t fcEaveLaneFault (if lane = .t then 1 else 0) = true ∧ hasFault u fcEaveLaneFault (if lane = .t then 1 else 0) = true ∧
      t.ridge = s.ridge ∧ t.thatch = s.thatch ∧ u.ridge = s.ridge ∧ u.thatch = s.thatch) ∧
  (∀ (s : State) (units : Nat), s.thatch.frameOk = true → s.thatch.frozen = false → s.thatch.evaluated = false →
    s.mode.evaluates = true →
    ∃ t, exec (.thatchPassEnd 2048 units true) s = .next t ∧ t.ridge = s.ridge ∧ t.thatch.evaluated = true ∧
      t.thatch.committed = false ∧ t.pair.thatchPass = BitVec.ofNat 32 units ∧
      t.thatch.record = (evalChan (evalCfg s) (sharedOf s) (tickView s) s.thatch).record) ∧
  (∀ (s : State) (cycles units : Nat), s.thatch.frameOk = true → s.thatch.frozen = false → s.thatch.evaluated = false →
    tableStill s = false → 2048 < cycles →
    ∃ t, exec (.thatchPassEnd cycles units true) s = .next t ∧ hasFault t fcTickOverrunTh 0 = true ∧ t.thatch = s.thatch) ∧
  (∀ (s : State) (cycles units : Nat) (ok : Bool), (s.thatch.frameOk = false ∨ cycles < 2048) →
    exec (.thatchPassEnd cycles units ok) s = .next s)

/-- Tier 2. The cross-compare (R62, R144): each channel judges the other's record for itself. One that sees a word differ, a bad RCRC or a
bad latch request commands every switch of its own lane open; if either sees one, CROSS_MISMATCH stands with both records captured as read
through the buffer (the model's choice, log entry 185). A channel that sees none commits its own record's switches less its output latch,
and no other; where both see none the mode and CROSS_MISMATCH stay. Before both have evaluated, or inside phase 3, nothing is committed. -/
def Obligations.CrossCompareCommitsOnlyAgreement : Prop :=
  (∀ (s : State) (errP errT : BitVec 256) (badP badT : Bool), bothReady s = true → s.mode.evaluates = true → phase2Open s = true →
    tableStill s = false →
    ∃ u, exec (.crossCompare errP errT badP badT) s = .next u ∧ u.ridge.committed = true ∧ u.thatch.committed = true ∧
      ((∃ k, k < 7 ∧ word s.ridge.record k ≠ word (readRecord s.thatch.record errT) k) ∨
          recordOk (readRecord s.thatch.record errT) = false ∨ badT = true →
        u.ridge.latch.cmds = 0 ∧ u.ridge.latch.dark = 0 ∧ hasFault u fcCrossMismatch 0 = true ∧ u.pair.xcmpTick = s.tick.count ∧
        u.pair.xcmpP = readRecord s.ridge.record errP ∧ u.pair.xcmpT = readRecord s.thatch.record errT) ∧
      ((∃ k, k < 7 ∧ word s.thatch.record k ≠ word (readRecord s.ridge.record errP) k) ∨
          recordOk (readRecord s.ridge.record errP) = false ∨ badP = true →
        u.thatch.latch.cmds = 0 ∧ u.thatch.latch.dark = 0 ∧ hasFault u fcCrossMismatch 0 = true ∧ u.pair.xcmpTick = s.tick.count ∧
        u.pair.xcmpP = readRecord s.ridge.record errP ∧ u.pair.xcmpT = readRecord s.thatch.record errT) ∧
      ((∀ k, k < 7 → word s.ridge.record k = word (readRecord s.thatch.record errT) k) →
          recordOk (readRecord s.thatch.record errT) = true → badT = false → s.ridge.forced = false →
        ∀ o : Fin 28, u.ridge.latch.cmds.getLsbD o = ((word s.ridge.record 1).getLsbD o && !u.ridge.latched.getLsbD o)) ∧
      ((∀ k, k < 7 → word s.thatch.record k = word (readRecord s.ridge.record errP) k) →
          recordOk (readRecord s.ridge.record errP) = true → badP = false → s.thatch.forced = false → s.pair.diverged = false →
        ∀ o : Fin 28, u.thatch.latch.cmds.getLsbD o = ((word s.thatch.record 1).getLsbD o && !u.thatch.latched.getLsbD o)) ∧
      ((∀ k, k < 7 → word s.ridge.record k = word s.thatch.record k) → recordOk s.ridge.record = true →
          recordOk s.thatch.record = true → badP = false → badT = false → errP = 0 → errT = 0 →
        hasFault u fcCrossMismatch 0 = hasFault s fcCrossMismatch 0 ∧ u.mode = s.mode)) ∧
  (∀ (s : State) (errP errT : BitVec 256) (badP badT : Bool), s.mode ≠ .selftest → (bothReady s = false ∨ phase2Open s = false) →
    exec (.crossCompare errP errT badP badT) s = .next s)

/-- Tier 2. What forces a lane open (R24, R28 to R30, R53 to R58, R62, R71): each of these events raises its class H fault, and opens the
lane it belongs to: an overrun or a missing result its own lane, a lock-step mismatch or a double-bit error of the Ridge pair lane P
with the fault line, which the Thatch fabric answers on lane T, a missing Ridge boundary lane T in one frame; a bad configuration row
and a tick generator apart only raise. A corrected ECC error and a pulse inside its range only count or note it. A newly raised class H
fault (R24, R64, R282): it asks for LOCKOUT at the first boundary 1 µs on or later, names itself the cause of an episode that has none,
and is logged while Gable serves: as it is raised, and the Thatch pass has 6 210 units (the model's choices, log entries 37 and 87). In the first
tick after a join a difference is JOIN_COMPARE_FAIL (R69; log entry 214). After the start of an ordered shutdown it does neither (R318). -/
def Obligations.ChannelSupervision : Prop :=
  (∀ s : State, s.tick.running = true → tableStill s = false →
    (overrunRg s = true →
      ∃ t, exec .tickOverrunRg s = .next t ∧ hasFault t fcTickOverrunRg 0 = true ∧ t.ridge.latch.cmds = 0 ∧
        t.ridge.late = (if tooLate s then some (s.ridge.late.getD s.ridge.latch) else s.ridge.late) ∧ t.thatch = s.thatch) ∧
    (s.thatch.frameOk = true → s.thatch.evaluated = false → s.thatch.passAt.toNat + 6210 ≤ s.tb.count.toNat →
      ∃ t, exec .tickOverrunTh s = .next t ∧ hasFault t fcTickOverrunTh 0 = true ∧ t.thatch.latch.cmds = 0 ∧
        t.ridge = s.ridge) ∧
    (s.tick.silentT = false → boundaryLate s = true →
      ∃ t, exec .ridgeBoundaryMissing s = .next t ∧ hasFault t fcTickGenMismatch 0 = true ∧ t.tick.silentT = true ∧
        t.thatch.tx.cmds = 0 ∧ t.thatch.tx.seq = s.thatch.txSeq + 1 ∧ t.thatch.latch.cmds = 0 ∧ t.ridge = s.ridge) ∧
    (s.tick.silentT = false → genMissing s = true →
      ∃ t, exec .tickGenMismatch s = .next t ∧ hasFault t fcTickGenMismatch 0 = true ∧ t.ridge = s.ridge ∧ t.thatch = s.thatch) ∧
    (∀ (upset : BitVec 256) (r : Config.ThatchRow), s.pwr.domains.getLsbD 6 = true →
      s.thatchMem.rows[s.thatchMem.scan % s.thatchMem.rows.length]? = some r →
      ∃ t, exec (.thatchCfgScrub upset) s = .next t ∧
        t.thatchMem.scan = (s.thatchMem.scan % s.thatchMem.rows.length + 1) % s.thatchMem.rows.length ∧
        (rowOk { r with bits := r.bits ^^^ upset } = false → hasFault t fcThatchCfgUpset 0 = true) ∧
        (rowOk { r with bits := r.bits ^^^ upset } = true → { t with thatchMem := s.thatchMem } = s) ∧
        t.ridge = s.ridge ∧ t.thatch = s.thatch)) ∧
  (∀ s : State, (overrunRg s = false → exec .tickOverrunRg s = .next s) ∧ (genMissing s = false → exec .tickGenMismatch s = .next s) ∧
    (boundaryLate s = false → exec .ridgeBoundaryMissing s = .next s)) ∧
  (∀ (s : State) (lane : Lane), s.tick.running = true → tableStill s = false → s.mode.evaluates = true →
    (chanOf lane s).frozen = false → (chanOf (otherLane lane) s).evaluated = false → phase3At lane s ≤ s.tb.count.toNat →
    ∃ t, exec (.crossResultMissing lane) s = .next t ∧ hasFault t fcCrossResultMissing 0 = true ∧
      (chanOf lane t).latch.cmds = 0 ∧ chanOf (otherLane lane) t = chanOf (otherLane lane) s) ∧
  (∀ s : State, ridgeRuns s = true → tableStill s = false →
    (s.pair.split = false → s.pair.firewall = false → s.pair.diverged = false →
      ∃ t, exec .ridgeLockstepMismatch s = .next t ∧
        hasFault t (if s.pair.joinedAt = some s.tick.boundary then fcJoinCompareFail else fcRidgeLockstepMismatch) 0 = true ∧
        t.ridge.frozen = true ∧
        t.ridge.latch.cmds = 0 ∧ t.ridge.entries = [] ∧ t.pair.faultLine = true ∧ t.thatch = s.thatch) ∧
    (∀ (m : TcmId) (addr : Nat) (flips : Byte), Memory.wf (tcmOf m s) = true →
      ∃ t, exec (.ridgeEccDed m addr flips) s = .next t ∧ hasFault t fcRidgeEccDed 0 = true ∧ t.ridge.frozen = true ∧
        t.ridge.latch.cmds = 0 ∧ t.pair.faultLine = true ∧
        memRead (tcmOf m t) addr = memRead (tcmOf m s) addr ^^^ flips ∧
        (∀ a, a ≠ addr → memRead (tcmOf m t) a = memRead (tcmOf m s) a)) ∧
    (∀ (m : TcmId) (addr : Nat) (flip : Fin 8), Memory.wf (tcmOf m s) = true →
      ∃ t, exec (.ridgeEccCorrection m addr flip) s = .next t ∧
        t.pair.eccCorr.toNat = min (2 ^ 32 - 1) (s.pair.eccCorr.toNat + 1) ∧ t.ev.chFlags.getLsbD 0 = true ∧
        (∀ a, memRead (tcmOf m t) a = memRead (tcmOf m s) a) ∧ { t with pair := s.pair, ev := s.ev, tcm := s.tcm } = s)) ∧
  (∀ s : State, s.pair.faultLine = true → s.tick.running = true → s.mode ≠ .lull → s.thatch.frozen = false →
    ∃ t, exec .ridgeFaultLine s = .next t ∧ t.thatch.latch.cmds = 0 ∧ t.thatch.forced = true ∧ t.thatch.entries = [] ∧
      { t with thatch := s.thatch } = s) ∧
  (∀ (s : State) (units : Nat), s.tick.running = true → s.mode ≠ .lull → s.tick.silentT = false → pulseInside s units = true →
    ∃ t, exec (.thatchTickPulse units) s = .next t ∧
      (pulseLate s units = false → t.tick.pulse = true) ∧ (pulseLate s units = true → t.tick.pulsePrev = true) ∧
      { t with tick := s.tick } = s) ∧
  (∀ (s : State) (units : Nat), s.tick.running = true → tableStill s = false → s.tick.silentT = false →
    pulseInside s units = false →
    ∃ t, exec (.thatchTickPulse units) s = .next t ∧ hasFault t fcTickGenMismatch 0 = true) ∧
  (∀ (s : State) (act : DebugAct), act ≠ .read → debugAllowed s = true → tableStill s = false → s.pair.diverged = false →
    ∃ t, exec (.ridgeDebugBreak act) s = .next t ∧ hasFault t fcRidgeDebugDiverged 0 = true ∧ t.pair.diverged = true ∧
      t.pair.faultLine = true ∧ t.thatch.latch.cmds = 0) ∧
  (∀ s : State, exec (.ridgeDebugBreak .read) s = .next s) ∧
  (∀ (s : State) (cycles : Nat), s.thatch.frameOk = true → s.thatch.frozen = false → s.thatch.evaluated = false →
    tableStill s = false → s.pwr.shutdown = none → s.mode ≠ .lockout → s.hPend = none → hasFault s fcTickOverrunTh 0 = false →
    2048 < cycles →
    ∃ t, exec (.thatchPassEnd cycles 0 true) s = .next t ∧ t.hPend = some (s.tb.count.toNat + 100) ∧ t.mode = s.mode ∧
      (s.bk.lockCause.val = 0 → t.bk.lockCause.val = fcTickOverrunTh) ∧
      (s.gable.up = true → t.bk.nextCount = s.bk.nextCount + 1)) ∧
  (∀ s : State, s.tick.running = true → tableStill s = false → s.pwr.shutdown ≠ none → overrunRg s = true →
    ∃ t, exec .tickOverrunRg s = .next t ∧ t.hPend = s.hPend ∧ t.bk = s.bk)

/-- Tier 2. One 16 kHz sample (R60, R73, R75, R76, R95, R130): a comparator reads ON from 10 V and OFF up to 7 V; with the field side on and
released, the filter of an input counts a sample only when both comparators agree and outside the windows of its own TPO, a count that
agrees with the filtered state starts again, the filtered state itself and the reported band stay, and an UNUSED input is not evaluated;
SW follows its sense cells where both controllers agree. Under the reset level no input moves; with the field side off nothing does. No
sample touches the channels or the fault table. -/
def Obligations.FieldSamples : Prop :=
  (∀ (s : State) (q : FieldSample), s.pwr.domains.getLsbD 1 = true →
    ∃ t, exec (.fieldSample q) s = .next t ∧ { t with field := s.field, laneP := s.laneP, laneT := s.laneT } = s ∧
      ((s.laneP.resetLevel = true ∨ s.laneT.resetLevel = true) → t.field.inp = s.field.inp) ∧
      (s.laneP.resetLevel = true → t.laneP = s.laneP) ∧ (s.laneT.resetLevel = true → t.laneT = s.laneT) ∧
      t.laneP.sw = s.laneP.sw ∧ t.laneT.sw = s.laneT.sw ∧
      (s.laneP.resetLevel = false → ∀ o : Fin 28,
        t.laneP.sense.getLsbD o = if q.senseP[0].getLsbD o = q.senseP[1].getLsbD o then q.senseP[0].getLsbD o
          else s.laneP.sense.getLsbD o) ∧
      (∀ n : Fin 48, t.field.inp[n].filt = s.field.inp[n].filt ∧ t.field.inp[n].band = s.field.inp[n].band) ∧
      (s.laneP.resetLevel = false → s.laneT.resetLevel = false → ∀ n : Fin 48,
        (10000 ≤ q.landP[n] → t.field.inp[n].cmpP = true) ∧ (q.landP[n] ≤ 7000 → t.field.inp[n].cmpP = false) ∧
        (10000 ≤ q.landT[n] → t.field.inp[n].cmpT = true) ∧ (q.landT[n] ≤ 7000 → t.field.inp[n].cmpT = false) ∧
        (fcInMode s.laneP n = 0 → t.field.inp[n].cnt = s.field.inp[n].cnt) ∧
        (fcInMode s.laneP n ≠ 0 →
          (t.field.inp[n].cmpP ≠ t.field.inp[n].cmpT ∨ inOwnWindow s.laneP s.field.tpo n = true →
            t.field.inp[n].cnt = s.field.inp[n].cnt) ∧
          (t.field.inp[n].cmpP = t.field.inp[n].cmpT → inOwnWindow s.laneP s.field.tpo n = false →
            t.field.inp[n].cnt = (if t.field.inp[n].cmpP = s.field.inp[n].filt then 0 else s.field.inp[n].cnt + 1) ∧
            t.field.inp[n].cand = t.field.inp[n].cmpP))) ∧
      (∀ k : Fin 7, t.field.sup[k] = supplyStep q.supP[k] q.supT[k] s.field.sup[k])) ∧
  (∀ (s : State) (q : FieldSample), s.pwr.domains.getLsbD 1 = false → exec (.fieldSample q) s = .next s)

/-- Tier 2. What follows from the samples of an input (R60, R75, R77, R79): the filter takes the new state only after more samples of it
than its filter time has, the first one not counted; a band is reported after more samples than the band time has; 80 samples of
disagreement under one band, and ON in BREAK for longer than the band time, raise their class H faults. Field supplies (R136, Table
6.7): a supply in DIP for more than 2 ms, 34 samples, is LOST; it is OK again after 100 ms, 1 601 samples, at or above 19.2 V; readings
apart at 80 samples raise SUPPLY_VIEW_MISMATCH. Before its samples nothing changes. -/
def Obligations.FiltersBandsAndSupplies : Prop :=
  (∀ (s : State) (n : Fin 48), s.field.inp[n].cand ≠ s.field.inp[n].filt → max (fcInFilter s.laneP n) 1 < s.field.inp[n].cnt →
    ∃ t, exec (.filterAccept n) s = .next t ∧ t.field.inp[n].filt = s.field.inp[n].cand ∧ t.field.inp[n].cnt = 0 ∧
      (∀ m : Fin 48, m ≠ n → t.field.inp[m] = s.field.inp[m]) ∧
      { t with field := { t.field with inp := s.field.inp } } = s) ∧
  (∀ (s : State) (n : Fin 48), s.field.inp[n].cnt ≤ max (fcInFilter s.laneP n) 1 → exec (.filterAccept n) s = .next s) ∧
  (∀ (s : State) (n : Fin 48) (b : BitVec 2), s.field.inp[n].bandCand = some b → s.field.inp[n].offClosed = 0 →
    max (fcInFilter s.laneP n) 32 < s.field.inp[n].bandCnt →
    ∃ t, exec (.bandReport n) s = .next t ∧ t.field.inp[n].band = some b ∧ (∀ m : Fin 48, m ≠ n → t.field.inp[m] = s.field.inp[m]) ∧
      { t with field := { t.field with inp := s.field.inp } } = s) ∧
  (∀ (s : State) (n : Fin 48), max (fcInFilter s.laneP n) 32 + 1 < s.field.inp[n].offClosed →
    ∃ t, exec (.bandReport n) s = .next t ∧ t.field.inp[n].band = some 3) ∧
  (∀ (s : State) (n : Fin 48), 80 ≤ s.field.inp[n].disagree → tableStill s = false →
    ∃ t, exec (.inputViewMismatch n) s = .next t ∧ hasFault t fcInputViewMismatch n = true ∧ t.field = s.field) ∧
  (∀ (s : State) (n : Fin 48), max (fcInFilter s.laneP n) 32 + 1 < s.field.inp[n].onBreak → tableStill s = false →
    ∃ t, exec (.inputMeasFault n) s = .next t ∧ hasFault t fcInputMeasFault n = true ∧ t.field = s.field) ∧
  (∀ (s : State) (n : Fin 48), s.field.inp[n].disagree < 80 → exec (.inputViewMismatch n) s = .next s) ∧
  (∀ (s : State) (k : Fin 7), s.field.sup[k].st = 2 → 34 ≤ s.field.sup[k].dip →
    ∃ t, exec (.supplyLost k) s = .next t ∧ t.field.sup[k].st = 3 ∧ (∀ j : Fin 7, j ≠ k → t.field.sup[j] = s.field.sup[j]) ∧
      { t with field := { t.field with sup := s.field.sup } } = s) ∧
  (∀ (s : State) (k : Fin 7), s.field.sup[k].st = 3 → 1601 ≤ s.field.sup[k].good →
    ∃ t, exec (.supplyRecovered k) s = .next t ∧ t.field.sup[k].st = 0 ∧
      (∀ j : Fin 7, j ≠ k → t.field.sup[j] = s.field.sup[j]) ∧ { t with field := { t.field with sup := s.field.sup } } = s) ∧
  (∀ (s : State) (k : Fin 7), 80 ≤ s.field.sup[k].diff → tableStill s = false →
    ∃ t, exec (.supplyViewMismatch k) s = .next t ∧ hasFault t fcSupplyViewMismatch k = true) ∧
  (∀ (s : State) (k : Fin 7), s.field.sup[k].dip < 34 → exec (.supplyLost k) s = .next s) ∧
  (∀ (s : State) (k : Fin 7), s.field.sup[k].good < 1601 → exec (.supplyRecovered k) s = .next s)

/-- Tier 2. The reset level and a silent lane (R129, R139, R140): the release in SELFTEST clears both field controllers, starts their
silence counts and lets each channel write its parameter entries; 2 × T + 100 µs without an accepted frame make a lane silent: its SAFE
switches and its brake switches open, its STANDARD ones go to their STD_STATE, and the lane takes no more frames. RESET_N low for 10 µs
or longer puts both lanes in the reset level with every switch open, also during a shutdown. -/
def Obligations.ResetLevelAndSilence : Prop :=
  (∀ s : State, s.mode = .selftest → s.resetHeld = false → s.laneP.resetLevel = true → s.laneT.resetLevel = true →
    ∃ t, exec .resetLevelRelease s = .next t ∧ takesFrames t.laneP = true ∧ takesFrames t.laneT = true ∧ t.laneP.sw = 0 ∧
      t.laneT.sw = 0 ∧ t.laneP.ref = none ∧ t.laneT.ref = none ∧ t.laneP.since = s.tb.count ∧ t.laneT.since = s.tb.count ∧
      t.laneP.rejected = s.laneP.rejected ∧ t.ridge.entries = allEntries .p s ∧ t.thatch.entries = allEntries .t s ∧
      { t with laneP := s.laneP, laneT := s.laneT, ridge := s.ridge, thatch := s.thatch } = s) ∧
  (∀ (s : State) (lane : Lane), takesFrames (laneOf lane s) = true →
    (laneOf lane s).since.toNat + (2 * tickUnits s.tick.sel.toNat + 10000) ≤ s.tb.count.toNat →
    ∃ t, exec (.laneSilence lane) s = .next t ∧ (laneOf lane t).silent = true ∧ takesFrames (laneOf lane t) = false ∧
      (∀ o : Fin 28, (24 ≤ o.val ∨ fcStd (laneOf lane s) o = false ∨ fcStdState (laneOf lane s) o = 0) →
        (laneOf lane t).sw.getLsbD o = false) ∧
      (∀ o : Fin 28, o.val < 24 → fcStd (laneOf lane s) o = true → fcStdState (laneOf lane s) o = 1 →
        (laneOf lane s).trip[o] = none → (laneOf lane t).sw.getLsbD o = true) ∧
      (∀ o : Fin 28, o.val < 24 → fcStd (laneOf lane s) o = true → fcStdState (laneOf lane s) o = 2 →
        (laneOf lane s).trip[o] = none → (laneOf lane t).sw.getLsbD o = cmdClosed (laneOf lane s) o) ∧
      (∀ o : Fin 28, (laneOf lane s).trip[o] ≠ none → (laneOf lane t).sw.getLsbD o = false) ∧
      laneOf (otherLane lane) t = laneOf (otherLane lane) s ∧ t.ridge = s.ridge ∧ t.thatch = s.thatch) ∧
  (∀ (s : State) (lane : Lane), s.tb.count.toNat < (laneOf lane s).since.toNat + (2 * tickUnits s.tick.sel.toNat + 10000) →
    exec (.laneSilence lane) s = .next s) ∧
  (∀ (s : State) (ns : Nat), s.pwr.aoOn = true → s.mode ≠ .off → s.mode ≠ .backup → 10000 ≤ ns →
    ∃ t, exec (.resetNAssert ns) s = .next t ∧ t.laneP.resetLevel = true ∧ t.laneT.resetLevel = true ∧ t.laneP.sw = 0 ∧ t.laneT.sw = 0 ∧
      t.mode = s.mode ∧ t.pending = s.pending) ∧
  (∀ s : State, s.mode ≠ .selftest →
    exec .resetLevelRelease s = .next s)

/-- Tier 2. A gust pulse (R83 to R88, Table 4.4): it starts at its offset from the later of the two frame-start detections where both lanes
carry the same event and the same width, and notes each input's state by its edges; an input that was ON and has not fallen at the end
of window 1 has MISSED it; an input ON in the hold interval has failed it, and a land above 12 V then fails each input that was ON and
raises TPO_STUCK_HIGH, both at that moment; at the end of window 2 an input that was ON and failed nothing has followed where both
controllers say so, and one that was OFF is not checked, which reads as followed. TPO overload (R88): a running or restarted TPO in its
limit for 1 ms switches off with TPO_OVERLOAD, which fails each input that it feeds and that is ON; the fault clears 100 ms after its
restart. A STANDARD input takes no part (R95). That a pulse whose end comes before t0 + w counts at that moment is the model's choice (log
entries 66 and 150). -/
def Obligations.GustPulsesAndTpoOverload : Prop :=
  (∀ (s : State) (m : Fin 16) (g : GustEv) (on : BitVec 48), agreedGust s m = some g → g.code = 1 → g.off.toNat * 10 < tickUs s →
    mayPulse s m = true → max s.laneP.det.toNat s.laneT.det.toNat + g.off.toNat * 1000 ≤ s.tb.count.toNat →
    ∃ t, exec (.gustPulseStart m on) s = .next t ∧ t.field.tpo[m].phase = 1 ∧ t.field.tpo[m].driven = true ∧
      t.field.tpo[m].t0 = s.tb.count ∧ t.field.tpo[m].width = fcTpoWidth s.laneP m ∧
      (∀ n : Fin 48, fcInTpo s.laneP n = m.val + 1 → t.field.inp[n].onAtT0 = on.getLsbD n ∧ t.field.inp[n].failNow = false) ∧
      (∀ k : Fin 16, k ≠ m → t.field.tpo[k] = s.field.tpo[k]) ∧ { t with field := s.field } = s) ∧
  (∀ (s : State) (m : Fin 16) (on : BitVec 48), agreedGust s m = none → exec (.gustPulseStart m on) s = .next s) ∧
  (∀ (s : State) (m : Fin 16) (off foreign : BitVec 48) (delays : Vector Nat 48), s.field.tpo[m].phase = 1 →
    s.field.tpo[m].t0.toNat + 15000 ≤ s.tb.count.toNat →
    ∃ t, exec (.gustWindow1End m off foreign delays) s = .next t ∧ t.field.tpo[m].phase = 2 ∧
      (∀ n : Fin 48, fcInTpo s.laneP n = m.val + 1 → followChecked s.laneP n = true → s.field.inp[n].onAtT0 = true →
        off.getLsbD n = false → t.field.inp[n].followOk = false ∧ t.field.inp[n].failNow = true) ∧
      (∀ n : Fin 48, fcInTpo s.laneP n = m.val + 1 → followChecked s.laneP n = true → s.field.inp[n].onAtT0 = true →
        off.getLsbD n = true → t.field.inp[n].edgeDly = BitVec.ofNat 8 (min 255 delays[n]) ∧
          t.field.inp[n].followOk = s.field.inp[n].followOk) ∧
      { t with field := s.field } = s) ∧
  (∀ (s : State) (m : Fin 16) (landMv : Nat) (on : BitVec 48), s.field.tpo[m].phase = 2 → tableStill s = false →
    ∃ t, exec (.gustPulseEnd m landMv on) s = .next t ∧
      (t.field.tpo[m].phase = if s.field.tpo[m].t0.toNat + s.field.tpo[m].width * 100 ≤ s.tb.count.toNat then 3 else 2) ∧
      (∀ n : Fin 48, fcInTpo s.laneP n = m.val + 1 → followChecked s.laneP n = true → on.getLsbD n = true →
        t.field.inp[n].followOk = false) ∧
      (12000 < landMv → hasFault t fcTpoStuckHigh m = true ∧ t.field.tpo[m].stuck = true ∧
        (∀ n : Fin 48, fcInTpo s.laneP n = m.val + 1 → fcInMode s.laneP n ≠ 5 → s.field.inp[n].isOn = true →
          (inFrameOf .p t).follow.getLsbD n = false ∧ t.field.inp[n].kind = 4) ∧
        (∀ n : Fin 48, fcInTpo s.laneP n = m.val + 1 → followChecked s.laneP n = true → s.field.inp[n].onAtT0 = true →
          t.field.inp[n].followOk = false ∧ t.field.inp[n].kind = 4)) ∧
      (∀ n : Fin 48, fcInMode s.laneP n = 5 → t.field.inp[n] = s.field.inp[n]) ∧
      (landMv ≤ 12000 → s.field.tpo[m].t0.toNat + s.field.tpo[m].width * 100 ≤ s.tb.count.toNat →
        s.field.tpo[m].lowRun ≠ 0 → hasFault t fcTpoStuckHigh m = false)) ∧
  (∀ (s : State) (m : Fin 16) (okP okT : BitVec 48), s.field.tpo[m].phase = 3 →
    s.field.tpo[m].t0.toNat + (s.field.tpo[m].width + 150) * 100 ≤ s.tb.count.toNat →
    ∃ t, exec (.gustWindow2End m okP okT) s = .next t ∧ t.field.tpo[m].phase = 0 ∧
      (∀ n : Fin 48, fcInTpo s.laneP n = m.val + 1 → followChecked s.laneP n = true → s.field.inp[n].onAtT0 = true →
        s.field.inp[n].failNow = false → okP.getLsbD n = true → okT.getLsbD n = true → t.field.inp[n].followOk = true) ∧
      (∀ n : Fin 48, fcInTpo s.laneP n = m.val + 1 → followChecked s.laneP n = true → s.field.inp[n].onAtT0 = true →
        s.field.inp[n].failNow = false → (okP.getLsbD n = false ∨ okT.getLsbD n = false) → t.field.inp[n].followOk = false) ∧
      (∀ n : Fin 48, fcInTpo s.laneP n = m.val + 1 → followChecked s.laneP n = true → s.field.inp[n].onAtT0 = false →
        s.field.inp[n].failNow = false → t.field.inp[n].followOk = true) ∧
      (∀ n : Fin 48, fcInTpo s.laneP n ≠ m.val + 1 → t.field.inp[n] = s.field.inp[n])) ∧
  (∀ (s : State) (m : Fin 16), fcTpoMode s.laneP m ≠ 0 → s.laneP.resetLevel = false →
    (s.field.tpo[m].overload = false ∨ s.field.tpo[m].restart ≠ none) → tableStill s = false →
    ∃ t, exec (.tpoOverload m) s = .next t ∧ t.field.tpo[m].overload = true ∧ t.field.tpo[m].restart = none ∧
      (∀ n : Fin 48, fcInTpo s.laneP n = m.val + 1 → fcInMode s.laneP n ≠ 5 → s.field.inp[n].isOn = true →
        (inFrameOf .p t).follow.getLsbD n = false ∧ t.field.inp[n].kind = 4) ∧
      (∀ n : Fin 48, fcInTpo s.laneP n = m.val + 1 → followChecked s.laneP n = true → s.field.inp[n].isOn = true →
        t.field.inp[n].followOk = false) ∧
      (∀ n : Fin 48, (fcInMode s.laneP n = 5 ∨ fcInTpo s.laneP n ≠ m.val + 1) → t.field.inp[n] = s.field.inp[n]) ∧
      hasFault t fcTpoOverload m = true ∧ t.ridge = s.ridge ∧ t.thatch = s.thatch) ∧
  (∀ (s : State) (m : Fin 16) (x : W64), s.field.tpo[m].overload = true → s.field.tpo[m].restart = some x →
    x.toNat + 10000000 ≤ s.tb.count.toNat → tableStill s = false →
    ∃ t, exec (.tpoOverloadClear m) s = .next t ∧ t.field.tpo[m].overload = false ∧ hasFault t fcTpoOverload m = false) ∧
  (∀ (s : State) (m : Fin 16), s.field.tpo[m].restart = none → exec (.tpoOverloadClear m) s = .next s)

/-- Tier 2. Dark tests (R48, R132, R133): a test that falls due in RUN or LEE is noted in its channel's own schedule and in the other
channel's computation of that schedule (the model's choice of form, log entries 183 and 192); the tested switch opens 150 µs after
frame-start detection and is reported as running; at the end of its time the result stands in the header, passed where the land has
crossed 12 V, and the switch follows its command again. The other lane and both channels' commands stay. -/
def Obligations.DarkTests : Prop :=
  (∀ (s : State) (lane : Lane) (o : Fin 28), s.mode.runs = true → darkDueAt lane o.val (s.tick.count + 1).toNat s = true →
    ∃ t, exec (.darkTestDue lane o) s = .next t ∧ (chanOf lane t).own.due.getLsbD o = true ∧
      (chanOf (otherLane lane) t).other.due.getLsbD o = true ∧
      (∀ k : Fin 28, k ≠ o → (chanOf lane t).own.due.getLsbD k = (chanOf lane s).own.due.getLsbD k ∧
        (chanOf (otherLane lane) t).other.due.getLsbD k = (chanOf (otherLane lane) s).other.due.getLsbD k) ∧
      (chanOf lane t).own.out = (chanOf lane s).own.out ∧ (chanOf lane t).own.till = (chanOf lane s).own.till ∧
      { chanOf lane t with own := (chanOf lane s).own } = chanOf lane s ∧
      { chanOf (otherLane lane) t with other := (chanOf (otherLane lane) s).other } = chanOf (otherLane lane) s ∧
      { t with ridge := s.ridge, thatch := s.thatch } = s) ∧
  (∀ (s : State) (lane : Lane) (o : Fin 28), darkDueAt lane o.val (s.tick.count + 1).toNat s = false →
    exec (.darkTestDue lane o) s = .next s) ∧
  (∀ (s : State) (lane : Lane) (d : DarkTest), (laneOf lane s).dt = some d → d.opened = false →
    takesFrames (laneOf lane s) = true → (laneOf lane s).det.toNat + 15000 ≤ s.tb.count.toNat →
    ∃ t, exec (.darkTestStart lane) s = .next t ∧ (laneOf lane t).sw.getLsbD d.out = false ∧
      (laneOf lane t).dt = some { d with opened := true } ∧ (swBits s.tb.count (laneOf lane t)).getLsbD d.out = true ∧
      (∀ k : Fin 28, k ≠ d.out → (laneOf lane t).sw.getLsbD k = (laneOf lane s).sw.getLsbD k) ∧
      laneOf (otherLane lane) t = laneOf (otherLane lane) s ∧ t.ridge = s.ridge ∧ t.thatch = s.thatch) ∧
  (∀ (s : State) (lane : Lane) (d : DarkTest) (landMv off : Nat), (laneOf lane s).dt = some d → d.opened = true →
    (laneOf lane s).dtUntil.toNat - 5000 ≤ s.tb.count.toNat →
    ∃ t, exec (.darkTestEnd lane false landMv off) s = .next t ∧ (laneOf lane t).dt = none ∧
      dtResult (laneOf lane t).dtHdr = { done := true, pass := landCrossed lane landMv, out := d.out.val, skip := false, stuck := false } ∧
      ((laneOf lane t).sw.getLsbD d.out = (cmdClosed (laneOf lane s) d.out && ((laneOf lane s).trip[d.out] == none))) ∧
      (vget t.wth.cur.off (swIx lane d.out.val) 0 =
        if 50000 ≤ (if lane = .p then s.field.out[d.out].iP else s.field.out[d.out].iT) then
          max (vget s.wth.cur.off (swIx lane d.out.val) 0) (2 * off)
        else vget s.wth.cur.off (swIx lane d.out.val) 0) ∧
      laneOf (otherLane lane) t = laneOf (otherLane lane) s ∧ t.ridge = s.ridge ∧ t.thatch = s.thatch) ∧
  (∀ mv : Nat, landCrossed .p mv = decide (mv < 12000) ∧ landCrossed .t mv = decide (12000 < mv)) ∧
  (∀ (s : State) (lane : Lane) (sw : Bool) (landMv off : Nat), (laneOf lane s).dt = none →
    exec (.darkTestStart lane) s = .next s ∧ exec (.darkTestEnd lane sw landMv off) s = .next s)

/-- Tier 2. Output supervision (R135, R141, R143, R144): a closed switch that trips opens itself and holds the time of its trip; 100 ms of a
group's overcurrent set its bit on the lane that measures it, and 1 s within the rating clears it; a brake coil whose current stays
below BRK.I_MIN from BRK.T_PULL on raises BRK_OPEN_COIL; 90 % of BRIGHT_MAX without a proof of opening raises BRIGHT_DUE, all of it
BRIGHT_OVERDUE. -/
def Obligations.OutputSupervision : Prop :=
  (∀ (s : State) (lane : Lane) (o : Fin 28), (laneOf lane s).sw.getLsbD o = true →
    ∃ t, exec (.switchProtectionTrip lane o) s = .next t ∧ (laneOf lane t).sw.getLsbD o = false ∧
      (laneOf lane t).trip[o] = some s.tb.count ∧ tripHolds s.tb.count (laneOf lane t) o = true ∧
      (∀ k : Fin 28, k ≠ o → (laneOf lane t).sw.getLsbD k = (laneOf lane s).sw.getLsbD k) ∧
      laneOf (otherLane lane) t = laneOf (otherLane lane) s ∧ t.ridge = s.ridge ∧ t.thatch = s.thatch) ∧
  (∀ (s : State) (lane : Lane) (o : Fin 28), (laneOf lane s).sw.getLsbD o = false →
    exec (.switchProtectionTrip lane o) s = .next s) ∧
  (∀ (s : State) (lane : Lane) (g : Fin 5), (laneOf lane s).resetLevel = false → 1601 ≤ (laneOf lane s).grpHigh[g] →
    ∃ t, exec (.groupOvercurrent lane g) s = .next t ∧ (laneOf lane t).groupOver.getLsbD g = true ∧
      (∀ k : Fin 5, k ≠ g → (laneOf lane t).groupOver.getLsbD k = (laneOf lane s).groupOver.getLsbD k) ∧
      laneOf (otherLane lane) t = laneOf (otherLane lane) s ∧ (laneOf lane t).sw = (laneOf lane s).sw) ∧
  (∀ (s : State) (lane : Lane) (g : Fin 5), 16001 ≤ (laneOf lane s).grpOk[g] →
    ∃ t, exec (.groupOvercurrentClear lane g) s = .next t ∧ (laneOf lane t).groupOver.getLsbD g = false ∧
      (∀ k : Fin 5, k ≠ g → (laneOf lane t).groupOver.getLsbD k = (laneOf lane s).groupOver.getLsbD k) ∧
      laneOf (otherLane lane) t = laneOf (otherLane lane) s ∧ (laneOf lane t).sw = (laneOf lane s).sw) ∧
  (∀ (s : State) (lane : Lane) (g : Fin 5),
    ((laneOf lane s).grpHigh[g] < 1601 → exec (.groupOvercurrent lane g) s = .next s) ∧
    ((laneOf lane s).grpOk[g] < 16001 → exec (.groupOvercurrentClear lane g) s = .next s)) ∧
  (∀ (s : State) (lane : Lane) (k : Fin 4) (ma : Nat), outBlocked s.active.image (24 + k.val) = true →
    (chanOf lane s).prevCmd.getLsbD (24 + k.val) = true →
    ticksOf (tickUs s) (lookN s.active.image .brkTPull (24 + k.val) 0 200000) ≤
      (vget (chanOf lane s).outs (24 + k.val) OutCh.reset).onTicks →
    dtHeld s.tb.count s.laneP (24 + k.val) = false → dtHeld s.tb.count s.laneT (24 + k.val) = false →
    ma < lookN s.active.image .brkIMin (24 + k.val) 0 200 → tableStill s = false →
    ∃ t, exec (.brkOpenCoil lane k ma) s = .next t ∧ hasFault t fcBrkOpenCoil (24 + k.val) = true ∧
      (vget (chanOf lane t).outs (24 + k.val) OutCh.reset).coil = true ∧
      chanOf (otherLane lane) t = chanOf (otherLane lane) s) ∧
  (∀ (s : State) (o : Fin 28), tableStill s = false → brightAt s 9 o s.ridge = true →
    ∃ t, exec (.brightDue o) s = .next t ∧ hasFault t fcBrightDue o = true ∧ t.ridge = s.ridge ∧ t.thatch = s.thatch) ∧
  (∀ (s : State) (o : Fin 28), tableStill s = false → brightAt s 10 o s.ridge = true →
    ∃ t, exec (.brightOverdue o) s = .next t ∧ hasFault t fcBrightOverdue o = true ∧ (t.ridge.outs[o]).bright = true) ∧
  (∀ (s : State) (o : Fin 28), brightAt s 9 o s.ridge = false → brightAt s 9 o s.thatch = false →
    exec (.brightDue o) s = .next s)

/-- Tier 2. The motion engines (R149 to R155): a strobe advances the strobe count of every interface that its engine still serves, changes
nothing outside the motion domain, and stops with the domain; an encoder supply out of range for 1 ms trips, one in its limit for 10 ms
switches off, and its encoders carry ENC_SUPPLY; axes apart for TOL_TICKS raise AXIS_CROSS_MISMATCH. -/
def Obligations.MotionEngines : Prop :=
  (∀ (s : State) (raws : Vector EncRaw 16) (mv ma : Vector Nat 8), motionRuns s = true →
    ∃ t, exec (.motionStrobe raws mv ma) s = .next t ∧ { t with motion := s.motion } = s ∧
      t.motion.silent0 = s.motion.silent0 ∧ t.motion.silent1 = s.motion.silent1 ∧
      (∀ i : Fin 16, (if i.val % 2 = 0 then s.motion.silent0 else s.motion.silent1) = false →
        t.motion.enc[i].seq = s.motion.enc[i].seq + 1) ∧
      (∀ i : Fin 16, (if i.val % 2 = 0 then s.motion.silent0 else s.motion.silent1) = true →
        t.motion.enc[i].pos = s.motion.enc[i].pos ∧ t.motion.enc[i].seq = s.motion.enc[i].seq) ∧
      (∀ i : Fin 16, encInUse s.active.image i = false → t.motion.enc[i].pos = s.motion.enc[i].pos)) ∧
  (∀ (s : State) (raws : Vector EncRaw 16) (mv ma : Vector Nat 8), motionRuns s = false →
    exec (.motionStrobe raws mv ma) s = .next s) ∧
  (∀ (s : State) (j : Fin 8), motionRuns s = true → s.motion.pwr[j].st = 1 →
    (16 ≤ s.motion.pwr[j].bad ∨ 160 ≤ s.motion.pwr[j].lim) →
    ∃ t, exec (.encSupplyTrip j) s = .next t ∧ t.motion.pwr[j].st = (if 160 ≤ s.motion.pwr[j].lim then 3 else 2) ∧
      (∀ i : Fin 16, pwrOf i = j.val → (t.motion.enc[i]).fault.testBit 6 = true) ∧
      (∀ k : Fin 8, k ≠ j → t.motion.pwr[k] = s.motion.pwr[k]) ∧ { t with motion := s.motion } = s) ∧
  (∀ (s : State) (j : Fin 8), s.motion.pwr[j].bad < 16 → s.motion.pwr[j].lim < 160 →
    exec (.encSupplyTrip j) s = .next s) ∧
  (∀ (s : State) (a : Fin 8), s.mode.evaluates = true → tableStill s = false →
    ((axesApart (evalCfg s) s.ridge).contains a.val = true ∨ (axesApart (evalCfg s) s.thatch).contains a.val = true) →
    ∃ t, exec (.axisCrossMismatch a) s = .next t ∧ hasFault t fcAxisCrossMismatch a = true ∧ t.motion = s.motion)

/-- Tier 2. Analogue conversions (R182, R183, R185, R186): while FA runs, the results of a window that has ended stand with NEW and the
status bits of Table 8.3 for the next inbound frame, a thermocouple's with the cold-junction voltage added, those of a resistance in
3-wire connection less the lead's code (the model's choice of form, log entry 200); readings of the
cold-junction sensors outside −45 °C to 100 °C count towards AN_CJ_FAULT; a channel whose NEW stays away for longer than T_CONV + T
enters FAULT with AN_STALE, an input with its last valid value. Nothing else changes. That CJ_FAULT stands on every thermocouple channel is
the model's choice (log entry 171). -/
def Obligations.AnalogueConversions : Prop :=
  (∀ (s : State) (ch : Fin 8) (sd : BitVec 24) (sar : BitVec 16) (stat : BitVec 3) (burn : Nat) (drv : Int) (w : W64)
      (leadSd : BitVec 24) (leadSar : BitVec 16), faRuns s = true →
    fcUacMode (faLane s) ch ≠ 0 → s.fa.ch[ch].winAt = some w → w.toNat + fcConv (faLane s) ch ≤ s.tb.count.toNat →
    ∃ t, exec (.conversionWindowEnd ch sd sar stat drv burn leadSd leadSar) s = .next t ∧
      (fcUacMode (faLane s) ch ≠ 6 → threeWire (faLane s) ch = false → t.fa.ch[ch].sd = sd ∧ t.fa.ch[ch].sar = sar) ∧
      (threeWire (faLane s) ch = true → t.fa.ch[ch].sd = BitVec.ofInt 24 (subW 24 (sgn sd) (sgn leadSd)) ∧
        t.fa.ch[ch].sar = BitVec.ofInt 16 (subW 16 (sgn sar) (sgn leadSar))) ∧
      (fcUacMode (faLane s) ch = 6 → taken (faLane s).pAn ch / 2 ^ 20 % 2 = 1 →
        t.fa.ch[ch].sd = BitVec.ofInt 24 (addW 24 (sgn sd) (Config.voltCode false (cjVolt (faLane s) s.fa.cj ch))) ∧
        t.fa.ch[ch].sar = BitVec.ofInt 16 (addW 16 (sgn sar) (Config.voltCode true (cjVolt (faLane s) s.fa.cjSar ch)))) ∧
      t.fa.ch[ch].stat.getLsbD 3 = true ∧ t.fa.ch[ch].stat.getLsbD 0 = stat.getLsbD 0 ∧
      ((fcUacMode (faLane s) ch = 3 ∨ fcUacMode (faLane s) ch = 4) → t.fa.ch[ch].stat.getLsbD 2 = stat.getLsbD 2) ∧
      (fcUacMode (faLane s) ch = 6 → t.fa.ch[ch].stat.getLsbD 2 = cjFailed s.fa ch ∧
        t.fa.ch[ch].stat.getLsbD 1 = decide (50 < burn)) ∧
      t.fa.ch[ch].drv = drv ∧ t.fa.ch[ch].setpt = s.fa.ch[ch].setpt ∧
      (∀ k : Fin 8, k ≠ ch → t.fa.ch[k] = s.fa.ch[k]) ∧ t.fa.cj = s.fa.cj ∧ { t with fa := s.fa } = s) ∧
  (∀ (s : State) (ch : Fin 8) (sd : BitVec 24) (sar : BitVec 16) (stat : BitVec 3) (burn : Nat) (drv : Int)
      (leadSd : BitVec 24) (leadSar : BitVec 16),
    (faRuns s = false ∨ fcUacMode (faLane s) ch = 0 ∨ s.fa.ch[ch].winAt = none ∨
      (∃ w, s.fa.ch[ch].winAt = some w ∧ s.tb.count.toNat < w.toNat + fcConv (faLane s) ch)) →
    exec (.conversionWindowEnd ch sd sar stat drv burn leadSd leadSar) s = .next s) ∧
  (∀ (s : State) (a b : Vector Int 4), s.pwr.domains.getLsbD 0 = true → s.fa.inLull = false →
    ∃ t, exec (.cjSensorRead a b) s = .next t ∧ t.fa.cj = a ∧ t.fa.cjSar = b ∧
      (∀ k : Fin 4, (a[k] < -4500 ∨ 10000 < a[k] ∨ b[k] < -4500 ∨ 10000 < b[k]) → t.fa.cjBad[k] = s.fa.cjBad[k] + 1) ∧
      (∀ x y : Int, -4500 ≤ x → x ≤ 10000 → -4500 ≤ y → y ≤ 10000 → (∀ k : Fin 4, a[k] = x ∧ b[k] = y) →
        ∀ k : Fin 4, t.fa.cjBad[k] = 0) ∧
      t.fa.ch = s.fa.ch ∧ { t with fa := s.fa } = s) ∧
  (∀ (s : State) (ch : Fin 8), s.mode.evaluates = true → tableStill s = false →
    lookN (evalCfg s) .uacMode ch 0 0 ≠ 0 →
    cfgConv (evalCfg s) ch + cfgT (evalCfg s) < (s.ridge.an[ch].noNew + 1) * cfgT (evalCfg s) →
    ∃ t, exec (.anStale ch) s = .next t ∧ hasFault t fcAnStale ch = true ∧ t.ridge.an[ch].st = 3 ∧ t.ridge.an[ch].has 2 = true ∧
      (uacOut (evalCfg s) ch = false → t.ridge.an[ch].y = s.ridge.an[ch].lastValid) ∧
      (uacOut (evalCfg s) ch = true → t.ridge.an[ch].latch = true) ∧
      (∀ k : Fin 8, k ≠ ch → t.ridge.an[k] = s.ridge.an[k] ∧ t.thatch.an[k] = s.thatch.an[k]) ∧ t.fa = s.fa ∧ t.mode = s.mode) ∧
  (∀ (s : State) (ch : Fin 8), s.ridge.an[ch].has 2 = false → s.thatch.an[ch].has 2 = false →
    (s.ridge.an[ch].noNew + 1) * cfgT (evalCfg s) ≤ cfgConv (evalCfg s) ch + cfgT (evalCfg s) →
    (s.thatch.an[ch].noNew + 1) * cfgT (evalCfg s) ≤ cfgConv (evalCfg s) ch + cfgT (evalCfg s) →
    exec (.anStale ch) s = .next s)

/-- Tier 2. Received copies and phase 3 (R23, R202, R208, R210, R211, R217): phase 3 starts 50 µs before the end of a running tick, once;
both channels take the copies received and each port's engine takes the telegrams of its own channel in their frames. The telegram of an
accepted frame that some consumed connection's CRC verifies goes into both channels' buffers, up to 256 per port; any other is dropped
and counted; a frame without a telegram changes nothing. The MAC counts the frames that it accepts and the frames that it drops. Ports
(R201, R202): a full-duplex link clears LINK_DOWN and LINK_DUPLEX, a half-duplex one raises LINK_DUPLEX and sends nothing; a lost one
raises LINK_DOWN. An ARP request for the port's own address is answered to the asker with the port's MAC address, any other is not. The
other port stays. In VERIFY the connections are the candidate's (log entry 215). Which frames the MAC drops (log entry 176), a half-duplex
link as no link (log entry 112), and the points of log entries 109 and 110 are the model's choices. -/
def Obligations.NetworkPortsAndPhase3 : Prop :=
  (∀ s : State, phase3Due s = true → ∃ t, exec .phase3Start s = .next t ∧ t.tick.phase3 = true ∧ t.tick.boundary = s.tick.boundary ∧
    t.tick.count = s.tick.count ∧ t.mode = s.mode ∧ t.laneP = s.laneP ∧ t.laneT = s.laneT ∧ t.field = s.field ∧
    (s.ridge.frozen = false → member s.active.image = false → t.ridge.buf = []) ∧
    (canSend .a s = true → handsOver s s.ridge = true →
      t.portA.sent = handOver (evalCfg s) .a { s with tick := t.tick, ridge := atPhase3 s.ridge, thatch := atPhase3 s.thatch }
        (atPhase3 s.ridge)) ∧
    (canSend .b s = true → handsOver s s.thatch = true →
      t.portB.sent = handOver (evalCfg s) .b { s with tick := t.tick, ridge := atPhase3 s.ridge, thatch := atPhase3 s.thatch }
        (atPhase3 s.thatch)) ∧
    (canSend .a s = false → t.portA.sent = []) ∧ (canSend .b s = false → t.portB.sent = [])) ∧
  (∀ s : State, phase3Due s = false → exec .phase3Start s = .next s) ∧
  (∀ (s : State) (p : NetPort) (h f b : List Byte) (proto : Proto) (rx : W64), canReceive p s = true → s.tick.running = true →
    macAccepts p (h ++ f) true s = true → telegramOf p (h ++ f) s = some (proto, b) → preCheck1 (evalCfg s) s.active.image p proto b = true →
    ((chanOf (viewLane s) s).buf.filter (fun x => x.port == p)).length < 256 →
    ∃ t, exec (.telegramCopyReceive p h f rx) s = .next t ∧
      t.ridge.buf = s.ridge.buf ++ [{ port := p, bytes := b, src := BitVec.ofNat 48 (beAt (h ++ f) 6 6), rx := rx }] ∧
      t.thatch.buf = s.thatch.buf ++ [{ port := p, bytes := b, src := BitVec.ofNat 48 (beAt (h ++ f) 6 6), rx := rx }] ∧
      { t with ridge := { t.ridge with buf := s.ridge.buf }, thatch := { t.thatch with buf := s.thatch.buf } } = s) ∧
  (∀ (s : State) (p : NetPort) (h f b : List Byte) (proto : Proto) (rx : W64), canReceive p s = true → s.tick.running = true →
    macAccepts p (h ++ f) true s = true → telegramOf p (h ++ f) s = some (proto, b) →
    (256 ≤ ((chanOf (viewLane s) s).buf.filter (fun x => x.port == p)).length ∨
      (preCheckOff p s = false ∧ preCheck1 (evalCfg s) s.active.image p proto b = false)) →
    ∃ t, exec (.telegramCopyReceive p h f rx) s = .next t ∧ (portOf p t).dropCnt = count32 (portOf p s).dropCnt ∧
      t.ridge = s.ridge ∧ t.thatch = s.thatch ∧ { t with portA := s.portA, portB := s.portB } = s) ∧
  (∀ (s : State) (p : NetPort) (h f : List Byte) (rx : W64),
    (canReceive p s = false ∨ s.tick.running = false ∨ macAccepts p (h ++ f) true s = false ∨ telegramOf p (h ++ f) s = none) →
    exec (.telegramCopyReceive p h f rx) s = .next s) ∧
  (∀ (s : State) (p : NetPort) (f : List Byte) (good : Bool), canReceive p s = true →
    ∃ t, exec (.netFrameReceive p f good) s = .next t ∧
      ((portOf p t).rxCnt = if macAccepts p f good s then count32 (portOf p s).rxCnt else (portOf p s).rxCnt) ∧
      ((portOf p t).dropCnt = if macAccepts p f good s then (portOf p s).dropCnt else count32 (portOf p s).dropCnt) ∧
      { t with portA := s.portA, portB := s.portB } = s) ∧
  (∀ (s : State) (p : NetPort) (f : List Byte), macAccepts p f false s = false) ∧
  (∀ (s : State) (p : NetPort) (f : List Byte) (good : Bool), canReceive p s = false →
    exec (.netFrameReceive p f good) s = .next s) ∧
  (∀ (s : State) (p : NetPort), portPowered p s = true → tableStill s = false → s.gable.up = false →
    ∃ t, exec (.linkUp p true) s = .next t ∧ (portOf p t).link = true ∧ (portOf p t).duplex = false ∧
      hasFault t (fcDown p) 0 = false ∧ hasFault t (fcDuplex p) 0 = false ∧ (portOf p t).rxCnt = (portOf p s).rxCnt ∧
      t.mode = s.mode ∧ t.ridge = s.ridge ∧ t.thatch = s.thatch) ∧
  (∀ (s : State) (p : NetPort) (d : Bool), portPowered p s = true →
    ∃ t u, exec (.linkUp p d) s = .next t ∧ exec (.linkDown p) s = .next u ∧ (portOf p t).link = d ∧ (portOf p t).duplex = !d ∧
      (portOf p u).link = false ∧ (portOf p u).duplex = false ∧ t.pwr = s.pwr ∧ u.pwr = s.pwr ∧
      (p = .a → t.portB = s.portB ∧ u.portB = s.portB) ∧ (p = .b → t.portA = s.portA ∧ u.portA = s.portA)) ∧
  (∀ (s : State) (p : NetPort), portPowered p s = true → tableStill s = false →
    ∃ t u, exec (.linkUp p false) s = .next t ∧ exec (.linkDown p) s = .next u ∧ hasFault t (fcDuplex p) 0 = true ∧
      canSend p t = false ∧ hasFault u (fcDown p) 0 = true ∧ canSend p u = false ∧ canReceive p u = false) ∧
  (∀ (s : State) (p : NetPort), portPowered p s = false →
    exec (.linkUp p true) s = .next s ∧ exec (.linkUp p false) s = .next s ∧ exec (.linkDown p) s = .next s) ∧
  (∀ (s : State) (p : NetPort) (sha : BitVec 48) (spa ip : W32), canSend p s = true → ipOf s.active.image p = some ip.toNat →
    ∃ t, exec (.arpRequest p ip sha spa) s = .next t ∧ (∃ m, (portOf p t).sent = (portOf p s).sent ++ [m] ∧ m.length = 42 ∧
      beAt m 0 6 = sha.toNat ∧ (m.drop 6).take 6 = macOf p s ∧ beAt m 12 2 = 0x0806 ∧ beAt m 20 2 = 2 ∧
      (m.drop 22).take 6 = macOf p s ∧ beAt m 28 4 = ip.toNat ∧ beAt m 32 6 = sha.toNat ∧ beAt m 38 4 = spa.toNat) ∧
      { t with portA := s.portA, portB := s.portB } = s) ∧
  (∀ (s : State) (p : NetPort) (sha : BitVec 48) (spa ip : W32), ipOf s.active.image p ≠ some ip.toNat →
    exec (.arpRequest p ip sha spa) s = .next s)

/-- Tier 2. Connections that nothing reaches (R212 to R214, R218): at the start of a phase 3 in which no copy has come, a VALID connection
whose timeout has passed goes to GAP, a CSF one whose watchdog has passed likewise; a Lee count at its limit in SINGLE or GAP gives
EXPIRED; a held copy without its partner after CONN.W counts as SINGLE; three timeouts in START in RUN raise CONN_NOT_STARTED. That each of
these rows acts before PHASE_3_START is the model's choice (log entry 110). -/
def Obligations.ConnectionExpiries : Prop :=
  (∀ (s : State) (k : Fin 128), expiryDue k s = true → isCsf (evalCfg s) k = false → tableStill s = false →
    s.ridge.frozen = false → (∀ q ∈ s.ridge.earlyConn, q.1 ≠ k.val) → s.ridge.conn[k].st = 1 → s.ridge.conn[k].held = [] →
    cfgTimeout (evalCfg s) k ≤ s.ridge.conn[k].since + 1 →
    ∃ t, exec (.connTimeout k) s = .next t ∧ t.ridge.conn[k].st = 3 ∧ t.ridge.conn[k].leeRun = true ∧ t.ridge.conn[k].paired = 0 ∧
      hasFault t fcConnTimeout k = true ∧ (∀ j : Fin 128, j ≠ k → t.ridge.conn[j] = s.ridge.conn[j]) ∧ t.tick = s.tick) ∧
  (∀ (s : State) (k : Fin 128), s.ridge.frozen = false → s.ridge.conn[k].since + 1 < cfgTimeout (evalCfg s) k →
    exec (.connTimeout k) s = .next s) ∧
  (∀ (s : State) (k : Fin 128), expiryDue k s = true → isCsf (evalCfg s) k = true → tableStill s = false →
    s.ridge.frozen = false → (∀ q ∈ s.ridge.earlyConn, q.1 ≠ k.val) → s.ridge.conn[k].st = 1 →
    cfgWdg (evalCfg s) k ≤ s.ridge.conn[k].since + 1 →
    ∃ t, exec (.csfWdg k) s = .next t ∧ t.ridge.conn[k].st = 3 ∧ t.ridge.conn[k].paired = 0 ∧
      hasFault t fcCsfWdg k = true ∧ (∀ j : Fin 128, j ≠ k → t.ridge.conn[j] = s.ridge.conn[j]) ∧ t.tick = s.tick) ∧
  (∀ (s : State) (k : Fin 128), phase3Due s = true → consumes (evalCfg s) k = true → tableStill s = false →
    s.ridge.frozen = false → (∀ q ∈ s.ridge.earlyConn, q.1 ≠ k.val) → (s.ridge.conn[k].st = 2 ∨ s.ridge.conn[k].st = 3) →
    s.ridge.conn[k].leeRun = true →
    cfgLee (evalCfg s) k ≤ countUp s.ridge.conn[k].lee →
    ∃ t, exec (.connLeeExpired k) s = .next t ∧ t.ridge.conn[k].st = 4 ∧ t.ridge.conn[k].paired = 0 ∧
      hasFault t fcConnLeeExpired k = true ∧ (∀ j : Fin 128, j ≠ k → t.ridge.conn[j] = s.ridge.conn[j]) ∧ t.tick = s.tick) ∧
  (∀ (s : State) (k : Fin 128) (x : Copy), expiryDue k s = true → isCsf (evalCfg s) k = false → tableStill s = false →
    s.ridge.frozen = false → (∀ q ∈ s.ridge.earlyConn, q.1 ≠ k.val) → s.ridge.conn[k].st = 1 →
    s.ridge.conn[k].leeRun = false → s.ridge.conn[k].held = [x] →
    s.ridge.conn[k].stamp.toNat < (tgStamp x.bytes).toNat →
    copyStale (cfgAge (evalCfg s) k) (hasFault s fcTimeStale 0) x = false →
    x.rx.toNat + cfgW (evalCfg s) k * cfgT (evalCfg s) * tUs ≤ (syncAt s s.tb.count).toNat →
    ∃ t, exec (.pairingWindowExpiry k) s = .next t ∧ t.ridge.conn[k].st = 2 ∧ t.ridge.conn[k].held = [] ∧
      t.ridge.conn[k].stamp = tgStamp x.bytes ∧ t.ridge.conn[k].payload = tgPayload x.bytes ∧ t.ridge.conn[k].paired = 0 ∧
      t.ridge.conn[k].leeRun = true ∧ t.ridge.conn[k].lee = 0 ∧ hasFault t fcConnSingle k = true) ∧
  (∀ (s : State) (k : Fin 128), expiryDue k s = true → tableStill s = false → s.ridge.frozen = false → s.mode.runs = true →
    s.ridge.conn[k].st = 0 → 3 * cfgTimeout (evalCfg s) k ≤ countUp s.ridge.conn[k].startFor →
    ∃ t, exec (.connNotStarted k) s = .next t ∧ hasFault t fcConnNotStarted k = true ∧ t.ridge = s.ridge ∧ t.thatch = s.thatch) ∧
  (∀ (s : State) (k : Fin 128), expiryDue k s = false →
    exec (.connTimeout k) s = .next s ∧ exec (.csfWdg k) s = .next s ∧ exec (.pairingWindowExpiry k) s = .next s ∧
      exec (.connNotStarted k) s = .next s)

/-- Tier 2. The cascade (R219 to R222): a member sends a heartbeat every CAS.CYCLE and an agreement every 100 ms, numbered in order, from
SELFTEST onwards, to CAS.DST on both networks; without its time nothing is sent; a listed member that is not present raises
CAS_MEMBER_ABSENT. -/
def Obligations.CascadeTelegrams : Prop :=
  (∀ s : State, casSends s = true → s.cas.hbSent.toNat + casCycle s.active.image ≤ s.tb.count.toNat →
    ∃ t, exec .casHbSend s = .next t ∧ t.cas.hbSeq = s.cas.hbSeq + 1 ∧ t.cas.hbSent = s.tb.count ∧
      t.cas.agreeSeq = s.cas.agreeSeq ∧
      (canSend .a s = true → s.ridge.frozen = false →
        t.portA.sent = s.portA.sent ++ [ethFrame .a (lookN s.active.image .casDst 0 0 0) (lookN s.active.image .netEtCtt 0 0 0x88B5)
          (cttBytes 2 (flagsNow s.ridge s) (lookN s.active.image .casId 0 0 0 * 256 + casSelf s.active.image) s.cas.hbSeq.toNat
            (syncAt s s.tick.boundary) (hbPayload s)) s]) ∧
      (canSend .b s = true → s.thatch.frozen = false →
        t.portB.sent = s.portB.sent ++ [ethFrame .b (lookN s.active.image .casDst 0 0 0) (lookN s.active.image .netEtCtt 0 0 0x88B5)
          (cttBytes 2 (flagsNow s.thatch s) (lookN s.active.image .casId 0 0 0 * 256 + casSelf s.active.image) s.cas.hbSeq.toNat
            (syncAt s s.tick.boundary) (hbPayload s)) s]) ∧
      { t with cas := s.cas, portA := s.portA, portB := s.portB } = s) ∧
  (∀ s : State, casSends s = true → s.cas.agreeSent.toNat + 10000000 ≤ s.tb.count.toNat →
    ∃ t, exec .casAgreeSend s = .next t ∧ t.cas.agreeSeq = s.cas.agreeSeq + 1 ∧ t.cas.agreeSent = s.tb.count ∧
      t.cas.round = s.cas.round + 1 ∧ (t.cas.selfRounds = if casRoundGood s then s.cas.selfRounds + 1 else 0) ∧
      t.cas.hbSeq = s.cas.hbSeq ∧ { t with cas := s.cas, portA := s.portA, portB := s.portB } = s) ∧
  (∀ s : State, (casSends s = false ∨ s.tb.count.toNat < s.cas.hbSent.toNat + casCycle s.active.image) →
    exec .casHbSend s = .next s) ∧
  (∀ s : State, (casSends s = false ∨ s.tb.count.toNat < s.cas.agreeSent.toNat + 10000000) → exec .casAgreeSend s = .next s) ∧
  (∀ (s : State) (m : Fin 8), casSends s = true → casOther s.active.image m = true → casPresent s m = false →
    tableStill s = false → s.gable.up = false →
    ∃ t, exec (.casMemberAbsent m) s = .next t ∧ hasFault t fcCasMemberAbsent m = true ∧ t.ridge.mem = s.ridge.mem ∧
      t.thatch.mem = s.thatch.mem ∧ t.mode = s.mode) ∧
  (∀ (s : State) (m : Fin 8), casPresent s m = true → exec (.casMemberAbsent m) s = .next s)

/-- Tier 2. Time on the networks (R204, R205): a server sends Sync with its Follow_Up each Sync interval and Announce each second, and
answers a delay request; a follower takes its offset from a Sync of its master and moves by it, goes to HOLDOVER and from PTP.PORT to
the other port after four intervals without one, and to UNLOCKED with TIME_STALE after four more; a best master that has fallen silent
gives way to any other. A delay request is answered under its own sequence number, and a follower takes only the answer to its last one.
The order of masters and the 3 s of silence (log entries 17 and 173) and the course of HOLDOVER (log entries 76 and 195) are the model's
choices. -/
def Obligations.NetworkTime : Prop :=
  (∀ s : State, serves1588 s = true → ptpOn (ptpPortNow s) s = true → canSend (ptpPortNow s) s = true →
    s.ptp.syncSent.toNat + syncInterval s.active.image ≤ s.tb.count.toNat →
    ∃ t sync fup, exec .ptpSyncSend s = .next t ∧
      (portOf (ptpPortNow s) t).sent = (portOf (ptpPortNow s) s).sent
        ++ [ptpFrame (ptpPortNow s) true sync s, ptpFrame (ptpPortNow s) false fup s] ∧
      sync.length = 44 ∧ fup.length = 44 ∧ beAt sync 30 2 = s.ptp.syncSeq.toNat ∧ beAt fup 30 2 = s.ptp.syncSeq.toNat ∧
      fup.drop 34 = ptpTime (syncAt s s.tb.count) ∧ t.ptp.syncSeq = s.ptp.syncSeq + 1 ∧ t.ptp.syncSent = s.tb.count ∧
      { t with ptp := s.ptp, portA := s.portA, portB := s.portB } = s) ∧
  (∀ s : State, serves1588 s = true → ptpOn (ptpPortNow s) s = true → canSend (ptpPortNow s) s = true →
    s.ptp.annSent.toNat + 100000000 ≤ s.tb.count.toNat →
    ∃ t ann, exec .ptpAnnounceSend s = .next t ∧
      (portOf (ptpPortNow s) t).sent = (portOf (ptpPortNow s) s).sent ++ [ptpFrame (ptpPortNow s) false ann s] ∧
      ann.length = 64 ∧ t.ptp.annSeq = s.ptp.annSeq + 1 ∧ t.ptp.annSent = s.tb.count ∧
      { t with ptp := s.ptp, portA := s.portA, portB := s.portB } = s) ∧
  (∀ (s : State) (p : NetPort) (m : W64) (t1 t2 : Int), follows1588 s = true → ptpOn p s = true → canReceive p s = true →
    masterNow (dropSilent s) = some m → tableStill s = false → (t2 - t1 - s.ptp.delay).natAbs ≤ 5000 → s.ptp.state = 1 →
    7 ≤ s.ptp.good →
    ∃ t, exec (.ptpSyncReceive p m t1 t2) s = .next t ∧ t.ptp.state = 2 ∧ t.ptp.offset = t2 - t1 - s.ptp.delay ∧
      t.ptp.const = syncAt s s.tb.count - s.tb.count - BitVec.ofInt 64 (divW 64 (t2 - t1 - s.ptp.delay) 10) ∧
      t.ptp.lastSync = s.tb.count ∧ t.ptp.delaySeq = s.ptp.delaySeq + 1 ∧ t.tb = s.tb ∧ t.mode = s.mode) ∧
  (∀ (s : State) (p : NetPort) (m : W64) (t1 t2 : Int), follows1588 s = true → ptpOn p s = true → canReceive p s = true →
    masterNow (dropSilent s) = some m → tableStill s = false → 50000 < (t2 - t1 - s.ptp.delay).natAbs → s.ptp.state = 2 →
    ∃ t, exec (.ptpSyncReceive p m t1 t2) s = .next t ∧ t.ptp.state = 0 ∧ hasFault t fcTimeStale 0 = true ∧ t.tb = s.tb) ∧
  (∀ (s : State) (p : NetPort) (m : W64) (t1 t2 : Int), masterNow (dropSilent s) ≠ some m →
    exec (.ptpSyncReceive p m t1 t2) s = .next (dropSilent s)) ∧
  (∀ s : State, { dropSilent s with ptp := { (dropSilent s).ptp with best := s.ptp.best } } = s ∧
    (s.tb.count.toNat < s.ptp.annHeard.toNat + 300000000 → dropSilent s = s)) ∧
  (∀ s : State, follows1588 s = true → ptpOn (ptpPortNow s) s = true → s.mode ≠ .lull →
    s.ptp.lastSync.toNat + 4 * syncInterval s.active.image ≤ s.tb.count.toNat → s.ptp.state = 2 →
    ∃ t, exec .ptpSyncTimeout s = .next t ∧ t.ptp.onB = (if onPtpPort s then !s.ptp.onB else s.ptp.onB) ∧ t.ptp.state = 3 ∧
      t.ptp.holdAt = s.tb.count ∧ t.tb = s.tb) ∧
  (∀ s : State, s.ptp.state = 3 → s.mode ≠ .lull → s.ptp.holdAt.toNat + 4 * syncInterval s.active.image ≤ s.tb.count.toNat →
    ptpRoleOf s.active.image ≠ 0 → tableStill s = false →
    ∃ t, exec .holdoverExpiry s = .next t ∧ t.ptp.state = 0 ∧ hasFault t fcTimeStale 0 = true ∧ t.tb = s.tb) ∧
  (∀ s : State, s.ptp.state ≠ 3 → exec .holdoverExpiry s = .next s) ∧
  (∀ (s : State) (p : NetPort) (q : W64) (t3 t4 : Int) (seq : BitVec 16), serves1588 s = true → ptpOn p s = true → canReceive p s = true →
    canSend p s = true → ∃ t m, exec (.delayRequestReceive p true q t3 t4 seq) s = .next t ∧
      (portOf p t).sent = (portOf p s).sent ++ [ptpFrame p false m s] ∧ m.length = 54 ∧ beAt m 44 8 = q.toNat ∧
      beAt m 30 2 = seq.toNat ∧
      { t with portA := s.portA, portB := s.portB } = s) ∧
  (∀ (s : State) (p : NetPort) (t3 t4 : Int) (seq : BitVec 16), follows1588 s = true → ptpOn p s = true → canReceive p s = true →
    serves1588 s = false ∧ (seq + 1 ≠ s.ptp.delaySeq → exec (.delayRequestReceive p false (clockId p s) t3 t4 seq) s = .next s) ∧
    (seq + 1 = s.ptp.delaySeq → ∃ t, exec (.delayRequestReceive p false (clockId p s) t3 t4 seq) s = .next t ∧
      t.ptp.delay = divW 64 ((s.ptp.lastT2 - s.ptp.lastT1) + (t4 - t3)) 2 ∧ { t with ptp := s.ptp } = s)) ∧
  (∀ (s : State) (p : NetPort) (a : Announce), follows1588 s = true → ptpOn p s = true → canReceive p s = true →
    s.ptp.best = none → (ptpRoleOf s.active.image = 1 ∨ masterNow s = some a.identity) →
    ∃ t, exec (.announceReceive p a) s = .next t ∧ t.ptp.best = some a ∧ t.ptp.annHeard = s.tb.count ∧ t.ptp.state = s.ptp.state ∧
      { t with ptp := s.ptp } = s) ∧
  (∀ (s : State) (p : NetPort) (a b : Announce), follows1588 s = true → ptpOn p s = true → canReceive p s = true →
    s.ptp.best = some b → a.identity ≠ b.identity → ptpRoleOf s.active.image = 1 →
    ∃ t, exec (.announceReceive p a) s = .next t ∧
      (t.ptp.best = some (if s.ptp.annHeard.toNat + 300000000 ≤ s.tb.count.toNat ∨ announceKey a < announceKey b then a else b)) ∧
      { t with ptp := s.ptp } = s)

/-- Tier 2. Times of the safety functions that run out (R91, R93, R110 to R119), in either channel: each goes where its table sends it, with
its outputs at 0 and, for a fault state, with the fault of its row: PARTIAL or BROKEN after t_disc to FAULT, ESTOP's STOPPING after T_STOP
to DEMAND, RELEASED after T_UNLOCK_MAX to LOCKING and the locking after T_LOCK to FAULT, the muting sequence and the muting to FAULT,
TWO_HAND's ONE to BLOCKED, ENABLE3's ENABLED after T_MAX to WAIT_RELEASE, CHANGING after T_CHANGE to FAULT, EDM's picking and dropping to
FAULT, and an acknowledge input still closed to RESET_STUCK. The row acts when the count with the running tick reaches the time (the
model's choice, log entry 21). -/
def Obligations.SafetyFunctionTimes : Prop :=
  (∀ (l : Lane) (s : State) (k m n : Nat) (b : Blk) (y : Config.Inst), instAt l s k 0x01 b → (evalCfg s).insts[k]? = some y →
    y.ins = [.pin m, .pin n] → (b.st = 1 ∨ b.st = 3) → ticksAt s .inTDisc m 100000 < b.cnt + 1 →
    faultsTo l (.pairDiscrepancy k) s k fcDiscrepancy) ∧
  (∀ (l : Lane) (s : State) (k : Nat) (b : Blk), instAt l s k 0x02 b → b.st = 3 →
    ticksAt s .estopTStop k 1000000 ≤ b.cnt + 1 →
    expiresTo l (.estopStopDelayEnd k) s k (fun d => d.st = 0 ∧ d.cnt = 0 ∧ d.out = 0)) ∧
  (∀ (l : Lane) (s : State) (k : Nat) (b : Blk), instAt l s k 0x04 b → b.st = 8 → b.fA = false →
    ticksAt s .glTUnlockMax k 60000000 ≤ b.cnt + 1 →
    expiresTo l (.unlockTimeout k) s k (fun d => d.st = 9 ∧ d.cnt = 0 ∧ d.out = 0)) ∧
  (∀ (l : Lane) (s : State) (k : Nat) (b : Blk), instAt l s k 0x04 b → b.st = 9 → b.fB = true →
    lookN (evalCfg s) .glMonitor k 0 0 = 1 → ticksAt s .glTLock k 1000000 < b.cnt + 1 →
    faultsTo l (.lockTimeout k) s k fcLockTimeout) ∧
  (∀ (l : Lane) (s : State) (k : Nat) (b : Blk), instAt l s k 0x05 b → b.st = 2 → b.sel = 1 →
    lookN (evalCfg s) .curMuting k 0 0 = 2 → ticksAt s .curT12 k 2000000 < b.cnt + 1 →
    faultsTo l (.mutingSeqTimeout k) s k fcMutingSeq) ∧
  (∀ (l : Lane) (s : State) (k : Nat) (b : Blk), instAt l s k 0x05 b → b.st = 2 → b.sel = 1 →
    lookN (evalCfg s) .curMuting k 0 0 = 1 → ticksAt s .curTSync k 2000000 < b.cnt + 1 →
    faultsTo l (.mutingSeqTimeout k) s k fcMutingSeq) ∧
  (∀ (l : Lane) (s : State) (k : Nat) (b : Blk), instAt l s k 0x05 b → b.st = 2 → b.sel = 2 →
    ticksAt s .curTMuteMax k 30000000 < b.cnt2 + 1 →
    faultsTo l (.mutingTime k) s k fcMutingTime) ∧
  (∀ (l : Lane) (s : State) (k : Nat) (b : Blk), instAt l s k 0x06 b → b.st = 9 → 500000 / cfgT (evalCfg s) - 1 < b.cnt + 1 →
    expiresTo l (.twoHandSyncTimeout k) s k (fun d => d.st = 11 ∧ d.out = 0)) ∧
  (∀ (l : Lane) (s : State) (k : Nat) (b : Blk), instAt l s k 0x07 b → b.st = 9 → ticksAt s .en3TMax k 0 ≠ 0 →
    ticksAt s .en3TMax k 0 ≤ b.cnt + 1 →
    expiresTo l (.enable3TMax k) s k (fun d => d.st = 10 ∧ d.out = 0)) ∧
  (∀ (l : Lane) (s : State) (k : Nat) (b : Blk), instAt l s k 0x08 b → b.st = 9 →
    ticksAt s .msTChange k 500000 < b.cnt + 1 →
    faultsTo l (.modeImplausible k) s k fcModeImplausible) ∧
  (∀ (l : Lane) (s : State) (k : Nat) (b : Blk), instAt l s k 0x09 b →
    ((b.st = 9 ∧ ticksAt s .edmTPick k 100000 < b.cnt + 1) ∨
      ((b.st = 11 ∨ (b.st = 8 ∧ b.fB = true)) ∧ ticksAt s .edmTDrop k 100000 < b.cnt + 1)) →
    faultsTo l (.edmFault k) s k fcEdmFault) ∧
  (∀ (l : Lane) (s : State) (n : Fin 48), s.mode.evaluates = true → tableStill s = false → lookN (evalCfg s) .inAckRole n 0 0 ≠ 0 →
    ackMax (cfgT (evalCfg s)) ≤ (chanOf l s).inp[n].closed →
    ∃ t, exec (.resetStuck n) s = .next t ∧ (chanOf l t).inp[n].stuck = true ∧ hasFault t fcResetStuck n = true ∧
      (∀ j : Fin 48, j ≠ n → (chanOf l t).inp[j] = (chanOf l s).inp[j]) ∧ t.mode = s.mode)

/-- Tier 2. Times of the timers, of A_THRESH and of the motion blocks that run out (R120, R121, R162, R163, R167, R171 to R173), in either
channel: TON sets its output, TOF and TP clear theirs; A_THRESH's n ticks beyond LIMIT make the demand; SS1T's STOPPING goes to BRAKING, or
to STO_ACTIVE where T_BRAKE is 0; BRAKING ends in STO_ACTIVE with TEN and BRQ 0, or with SOS_EXCEEDED where the axis has left its window;
SOS captures p0 at standstill, or faults; RELEASING goes to RELEASED with both outputs 1; a brake test within its window has passed and
counts its interval anew; 90 % of the interval are BRAKE_TEST_DUE, all of it BRAKE_TEST_OVERDUE, which inhibits the next release. The row
acts when the count with the running tick reaches the time (the model's choice, log entry 21). -/
def Obligations.TimerAndMotionTimes : Prop :=
  (∀ (l : Lane) (s : State) (k : Nat) (b : Blk), instAt l s k 0x0A b → b.fB = true → b.prev.getLsbD 0 = true →
    ticksAt s .timPt k 0 ≤ b.cnt + 1 →
    expiresTo l (.timerBlockExpiry k) s k (fun d => d.out = 1)) ∧
  (∀ (l : Lane) (s : State) (k : Nat) (b : Blk), (instAt l s k 0x0B b ∨ instAt l s k 0x0C b) → b.fB = true →
    ticksAt s .timPt k 0 ≤ b.cnt + 1 →
    expiresTo l (.timerBlockExpiry k) s k (fun d => d.out = 0)) ∧
  (∀ (l : Lane) (s : State) (k : Nat) (b : Blk), instAt l s k 0x12 b → b.fB = true → b.fA = false → (b.st = 1 ∨ b.st = 2) →
    ticksAt s .atTDelay k 0 ≤ b.cnt + 1 →
    expiresTo l (.aThreshDelayEnd k) s k (fun d => d.st = 0 ∧ d.fA = true ∧ d.out = 0)) ∧
  (∀ (l : Lane) (s : State) (k : Nat) (b : Blk), instAt l s k 0x21 b → b.st = 11 →
    ticksAt s .s1TStop k 1000000 ≤ b.cnt + 1 →
    expiresTo l (.ss1tStopTimeEnd k) s k
      (fun d => d.st = if ticksAt s .tBrake k 0 = 0 then 9 else 12)) ∧
  (∀ (l : Lane) (s : State) (k : Nat) (b : Blk), (instAt l s k 0x21 b ∨ instAt l s k 0x22 b) → b.st = 12 →
    ticksAt s .tBrake k 0 ≤ b.cnt + 1 →
    (offWindow (axView (blkCtx (evalCfg s) (sharedOf s) (chanOf l s)) (lookN (evalCfg s) .bAxis k 0 0)) b
        (look (evalCfg s) .sosWin k 0 1000) = false →
      expiresTo l (.brakingEnd k) s k (fun d => d.st = 9 ∧ d.out.getLsbD 0 = false ∧ d.out.getLsbD 3 = false)) ∧
    (offWindow (axView (blkCtx (evalCfg s) (sharedOf s) (chanOf l s)) (lookN (evalCfg s) .bAxis k 0 0)) b
        (look (evalCfg s) .sosWin k 0 1000) = true →
      faultsTo l (.brakingEnd k) s k fcSosExceeded)) ∧
  (∀ (l : Lane) (s : State) (k : Nat) (b : Blk), instAt l s k 0x24 b → b.st = 13 →
    ticksAt s .sosTDelay k 0 ≤ b.cnt + 1 →
    standstill (axView (blkCtx (evalCfg s) (sharedOf s) (chanOf l s)) (lookN (evalCfg s) .bAxis k 0 0)) = false →
    ∃ t d, exec (.sosDelayEnd k) s = .next t ∧ (chanOf l t).blk[k]? = some d ∧ d.st = 4 ∧ d.out = 0 ∧ d.fault = fcSosExceeded ∧
      hasFault t fcSosExceeded k = true ∧ (∀ j, j ≠ k → (chanOf l t).blk[j]? = (chanOf l s).blk[j]?) ∧ t.mode = s.mode) ∧
  (∀ (l : Lane) (s : State) (k : Nat) (b : Blk) (y : Config.Inst), instAt l s k 0x24 b → (evalCfg s).insts[k]? = some y →
    b.st = 13 → ticksAt s .sosTDelay k 0 ≤ b.cnt + 1 → y.ins = [] →
    standstill (axView (blkCtx (evalCfg s) (sharedOf s) (chanOf l s)) (lookN (evalCfg s) .bAxis k 0 0)) = true →
    expiresTo l (.sosDelayEnd k) s k (fun d => d.st = 14 ∧
      d.p0a = (axView (blkCtx (evalCfg s) (sharedOf s) (chanOf l s)) (lookN (evalCfg s) .bAxis k 0 0)).pA)) ∧
  (∀ (l : Lane) (s : State) (k : Nat) (b : Blk), instAt l s k 0x28 b → b.st = 9 →
    ticksAt s .sbcTRel k 100000 ≤ b.cnt + 1 →
    expiresTo l (.sbcReleaseDelayEnd k) s k (fun d => d.st = 10 ∧ d.out = 3)) ∧
  (∀ (l : Lane) (s : State) (k : Nat) (b : Blk), instAt l s k 0x28 b → b.st = 11 → b.prev.getLsbD 0 = true →
    ticksAt s .sbtTTest k 1000000 ≤ b.cnt + 1 →
    offWindow (axView (blkCtx (evalCfg s) (sharedOf s) (chanOf l s)) (lookN (evalCfg s) .bAxis k 0 0)) b
      (look (evalCfg s) .sbtWin k 0 100) = false →
    expiresTo l (.brakeTestEnd k) s k (fun d => d.st = 8 ∧ d.cnt2 = 0 ∧ d.fA = false ∧ d.out = 2)) ∧
  (∀ (l : Lane) (s : State) (k : Nat) (b : Blk), instAt l s k 0x28 b → ticksAt s .sbtInterval k 28800000000 ≠ 0 →
    9 * ticksAt s .sbtInterval k 28800000000 ≤ 10 * (b.cnt2 + 1) →
    ∃ t, exec (.brakeTestDue k) s = .next t ∧ hasFault t fcBrakeTestDue k = true ∧ t.ridge = s.ridge ∧ t.thatch = s.thatch) ∧
  (∀ (l : Lane) (s : State) (k : Nat) (b : Blk), instAt l s k 0x28 b → ticksAt s .sbtInterval k 28800000000 ≠ 0 →
    ticksAt s .sbtInterval k 28800000000 ≤ b.cnt2 + 1 →
    ∃ t d, exec (.brakeTestOverdue k) s = .next t ∧ hasFault t fcBrakeTestOverdue k = true ∧ (chanOf l t).blk[k]? = some d ∧ d.fA = true ∧
      (b.fA = false → d.fB = true) ∧ d.st = b.st) ∧
  (∀ (s : State) (k : Nat), s.mode.evaluates = false →
    exec (.pairDiscrepancy k) s = .next s ∧ exec (.brakingEnd k) s = .next s ∧ exec (.brakeTestDue k) s = .next s) ∧
  (∀ (s : State) (k : Nat), (s.ridge.frozen = true ∨ s.ridge.evaluated = true) → (s.thatch.frozen = true ∨ s.thatch.evaluated = true) →
    exec (.pairDiscrepancy k) s = .next s ∧ exec (.timerBlockExpiry k) s = .next s ∧ exec (.brakingEnd k) s = .next s)

/-- Tier 2. STO and SS2 (R160, R161, R166): BRQ of an STO block equals TEN, and EN = 0 in ENABLED leads to STO_ACTIVE in the same tick; SS2
in SOS_ACTIVE keeps TEN = 1 while every source stays within its window and its speed, a breach goes to FAULT with SOS_EXCEEDED, and EN =
1 leads to ENABLED under AUTO and to WAIT_RESET under MANUAL. -/
def Obligations.StoAndSs2 : Prop :=
  (∀ (x : BlkCtx) (done old : List Blk) (k : Nat) (y : Config.Inst) (b : Blk), y.typ = 0x20 → b.start = false →
    b.st ∈ [4, 5, 8, 9, 10] →
    (stopStep x done old k y b).1.out.getLsbD 2 = (stopStep x done old k y b).1.out.getLsbD 0) ∧
  (∀ (x : BlkCtx) (done old : List Blk) (k : Nat) (y : Config.Inst) (b : Blk), y.typ = 0x20 → b.start = false → b.st = 8 →
    (axView x (lookN x.cfg .bAxis k 0 0)).encFault = false → (axView x (lookN x.cfg .bAxis k 0 0)).hold = false →
    isHeld x k y = false →
    (linkVal x done old y.ins[0]? = false →
      (stopStep x done old k y b).1.st = 9 ∧ (stopStep x done old k y b).1.out.getLsbD 0 = false) ∧
    (linkVal x done old y.ins[0]? = true →
      (stopStep x done old k y b).1.st = 8 ∧ (stopStep x done old k y b).1.out.getLsbD 0 = true)) ∧
  (∀ (x : BlkCtx) (done old : List Blk) (k : Nat) (y : Config.Inst) (b : Blk), y.typ = 0x23 → b.start = false → b.st = 14 →
    (let v := axView x (lookN x.cfg .bAxis k 0 0)
     let win := look x.cfg .sosWin k 0 1000
     let broken := (v.useA = true ∧ win < absW 64 (subW 64 v.pA b.p0a)) ∨
       (v.useB = true ∧ win < absW 64 (subW 64 v.pB b.p0b)) ∨
       look x.cfg .sosVMax k 0 v.vss < maxAbs v
     let d := (stopStep x done old k y b).1
     (broken → d.st = 4 ∧ d.fault = fcSosExceeded ∧ d.out.getLsbD 0 = false) ∧
     (¬broken → v.encFault = false → v.hold = false → isHeld x k y = false →
       (linkVal x done old y.ins[0]? = false → d.st = 14 ∧ d.out.getLsbD 0 = true) ∧
       (linkVal x done old y.ins[0]? = true → d.st = if lookN x.cfg .bReset k 0 0 = 1 then 10 else 8))))

/-- Tier 2. Weathering's measurements (R309, R325 to R327, R330, R331): a deviation joins those of ten minutes; each second adds its
accelerated time to the equivalent hours, which Gable copies to its flash hourly; a daily value joins those kept of every margin; a
re-check that reads as at BOOT clears SLATE_DRIFT, any other raises it. The re-plan (R13, R325, R327, R328, R330): every ten minutes,
outside LULL, the largest values measured since the last one join those of 24 h, an on-resistance only where at least 50 mA flowed; with a
valid configuration the proposals of W are taken where they lie within their bounds and ignored otherwise; a width or a dark-test time
grows by at most one step and never beyond its bound; a value handed over outside its bounds raises MARGIN_REJECTED; what is active now
stays until its moment. The periods and modes of the re-plan (log entry 201), the rounding of the accelerated time (log entry 11) and the
points of log entry 121 are the model's choices. -/
def Obligations.WeatheringMeasuresAndReplans : Prop :=
  (∀ (s : State) (n : Nat), s.w.up = true → s.pwr.domains.getLsbD 6 = true →
    ∃ t, exec (.thatchDeviationMeasure n) s = .next t ∧ t.wth.delta = (((n : Int) - 32000000) :: s.wth.delta).take 60 ∧
      { t with wth := { t.wth with delta := s.wth.delta } } = s) ∧
  (∀ (s : State) (n : Nat), s.w.up = false →
    exec (.thatchDeviationMeasure n) s = .next s ∧ exec .equivalentHourUpdate s = .next s ∧ exec .weatheringDailyValue s = .next s ∧
      (∀ (r : List RonMeas) (f : Vector Nat 4) (w : List (Nat × Int)), exec (.weatheringReplan r f w) s = .next s)) ∧
  (∀ (s : State) (r : List RonMeas) (f : Vector Nat 4) (w : List (Nat × Int)),
    s.tb.count.toNat < s.wth.planAt.toNat + 60000000000 → exec (.weatheringReplan r f w) s = .next s) ∧
  (∀ s : State, s.w.up = true → s.pwr.aoOn = true →
    ∃ t, exec .equivalentHourUpdate s = .next t ∧ t.wth.hours = s.wth.hours + accelNano s.pwr.die ∧
      t.wth.nextDt = s.wth.nextDt ∧ { t with wth := s.wth } = s) ∧
  (∀ s : State, s.gable.up = true → flashClosed s = false → ∃ t, exec .equivalentHourFlashCopy s = .next t ∧ t.flash.hours = s.wth.hours ∧
    { t with flash := { t.flash with hours := s.flash.hours } } = s) ∧
  (∀ s : State, (s.gable.up = false ∨ flashClosed s = true) → exec .equivalentHourFlashCopy s = .next s) ∧
  (∀ s : State, s.w.up = true → s.active.valid = true →
    ∃ t, exec .weatheringDailyValue s = .next t ∧ { t with wth := { t.wth with daily := s.wth.daily } } = s ∧
      (∀ m ∈ margins s, ∃ l, t.wth.daily.lookup (marginNo m.kind m.obj) = some l ∧
        l.getLast?.map Prod.fst = some (today s))) ∧
  (∀ (s : State) (cells : Vector (BitVec 8192) 6) (temp : Int), s.w.up = true → s.slate.readDone = true → tableStill s = false →
    firstDrift s.slate.bootCells cells = none → s.gable.up = false →
    ∃ t, exec (.slateRecheck cells temp) s = .next t ∧ t.slate.cells = cells ∧ hasFault t fcSlateDrift 0 = false ∧
      t.slate.drift = s.slate.drift) ∧
  (∀ (s : State) (cells : Vector (BitVec 8192) 6) (temp : Int) (b : Nat), s.w.up = true → s.slate.readDone = true →
    tableStill s = false → firstDrift s.slate.bootCells cells = some b → b < 65536 →
    ∃ t, exec (.slateRecheck cells temp) s = .next t ∧ t.slate.cells = cells ∧ hasFault t fcSlateDrift 0 = true ∧
      t.slate.drift.toNat % 65536 = b ∧ t.slate.bootCells = s.slate.bootCells) ∧
  (∀ (s : State) (ron : List RonMeas) (f : Vector Nat 4), s.w.up = true → s.mode ≠ .lull → s.active.valid = true →
    s.wth.planAt.toNat + 60000000000 ≤ s.tb.count.toNat →
    ∃ t, exec (.weatheringReplan ron f []) s = .next t ∧ t.wth.planAt = s.tb.count ∧
      (∃ p, t.wth.hist = (p :: s.wth.hist).take 144 ∧ (∀ a : Fin 4, p.flash[a] = s.wth.cur.flash[a] + f[a]) ∧
        (∀ k : Fin 56, p.ron[k] = max s.wth.cur.ron[k] (ronOf ron k)) ∧ p.off = s.wth.cur.off) ∧
      t.wth.dt = s.wth.dt ∧ t.wth.width = s.wth.width ∧
      t.wth.interval = s.wth.interval ∧ t.tick = s.tick ∧
      (cfgWth s.active.image = false → ∀ k : Fin 56, cfgDtTime s.active.image (k.val / 2) ≤ cfgDtMax s.active.image (k.val / 2) →
        t.wth.nextDt[k] = cfgDtTime s.active.image (k.val / 2)) ∧
      (cfgWth s.active.image = true → ∀ m : Fin 16, t.wth.nextWidth[m] ≤ max s.wth.nextWidth[m] (cfgWidthMax s.active.image m) ∧
        t.wth.nextWidth[m] ≤ s.wth.nextWidth[m] + 50 ∧
        (cfgWidth s.active.image m ≤ s.wth.nextWidth[m] → s.wth.nextWidth[m] ≤ cfgWidthMax s.active.image m →
          cfgWidth s.active.image m ≤ t.wth.nextWidth[m]))) ∧
  (∀ (s : State) (ron : List RonMeas) (f : Vector Nat 4) (m : Fin 16) (v : Int) (rest : List (Nat × Int)), s.w.up = true →
    s.active.valid = true → tableStill s = false → s.wth.planAt.toNat + 60000000000 ≤ s.tb.count.toNat →
    (v < cfgWidth s.active.image m ∨ (cfgWidthMax s.active.image m : Int) < v) →
    ∃ t, exec (.weatheringReplan ron f ((marginNo 4 m, v) :: rest)) s = .next t ∧ t.wth.nextWidth[m] = s.wth.nextWidth[m] ∧
      t.wth.rejected = true ∧ hasFault t fcMarginRejected 0 = true) ∧
  (∀ (s : State) (ron : List RonMeas) (f : Vector Nat 4) (m : Fin 16) (v : Nat) (rest : List (Nat × Int)), s.w.up = true →
    s.mode ≠ .lull → s.active.valid = true → s.wth.planAt.toNat + 60000000000 ≤ s.tb.count.toNat → cfgWidth s.active.image m ≤ v →
    v ≤ cfgWidthMax s.active.image m →
    ∃ t, exec (.weatheringReplan ron f ((marginNo 4 m, (v : Int)) :: rest)) s = .next t ∧ t.wth.nextWidth[m] = v) ∧
  (∀ (s : State) (m : Fin 16), s.mode.evaluates = true → (s.field.tpo[m].phase ≠ 0 →
      (applyMargins s).wth.width[m] = s.wth.width[m]) ∧
    (s.field.tpo[m].phase = 0 → (applyMargins s).wth.width[m] = s.wth.nextWidth[m])) ∧
  (∀ s : State, (applyMargins s).tick.centre = s.wth.nextCentre ∧ (applyMargins s).tick.half = 500 - s.wth.nextCentre.natAbs) ∧
  (∀ (l : List RonMeas) (k : Nat), (∀ x ∈ l, x.sw.val = k → x.ua < 50000) → ronOf l k = 0)

/-- Tier 1. After reset every held register has its reset value: IRQ_ENABLE, IND_ADDR and LULL_TRIG 0, the timer channels off, the CVU
control registers 0; all of them are legal, and the mailbox memory lists nothing. -/
def Obligations.ResetIsLegal : Prop :=
  legal (held State.reset) = true ∧ (∀ n : Fin 32, (tmuAt State.reset n).ctrl = 0) ∧ (∀ u : Fin 4, (cvuAt u State.reset).ctrl = 0) ∧
    State.reset.host.irqEn = 0 ∧ State.reset.host.indAddr = 0 ∧ State.reset.lull.trig.val = 0 ∧
    Memory.wf State.reset.mbx = true ∧ State.reset.mbx = [] ∧ State.reset.pending = [] ∧ State.reset.mode = .boot

/-- Tier 3. Whatever the command, a step keeps every reserved field of the held registers 0 and every field that a write may be refused for
at a value that is not refused (R37, R38, R234, R335), a timer channel 0 never chained among them, and a WIDTH of 0 only in a CVU_CTRL at
its reset value: no mode change, no LULL and no reset brings one into a reserved value. -/
def Obligations.StepKeepsHeldRegistersLegal : Prop :=
  ∀ s t : State, legal (held s) = true → step s = .next t → legal (held t) = true
end

