-- ==== Sys2Proof/Laws/Held.lean ====
section
/-! SUPPORT. The held registers (Safety.lean) under every shared operation that leaves them alone. -/

set_option linter.all false

namespace Sys2Proof.Laws

open Sys2Proof Sys2Proof.Machine Sys2Proof.Safety

/-- The held registers of a state written out. -/
@[simp] theorem held_mk (pending : List Instr) (free : Nat) (tb : Timebase) (tick : Tick) (tmu : Tmu) (host : HostIf) (mbx : List Host.Cell) (lull : Lull) (scrubs : W32) (mirror : Mirror) (buf : IndBuf) (ev : Events) (mode : Mode) (bootStep : Nat) (resetHeld : Bool) (resetCause : BitVec 8) (want : Option Mode) (hPend : Option Nat) (restart : Option RestartDue) (faults : List FaultEntry) (unlisted : List FaultEntry) (lockWin : Option LockWindow) (gableE : EngineSt) (n0 : EngineSt) (n1 : EngineSt) (w : EngineSt) (ridgeB : EngineSt) (gable : Gable) (flash : Flash) (active : Active) (slate : Slate) (bk : Backup) (pwr : Power) (wth : Weather) (ridge : Chan) (thatch : Chan) (pair : Pair) (tcm : Tcm) (thatchMem : ThatchMem) (laneP : LaneFc) (laneT : LaneFc) (field : FieldSt) (fa : Fa) (motion : Motion) (portA : PortSt) (portB : PortSt) (ptp : Ptp) (cas : Cascade) (cvu : Vector Cvu 4) :
    held (State.mk pending free tb tick tmu host mbx lull scrubs mirror buf ev mode bootStep resetHeld resetCause want hPend restart faults unlisted lockWin gableE n0 n1 w ridgeB gable flash active slate bk pwr wth ridge thatch pair tcm thatchMem laneP laneT field fa motion portA portB ptp cas cvu) =
      Held.mk host.irqEn host.indAddr lull.trig tmu.ch.toList (cvu.toList.map (fun c => c.ctrl)) := Eq.trans rfl rfl

/-- The held registers from their parts. -/
@[simp] theorem held_eta (s : State) :
    Held.mk s.host.irqEn s.host.indAddr s.lull.trig s.tmu.ch.toList (s.cvu.toList.map (fun c => c.ctrl)) = held s := Eq.trans rfl rfl

/-- A fold of steps that leave the held registers alone leaves them alone. -/
theorem held_foldl {α : Type} (f : State → α → State) (hf : ∀ t a, held (f t a) = held t) (l : List α) (s : State) :
    held (l.foldl f s) = held s := by
  induction l generalizing s with
  | nil => rfl
  | cons a l ih => simp [ih, hf]

/-- Either way. -/
@[simp] theorem held_ite (c : Prop) [Decidable c] (a b : State) :
    held (if c then a else b) = if c then held a else held b := apply_ite held c a b

/-- Either way, in a pair. -/
@[simp] theorem fst_ite {β : Type} (c : Prop) [Decidable c] (a b : State × β) :
    (if c then a else b).1 = if c then a.1 else b.1 := apply_ite Prod.fst c a b

@[simp] theorem held_irqSet (k : Nat) (s : State) : held (irqSet k s) = held s := rfl
@[simp] theorem held_writeEvent (kind : Nat) (code : BitVec 16) (arg : W32) (s : State) : held (writeEvent kind code arg s) = held s :=
  rfl
@[simp] theorem held_trigMatch (entered : Bool) (code : BitVec 16) (arg : W32) (s : State) : held (trigMatch entered code arg s) = held s := by simp [trigMatch]
@[simp] theorem held_listFault (e : FaultEntry) (s : State) : held (listFault e s) = held s := by simp [listFault]
@[simp] theorem held_dropEvent (s : State) : held (dropEvent s) = held s := by simp [dropEvent]
@[simp] theorem held_flushLost (s : State) : held (flushLost s) = held s := by simp [flushLost]
@[simp] theorem held_postEvent (kind : Nat) (code : BitVec 16) (arg : W32) (s : State) : held (postEvent kind code arg s) = held s := by
  simp [postEvent]
@[simp] theorem held_logAppend (f : LogFields) (c : Nat) (prev : List Byte) (s : State) : held (logAppend f c prev s) = held s :=
  rfl
@[simp] theorem held_logNext (f : LogFields) (s : State) : held (logNext f s) = held s := by rfl
@[simp] theorem held_logWrite (f : LogFields) (s : State) : held (logWrite f s) = held s := by simp [logWrite]
@[simp] theorem held_logEvent (code : BitVec 16) (arg : List Byte) (s : State) : held (logEvent code arg s) = held s := by
  simp [logEvent]
@[simp] theorem held_setLockFlag (s : State) : held (setLockFlag s) = held s := rfl
@[simp] theorem held_classH (code : BitVec 16) (arg : W32) (s : State) : held (classH code arg s) = held s := by simp [classH]
@[simp] theorem held_foundAgain (code : BitVec 16) (s : State) : held (foundAgain code s) = held s := by simp [foundAgain]
@[simp] theorem held_raiseW (warning : Bool) (code : BitVec 16) (arg : W32) (s : State) : held (raiseW warning code arg s) = held s := by
  unfold raiseW; (repeat' split) <;> simp <;> (repeat' split) <;> simp
@[simp] theorem held_raise (code : BitVec 16) (arg : Nat) (s : State) : held (raise code arg s) = held s := by simp [raise]
@[simp] theorem held_dropFault (e : FaultEntry) (s : State) : held (dropFault e s) = held s := by simp [dropFault]
@[simp] theorem held_clearWhere (p : FaultEntry → Bool) (s : State) : held (clearWhere p s) = held s := by
  simp [clearWhere, held_foldl]
@[simp] theorem held_clearFault (code : BitVec 16) (obj : Nat) (s : State) : held (clearFault code obj s) = held s := by
  simp [clearFault]
@[simp] theorem held_setFault (cond : Bool) (code : BitVec 16) (arg : Nat) (s : State) : held (setFault cond code arg s) = held s := by
  simp [setFault]
@[simp] theorem held_setMode (m : Mode) (s : State) : held (setMode m s) = held s := by simp [setMode]
@[simp] theorem held_sealCheck (s : State) : held (sealCheck s) = held s := by simp [sealCheck]
@[simp] theorem held_slateEvent (kind bitNo : Nat) (s : State) : held (slateEvent kind bitNo s) = held s := by simp [slateEvent]
@[simp] theorem held_slateLatch (s : State) : held (slateLatch s) = held s := rfl
@[simp] theorem held_vppCheck (mv : Nat) (s : State) : held (vppCheck mv s) = held s := by simp [vppCheck]
@[simp] theorem held_slateHard (s : State) : held (slateHard s) = held s := by simp [slateHard]
@[simp] theorem held_slateFaults (old : SlateWord) (s : State) : held (slateFaults old s) = held s := by
  simp [slateFaults, held_foldl]
@[simp] theorem held_testPortBits (l : List (Fin 8192)) (s : State) : held (testPortBits l s) = held s := by simp [testPortBits, held_foldl]
@[simp] theorem held_logScan (s : State) : held (logScan s) = held s := by simp [logScan]
@[simp] theorem held_lplusAt (mv : Nat) (s : State) : held (lplusAt mv s) = held s := by rfl
@[simp] theorem held_bootStep2 (env : BootEnv) (s : State) : held (bootStep2 env s) = held s := by simp [bootStep2]
@[simp] theorem held_bootStep3 (env : BootEnv) (s : State) : held (bootStep3 env s) = held s := by simp [bootStep3]
@[simp] theorem held_bootStep4 (bankB : Bool) (b : Bank) (attempts : Nat) (s : State) : held (bootStep4 bankB b attempts s) = held s :=
  rfl
@[simp] theorem held_portDark (p : NetPort) (s : State) : held (portDark p s) = held s := by unfold portDark; split <;> simp
@[simp] theorem held_domainStops (dom : Nat) (s : State) : held (domainStops dom s) = held s := by unfold domainStops; split <;> simp
@[simp] theorem held_regulatorEvt (s : State) : held (regulatorEvt s) = held s := by rfl
@[simp] theorem held_regulatorAct (dom : Nat) (s : State) : held (regulatorAct dom s) = held s := by unfold regulatorAct; split <;> simp
@[simp] theorem held_domainOff (s : State) (dom : Nat) : held (domainOff s dom) = held s := by simp [domainOff]
@[simp] theorem held_bootRegulators (bad : BitVec 10) (s : State) : held (bootRegulators bad s) = held s := by
  unfold bootRegulators
  repeat' split
  all_goals try simp [held_foldl]
  all_goals repeat' split
  all_goals try simp [held_foldl]
  all_goals repeat' split
  all_goals try simp [held_foldl]

@[simp] theorem held_loadConfig (s : State) : held (loadConfig s) = held s := by
  unfold loadConfig
  repeat' split
  all_goals try simp [held_foldl]
  all_goals repeat' split
  all_goals try simp [held_foldl]
  all_goals repeat' split
  all_goals try simp [held_foldl]

@[simp] theorem held_vbatCheck (mv : Nat) (s : State) : held (vbatCheck mv s) = held s := by simp [vbatCheck]
@[simp] theorem held_backoffRestart (s : State) : held (backoffRestart s) = held s := by simp [backoffRestart]
@[simp] theorem held_timeFaults (s : State) : held (timeFaults s) = held s := by simp [timeFaults]
@[simp] theorem held_timeStart (s : State) : held (timeStart s) = held s := by simp [timeStart]
@[simp] theorem held_setGableUp (b : Bool) (s : State) : held (setGableUp b s) = held s := by simp [setGableUp]
@[simp] theorem held_loadMargins (s : State) : held (loadMargins s) = held s := by simp [loadMargins]
@[simp] theorem held_gableBack (s : State) : held (gableBack s) = held s := by simp [gableBack, held_foldl]
@[simp] theorem held_startSelftest (s : State) : held (startSelftest s) = held s := by simp [startSelftest]
@[simp] theorem held_setSession (p : Port) (x : Session) (s : State) : held (setSession p x s) = held s := by
  unfold setSession; split <;> simp
@[simp] theorem held_countFailure (s : State) : held (countFailure s) = held s := by simp [countFailure]
@[simp] theorem held_postRsp (p : Port) (msg : List Byte) (st : Byte) (s : State) : held (postRsp p msg st s) = held s := by
  unfold postRsp; split <;> simp
@[simp] theorem held_keepRsp (p : Port) (k : Kept) (s : State) : held (keepRsp p k s) = held s := by
  unfold keepRsp; split <;> simp
@[simp] theorem held_dequeue (code : BitVec 16) (r : Req) (s : State) : held (dequeue code r s) = held s := rfl
@[simp] theorem held_logCommand (code : BitVec 16) (r : Req) (level : BitVec 2) (a : Answer) (s : State) : held (logCommand code r level a s) = held s := by simp [logCommand]
@[simp] theorem held_finishOne (code : BitVec 16) (r : Req) (level : BitVec 2) (a : Answer) (s : State) : held (finishOne code r level a s) = held s := by simp [finishOne]
@[simp] theorem held_replyOnly (p : Port) (tag code : BitVec 16) (st : Byte) (s : State) : held (replyOnly p tag code st s) = held s := by
  unfold replyOnly
  repeat' split
  all_goals try simp [held_foldl]
  all_goals repeat' split
  all_goals try simp [held_foldl]
  all_goals repeat' split
  all_goals try simp [held_foldl]

@[simp] theorem held_takeNow (p : Port) (m : List Byte) (s : State) : held (takeNow p m s) = held s := by
  unfold takeNow
  repeat' split
  all_goals try simp [held_foldl]
  all_goals repeat' split
  all_goals try simp [held_foldl]
  all_goals repeat' split
  all_goals try simp [held_foldl]

@[simp] theorem held_takeRequest (p : Port) (m : List Byte) (s : State) : held (takeRequest p m s) = held s := by
  unfold takeRequest
  repeat' split
  all_goals try simp [held_foldl]
  all_goals repeat' split
  all_goals try simp [held_foldl]
  all_goals repeat' split
  all_goals try simp [held_foldl]

@[simp] theorem held_settleMbx (p : Port) (s : State) : held (settleMbx p s) = held s := by unfold settleMbx; split <;> simp
@[simp] theorem held_finish (code : BitVec 16) (r : Req) (level : BitVec 2) (a : Answer) (s : State) : held (finish code r level a s) = held s := by
  simp [finish]
@[simp] theorem held_touch (p : Port) (s : State) : held (touch p s) = held s := by simp [touch]
@[simp] theorem held_occupy (code : BitVec 16) (r : Req) (s : State) : held (occupy code r s) = held s := by simp [occupy]
@[simp] theorem held_refuseFlags (code : BitVec 16) (r : Req) (s : State) : held (refuseFlags code r s) = held s := by
  simp [refuseFlags]
theorem held_turnedAway {code : BitVec 16} {r : Req} {s u : State} (h : turnedAway code r s = some u) : held u = held s := by
  unfold turnedAway at h; (repeat' split at h) <;> simp at h <;> subst h <;> simp
@[simp] theorem held_heldBody (code : BitVec 16) (r : Req) (body : State → State × Answer) (s : State) (h_body : ∀ t, held (body t).1 = held t) : held (heldBody code r body s).1 = held s := by simp [heldBody, h_body]
@[simp] theorem held_heldEnd (code : BitVec 16) (r : Req) (body : State → State × Answer) (s : State) (h_body : ∀ t, held (body t).1 = held t) : held (heldEnd code r body s) = held s := by
  unfold heldEnd
  repeat' split
  all_goals try simp [held_foldl, h_body]
  all_goals repeat' split
  all_goals try simp [held_foldl, h_body]
  all_goals repeat' split
  all_goals try simp [held_foldl, h_body]

@[simp] theorem held_noPayload (r : Req) (body : State → State × Answer) (s : State) (h_body : ∀ t, held (body t).1 = held t) : held (noPayload r body s).1 = held s := by
  unfold noPayload
  repeat' split
  all_goals try simp [held_foldl, h_body]
  all_goals repeat' split
  all_goals try simp [held_foldl, h_body]
  all_goals repeat' split
  all_goals try simp [held_foldl, h_body]

@[simp] theorem held_loginAnswer (p : Port) (st : Byte) (level : Nat) (s : State) : held (loginAnswer p st level s).1 = held s := by
  unfold loginAnswer
  repeat' split
  all_goals try simp [held_foldl]
  all_goals repeat' split
  all_goals try simp [held_foldl]
  all_goals repeat' split
  all_goals try simp [held_foldl]

@[simp] theorem held_clearFailures (s : State) : held (clearFailures s) = held s := by
  unfold clearFailures
  repeat' split
  all_goals try simp [held_foldl]
  all_goals repeat' split
  all_goals try simp [held_foldl]
  all_goals repeat' split
  all_goals try simp [held_foldl]

@[simp] theorem held_storePassword (level : Nat) (pw : List Byte) (s : State) : held (storePassword level pw s) = held s := by
  unfold storePassword
  repeat' split
  all_goals try simp [held_foldl]
  all_goals repeat' split
  all_goals try simp [held_foldl]
  all_goals repeat' split
  all_goals try simp [held_foldl]

@[simp] theorem held_setPasswordBody (r : Req) (flashOk : Bool) (s : State) : held (setPasswordBody r flashOk s).1 = held s := by
  simp [setPasswordBody]
@[simp] theorem held_clearLockoutOpen (r : Req) (s : State) : held (clearLockoutOpen r s) = held s := by
  unfold clearLockoutOpen
  repeat' split
  all_goals try simp [held_foldl]
  all_goals repeat' split
  all_goals try simp [held_foldl]
  all_goals repeat' split
  all_goals try simp [held_foldl]

@[simp] theorem held_endClearLockout (w : LockWindow) (st : Byte) (s : State) : held (endClearLockout w st s) = held s := by
  simp [endClearLockout]
@[simp] theorem held_setCand (c : Option Candidate) (s : State) : held (setCand c s) = held s := rfl
@[simp] theorem held_owned (r : Req) (body : State → State × Answer) (s : State) (h_body : ∀ t, held (body t).1 = held t) : held (owned r body s).1 = held s := by
  unfold owned
  repeat' split
  all_goals try simp [held_foldl, h_body]
  all_goals repeat' split
  all_goals try simp [held_foldl, h_body]
  all_goals repeat' split
  all_goals try simp [held_foldl, h_body]

@[simp] theorem held_cfgBeginBody (r : Req) (s : State) : held (cfgBeginBody r s).1 = held s := by
  unfold cfgBeginBody
  repeat' split
  all_goals try simp [held_foldl]
  all_goals repeat' split
  all_goals try simp [held_foldl]
  all_goals repeat' split
  all_goals try simp [held_foldl]

@[simp] theorem held_cfgBlockBody (r : Req) (s : State) : held (cfgBlockBody r s).1 = held s := by
  unfold cfgBlockBody
  repeat' split
  all_goals try simp [held_foldl]
  all_goals repeat' split
  all_goals try simp [held_foldl]
  all_goals repeat' split
  all_goals try simp [held_foldl]

@[simp] theorem held_refuseCand (st : Byte) (payload : List Byte) (s : State) : held (refuseCand st payload s).1 = held s := by
  unfold refuseCand
  repeat' split
  all_goals try simp [held_foldl]
  all_goals repeat' split
  all_goals try simp [held_foldl]
  all_goals repeat' split
  all_goals try simp [held_foldl]

@[simp] theorem held_closeCand (c : Candidate) (s : State) : held (closeCand c s).1 = held s := by
  unfold closeCand
  repeat' split
  all_goals try simp [held_foldl]
  all_goals repeat' split
  all_goals try simp [held_foldl]
  all_goals repeat' split
  all_goals try simp [held_foldl]

@[simp] theorem held_cfgEndBody (r : Req) (s : State) : held (cfgEndBody r s).1 = held s := by
  unfold cfgEndBody
  repeat' split
  all_goals try simp [held_foldl]
  all_goals repeat' split
  all_goals try simp [held_foldl]
  all_goals repeat' split
  all_goals try simp [held_foldl]

@[simp] theorem held_acceptBody (r : Req) (s : State) : held (acceptBody r s).1 = held s := by
  unfold acceptBody
  repeat' split
  all_goals try simp [held_foldl]
  all_goals repeat' split
  all_goals try simp [held_foldl]
  all_goals repeat' split
  all_goals try simp [held_foldl]

@[simp] theorem held_verifyStartBody (r : Req) (s : State) : held (verifyStartBody r s).1 = held s := by
  unfold verifyStartBody
  repeat' split
  all_goals try simp [held_foldl]
  all_goals repeat' split
  all_goals try simp [held_foldl]
  all_goals repeat' split
  all_goals try simp [held_foldl]

@[simp] theorem held_verifyReportBody (r : Req) (s : State) : held (verifyReportBody r s).1 = held s := by
  unfold verifyReportBody
  repeat' split
  all_goals try simp [held_foldl]
  all_goals repeat' split
  all_goals try simp [held_foldl]
  all_goals repeat' split
  all_goals try simp [held_foldl]

@[simp] theorem held_commitEntry (code : BitVec 16) (r : Req) (kind : Nat) (before after arg : List Byte) (s : State) : held (commitEntry code r kind before after arg s) = held s := by
  unfold commitEntry
  repeat' split
  all_goals try simp [held_foldl]
  all_goals repeat' split
  all_goals try simp [held_foldl]
  all_goals repeat' split
  all_goals try simp [held_foldl]

@[simp] theorem held_restartDue (k : RestartKind) (p : Port) (s : State) : held (restartDue k p s) = held s := rfl
@[simp] theorem held_flashSteps (code : BitVec 16) (r : Req) (k : Nat) (before after arg : List Byte) (bank : State → State) (s : State) (h_bank : ∀ t, held (bank t) = held t) : held (flashSteps code r k before after arg bank s) = held s := by simp [flashSteps, h_bank]
@[simp] theorem held_setCfgInactive (b : Bank) (s : State) : held (setCfgInactive b s) = held s := by rfl
@[simp] theorem held_commitSteps (r : Req) (run : FlashRun) (c : Candidate) (s : State) : held (commitSteps r run c s).1 = held s := by
  unfold commitSteps
  repeat' split
  all_goals try simp [held_foldl]
  all_goals repeat' split
  all_goals try simp [held_foldl]
  all_goals repeat' split
  all_goals try simp [held_foldl]

@[simp] theorem held_commitBody (r : Req) (run : FlashRun) (s : State) : held (commitBody r run s).1 = held s := by
  unfold commitBody
  repeat' split
  all_goals try simp [held_foldl]
  all_goals repeat' split
  all_goals try simp [held_foldl]
  all_goals repeat' split
  all_goals try simp [held_foldl]

@[simp] theorem held_setFwInactive (b : Bank) (s : State) : held (setFwInactive b s) = held s := rfl
@[simp] theorem held_fwBlockBody (r : Req) (flashOk : Bool) (s : State) : held (fwBlockBody r flashOk s).1 = held s := by
  simp [fwBlockBody]
@[simp] theorem held_activateSteps (r : Req) (run : FlashRun) (s : State) : held (activateSteps r run s).1 = held s := by
  have h (k : Nat) (b : Bank) (t : State) : held ((if k < 3 then id else setFwInactive b) t) = held t := by split <;> rfl
  unfold activateSteps
  cases run <;> simp [h]
  exact held_flashSteps _ _ _ _ _ _ _ _ (fun _ => rfl)

@[simp] theorem held_fwActivateBody (r : Req) (run : FlashRun) (s : State) : held (fwActivateBody r run s).1 = held s := by simp [fwActivateBody]
@[simp] theorem held_slateReadBody (r : Req) (s : State) : held (slateReadBody r s).1 = held s := by
  unfold slateReadBody
  repeat' split
  all_goals try simp [held_foldl]
  all_goals repeat' split
  all_goals try simp [held_foldl]
  all_goals repeat' split
  all_goals try simp [held_foldl]

@[simp] theorem held_programCells (b pass : Nat) (s : State) : held (programCells b pass s) = held s := by simp [programCells]
@[simp] theorem held_cutPulse (code : BitVec 16) (r : Req) (b : Nat) (s : State) : held (cutPulse code r b s).1 = held s := by rfl
@[simp] theorem held_setProg (result rounds b : Nat) (s : State) : held (setProg result rounds b s) = held s := by simp [setProg]
@[simp] theorem held_programBody (r : Req) (p : SlatePulse) (x : State) : held (programBody r p x).1 = held x := by
  unfold programBody
  repeat' split
  all_goals try simp [held_foldl]
  all_goals repeat' split
  all_goals try simp [held_foldl]
  all_goals repeat' split
  all_goals try simp [held_foldl]

@[simp] theorem held_slateLockBody (r : Req) (p : SlatePulse) (x : State) : held (slateLockBody r p x).1 = held x := by simp [slateLockBody]
@[simp] theorem held_doorbellReq (s : State) : held (doorbellReq s) = held s := by simp [doorbellReq]
@[simp] theorem held_doorbellAck (s : State) : held (doorbellAck s) = held s := by
  unfold doorbellAck; split <;> (try split) <;> simp
@[simp] theorem held_doorbellEvt (n : BitVec 8) (s : State) : held (doorbellEvt n s) = held s := by simp [doorbellEvt]
@[simp] theorem held_setBooted (s : State) : held (setBooted s) = held s := rfl
@[simp] theorem held_openWindows (s : State) : held (openWindows s) = held s := by rfl
@[simp] theorem held_endSelftest (s : State) : held (endSelftest s) = held s := by rfl
@[simp] theorem held_selftestPassed (s : State) : held (selftestPassed s) = held s := rfl
@[simp] theorem held_restoreUp (c : ClkStep) (s : State) : held (restoreUp c s) = held s := by simp [restoreUp]
@[simp] theorem held_lplusSeen (mv : Nat) (s : State) : held (lplusSeen mv s) = held s := by simp [lplusSeen]
@[simp] theorem held_fieldOff (s : State) : held (fieldOff s) = held s := by rfl
@[simp] theorem held_channelsOff (s : State) : held (channelsOff s) = held s := by rfl
@[simp] theorem held_networksOff (s : State) : held (networksOff s) = held s := by rfl
@[simp] theorem held_shutdownLog (s : State) : held (shutdownLog s) = held s := by simp [shutdownLog]
@[simp] theorem held_shutdownDone (s : State) : held (shutdownDone s) = held s := by simp [shutdownDone]
@[simp] theorem held_gableStop (s : State) : held (gableStop s) = held s := by simp [gableStop]
@[simp] theorem held_setEngine (e : Engine) (x : EngineSt) (s : State) : held (setEngine e x s) = held s := by
  unfold setEngine; split <;> simp
@[simp] theorem held_engineMiss (e : Engine) (s : State) : held (engineMiss e s) = held s := by simp [engineMiss]
@[simp] theorem held_setLane (l : Lane) (x : LaneFc) (s : State) : held (setLane l x s) = held s := by
  unfold setLane; split <;> simp
@[simp] theorem held_setChan (l : Lane) (x : Chan) (s : State) : held (setChan l x s) = held s := by
  unfold setChan; split <;> simp
@[simp] theorem held_lanesMeet (s : State) : held (lanesMeet s) = held s := by unfold lanesMeet; split <;> simp
@[simp] theorem held_takeNew (s : State) : held (takeNew s) = held s := by simp [takeNew]
@[simp] theorem held_startInbound (lane : Lane) (det : Nat) (s : State) : held (startInbound lane det s) = held s := by
  simp [startInbound]
@[simp] theorem held_judgeFrame (lane : Lane) (f : OutFrame) (s : State) : held (judgeFrame lane f s) = held s := by
  simp [judgeFrame]
@[simp] theorem held_turnOff (lane : Lane) (o t : Nat) (s : State) : held (turnOff lane o t s) = held s := rfl
@[simp] theorem held_commandedOffs (lane : Lane) (old s : State) : held (commandedOffs lane old s) = held s := by
  simp [commandedOffs, held_foldl]
@[simp] theorem held_inpUpd (n : Nat) (g : InFc → InFc) (s : State) : held (inpUpd n g s) = held s := rfl
@[simp] theorem held_supUpd (k : Nat) (g : Supply → Supply) (s : State) : held (supUpd k g s) = held s := rfl
@[simp] theorem held_chanRelease (lane : Lane) (s : State) : held (chanRelease lane s) = held s := by simp [chanRelease]
@[simp] theorem held_tpoUpd (m : Nat) (g : TpoFc → TpoFc) (s : State) : held (tpoUpd m g s) = held s := rfl
@[simp] theorem held_inpAll (p : Nat → Bool) (g : Nat → InFc → InFc) (s : State) : held (inpAll p g s) = held s := rfl
@[simp] theorem held_holdFails (m : Nat) (high : Bool) (onInHold : BitVec 48) (s : State) : held (holdFails m high onInHold s) = held s := by
  simp [holdFails]
@[simp] theorem held_stuckHigh (m low : Nat) (high : Bool) (s : State) : held (stuckHigh m low high s) = held s := by
  simp [stuckHigh]
@[simp] theorem held_raiseFound (cfg : Config.Image) (f : FaultOf) (s : State) : held (raiseFound cfg f s) = held s := by
  simp [raiseFound]
@[simp] theorem held_syncFaults (s : State) : held (syncFaults s) = held s := by simp [syncFaults, held_foldl]
@[simp] theorem held_supplyFault (k st volt : Nat) (s : State) : held (supplyFault k st volt s) = held s := by simp [supplyFault]
@[simp] theorem held_supplyFaults (c : Chan) (s : State) : held (supplyFaults c s) = held s := by simp [supplyFaults, held_foldl]
@[simp] theorem held_restartTpos (c : Chan) (s : State) : held (restartTpos c s) = held s := rfl
@[simp] theorem held_anLostEvents (old new : Chan) (s : State) : held (anLostEvents old new s) = held s := rfl
@[simp] theorem held_evaluate (lane : Lane) (s : State) : held (evaluate lane s) = held s := by simp [evaluate, held_foldl]
@[simp] theorem held_laneFault (lane : Lane) (s : State) : held (laneFault lane s) = held s := by simp [laneFault]
@[simp] theorem held_takeFrame (lane : Lane) (f : InFrame) (s : State) : held (takeFrame lane f s) = held s := by simp [takeFrame]
@[simp] theorem held_exchange (fp ft : BitVec 8) (s : State) : held (exchange fp ft s) = held s := rfl
@[simp] theorem held_captureMis (fp ft : BitVec 8) (p t : Vector W32 8) (s : State) : held (captureMis fp ft p t s) = held s := by
  simp [captureMis]
@[simp] theorem held_nonSafe (s : State) : held (nonSafe s) = held s := by simp [nonSafe, held_foldl]
@[simp] theorem held_vectorStep (ridgeErr thatchErr : BitVec 256) (s : State) : held (vectorStep ridgeErr thatchErr s) = held s := by
  unfold vectorStep
  repeat' split
  all_goals try simp [held_foldl]
  all_goals repeat' split
  all_goals try simp [held_foldl]
  all_goals repeat' split
  all_goals try simp [held_foldl]

@[simp] theorem held_compareStep (ridgeErr thatchErr : BitVec 256) (ridgeReqBad thatchReqBad : Bool) (s : State) : held (compareStep ridgeErr thatchErr ridgeReqBad thatchReqBad s) = held s := by
  simp [compareStep]
@[simp] theorem held_freezeRidge (s : State) : held (freezeRidge s) = held s := rfl
@[simp] theorem held_setTcm (m : TcmId) (l : List Host.Cell) (s : State) : held (setTcm m l s) = held s := by
  unfold setTcm; split <;> simp
@[simp] theorem held_tcmUpset (m : TcmId) (addr : Nat) (flips : Byte) (s : State) : held (tcmUpset m addr flips s) = held s := by
  simp [tcmUpset]
@[simp] theorem held_tcmDed (m : TcmId) (addr : Nat) (s : State) : held (tcmDed m addr s) = held s := by simp [tcmDed]
@[simp] theorem held_splitBody (r : Req) (crcEqual : Bool) (s : State) : held (splitBody r crcEqual s).1 = held s := by
  unfold splitBody; split <;> simp
@[simp] theorem held_joinBody (r : Req) (crcEqual : Bool) (s : State) : held (joinBody r crcEqual s).1 = held s := by
  unfold joinBody
  repeat' split
  all_goals try simp [held_foldl]
  all_goals repeat' split
  all_goals try simp [held_foldl]
  all_goals repeat' split
  all_goals try simp [held_foldl]

@[simp] theorem held_splitAnswer (a : Answer) (s : State) : held (splitAnswer a s) = held s := by
  unfold splitAnswer
  repeat' split
  all_goals try simp [held_foldl]
  all_goals repeat' split
  all_goals try simp [held_foldl]
  all_goals repeat' split
  all_goals try simp [held_foldl]

@[simp] theorem held_splitLoad (s : State) : held (splitLoad s) = held s := by simp [splitLoad]
@[simp] theorem held_joinInstr (s : State) : held (joinInstr s) = held s := rfl
@[simp] theorem held_joinData (s : State) : held (joinData s) = held s := by simp [joinData]
@[simp] theorem held_splitEnd (s : State) : held (splitEnd s) = held s := by unfold splitEnd; split <;> simp
@[simp] theorem held_splitBoundary (s : State) : held (splitBoundary s) = held s := by unfold splitBoundary; split <;> simp
@[simp] theorem held_splitOvertaken (s : State) : held (splitOvertaken s) = held s := by simp [splitOvertaken]
@[simp] theorem held_motionBoundary (s : State) : held (motionBoundary s) = held s := by simp [motionBoundary]
@[simp] theorem held_setPort (p : NetPort) (x : PortSt) (s : State) : held (setPort p x s) = held s := by
  unfold setPort; split <;> simp
@[simp] theorem held_sendOn (p : NetPort) (m : List Byte) (s : State) : held (sendOn p m s) = held s := by simp [sendOn]
@[simp] theorem held_netEvent (p : NetPort) (k : Nat) (s : State) : held (netEvent p k s) = held s := by
  unfold netEvent; split <;> simp
@[simp] theorem held_linkFaults (s : State) : held (linkFaults s) = held s := by simp [linkFaults]
@[simp] theorem held_agreeFault (x : Member) (run : Nat) (code : BitVec 16) (m : Nat) (s : State) : held (agreeFault x run code m s) = held s := by
  simp [agreeFault]
@[simp] theorem held_casFaults (m : Nat) (s : State) : held (casFaults m s) = held s := by simp [casFaults]
@[simp] theorem held_ptpHoldover (s : State) : held (ptpHoldover s) = held s := rfl
@[simp] theorem held_casLead (m : Fin 8) (s : State) : held (casLead m s) = held s := by simp [casLead]
@[simp] theorem held_casElect (s : State) : held (casElect s) = held s := by unfold casElect; split <;> simp
@[simp] theorem held_casBlock (s : State) : held (casBlock s) = held s := by simp [casBlock]
@[simp] theorem held_casStep (s : State) : held (casStep s) = held s := by simp [casStep, held_foldl]
@[simp] theorem held_casSend (typ id : Nat) (seq : W32) (payload : List Byte) (s : State) : held (casSend typ id seq payload s) = held s := by
  simp [casSend]
@[simp] theorem held_ptpSend (p : NetPort) (event : Bool) (m : List Byte) (s : State) : held (ptpSend p event m s) = held s := by
  simp [ptpSend]
@[simp] theorem held_rtcSet (s : State) : held (rtcSet s) = held s := by unfold rtcSet; split <;> simp
@[simp] theorem held_warnFault (was : BitVec 2) (offset : Int) (s : State) : held (warnFault was offset s) = held s := by
  simp [warnFault]
@[simp] theorem held_dropSilent (s : State) : held (dropSilent s) = held s := by simp [dropSilent]
@[simp] theorem held_connClears (k : Nat) (n : Conn) (s : State) : held (connClears k n s) = held s := by simp [connClears]
@[simp] theorem held_connSync (k : Nat) (r : Conn × List (BitVec 16)) (s : State) : held (connSync k r s) = held s := by
  simp [connSync, held_foldl]
@[simp] theorem held_phase3Faults (cfg : Config.Image) (q : Phase3) (s : State) : held (phase3Faults cfg q s) = held s := by
  simp [phase3Faults, held_foldl]
@[simp] theorem held_produce (cfg : Config.Image) (s : State) : held (produce cfg s) = held s := by simp [produce]
@[simp] theorem held_gableRefresh (s : State) : held (gableRefresh s) = held s := by simp [gableRefresh]
@[simp] theorem held_bothConns (k : Nat) (g : Conn → Conn × List (BitVec 16)) (s : State) : held (bothConns k g s) = held s := by
  simp [bothConns]
@[simp] theorem held_takeTable (wrong : List (Nat × Int)) (s : State) : held (takeTable wrong s) = held s := by simp [takeTable]
@[simp] theorem held_exhaust (m : Margin) (s : State) : held (exhaust m s) = held s := by simp [exhaust]
@[simp] theorem held_wthRefresh (s : State) : held (wthRefresh s) = held s := by simp [wthRefresh]
@[simp] theorem held_applyMargins (s : State) : held (applyMargins s) = held s := by simp [applyMargins]
@[simp] theorem held_weatherBody (r : Req) (s : State) : held (weatherBody r s).1 = held s := by simp [weatherBody]
@[simp] theorem held_moveWindows (s : State) : held (moveWindows s) = held s := by simp [moveWindows]
@[simp] theorem held_thatchMeasure (cycles : Nat) (s : State) : held (thatchMeasure cycles s) = held s := by simp [thatchMeasure]
@[simp] theorem held_loadBoth (s : State) : held (loadBoth s) = held s := rfl
@[simp] theorem held_verifyLoad (s : State) : held (verifyLoad s) = held s := by unfold verifyLoad; split <;> simp
@[simp] theorem held_enterMode (m : Mode) (s : State) : held (enterMode m s) = held s := by simp [enterMode]
@[simp] theorem held_enterLockout (s : State) : held (enterLockout s) = held s := by simp [enterLockout]
@[simp] theorem held_overtake (s : State) : held (overtake s) = held s := by simp [overtake]
@[simp] theorem held_modeStep (s : State) : held (modeStep s) = held s := by
  unfold modeStep
  repeat' split
  all_goals try simp [held_foldl]
  all_goals repeat' split
  all_goals try simp [held_foldl]
  all_goals repeat' split
  all_goals try simp [held_foldl]

@[simp] theorem held_framesOut (s : State) : held (framesOut s) = held s := rfl
@[simp] theorem held_refreshBuf (s : State) : held (refreshBuf s) = held s := rfl
@[simp] theorem held_casLatch (s : State) : held (casLatch s) = held s := rfl
@[simp] theorem held_lockAckStep (s : State) : held (lockAckStep s) = held s := by unfold lockAckStep; split <;> simp
@[simp] theorem held_verifyTick (s : State) : held (verifyTick s) = held s := by unfold verifyTick; split <;> simp
@[simp] theorem held_shutdownB1 (s : State) : held (shutdownB1 s) = held s := by unfold shutdownB1; split <;> simp
@[simp] theorem held_expire (typs : List Nat) (g : Expiry) (k : Nat) (s : State) : held (expire typs g k s) = held s := by
  unfold expire; (repeat' split) <;> simp [held_foldl]
@[simp] theorem held_lullLock (s : State) : held (lullLock s) = held s := by simp [lullLock]
@[simp] theorem held_freezeEngines (s : State) : held (freezeEngines s) = held s := rfl
@[simp] theorem held_lullLevel (s : State) : held (lullLevel s) = held s := rfl

/-- A mailbox command leaves them alone if its effect does. -/
theorem held_serve (code : BitVec 16) (r : Req) (body : State → State × Answer) (s : State)
    (h_body : ∀ t, held (body t).1 = held t) : held (serve code r body s) = held s := by
  unfold serve
  split
  · rfl
  split
  · simp
  dsimp only
  split
  · next h => simp [held_turnedAway h]
  split
  · simp
  split <;> simp [h_body]

end Sys2Proof.Laws
end

