-- ==== Sys2Proof/Laws/Memory.lean ====
section
/-! SUPPORT. The mailbox memory keeps its canonical form. -/

namespace Sys2Proof.Laws

open Sys2Proof Sys2Proof.Machine

/-- A list in canonical form from a higher address on is so from a lower one on. -/
theorem wfFrom_mono {lo hi : Nat} (m : List Host.Cell) (h : lo ≤ hi) (w : Memory.wfFrom hi m = true) :
    Memory.wfFrom lo m = true := by
  cases m with
  | nil => rfl
  | cons c t => simp only [Memory.wfFrom, Bool.and_eq_true, decide_eq_true_eq] at w ⊢; exact ⟨⟨by omega, w.1.2⟩, w.2⟩

/-- A byte written at or above the bound keeps the form. -/
theorem memWrite_wfFrom (m : List Host.Cell) (a : Nat) (b : Byte) :
    ∀ lo, lo ≤ a → Memory.wfFrom lo m = true → Memory.wfFrom lo (memWrite m a b) = true := by
  induction m with
  | nil => intro lo h _; unfold memWrite; split <;> simp_all [Memory.wfFrom]
  | cons c t ih =>
    intro lo h w
    have w' := w
    simp only [Memory.wfFrom, Bool.and_eq_true, decide_eq_true_eq] at w
    unfold memWrite
    (repeat' split)
    · simp only [Memory.wfFrom, Bool.and_eq_true, decide_eq_true_eq]; exact ⟨w.1, ih _ (by omega) w.2⟩
    · exact wfFrom_mono _ (by omega) w.2
    · rename_i _ e nz; simp only [Memory.wfFrom, Bool.and_eq_true, decide_eq_true_eq]
      exact ⟨⟨h, by simpa using nz⟩, e ▸ w.2⟩
    · exact w'
    · rename_i nz; simp only [Memory.wfFrom, Bool.and_eq_true, decide_eq_true_eq]
      exact ⟨⟨h, by simpa using nz⟩, ⟨by omega, w.1.2⟩, w.2⟩

/-- Writing a byte keeps the canonical form. -/
theorem memWrite_wf (m : List Host.Cell) (a : Nat) (b : Byte) (h : Memory.wf m = true) : Memory.wf (memWrite m a b) = true :=
  memWrite_wfFrom m a b 0 (Nat.zero_le a) h

/-- Writing bytes keeps the canonical form. -/
theorem memWriteBytes_wf (m : List Host.Cell) (a : Nat) (l : List Byte) (h : Memory.wf m = true) :
    Memory.wf (memWriteBytes m a l) = true := by
  induction l generalizing m a with
  | nil => exact h
  | cons b t ih => exact ih _ _ (memWrite_wf m a b h)

end Sys2Proof.Laws
end

