-- ==== Sys2Proof/Laws/State.lean ====
section
/-! SUPPORT. The fields of State under every named update: one lemma per field. -/

namespace Sys2Proof.Laws

open Sys2Proof Sys2Proof.Machine

/-! ## irqSet -/

@[simp] theorem irqSet_pending (k : Nat) (s : State) : (irqSet k s).pending = s.pending := rfl
@[simp] theorem irqSet_free (k : Nat) (s : State) : (irqSet k s).free = s.free := rfl
@[simp] theorem irqSet_tb (k : Nat) (s : State) : (irqSet k s).tb = s.tb := rfl
@[simp] theorem irqSet_tick (k : Nat) (s : State) : (irqSet k s).tick = s.tick := rfl
@[simp] theorem irqSet_tmu (k : Nat) (s : State) : (irqSet k s).tmu = s.tmu := rfl
@[simp] theorem irqSet_mbx (k : Nat) (s : State) : (irqSet k s).mbx = s.mbx := rfl
@[simp] theorem irqSet_lull (k : Nat) (s : State) : (irqSet k s).lull = s.lull := rfl
@[simp] theorem irqSet_scrubs (k : Nat) (s : State) : (irqSet k s).scrubs = s.scrubs := rfl
@[simp] theorem irqSet_mirror (k : Nat) (s : State) : (irqSet k s).mirror = s.mirror := rfl
@[simp] theorem irqSet_buf (k : Nat) (s : State) : (irqSet k s).buf = s.buf := rfl
@[simp] theorem irqSet_ev (k : Nat) (s : State) : (irqSet k s).ev = s.ev := rfl
@[simp] theorem irqSet_mode (k : Nat) (s : State) : (irqSet k s).mode = s.mode := rfl
@[simp] theorem irqSet_bootStep (k : Nat) (s : State) : (irqSet k s).bootStep = s.bootStep := rfl
@[simp] theorem irqSet_resetHeld (k : Nat) (s : State) : (irqSet k s).resetHeld = s.resetHeld := rfl
@[simp] theorem irqSet_resetCause (k : Nat) (s : State) : (irqSet k s).resetCause = s.resetCause := rfl
@[simp] theorem irqSet_want (k : Nat) (s : State) : (irqSet k s).want = s.want := rfl
@[simp] theorem irqSet_hPend (k : Nat) (s : State) : (irqSet k s).hPend = s.hPend := rfl
@[simp] theorem irqSet_restart (k : Nat) (s : State) : (irqSet k s).restart = s.restart := rfl
@[simp] theorem irqSet_faults (k : Nat) (s : State) : (irqSet k s).faults = s.faults := rfl
@[simp] theorem irqSet_unlisted (k : Nat) (s : State) : (irqSet k s).unlisted = s.unlisted := rfl
@[simp] theorem irqSet_lockWin (k : Nat) (s : State) : (irqSet k s).lockWin = s.lockWin := rfl
@[simp] theorem irqSet_gableE (k : Nat) (s : State) : (irqSet k s).gableE = s.gableE := rfl
@[simp] theorem irqSet_n0 (k : Nat) (s : State) : (irqSet k s).n0 = s.n0 := rfl
@[simp] theorem irqSet_n1 (k : Nat) (s : State) : (irqSet k s).n1 = s.n1 := rfl
@[simp] theorem irqSet_w (k : Nat) (s : State) : (irqSet k s).w = s.w := rfl
@[simp] theorem irqSet_ridgeB (k : Nat) (s : State) : (irqSet k s).ridgeB = s.ridgeB := rfl
@[simp] theorem irqSet_gable (k : Nat) (s : State) : (irqSet k s).gable = s.gable := rfl
@[simp] theorem irqSet_flash (k : Nat) (s : State) : (irqSet k s).flash = s.flash := rfl
@[simp] theorem irqSet_active (k : Nat) (s : State) : (irqSet k s).active = s.active := rfl
@[simp] theorem irqSet_slate (k : Nat) (s : State) : (irqSet k s).slate = s.slate := rfl
@[simp] theorem irqSet_bk (k : Nat) (s : State) : (irqSet k s).bk = s.bk := rfl
@[simp] theorem irqSet_pwr (k : Nat) (s : State) : (irqSet k s).pwr = s.pwr := rfl
@[simp] theorem irqSet_wth (k : Nat) (s : State) : (irqSet k s).wth = s.wth := rfl
@[simp] theorem irqSet_ridge (k : Nat) (s : State) : (irqSet k s).ridge = s.ridge := rfl
@[simp] theorem irqSet_thatch (k : Nat) (s : State) : (irqSet k s).thatch = s.thatch := rfl
@[simp] theorem irqSet_pair (k : Nat) (s : State) : (irqSet k s).pair = s.pair := rfl
@[simp] theorem irqSet_tcm (k : Nat) (s : State) : (irqSet k s).tcm = s.tcm := rfl
@[simp] theorem irqSet_thatchMem (k : Nat) (s : State) : (irqSet k s).thatchMem = s.thatchMem := rfl
@[simp] theorem irqSet_laneP (k : Nat) (s : State) : (irqSet k s).laneP = s.laneP := rfl
@[simp] theorem irqSet_laneT (k : Nat) (s : State) : (irqSet k s).laneT = s.laneT := rfl
@[simp] theorem irqSet_field (k : Nat) (s : State) : (irqSet k s).field = s.field := rfl
@[simp] theorem irqSet_fa (k : Nat) (s : State) : (irqSet k s).fa = s.fa := rfl
@[simp] theorem irqSet_motion (k : Nat) (s : State) : (irqSet k s).motion = s.motion := rfl
@[simp] theorem irqSet_portA (k : Nat) (s : State) : (irqSet k s).portA = s.portA := rfl
@[simp] theorem irqSet_portB (k : Nat) (s : State) : (irqSet k s).portB = s.portB := rfl
@[simp] theorem irqSet_ptp (k : Nat) (s : State) : (irqSet k s).ptp = s.ptp := rfl
@[simp] theorem irqSet_cas (k : Nat) (s : State) : (irqSet k s).cas = s.cas := rfl
@[simp] theorem irqSet_cvu (k : Nat) (s : State) : (irqSet k s).cvu = s.cvu := rfl

/-! ## setData -/

@[simp] theorem setData_pending (w : W32) (s : State) : (setData w s).pending = s.pending := rfl
@[simp] theorem setData_free (w : W32) (s : State) : (setData w s).free = s.free := rfl
@[simp] theorem setData_tb (w : W32) (s : State) : (setData w s).tb = s.tb := rfl
@[simp] theorem setData_tick (w : W32) (s : State) : (setData w s).tick = s.tick := rfl
@[simp] theorem setData_tmu (w : W32) (s : State) : (setData w s).tmu = s.tmu := rfl
@[simp] theorem setData_mbx (w : W32) (s : State) : (setData w s).mbx = s.mbx := rfl
@[simp] theorem setData_lull (w : W32) (s : State) : (setData w s).lull = s.lull := rfl
@[simp] theorem setData_scrubs (w : W32) (s : State) : (setData w s).scrubs = s.scrubs := rfl
@[simp] theorem setData_mirror (w : W32) (s : State) : (setData w s).mirror = s.mirror := rfl
@[simp] theorem setData_buf (w : W32) (s : State) : (setData w s).buf = s.buf := rfl
@[simp] theorem setData_ev (w : W32) (s : State) : (setData w s).ev = s.ev := rfl
@[simp] theorem setData_mode (w : W32) (s : State) : (setData w s).mode = s.mode := rfl
@[simp] theorem setData_bootStep (w : W32) (s : State) : (setData w s).bootStep = s.bootStep := rfl
@[simp] theorem setData_resetHeld (w : W32) (s : State) : (setData w s).resetHeld = s.resetHeld := rfl
@[simp] theorem setData_resetCause (w : W32) (s : State) : (setData w s).resetCause = s.resetCause := rfl
@[simp] theorem setData_want (w : W32) (s : State) : (setData w s).want = s.want := rfl
@[simp] theorem setData_hPend (w : W32) (s : State) : (setData w s).hPend = s.hPend := rfl
@[simp] theorem setData_restart (w : W32) (s : State) : (setData w s).restart = s.restart := rfl
@[simp] theorem setData_faults (w : W32) (s : State) : (setData w s).faults = s.faults := rfl
@[simp] theorem setData_unlisted (w : W32) (s : State) : (setData w s).unlisted = s.unlisted := rfl
@[simp] theorem setData_lockWin (w : W32) (s : State) : (setData w s).lockWin = s.lockWin := rfl
@[simp] theorem setData_gableE (w : W32) (s : State) : (setData w s).gableE = s.gableE := rfl
@[simp] theorem setData_n0 (w : W32) (s : State) : (setData w s).n0 = s.n0 := rfl
@[simp] theorem setData_n1 (w : W32) (s : State) : (setData w s).n1 = s.n1 := rfl
@[simp] theorem setData_w (w : W32) (s : State) : (setData w s).w = s.w := rfl
@[simp] theorem setData_ridgeB (w : W32) (s : State) : (setData w s).ridgeB = s.ridgeB := rfl
@[simp] theorem setData_gable (w : W32) (s : State) : (setData w s).gable = s.gable := rfl
@[simp] theorem setData_flash (w : W32) (s : State) : (setData w s).flash = s.flash := rfl
@[simp] theorem setData_active (w : W32) (s : State) : (setData w s).active = s.active := rfl
@[simp] theorem setData_slate (w : W32) (s : State) : (setData w s).slate = s.slate := rfl
@[simp] theorem setData_bk (w : W32) (s : State) : (setData w s).bk = s.bk := rfl
@[simp] theorem setData_pwr (w : W32) (s : State) : (setData w s).pwr = s.pwr := rfl
@[simp] theorem setData_wth (w : W32) (s : State) : (setData w s).wth = s.wth := rfl
@[simp] theorem setData_ridge (w : W32) (s : State) : (setData w s).ridge = s.ridge := rfl
@[simp] theorem setData_thatch (w : W32) (s : State) : (setData w s).thatch = s.thatch := rfl
@[simp] theorem setData_pair (w : W32) (s : State) : (setData w s).pair = s.pair := rfl
@[simp] theorem setData_tcm (w : W32) (s : State) : (setData w s).tcm = s.tcm := rfl
@[simp] theorem setData_thatchMem (w : W32) (s : State) : (setData w s).thatchMem = s.thatchMem := rfl
@[simp] theorem setData_laneP (w : W32) (s : State) : (setData w s).laneP = s.laneP := rfl
@[simp] theorem setData_laneT (w : W32) (s : State) : (setData w s).laneT = s.laneT := rfl
@[simp] theorem setData_field (w : W32) (s : State) : (setData w s).field = s.field := rfl
@[simp] theorem setData_fa (w : W32) (s : State) : (setData w s).fa = s.fa := rfl
@[simp] theorem setData_motion (w : W32) (s : State) : (setData w s).motion = s.motion := rfl
@[simp] theorem setData_portA (w : W32) (s : State) : (setData w s).portA = s.portA := rfl
@[simp] theorem setData_portB (w : W32) (s : State) : (setData w s).portB = s.portB := rfl
@[simp] theorem setData_ptp (w : W32) (s : State) : (setData w s).ptp = s.ptp := rfl
@[simp] theorem setData_cas (w : W32) (s : State) : (setData w s).cas = s.cas := rfl
@[simp] theorem setData_cvu (w : W32) (s : State) : (setData w s).cvu = s.cvu := rfl

/-! ## setLockFlag -/

@[simp] theorem setLockFlag_pending (s : State) : (setLockFlag s).pending = s.pending := rfl
@[simp] theorem setLockFlag_free (s : State) : (setLockFlag s).free = s.free := rfl
@[simp] theorem setLockFlag_tb (s : State) : (setLockFlag s).tb = s.tb := rfl
@[simp] theorem setLockFlag_tick (s : State) : (setLockFlag s).tick = s.tick := rfl
@[simp] theorem setLockFlag_tmu (s : State) : (setLockFlag s).tmu = s.tmu := rfl
@[simp] theorem setLockFlag_host (s : State) : (setLockFlag s).host = s.host := rfl
@[simp] theorem setLockFlag_mbx (s : State) : (setLockFlag s).mbx = s.mbx := rfl
@[simp] theorem setLockFlag_lull (s : State) : (setLockFlag s).lull = s.lull := rfl
@[simp] theorem setLockFlag_scrubs (s : State) : (setLockFlag s).scrubs = s.scrubs := rfl
@[simp] theorem setLockFlag_mirror (s : State) : (setLockFlag s).mirror = s.mirror := rfl
@[simp] theorem setLockFlag_buf (s : State) : (setLockFlag s).buf = s.buf := rfl
@[simp] theorem setLockFlag_ev (s : State) : (setLockFlag s).ev = s.ev := rfl
@[simp] theorem setLockFlag_mode (s : State) : (setLockFlag s).mode = s.mode := rfl
@[simp] theorem setLockFlag_bootStep (s : State) : (setLockFlag s).bootStep = s.bootStep := rfl
@[simp] theorem setLockFlag_resetHeld (s : State) : (setLockFlag s).resetHeld = s.resetHeld := rfl
@[simp] theorem setLockFlag_resetCause (s : State) : (setLockFlag s).resetCause = s.resetCause := rfl
@[simp] theorem setLockFlag_want (s : State) : (setLockFlag s).want = s.want := rfl
@[simp] theorem setLockFlag_hPend (s : State) : (setLockFlag s).hPend = s.hPend := rfl
@[simp] theorem setLockFlag_restart (s : State) : (setLockFlag s).restart = s.restart := rfl
@[simp] theorem setLockFlag_faults (s : State) : (setLockFlag s).faults = s.faults := rfl
@[simp] theorem setLockFlag_unlisted (s : State) : (setLockFlag s).unlisted = s.unlisted := rfl
@[simp] theorem setLockFlag_lockWin (s : State) : (setLockFlag s).lockWin = s.lockWin := rfl
@[simp] theorem setLockFlag_gableE (s : State) : (setLockFlag s).gableE = s.gableE := rfl
@[simp] theorem setLockFlag_n0 (s : State) : (setLockFlag s).n0 = s.n0 := rfl
@[simp] theorem setLockFlag_n1 (s : State) : (setLockFlag s).n1 = s.n1 := rfl
@[simp] theorem setLockFlag_w (s : State) : (setLockFlag s).w = s.w := rfl
@[simp] theorem setLockFlag_ridgeB (s : State) : (setLockFlag s).ridgeB = s.ridgeB := rfl
@[simp] theorem setLockFlag_gable (s : State) : (setLockFlag s).gable = s.gable := rfl
@[simp] theorem setLockFlag_flash (s : State) : (setLockFlag s).flash = s.flash := rfl
@[simp] theorem setLockFlag_active (s : State) : (setLockFlag s).active = s.active := rfl
@[simp] theorem setLockFlag_slate (s : State) : (setLockFlag s).slate = s.slate := rfl
@[simp] theorem setLockFlag_pwr (s : State) : (setLockFlag s).pwr = s.pwr := rfl
@[simp] theorem setLockFlag_wth (s : State) : (setLockFlag s).wth = s.wth := rfl
@[simp] theorem setLockFlag_ridge (s : State) : (setLockFlag s).ridge = s.ridge := rfl
@[simp] theorem setLockFlag_thatch (s : State) : (setLockFlag s).thatch = s.thatch := rfl
@[simp] theorem setLockFlag_pair (s : State) : (setLockFlag s).pair = s.pair := rfl
@[simp] theorem setLockFlag_tcm (s : State) : (setLockFlag s).tcm = s.tcm := rfl
@[simp] theorem setLockFlag_thatchMem (s : State) : (setLockFlag s).thatchMem = s.thatchMem := rfl
@[simp] theorem setLockFlag_laneP (s : State) : (setLockFlag s).laneP = s.laneP := rfl
@[simp] theorem setLockFlag_laneT (s : State) : (setLockFlag s).laneT = s.laneT := rfl
@[simp] theorem setLockFlag_field (s : State) : (setLockFlag s).field = s.field := rfl
@[simp] theorem setLockFlag_fa (s : State) : (setLockFlag s).fa = s.fa := rfl
@[simp] theorem setLockFlag_motion (s : State) : (setLockFlag s).motion = s.motion := rfl
@[simp] theorem setLockFlag_portA (s : State) : (setLockFlag s).portA = s.portA := rfl
@[simp] theorem setLockFlag_portB (s : State) : (setLockFlag s).portB = s.portB := rfl
@[simp] theorem setLockFlag_ptp (s : State) : (setLockFlag s).ptp = s.ptp := rfl
@[simp] theorem setLockFlag_cas (s : State) : (setLockFlag s).cas = s.cas := rfl
@[simp] theorem setLockFlag_cvu (s : State) : (setLockFlag s).cvu = s.cvu := rfl

/-! ## setCand -/

@[simp] theorem setCand_pending (c : Option Candidate) (s : State) : (setCand c s).pending = s.pending := rfl
@[simp] theorem setCand_free (c : Option Candidate) (s : State) : (setCand c s).free = s.free := rfl
@[simp] theorem setCand_tb (c : Option Candidate) (s : State) : (setCand c s).tb = s.tb := rfl
@[simp] theorem setCand_tick (c : Option Candidate) (s : State) : (setCand c s).tick = s.tick := rfl
@[simp] theorem setCand_tmu (c : Option Candidate) (s : State) : (setCand c s).tmu = s.tmu := rfl
@[simp] theorem setCand_host (c : Option Candidate) (s : State) : (setCand c s).host = s.host := rfl
@[simp] theorem setCand_mbx (c : Option Candidate) (s : State) : (setCand c s).mbx = s.mbx := rfl
@[simp] theorem setCand_lull (c : Option Candidate) (s : State) : (setCand c s).lull = s.lull := rfl
@[simp] theorem setCand_scrubs (c : Option Candidate) (s : State) : (setCand c s).scrubs = s.scrubs := rfl
@[simp] theorem setCand_mirror (c : Option Candidate) (s : State) : (setCand c s).mirror = s.mirror := rfl
@[simp] theorem setCand_buf (c : Option Candidate) (s : State) : (setCand c s).buf = s.buf := rfl
@[simp] theorem setCand_ev (c : Option Candidate) (s : State) : (setCand c s).ev = s.ev := rfl
@[simp] theorem setCand_mode (c : Option Candidate) (s : State) : (setCand c s).mode = s.mode := rfl
@[simp] theorem setCand_bootStep (c : Option Candidate) (s : State) : (setCand c s).bootStep = s.bootStep := rfl
@[simp] theorem setCand_resetHeld (c : Option Candidate) (s : State) : (setCand c s).resetHeld = s.resetHeld := rfl
@[simp] theorem setCand_resetCause (c : Option Candidate) (s : State) : (setCand c s).resetCause = s.resetCause := rfl
@[simp] theorem setCand_want (c : Option Candidate) (s : State) : (setCand c s).want = s.want := rfl
@[simp] theorem setCand_hPend (c : Option Candidate) (s : State) : (setCand c s).hPend = s.hPend := rfl
@[simp] theorem setCand_restart (c : Option Candidate) (s : State) : (setCand c s).restart = s.restart := rfl
@[simp] theorem setCand_faults (c : Option Candidate) (s : State) : (setCand c s).faults = s.faults := rfl
@[simp] theorem setCand_unlisted (c : Option Candidate) (s : State) : (setCand c s).unlisted = s.unlisted := rfl
@[simp] theorem setCand_lockWin (c : Option Candidate) (s : State) : (setCand c s).lockWin = s.lockWin := rfl
@[simp] theorem setCand_gableE (c : Option Candidate) (s : State) : (setCand c s).gableE = s.gableE := rfl
@[simp] theorem setCand_n0 (c : Option Candidate) (s : State) : (setCand c s).n0 = s.n0 := rfl
@[simp] theorem setCand_n1 (c : Option Candidate) (s : State) : (setCand c s).n1 = s.n1 := rfl
@[simp] theorem setCand_w (c : Option Candidate) (s : State) : (setCand c s).w = s.w := rfl
@[simp] theorem setCand_ridgeB (c : Option Candidate) (s : State) : (setCand c s).ridgeB = s.ridgeB := rfl
@[simp] theorem setCand_flash (c : Option Candidate) (s : State) : (setCand c s).flash = s.flash := rfl
@[simp] theorem setCand_active (c : Option Candidate) (s : State) : (setCand c s).active = s.active := rfl
@[simp] theorem setCand_slate (c : Option Candidate) (s : State) : (setCand c s).slate = s.slate := rfl
@[simp] theorem setCand_bk (c : Option Candidate) (s : State) : (setCand c s).bk = s.bk := rfl
@[simp] theorem setCand_pwr (c : Option Candidate) (s : State) : (setCand c s).pwr = s.pwr := rfl
@[simp] theorem setCand_wth (c : Option Candidate) (s : State) : (setCand c s).wth = s.wth := rfl
@[simp] theorem setCand_ridge (c : Option Candidate) (s : State) : (setCand c s).ridge = s.ridge := rfl
@[simp] theorem setCand_thatch (c : Option Candidate) (s : State) : (setCand c s).thatch = s.thatch := rfl
@[simp] theorem setCand_pair (c : Option Candidate) (s : State) : (setCand c s).pair = s.pair := rfl
@[simp] theorem setCand_tcm (c : Option Candidate) (s : State) : (setCand c s).tcm = s.tcm := rfl
@[simp] theorem setCand_thatchMem (c : Option Candidate) (s : State) : (setCand c s).thatchMem = s.thatchMem := rfl
@[simp] theorem setCand_laneP (c : Option Candidate) (s : State) : (setCand c s).laneP = s.laneP := rfl
@[simp] theorem setCand_laneT (c : Option Candidate) (s : State) : (setCand c s).laneT = s.laneT := rfl
@[simp] theorem setCand_field (c : Option Candidate) (s : State) : (setCand c s).field = s.field := rfl
@[simp] theorem setCand_fa (c : Option Candidate) (s : State) : (setCand c s).fa = s.fa := rfl
@[simp] theorem setCand_motion (c : Option Candidate) (s : State) : (setCand c s).motion = s.motion := rfl
@[simp] theorem setCand_portA (c : Option Candidate) (s : State) : (setCand c s).portA = s.portA := rfl
@[simp] theorem setCand_portB (c : Option Candidate) (s : State) : (setCand c s).portB = s.portB := rfl
@[simp] theorem setCand_ptp (c : Option Candidate) (s : State) : (setCand c s).ptp = s.ptp := rfl
@[simp] theorem setCand_cas (c : Option Candidate) (s : State) : (setCand c s).cas = s.cas := rfl
@[simp] theorem setCand_cvu (c : Option Candidate) (s : State) : (setCand c s).cvu = s.cvu := rfl

/-! ## tmuUpd -/

@[simp] theorem tmuUpd_pending (n : Nat) (g : TmuCh → TmuCh) (s : State) : (tmuUpd n g s).pending = s.pending := rfl
@[simp] theorem tmuUpd_free (n : Nat) (g : TmuCh → TmuCh) (s : State) : (tmuUpd n g s).free = s.free := rfl
@[simp] theorem tmuUpd_tb (n : Nat) (g : TmuCh → TmuCh) (s : State) : (tmuUpd n g s).tb = s.tb := rfl
@[simp] theorem tmuUpd_tick (n : Nat) (g : TmuCh → TmuCh) (s : State) : (tmuUpd n g s).tick = s.tick := rfl
@[simp] theorem tmuUpd_host (n : Nat) (g : TmuCh → TmuCh) (s : State) : (tmuUpd n g s).host = s.host := rfl
@[simp] theorem tmuUpd_mbx (n : Nat) (g : TmuCh → TmuCh) (s : State) : (tmuUpd n g s).mbx = s.mbx := rfl
@[simp] theorem tmuUpd_lull (n : Nat) (g : TmuCh → TmuCh) (s : State) : (tmuUpd n g s).lull = s.lull := rfl
@[simp] theorem tmuUpd_scrubs (n : Nat) (g : TmuCh → TmuCh) (s : State) : (tmuUpd n g s).scrubs = s.scrubs := rfl
@[simp] theorem tmuUpd_mirror (n : Nat) (g : TmuCh → TmuCh) (s : State) : (tmuUpd n g s).mirror = s.mirror := rfl
@[simp] theorem tmuUpd_buf (n : Nat) (g : TmuCh → TmuCh) (s : State) : (tmuUpd n g s).buf = s.buf := rfl
@[simp] theorem tmuUpd_ev (n : Nat) (g : TmuCh → TmuCh) (s : State) : (tmuUpd n g s).ev = s.ev := rfl
@[simp] theorem tmuUpd_mode (n : Nat) (g : TmuCh → TmuCh) (s : State) : (tmuUpd n g s).mode = s.mode := rfl
@[simp] theorem tmuUpd_bootStep (n : Nat) (g : TmuCh → TmuCh) (s : State) : (tmuUpd n g s).bootStep = s.bootStep := rfl
@[simp] theorem tmuUpd_resetHeld (n : Nat) (g : TmuCh → TmuCh) (s : State) : (tmuUpd n g s).resetHeld = s.resetHeld := rfl
@[simp] theorem tmuUpd_resetCause (n : Nat) (g : TmuCh → TmuCh) (s : State) : (tmuUpd n g s).resetCause = s.resetCause := rfl
@[simp] theorem tmuUpd_want (n : Nat) (g : TmuCh → TmuCh) (s : State) : (tmuUpd n g s).want = s.want := rfl
@[simp] theorem tmuUpd_hPend (n : Nat) (g : TmuCh → TmuCh) (s : State) : (tmuUpd n g s).hPend = s.hPend := rfl
@[simp] theorem tmuUpd_restart (n : Nat) (g : TmuCh → TmuCh) (s : State) : (tmuUpd n g s).restart = s.restart := rfl
@[simp] theorem tmuUpd_faults (n : Nat) (g : TmuCh → TmuCh) (s : State) : (tmuUpd n g s).faults = s.faults := rfl
@[simp] theorem tmuUpd_unlisted (n : Nat) (g : TmuCh → TmuCh) (s : State) : (tmuUpd n g s).unlisted = s.unlisted := rfl
@[simp] theorem tmuUpd_lockWin (n : Nat) (g : TmuCh → TmuCh) (s : State) : (tmuUpd n g s).lockWin = s.lockWin := rfl
@[simp] theorem tmuUpd_gableE (n : Nat) (g : TmuCh → TmuCh) (s : State) : (tmuUpd n g s).gableE = s.gableE := rfl
@[simp] theorem tmuUpd_n0 (n : Nat) (g : TmuCh → TmuCh) (s : State) : (tmuUpd n g s).n0 = s.n0 := rfl
@[simp] theorem tmuUpd_n1 (n : Nat) (g : TmuCh → TmuCh) (s : State) : (tmuUpd n g s).n1 = s.n1 := rfl
@[simp] theorem tmuUpd_w (n : Nat) (g : TmuCh → TmuCh) (s : State) : (tmuUpd n g s).w = s.w := rfl
@[simp] theorem tmuUpd_ridgeB (n : Nat) (g : TmuCh → TmuCh) (s : State) : (tmuUpd n g s).ridgeB = s.ridgeB := rfl
@[simp] theorem tmuUpd_gable (n : Nat) (g : TmuCh → TmuCh) (s : State) : (tmuUpd n g s).gable = s.gable := rfl
@[simp] theorem tmuUpd_flash (n : Nat) (g : TmuCh → TmuCh) (s : State) : (tmuUpd n g s).flash = s.flash := rfl
@[simp] theorem tmuUpd_active (n : Nat) (g : TmuCh → TmuCh) (s : State) : (tmuUpd n g s).active = s.active := rfl
@[simp] theorem tmuUpd_slate (n : Nat) (g : TmuCh → TmuCh) (s : State) : (tmuUpd n g s).slate = s.slate := rfl
@[simp] theorem tmuUpd_bk (n : Nat) (g : TmuCh → TmuCh) (s : State) : (tmuUpd n g s).bk = s.bk := rfl
@[simp] theorem tmuUpd_pwr (n : Nat) (g : TmuCh → TmuCh) (s : State) : (tmuUpd n g s).pwr = s.pwr := rfl
@[simp] theorem tmuUpd_wth (n : Nat) (g : TmuCh → TmuCh) (s : State) : (tmuUpd n g s).wth = s.wth := rfl
@[simp] theorem tmuUpd_ridge (n : Nat) (g : TmuCh → TmuCh) (s : State) : (tmuUpd n g s).ridge = s.ridge := rfl
@[simp] theorem tmuUpd_thatch (n : Nat) (g : TmuCh → TmuCh) (s : State) : (tmuUpd n g s).thatch = s.thatch := rfl
@[simp] theorem tmuUpd_pair (n : Nat) (g : TmuCh → TmuCh) (s : State) : (tmuUpd n g s).pair = s.pair := rfl
@[simp] theorem tmuUpd_tcm (n : Nat) (g : TmuCh → TmuCh) (s : State) : (tmuUpd n g s).tcm = s.tcm := rfl
@[simp] theorem tmuUpd_thatchMem (n : Nat) (g : TmuCh → TmuCh) (s : State) : (tmuUpd n g s).thatchMem = s.thatchMem := rfl
@[simp] theorem tmuUpd_laneP (n : Nat) (g : TmuCh → TmuCh) (s : State) : (tmuUpd n g s).laneP = s.laneP := rfl
@[simp] theorem tmuUpd_laneT (n : Nat) (g : TmuCh → TmuCh) (s : State) : (tmuUpd n g s).laneT = s.laneT := rfl
@[simp] theorem tmuUpd_field (n : Nat) (g : TmuCh → TmuCh) (s : State) : (tmuUpd n g s).field = s.field := rfl
@[simp] theorem tmuUpd_fa (n : Nat) (g : TmuCh → TmuCh) (s : State) : (tmuUpd n g s).fa = s.fa := rfl
@[simp] theorem tmuUpd_motion (n : Nat) (g : TmuCh → TmuCh) (s : State) : (tmuUpd n g s).motion = s.motion := rfl
@[simp] theorem tmuUpd_portA (n : Nat) (g : TmuCh → TmuCh) (s : State) : (tmuUpd n g s).portA = s.portA := rfl
@[simp] theorem tmuUpd_portB (n : Nat) (g : TmuCh → TmuCh) (s : State) : (tmuUpd n g s).portB = s.portB := rfl
@[simp] theorem tmuUpd_ptp (n : Nat) (g : TmuCh → TmuCh) (s : State) : (tmuUpd n g s).ptp = s.ptp := rfl
@[simp] theorem tmuUpd_cas (n : Nat) (g : TmuCh → TmuCh) (s : State) : (tmuUpd n g s).cas = s.cas := rfl
@[simp] theorem tmuUpd_cvu (n : Nat) (g : TmuCh → TmuCh) (s : State) : (tmuUpd n g s).cvu = s.cvu := rfl

/-! ## cvuUpd -/

@[simp] theorem cvuUpd_pending (u : Fin 4) (g : Cvu → Cvu) (s : State) : (cvuUpd u g s).pending = s.pending := rfl
@[simp] theorem cvuUpd_free (u : Fin 4) (g : Cvu → Cvu) (s : State) : (cvuUpd u g s).free = s.free := rfl
@[simp] theorem cvuUpd_tb (u : Fin 4) (g : Cvu → Cvu) (s : State) : (cvuUpd u g s).tb = s.tb := rfl
@[simp] theorem cvuUpd_tick (u : Fin 4) (g : Cvu → Cvu) (s : State) : (cvuUpd u g s).tick = s.tick := rfl
@[simp] theorem cvuUpd_tmu (u : Fin 4) (g : Cvu → Cvu) (s : State) : (cvuUpd u g s).tmu = s.tmu := rfl
@[simp] theorem cvuUpd_host (u : Fin 4) (g : Cvu → Cvu) (s : State) : (cvuUpd u g s).host = s.host := rfl
@[simp] theorem cvuUpd_mbx (u : Fin 4) (g : Cvu → Cvu) (s : State) : (cvuUpd u g s).mbx = s.mbx := rfl
@[simp] theorem cvuUpd_lull (u : Fin 4) (g : Cvu → Cvu) (s : State) : (cvuUpd u g s).lull = s.lull := rfl
@[simp] theorem cvuUpd_scrubs (u : Fin 4) (g : Cvu → Cvu) (s : State) : (cvuUpd u g s).scrubs = s.scrubs := rfl
@[simp] theorem cvuUpd_mirror (u : Fin 4) (g : Cvu → Cvu) (s : State) : (cvuUpd u g s).mirror = s.mirror := rfl
@[simp] theorem cvuUpd_buf (u : Fin 4) (g : Cvu → Cvu) (s : State) : (cvuUpd u g s).buf = s.buf := rfl
@[simp] theorem cvuUpd_ev (u : Fin 4) (g : Cvu → Cvu) (s : State) : (cvuUpd u g s).ev = s.ev := rfl
@[simp] theorem cvuUpd_mode (u : Fin 4) (g : Cvu → Cvu) (s : State) : (cvuUpd u g s).mode = s.mode := rfl
@[simp] theorem cvuUpd_bootStep (u : Fin 4) (g : Cvu → Cvu) (s : State) : (cvuUpd u g s).bootStep = s.bootStep := rfl
@[simp] theorem cvuUpd_resetHeld (u : Fin 4) (g : Cvu → Cvu) (s : State) : (cvuUpd u g s).resetHeld = s.resetHeld := rfl
@[simp] theorem cvuUpd_resetCause (u : Fin 4) (g : Cvu → Cvu) (s : State) : (cvuUpd u g s).resetCause = s.resetCause := rfl
@[simp] theorem cvuUpd_want (u : Fin 4) (g : Cvu → Cvu) (s : State) : (cvuUpd u g s).want = s.want := rfl
@[simp] theorem cvuUpd_hPend (u : Fin 4) (g : Cvu → Cvu) (s : State) : (cvuUpd u g s).hPend = s.hPend := rfl
@[simp] theorem cvuUpd_restart (u : Fin 4) (g : Cvu → Cvu) (s : State) : (cvuUpd u g s).restart = s.restart := rfl
@[simp] theorem cvuUpd_faults (u : Fin 4) (g : Cvu → Cvu) (s : State) : (cvuUpd u g s).faults = s.faults := rfl
@[simp] theorem cvuUpd_unlisted (u : Fin 4) (g : Cvu → Cvu) (s : State) : (cvuUpd u g s).unlisted = s.unlisted := rfl
@[simp] theorem cvuUpd_lockWin (u : Fin 4) (g : Cvu → Cvu) (s : State) : (cvuUpd u g s).lockWin = s.lockWin := rfl
@[simp] theorem cvuUpd_gableE (u : Fin 4) (g : Cvu → Cvu) (s : State) : (cvuUpd u g s).gableE = s.gableE := rfl
@[simp] theorem cvuUpd_n0 (u : Fin 4) (g : Cvu → Cvu) (s : State) : (cvuUpd u g s).n0 = s.n0 := rfl
@[simp] theorem cvuUpd_n1 (u : Fin 4) (g : Cvu → Cvu) (s : State) : (cvuUpd u g s).n1 = s.n1 := rfl
@[simp] theorem cvuUpd_w (u : Fin 4) (g : Cvu → Cvu) (s : State) : (cvuUpd u g s).w = s.w := rfl
@[simp] theorem cvuUpd_ridgeB (u : Fin 4) (g : Cvu → Cvu) (s : State) : (cvuUpd u g s).ridgeB = s.ridgeB := rfl
@[simp] theorem cvuUpd_gable (u : Fin 4) (g : Cvu → Cvu) (s : State) : (cvuUpd u g s).gable = s.gable := rfl
@[simp] theorem cvuUpd_flash (u : Fin 4) (g : Cvu → Cvu) (s : State) : (cvuUpd u g s).flash = s.flash := rfl
@[simp] theorem cvuUpd_active (u : Fin 4) (g : Cvu → Cvu) (s : State) : (cvuUpd u g s).active = s.active := rfl
@[simp] theorem cvuUpd_slate (u : Fin 4) (g : Cvu → Cvu) (s : State) : (cvuUpd u g s).slate = s.slate := rfl
@[simp] theorem cvuUpd_bk (u : Fin 4) (g : Cvu → Cvu) (s : State) : (cvuUpd u g s).bk = s.bk := rfl
@[simp] theorem cvuUpd_pwr (u : Fin 4) (g : Cvu → Cvu) (s : State) : (cvuUpd u g s).pwr = s.pwr := rfl
@[simp] theorem cvuUpd_wth (u : Fin 4) (g : Cvu → Cvu) (s : State) : (cvuUpd u g s).wth = s.wth := rfl
@[simp] theorem cvuUpd_ridge (u : Fin 4) (g : Cvu → Cvu) (s : State) : (cvuUpd u g s).ridge = s.ridge := rfl
@[simp] theorem cvuUpd_thatch (u : Fin 4) (g : Cvu → Cvu) (s : State) : (cvuUpd u g s).thatch = s.thatch := rfl
@[simp] theorem cvuUpd_pair (u : Fin 4) (g : Cvu → Cvu) (s : State) : (cvuUpd u g s).pair = s.pair := rfl
@[simp] theorem cvuUpd_tcm (u : Fin 4) (g : Cvu → Cvu) (s : State) : (cvuUpd u g s).tcm = s.tcm := rfl
@[simp] theorem cvuUpd_thatchMem (u : Fin 4) (g : Cvu → Cvu) (s : State) : (cvuUpd u g s).thatchMem = s.thatchMem := rfl
@[simp] theorem cvuUpd_laneP (u : Fin 4) (g : Cvu → Cvu) (s : State) : (cvuUpd u g s).laneP = s.laneP := rfl
@[simp] theorem cvuUpd_laneT (u : Fin 4) (g : Cvu → Cvu) (s : State) : (cvuUpd u g s).laneT = s.laneT := rfl
@[simp] theorem cvuUpd_field (u : Fin 4) (g : Cvu → Cvu) (s : State) : (cvuUpd u g s).field = s.field := rfl
@[simp] theorem cvuUpd_fa (u : Fin 4) (g : Cvu → Cvu) (s : State) : (cvuUpd u g s).fa = s.fa := rfl
@[simp] theorem cvuUpd_motion (u : Fin 4) (g : Cvu → Cvu) (s : State) : (cvuUpd u g s).motion = s.motion := rfl
@[simp] theorem cvuUpd_portA (u : Fin 4) (g : Cvu → Cvu) (s : State) : (cvuUpd u g s).portA = s.portA := rfl
@[simp] theorem cvuUpd_portB (u : Fin 4) (g : Cvu → Cvu) (s : State) : (cvuUpd u g s).portB = s.portB := rfl
@[simp] theorem cvuUpd_ptp (u : Fin 4) (g : Cvu → Cvu) (s : State) : (cvuUpd u g s).ptp = s.ptp := rfl
@[simp] theorem cvuUpd_cas (u : Fin 4) (g : Cvu → Cvu) (s : State) : (cvuUpd u g s).cas = s.cas := rfl

/-! ## tpoUpd -/

@[simp] theorem tpoUpd_pending (m : Nat) (g : TpoFc → TpoFc) (s : State) : (tpoUpd m g s).pending = s.pending := rfl
@[simp] theorem tpoUpd_free (m : Nat) (g : TpoFc → TpoFc) (s : State) : (tpoUpd m g s).free = s.free := rfl
@[simp] theorem tpoUpd_tb (m : Nat) (g : TpoFc → TpoFc) (s : State) : (tpoUpd m g s).tb = s.tb := rfl
@[simp] theorem tpoUpd_tick (m : Nat) (g : TpoFc → TpoFc) (s : State) : (tpoUpd m g s).tick = s.tick := rfl
@[simp] theorem tpoUpd_tmu (m : Nat) (g : TpoFc → TpoFc) (s : State) : (tpoUpd m g s).tmu = s.tmu := rfl
@[simp] theorem tpoUpd_host (m : Nat) (g : TpoFc → TpoFc) (s : State) : (tpoUpd m g s).host = s.host := rfl
@[simp] theorem tpoUpd_mbx (m : Nat) (g : TpoFc → TpoFc) (s : State) : (tpoUpd m g s).mbx = s.mbx := rfl
@[simp] theorem tpoUpd_lull (m : Nat) (g : TpoFc → TpoFc) (s : State) : (tpoUpd m g s).lull = s.lull := rfl
@[simp] theorem tpoUpd_scrubs (m : Nat) (g : TpoFc → TpoFc) (s : State) : (tpoUpd m g s).scrubs = s.scrubs := rfl
@[simp] theorem tpoUpd_mirror (m : Nat) (g : TpoFc → TpoFc) (s : State) : (tpoUpd m g s).mirror = s.mirror := rfl
@[simp] theorem tpoUpd_buf (m : Nat) (g : TpoFc → TpoFc) (s : State) : (tpoUpd m g s).buf = s.buf := rfl
@[simp] theorem tpoUpd_ev (m : Nat) (g : TpoFc → TpoFc) (s : State) : (tpoUpd m g s).ev = s.ev := rfl
@[simp] theorem tpoUpd_mode (m : Nat) (g : TpoFc → TpoFc) (s : State) : (tpoUpd m g s).mode = s.mode := rfl
@[simp] theorem tpoUpd_bootStep (m : Nat) (g : TpoFc → TpoFc) (s : State) : (tpoUpd m g s).bootStep = s.bootStep := rfl
@[simp] theorem tpoUpd_resetHeld (m : Nat) (g : TpoFc → TpoFc) (s : State) : (tpoUpd m g s).resetHeld = s.resetHeld := rfl
@[simp] theorem tpoUpd_resetCause (m : Nat) (g : TpoFc → TpoFc) (s : State) : (tpoUpd m g s).resetCause = s.resetCause := rfl
@[simp] theorem tpoUpd_want (m : Nat) (g : TpoFc → TpoFc) (s : State) : (tpoUpd m g s).want = s.want := rfl
@[simp] theorem tpoUpd_hPend (m : Nat) (g : TpoFc → TpoFc) (s : State) : (tpoUpd m g s).hPend = s.hPend := rfl
@[simp] theorem tpoUpd_restart (m : Nat) (g : TpoFc → TpoFc) (s : State) : (tpoUpd m g s).restart = s.restart := rfl
@[simp] theorem tpoUpd_faults (m : Nat) (g : TpoFc → TpoFc) (s : State) : (tpoUpd m g s).faults = s.faults := rfl
@[simp] theorem tpoUpd_unlisted (m : Nat) (g : TpoFc → TpoFc) (s : State) : (tpoUpd m g s).unlisted = s.unlisted := rfl
@[simp] theorem tpoUpd_lockWin (m : Nat) (g : TpoFc → TpoFc) (s : State) : (tpoUpd m g s).lockWin = s.lockWin := rfl
@[simp] theorem tpoUpd_gableE (m : Nat) (g : TpoFc → TpoFc) (s : State) : (tpoUpd m g s).gableE = s.gableE := rfl
@[simp] theorem tpoUpd_n0 (m : Nat) (g : TpoFc → TpoFc) (s : State) : (tpoUpd m g s).n0 = s.n0 := rfl
@[simp] theorem tpoUpd_n1 (m : Nat) (g : TpoFc → TpoFc) (s : State) : (tpoUpd m g s).n1 = s.n1 := rfl
@[simp] theorem tpoUpd_w (m : Nat) (g : TpoFc → TpoFc) (s : State) : (tpoUpd m g s).w = s.w := rfl
@[simp] theorem tpoUpd_ridgeB (m : Nat) (g : TpoFc → TpoFc) (s : State) : (tpoUpd m g s).ridgeB = s.ridgeB := rfl
@[simp] theorem tpoUpd_gable (m : Nat) (g : TpoFc → TpoFc) (s : State) : (tpoUpd m g s).gable = s.gable := rfl
@[simp] theorem tpoUpd_flash (m : Nat) (g : TpoFc → TpoFc) (s : State) : (tpoUpd m g s).flash = s.flash := rfl
@[simp] theorem tpoUpd_active (m : Nat) (g : TpoFc → TpoFc) (s : State) : (tpoUpd m g s).active = s.active := rfl
@[simp] theorem tpoUpd_slate (m : Nat) (g : TpoFc → TpoFc) (s : State) : (tpoUpd m g s).slate = s.slate := rfl
@[simp] theorem tpoUpd_bk (m : Nat) (g : TpoFc → TpoFc) (s : State) : (tpoUpd m g s).bk = s.bk := rfl
@[simp] theorem tpoUpd_pwr (m : Nat) (g : TpoFc → TpoFc) (s : State) : (tpoUpd m g s).pwr = s.pwr := rfl
@[simp] theorem tpoUpd_wth (m : Nat) (g : TpoFc → TpoFc) (s : State) : (tpoUpd m g s).wth = s.wth := rfl
@[simp] theorem tpoUpd_ridge (m : Nat) (g : TpoFc → TpoFc) (s : State) : (tpoUpd m g s).ridge = s.ridge := rfl
@[simp] theorem tpoUpd_thatch (m : Nat) (g : TpoFc → TpoFc) (s : State) : (tpoUpd m g s).thatch = s.thatch := rfl
@[simp] theorem tpoUpd_pair (m : Nat) (g : TpoFc → TpoFc) (s : State) : (tpoUpd m g s).pair = s.pair := rfl
@[simp] theorem tpoUpd_tcm (m : Nat) (g : TpoFc → TpoFc) (s : State) : (tpoUpd m g s).tcm = s.tcm := rfl
@[simp] theorem tpoUpd_thatchMem (m : Nat) (g : TpoFc → TpoFc) (s : State) : (tpoUpd m g s).thatchMem = s.thatchMem := rfl
@[simp] theorem tpoUpd_laneP (m : Nat) (g : TpoFc → TpoFc) (s : State) : (tpoUpd m g s).laneP = s.laneP := rfl
@[simp] theorem tpoUpd_laneT (m : Nat) (g : TpoFc → TpoFc) (s : State) : (tpoUpd m g s).laneT = s.laneT := rfl
@[simp] theorem tpoUpd_fa (m : Nat) (g : TpoFc → TpoFc) (s : State) : (tpoUpd m g s).fa = s.fa := rfl
@[simp] theorem tpoUpd_motion (m : Nat) (g : TpoFc → TpoFc) (s : State) : (tpoUpd m g s).motion = s.motion := rfl
@[simp] theorem tpoUpd_portA (m : Nat) (g : TpoFc → TpoFc) (s : State) : (tpoUpd m g s).portA = s.portA := rfl
@[simp] theorem tpoUpd_portB (m : Nat) (g : TpoFc → TpoFc) (s : State) : (tpoUpd m g s).portB = s.portB := rfl
@[simp] theorem tpoUpd_ptp (m : Nat) (g : TpoFc → TpoFc) (s : State) : (tpoUpd m g s).ptp = s.ptp := rfl
@[simp] theorem tpoUpd_cas (m : Nat) (g : TpoFc → TpoFc) (s : State) : (tpoUpd m g s).cas = s.cas := rfl
@[simp] theorem tpoUpd_cvu (m : Nat) (g : TpoFc → TpoFc) (s : State) : (tpoUpd m g s).cvu = s.cvu := rfl

/-! ## inpUpd -/

@[simp] theorem inpUpd_pending (n : Nat) (g : InFc → InFc) (s : State) : (inpUpd n g s).pending = s.pending := rfl
@[simp] theorem inpUpd_free (n : Nat) (g : InFc → InFc) (s : State) : (inpUpd n g s).free = s.free := rfl
@[simp] theorem inpUpd_tb (n : Nat) (g : InFc → InFc) (s : State) : (inpUpd n g s).tb = s.tb := rfl
@[simp] theorem inpUpd_tick (n : Nat) (g : InFc → InFc) (s : State) : (inpUpd n g s).tick = s.tick := rfl
@[simp] theorem inpUpd_tmu (n : Nat) (g : InFc → InFc) (s : State) : (inpUpd n g s).tmu = s.tmu := rfl
@[simp] theorem inpUpd_host (n : Nat) (g : InFc → InFc) (s : State) : (inpUpd n g s).host = s.host := rfl
@[simp] theorem inpUpd_mbx (n : Nat) (g : InFc → InFc) (s : State) : (inpUpd n g s).mbx = s.mbx := rfl
@[simp] theorem inpUpd_lull (n : Nat) (g : InFc → InFc) (s : State) : (inpUpd n g s).lull = s.lull := rfl
@[simp] theorem inpUpd_scrubs (n : Nat) (g : InFc → InFc) (s : State) : (inpUpd n g s).scrubs = s.scrubs := rfl
@[simp] theorem inpUpd_mirror (n : Nat) (g : InFc → InFc) (s : State) : (inpUpd n g s).mirror = s.mirror := rfl
@[simp] theorem inpUpd_buf (n : Nat) (g : InFc → InFc) (s : State) : (inpUpd n g s).buf = s.buf := rfl
@[simp] theorem inpUpd_ev (n : Nat) (g : InFc → InFc) (s : State) : (inpUpd n g s).ev = s.ev := rfl
@[simp] theorem inpUpd_mode (n : Nat) (g : InFc → InFc) (s : State) : (inpUpd n g s).mode = s.mode := rfl
@[simp] theorem inpUpd_bootStep (n : Nat) (g : InFc → InFc) (s : State) : (inpUpd n g s).bootStep = s.bootStep := rfl
@[simp] theorem inpUpd_resetHeld (n : Nat) (g : InFc → InFc) (s : State) : (inpUpd n g s).resetHeld = s.resetHeld := rfl
@[simp] theorem inpUpd_resetCause (n : Nat) (g : InFc → InFc) (s : State) : (inpUpd n g s).resetCause = s.resetCause := rfl
@[simp] theorem inpUpd_want (n : Nat) (g : InFc → InFc) (s : State) : (inpUpd n g s).want = s.want := rfl
@[simp] theorem inpUpd_hPend (n : Nat) (g : InFc → InFc) (s : State) : (inpUpd n g s).hPend = s.hPend := rfl
@[simp] theorem inpUpd_restart (n : Nat) (g : InFc → InFc) (s : State) : (inpUpd n g s).restart = s.restart := rfl
@[simp] theorem inpUpd_faults (n : Nat) (g : InFc → InFc) (s : State) : (inpUpd n g s).faults = s.faults := rfl
@[simp] theorem inpUpd_unlisted (n : Nat) (g : InFc → InFc) (s : State) : (inpUpd n g s).unlisted = s.unlisted := rfl
@[simp] theorem inpUpd_lockWin (n : Nat) (g : InFc → InFc) (s : State) : (inpUpd n g s).lockWin = s.lockWin := rfl
@[simp] theorem inpUpd_gableE (n : Nat) (g : InFc → InFc) (s : State) : (inpUpd n g s).gableE = s.gableE := rfl
@[simp] theorem inpUpd_n0 (n : Nat) (g : InFc → InFc) (s : State) : (inpUpd n g s).n0 = s.n0 := rfl
@[simp] theorem inpUpd_n1 (n : Nat) (g : InFc → InFc) (s : State) : (inpUpd n g s).n1 = s.n1 := rfl
@[simp] theorem inpUpd_w (n : Nat) (g : InFc → InFc) (s : State) : (inpUpd n g s).w = s.w := rfl
@[simp] theorem inpUpd_ridgeB (n : Nat) (g : InFc → InFc) (s : State) : (inpUpd n g s).ridgeB = s.ridgeB := rfl
@[simp] theorem inpUpd_gable (n : Nat) (g : InFc → InFc) (s : State) : (inpUpd n g s).gable = s.gable := rfl
@[simp] theorem inpUpd_flash (n : Nat) (g : InFc → InFc) (s : State) : (inpUpd n g s).flash = s.flash := rfl
@[simp] theorem inpUpd_active (n : Nat) (g : InFc → InFc) (s : State) : (inpUpd n g s).active = s.active := rfl
@[simp] theorem inpUpd_slate (n : Nat) (g : InFc → InFc) (s : State) : (inpUpd n g s).slate = s.slate := rfl
@[simp] theorem inpUpd_bk (n : Nat) (g : InFc → InFc) (s : State) : (inpUpd n g s).bk = s.bk := rfl
@[simp] theorem inpUpd_pwr (n : Nat) (g : InFc → InFc) (s : State) : (inpUpd n g s).pwr = s.pwr := rfl
@[simp] theorem inpUpd_wth (n : Nat) (g : InFc → InFc) (s : State) : (inpUpd n g s).wth = s.wth := rfl
@[simp] theorem inpUpd_ridge (n : Nat) (g : InFc → InFc) (s : State) : (inpUpd n g s).ridge = s.ridge := rfl
@[simp] theorem inpUpd_thatch (n : Nat) (g : InFc → InFc) (s : State) : (inpUpd n g s).thatch = s.thatch := rfl
@[simp] theorem inpUpd_pair (n : Nat) (g : InFc → InFc) (s : State) : (inpUpd n g s).pair = s.pair := rfl
@[simp] theorem inpUpd_tcm (n : Nat) (g : InFc → InFc) (s : State) : (inpUpd n g s).tcm = s.tcm := rfl
@[simp] theorem inpUpd_thatchMem (n : Nat) (g : InFc → InFc) (s : State) : (inpUpd n g s).thatchMem = s.thatchMem := rfl
@[simp] theorem inpUpd_laneP (n : Nat) (g : InFc → InFc) (s : State) : (inpUpd n g s).laneP = s.laneP := rfl
@[simp] theorem inpUpd_laneT (n : Nat) (g : InFc → InFc) (s : State) : (inpUpd n g s).laneT = s.laneT := rfl
@[simp] theorem inpUpd_fa (n : Nat) (g : InFc → InFc) (s : State) : (inpUpd n g s).fa = s.fa := rfl
@[simp] theorem inpUpd_motion (n : Nat) (g : InFc → InFc) (s : State) : (inpUpd n g s).motion = s.motion := rfl
@[simp] theorem inpUpd_portA (n : Nat) (g : InFc → InFc) (s : State) : (inpUpd n g s).portA = s.portA := rfl
@[simp] theorem inpUpd_portB (n : Nat) (g : InFc → InFc) (s : State) : (inpUpd n g s).portB = s.portB := rfl
@[simp] theorem inpUpd_ptp (n : Nat) (g : InFc → InFc) (s : State) : (inpUpd n g s).ptp = s.ptp := rfl
@[simp] theorem inpUpd_cas (n : Nat) (g : InFc → InFc) (s : State) : (inpUpd n g s).cas = s.cas := rfl
@[simp] theorem inpUpd_cvu (n : Nat) (g : InFc → InFc) (s : State) : (inpUpd n g s).cvu = s.cvu := rfl

/-! ## supUpd -/

@[simp] theorem supUpd_pending (k : Nat) (g : Supply → Supply) (s : State) : (supUpd k g s).pending = s.pending := rfl
@[simp] theorem supUpd_free (k : Nat) (g : Supply → Supply) (s : State) : (supUpd k g s).free = s.free := rfl
@[simp] theorem supUpd_tb (k : Nat) (g : Supply → Supply) (s : State) : (supUpd k g s).tb = s.tb := rfl
@[simp] theorem supUpd_tick (k : Nat) (g : Supply → Supply) (s : State) : (supUpd k g s).tick = s.tick := rfl
@[simp] theorem supUpd_tmu (k : Nat) (g : Supply → Supply) (s : State) : (supUpd k g s).tmu = s.tmu := rfl
@[simp] theorem supUpd_host (k : Nat) (g : Supply → Supply) (s : State) : (supUpd k g s).host = s.host := rfl
@[simp] theorem supUpd_mbx (k : Nat) (g : Supply → Supply) (s : State) : (supUpd k g s).mbx = s.mbx := rfl
@[simp] theorem supUpd_lull (k : Nat) (g : Supply → Supply) (s : State) : (supUpd k g s).lull = s.lull := rfl
@[simp] theorem supUpd_scrubs (k : Nat) (g : Supply → Supply) (s : State) : (supUpd k g s).scrubs = s.scrubs := rfl
@[simp] theorem supUpd_mirror (k : Nat) (g : Supply → Supply) (s : State) : (supUpd k g s).mirror = s.mirror := rfl
@[simp] theorem supUpd_buf (k : Nat) (g : Supply → Supply) (s : State) : (supUpd k g s).buf = s.buf := rfl
@[simp] theorem supUpd_ev (k : Nat) (g : Supply → Supply) (s : State) : (supUpd k g s).ev = s.ev := rfl
@[simp] theorem supUpd_mode (k : Nat) (g : Supply → Supply) (s : State) : (supUpd k g s).mode = s.mode := rfl
@[simp] theorem supUpd_bootStep (k : Nat) (g : Supply → Supply) (s : State) : (supUpd k g s).bootStep = s.bootStep := rfl
@[simp] theorem supUpd_resetHeld (k : Nat) (g : Supply → Supply) (s : State) : (supUpd k g s).resetHeld = s.resetHeld := rfl
@[simp] theorem supUpd_resetCause (k : Nat) (g : Supply → Supply) (s : State) : (supUpd k g s).resetCause = s.resetCause := rfl
@[simp] theorem supUpd_want (k : Nat) (g : Supply → Supply) (s : State) : (supUpd k g s).want = s.want := rfl
@[simp] theorem supUpd_hPend (k : Nat) (g : Supply → Supply) (s : State) : (supUpd k g s).hPend = s.hPend := rfl
@[simp] theorem supUpd_restart (k : Nat) (g : Supply → Supply) (s : State) : (supUpd k g s).restart = s.restart := rfl
@[simp] theorem supUpd_faults (k : Nat) (g : Supply → Supply) (s : State) : (supUpd k g s).faults = s.faults := rfl
@[simp] theorem supUpd_unlisted (k : Nat) (g : Supply → Supply) (s : State) : (supUpd k g s).unlisted = s.unlisted := rfl
@[simp] theorem supUpd_lockWin (k : Nat) (g : Supply → Supply) (s : State) : (supUpd k g s).lockWin = s.lockWin := rfl
@[simp] theorem supUpd_gableE (k : Nat) (g : Supply → Supply) (s : State) : (supUpd k g s).gableE = s.gableE := rfl
@[simp] theorem supUpd_n0 (k : Nat) (g : Supply → Supply) (s : State) : (supUpd k g s).n0 = s.n0 := rfl
@[simp] theorem supUpd_n1 (k : Nat) (g : Supply → Supply) (s : State) : (supUpd k g s).n1 = s.n1 := rfl
@[simp] theorem supUpd_w (k : Nat) (g : Supply → Supply) (s : State) : (supUpd k g s).w = s.w := rfl
@[simp] theorem supUpd_ridgeB (k : Nat) (g : Supply → Supply) (s : State) : (supUpd k g s).ridgeB = s.ridgeB := rfl
@[simp] theorem supUpd_gable (k : Nat) (g : Supply → Supply) (s : State) : (supUpd k g s).gable = s.gable := rfl
@[simp] theorem supUpd_flash (k : Nat) (g : Supply → Supply) (s : State) : (supUpd k g s).flash = s.flash := rfl
@[simp] theorem supUpd_active (k : Nat) (g : Supply → Supply) (s : State) : (supUpd k g s).active = s.active := rfl
@[simp] theorem supUpd_slate (k : Nat) (g : Supply → Supply) (s : State) : (supUpd k g s).slate = s.slate := rfl
@[simp] theorem supUpd_bk (k : Nat) (g : Supply → Supply) (s : State) : (supUpd k g s).bk = s.bk := rfl
@[simp] theorem supUpd_pwr (k : Nat) (g : Supply → Supply) (s : State) : (supUpd k g s).pwr = s.pwr := rfl
@[simp] theorem supUpd_wth (k : Nat) (g : Supply → Supply) (s : State) : (supUpd k g s).wth = s.wth := rfl
@[simp] theorem supUpd_ridge (k : Nat) (g : Supply → Supply) (s : State) : (supUpd k g s).ridge = s.ridge := rfl
@[simp] theorem supUpd_thatch (k : Nat) (g : Supply → Supply) (s : State) : (supUpd k g s).thatch = s.thatch := rfl
@[simp] theorem supUpd_pair (k : Nat) (g : Supply → Supply) (s : State) : (supUpd k g s).pair = s.pair := rfl
@[simp] theorem supUpd_tcm (k : Nat) (g : Supply → Supply) (s : State) : (supUpd k g s).tcm = s.tcm := rfl
@[simp] theorem supUpd_thatchMem (k : Nat) (g : Supply → Supply) (s : State) : (supUpd k g s).thatchMem = s.thatchMem := rfl
@[simp] theorem supUpd_laneP (k : Nat) (g : Supply → Supply) (s : State) : (supUpd k g s).laneP = s.laneP := rfl
@[simp] theorem supUpd_laneT (k : Nat) (g : Supply → Supply) (s : State) : (supUpd k g s).laneT = s.laneT := rfl
@[simp] theorem supUpd_fa (k : Nat) (g : Supply → Supply) (s : State) : (supUpd k g s).fa = s.fa := rfl
@[simp] theorem supUpd_motion (k : Nat) (g : Supply → Supply) (s : State) : (supUpd k g s).motion = s.motion := rfl
@[simp] theorem supUpd_portA (k : Nat) (g : Supply → Supply) (s : State) : (supUpd k g s).portA = s.portA := rfl
@[simp] theorem supUpd_portB (k : Nat) (g : Supply → Supply) (s : State) : (supUpd k g s).portB = s.portB := rfl
@[simp] theorem supUpd_ptp (k : Nat) (g : Supply → Supply) (s : State) : (supUpd k g s).ptp = s.ptp := rfl
@[simp] theorem supUpd_cas (k : Nat) (g : Supply → Supply) (s : State) : (supUpd k g s).cas = s.cas := rfl
@[simp] theorem supUpd_cvu (k : Nat) (g : Supply → Supply) (s : State) : (supUpd k g s).cvu = s.cvu := rfl

/-! ## dequeue -/

@[simp] theorem dequeue_pending (code : BitVec 16) (r : Req) (s : State) : (dequeue code r s).pending = s.pending := rfl
@[simp] theorem dequeue_free (code : BitVec 16) (r : Req) (s : State) : (dequeue code r s).free = s.free := rfl
@[simp] theorem dequeue_tb (code : BitVec 16) (r : Req) (s : State) : (dequeue code r s).tb = s.tb := rfl
@[simp] theorem dequeue_tick (code : BitVec 16) (r : Req) (s : State) : (dequeue code r s).tick = s.tick := rfl
@[simp] theorem dequeue_tmu (code : BitVec 16) (r : Req) (s : State) : (dequeue code r s).tmu = s.tmu := rfl
@[simp] theorem dequeue_host (code : BitVec 16) (r : Req) (s : State) : (dequeue code r s).host = s.host := rfl
@[simp] theorem dequeue_mbx (code : BitVec 16) (r : Req) (s : State) : (dequeue code r s).mbx = s.mbx := rfl
@[simp] theorem dequeue_lull (code : BitVec 16) (r : Req) (s : State) : (dequeue code r s).lull = s.lull := rfl
@[simp] theorem dequeue_scrubs (code : BitVec 16) (r : Req) (s : State) : (dequeue code r s).scrubs = s.scrubs := rfl
@[simp] theorem dequeue_mirror (code : BitVec 16) (r : Req) (s : State) : (dequeue code r s).mirror = s.mirror := rfl
@[simp] theorem dequeue_buf (code : BitVec 16) (r : Req) (s : State) : (dequeue code r s).buf = s.buf := rfl
@[simp] theorem dequeue_ev (code : BitVec 16) (r : Req) (s : State) : (dequeue code r s).ev = s.ev := rfl
@[simp] theorem dequeue_mode (code : BitVec 16) (r : Req) (s : State) : (dequeue code r s).mode = s.mode := rfl
@[simp] theorem dequeue_bootStep (code : BitVec 16) (r : Req) (s : State) : (dequeue code r s).bootStep = s.bootStep := rfl
@[simp] theorem dequeue_resetHeld (code : BitVec 16) (r : Req) (s : State) : (dequeue code r s).resetHeld = s.resetHeld := rfl
@[simp] theorem dequeue_resetCause (code : BitVec 16) (r : Req) (s : State) : (dequeue code r s).resetCause = s.resetCause := rfl
@[simp] theorem dequeue_want (code : BitVec 16) (r : Req) (s : State) : (dequeue code r s).want = s.want := rfl
@[simp] theorem dequeue_hPend (code : BitVec 16) (r : Req) (s : State) : (dequeue code r s).hPend = s.hPend := rfl
@[simp] theorem dequeue_restart (code : BitVec 16) (r : Req) (s : State) : (dequeue code r s).restart = s.restart := rfl
@[simp] theorem dequeue_faults (code : BitVec 16) (r : Req) (s : State) : (dequeue code r s).faults = s.faults := rfl
@[simp] theorem dequeue_unlisted (code : BitVec 16) (r : Req) (s : State) : (dequeue code r s).unlisted = s.unlisted := rfl
@[simp] theorem dequeue_lockWin (code : BitVec 16) (r : Req) (s : State) : (dequeue code r s).lockWin = s.lockWin := rfl
@[simp] theorem dequeue_gableE (code : BitVec 16) (r : Req) (s : State) : (dequeue code r s).gableE = s.gableE := rfl
@[simp] theorem dequeue_n0 (code : BitVec 16) (r : Req) (s : State) : (dequeue code r s).n0 = s.n0 := rfl
@[simp] theorem dequeue_n1 (code : BitVec 16) (r : Req) (s : State) : (dequeue code r s).n1 = s.n1 := rfl
@[simp] theorem dequeue_w (code : BitVec 16) (r : Req) (s : State) : (dequeue code r s).w = s.w := rfl
@[simp] theorem dequeue_ridgeB (code : BitVec 16) (r : Req) (s : State) : (dequeue code r s).ridgeB = s.ridgeB := rfl
@[simp] theorem dequeue_flash (code : BitVec 16) (r : Req) (s : State) : (dequeue code r s).flash = s.flash := rfl
@[simp] theorem dequeue_active (code : BitVec 16) (r : Req) (s : State) : (dequeue code r s).active = s.active := rfl
@[simp] theorem dequeue_slate (code : BitVec 16) (r : Req) (s : State) : (dequeue code r s).slate = s.slate := rfl
@[simp] theorem dequeue_bk (code : BitVec 16) (r : Req) (s : State) : (dequeue code r s).bk = s.bk := rfl
@[simp] theorem dequeue_pwr (code : BitVec 16) (r : Req) (s : State) : (dequeue code r s).pwr = s.pwr := rfl
@[simp] theorem dequeue_wth (code : BitVec 16) (r : Req) (s : State) : (dequeue code r s).wth = s.wth := rfl
@[simp] theorem dequeue_ridge (code : BitVec 16) (r : Req) (s : State) : (dequeue code r s).ridge = s.ridge := rfl
@[simp] theorem dequeue_thatch (code : BitVec 16) (r : Req) (s : State) : (dequeue code r s).thatch = s.thatch := rfl
@[simp] theorem dequeue_pair (code : BitVec 16) (r : Req) (s : State) : (dequeue code r s).pair = s.pair := rfl
@[simp] theorem dequeue_tcm (code : BitVec 16) (r : Req) (s : State) : (dequeue code r s).tcm = s.tcm := rfl
@[simp] theorem dequeue_thatchMem (code : BitVec 16) (r : Req) (s : State) : (dequeue code r s).thatchMem = s.thatchMem := rfl
@[simp] theorem dequeue_laneP (code : BitVec 16) (r : Req) (s : State) : (dequeue code r s).laneP = s.laneP := rfl
@[simp] theorem dequeue_laneT (code : BitVec 16) (r : Req) (s : State) : (dequeue code r s).laneT = s.laneT := rfl
@[simp] theorem dequeue_field (code : BitVec 16) (r : Req) (s : State) : (dequeue code r s).field = s.field := rfl
@[simp] theorem dequeue_fa (code : BitVec 16) (r : Req) (s : State) : (dequeue code r s).fa = s.fa := rfl
@[simp] theorem dequeue_motion (code : BitVec 16) (r : Req) (s : State) : (dequeue code r s).motion = s.motion := rfl
@[simp] theorem dequeue_portA (code : BitVec 16) (r : Req) (s : State) : (dequeue code r s).portA = s.portA := rfl
@[simp] theorem dequeue_portB (code : BitVec 16) (r : Req) (s : State) : (dequeue code r s).portB = s.portB := rfl
@[simp] theorem dequeue_ptp (code : BitVec 16) (r : Req) (s : State) : (dequeue code r s).ptp = s.ptp := rfl
@[simp] theorem dequeue_cas (code : BitVec 16) (r : Req) (s : State) : (dequeue code r s).cas = s.cas := rfl
@[simp] theorem dequeue_cvu (code : BitVec 16) (r : Req) (s : State) : (dequeue code r s).cvu = s.cvu := rfl

/-! ## setSession -/

@[simp] theorem setSession_pending (p : Port) (x : Session) (s : State) : (setSession p x s).pending = s.pending := by cases p <;> rfl
@[simp] theorem setSession_free (p : Port) (x : Session) (s : State) : (setSession p x s).free = s.free := by cases p <;> rfl
@[simp] theorem setSession_tb (p : Port) (x : Session) (s : State) : (setSession p x s).tb = s.tb := by cases p <;> rfl
@[simp] theorem setSession_tick (p : Port) (x : Session) (s : State) : (setSession p x s).tick = s.tick := by cases p <;> rfl
@[simp] theorem setSession_tmu (p : Port) (x : Session) (s : State) : (setSession p x s).tmu = s.tmu := by cases p <;> rfl
@[simp] theorem setSession_host (p : Port) (x : Session) (s : State) : (setSession p x s).host = s.host := by cases p <;> rfl
@[simp] theorem setSession_mbx (p : Port) (x : Session) (s : State) : (setSession p x s).mbx = s.mbx := by cases p <;> rfl
@[simp] theorem setSession_lull (p : Port) (x : Session) (s : State) : (setSession p x s).lull = s.lull := by cases p <;> rfl
@[simp] theorem setSession_scrubs (p : Port) (x : Session) (s : State) : (setSession p x s).scrubs = s.scrubs := by cases p <;> rfl
@[simp] theorem setSession_mirror (p : Port) (x : Session) (s : State) : (setSession p x s).mirror = s.mirror := by cases p <;> rfl
@[simp] theorem setSession_buf (p : Port) (x : Session) (s : State) : (setSession p x s).buf = s.buf := by cases p <;> rfl
@[simp] theorem setSession_ev (p : Port) (x : Session) (s : State) : (setSession p x s).ev = s.ev := by cases p <;> rfl
@[simp] theorem setSession_mode (p : Port) (x : Session) (s : State) : (setSession p x s).mode = s.mode := by cases p <;> rfl
@[simp] theorem setSession_bootStep (p : Port) (x : Session) (s : State) : (setSession p x s).bootStep = s.bootStep := by cases p <;> rfl
@[simp] theorem setSession_resetHeld (p : Port) (x : Session) (s : State) : (setSession p x s).resetHeld = s.resetHeld := by cases p <;> rfl
@[simp] theorem setSession_resetCause (p : Port) (x : Session) (s : State) : (setSession p x s).resetCause = s.resetCause := by cases p <;> rfl
@[simp] theorem setSession_want (p : Port) (x : Session) (s : State) : (setSession p x s).want = s.want := by cases p <;> rfl
@[simp] theorem setSession_hPend (p : Port) (x : Session) (s : State) : (setSession p x s).hPend = s.hPend := by cases p <;> rfl
@[simp] theorem setSession_restart (p : Port) (x : Session) (s : State) : (setSession p x s).restart = s.restart := by cases p <;> rfl
@[simp] theorem setSession_faults (p : Port) (x : Session) (s : State) : (setSession p x s).faults = s.faults := by cases p <;> rfl
@[simp] theorem setSession_unlisted (p : Port) (x : Session) (s : State) : (setSession p x s).unlisted = s.unlisted := by cases p <;> rfl
@[simp] theorem setSession_lockWin (p : Port) (x : Session) (s : State) : (setSession p x s).lockWin = s.lockWin := by cases p <;> rfl
@[simp] theorem setSession_gableE (p : Port) (x : Session) (s : State) : (setSession p x s).gableE = s.gableE := by cases p <;> rfl
@[simp] theorem setSession_n0 (p : Port) (x : Session) (s : State) : (setSession p x s).n0 = s.n0 := by cases p <;> rfl
@[simp] theorem setSession_n1 (p : Port) (x : Session) (s : State) : (setSession p x s).n1 = s.n1 := by cases p <;> rfl
@[simp] theorem setSession_w (p : Port) (x : Session) (s : State) : (setSession p x s).w = s.w := by cases p <;> rfl
@[simp] theorem setSession_ridgeB (p : Port) (x : Session) (s : State) : (setSession p x s).ridgeB = s.ridgeB := by cases p <;> rfl
@[simp] theorem setSession_flash (p : Port) (x : Session) (s : State) : (setSession p x s).flash = s.flash := by cases p <;> rfl
@[simp] theorem setSession_active (p : Port) (x : Session) (s : State) : (setSession p x s).active = s.active := by cases p <;> rfl
@[simp] theorem setSession_slate (p : Port) (x : Session) (s : State) : (setSession p x s).slate = s.slate := by cases p <;> rfl
@[simp] theorem setSession_bk (p : Port) (x : Session) (s : State) : (setSession p x s).bk = s.bk := by cases p <;> rfl
@[simp] theorem setSession_pwr (p : Port) (x : Session) (s : State) : (setSession p x s).pwr = s.pwr := by cases p <;> rfl
@[simp] theorem setSession_wth (p : Port) (x : Session) (s : State) : (setSession p x s).wth = s.wth := by cases p <;> rfl
@[simp] theorem setSession_ridge (p : Port) (x : Session) (s : State) : (setSession p x s).ridge = s.ridge := by cases p <;> rfl
@[simp] theorem setSession_thatch (p : Port) (x : Session) (s : State) : (setSession p x s).thatch = s.thatch := by cases p <;> rfl
@[simp] theorem setSession_pair (p : Port) (x : Session) (s : State) : (setSession p x s).pair = s.pair := by cases p <;> rfl
@[simp] theorem setSession_tcm (p : Port) (x : Session) (s : State) : (setSession p x s).tcm = s.tcm := by cases p <;> rfl
@[simp] theorem setSession_thatchMem (p : Port) (x : Session) (s : State) : (setSession p x s).thatchMem = s.thatchMem := by cases p <;> rfl
@[simp] theorem setSession_laneP (p : Port) (x : Session) (s : State) : (setSession p x s).laneP = s.laneP := by cases p <;> rfl
@[simp] theorem setSession_laneT (p : Port) (x : Session) (s : State) : (setSession p x s).laneT = s.laneT := by cases p <;> rfl
@[simp] theorem setSession_field (p : Port) (x : Session) (s : State) : (setSession p x s).field = s.field := by cases p <;> rfl
@[simp] theorem setSession_fa (p : Port) (x : Session) (s : State) : (setSession p x s).fa = s.fa := by cases p <;> rfl
@[simp] theorem setSession_motion (p : Port) (x : Session) (s : State) : (setSession p x s).motion = s.motion := by cases p <;> rfl
@[simp] theorem setSession_portA (p : Port) (x : Session) (s : State) : (setSession p x s).portA = s.portA := by cases p <;> rfl
@[simp] theorem setSession_portB (p : Port) (x : Session) (s : State) : (setSession p x s).portB = s.portB := by cases p <;> rfl
@[simp] theorem setSession_ptp (p : Port) (x : Session) (s : State) : (setSession p x s).ptp = s.ptp := by cases p <;> rfl
@[simp] theorem setSession_cas (p : Port) (x : Session) (s : State) : (setSession p x s).cas = s.cas := by cases p <;> rfl
@[simp] theorem setSession_cvu (p : Port) (x : Session) (s : State) : (setSession p x s).cvu = s.cvu := by cases p <;> rfl

/-! ## keepRsp -/

@[simp] theorem keepRsp_pending (p : Port) (k : Kept) (s : State) : (keepRsp p k s).pending = s.pending := by cases p <;> rfl
@[simp] theorem keepRsp_free (p : Port) (k : Kept) (s : State) : (keepRsp p k s).free = s.free := by cases p <;> rfl
@[simp] theorem keepRsp_tb (p : Port) (k : Kept) (s : State) : (keepRsp p k s).tb = s.tb := by cases p <;> rfl
@[simp] theorem keepRsp_tick (p : Port) (k : Kept) (s : State) : (keepRsp p k s).tick = s.tick := by cases p <;> rfl
@[simp] theorem keepRsp_tmu (p : Port) (k : Kept) (s : State) : (keepRsp p k s).tmu = s.tmu := by cases p <;> rfl
@[simp] theorem keepRsp_host (p : Port) (k : Kept) (s : State) : (keepRsp p k s).host = s.host := by cases p <;> rfl
@[simp] theorem keepRsp_mbx (p : Port) (k : Kept) (s : State) : (keepRsp p k s).mbx = s.mbx := by cases p <;> rfl
@[simp] theorem keepRsp_lull (p : Port) (k : Kept) (s : State) : (keepRsp p k s).lull = s.lull := by cases p <;> rfl
@[simp] theorem keepRsp_scrubs (p : Port) (k : Kept) (s : State) : (keepRsp p k s).scrubs = s.scrubs := by cases p <;> rfl
@[simp] theorem keepRsp_mirror (p : Port) (k : Kept) (s : State) : (keepRsp p k s).mirror = s.mirror := by cases p <;> rfl
@[simp] theorem keepRsp_buf (p : Port) (k : Kept) (s : State) : (keepRsp p k s).buf = s.buf := by cases p <;> rfl
@[simp] theorem keepRsp_ev (p : Port) (k : Kept) (s : State) : (keepRsp p k s).ev = s.ev := by cases p <;> rfl
@[simp] theorem keepRsp_mode (p : Port) (k : Kept) (s : State) : (keepRsp p k s).mode = s.mode := by cases p <;> rfl
@[simp] theorem keepRsp_bootStep (p : Port) (k : Kept) (s : State) : (keepRsp p k s).bootStep = s.bootStep := by cases p <;> rfl
@[simp] theorem keepRsp_resetHeld (p : Port) (k : Kept) (s : State) : (keepRsp p k s).resetHeld = s.resetHeld := by cases p <;> rfl
@[simp] theorem keepRsp_resetCause (p : Port) (k : Kept) (s : State) : (keepRsp p k s).resetCause = s.resetCause := by cases p <;> rfl
@[simp] theorem keepRsp_want (p : Port) (k : Kept) (s : State) : (keepRsp p k s).want = s.want := by cases p <;> rfl
@[simp] theorem keepRsp_hPend (p : Port) (k : Kept) (s : State) : (keepRsp p k s).hPend = s.hPend := by cases p <;> rfl
@[simp] theorem keepRsp_restart (p : Port) (k : Kept) (s : State) : (keepRsp p k s).restart = s.restart := by cases p <;> rfl
@[simp] theorem keepRsp_faults (p : Port) (k : Kept) (s : State) : (keepRsp p k s).faults = s.faults := by cases p <;> rfl
@[simp] theorem keepRsp_unlisted (p : Port) (k : Kept) (s : State) : (keepRsp p k s).unlisted = s.unlisted := by cases p <;> rfl
@[simp] theorem keepRsp_lockWin (p : Port) (k : Kept) (s : State) : (keepRsp p k s).lockWin = s.lockWin := by cases p <;> rfl
@[simp] theorem keepRsp_gableE (p : Port) (k : Kept) (s : State) : (keepRsp p k s).gableE = s.gableE := by cases p <;> rfl
@[simp] theorem keepRsp_n0 (p : Port) (k : Kept) (s : State) : (keepRsp p k s).n0 = s.n0 := by cases p <;> rfl
@[simp] theorem keepRsp_n1 (p : Port) (k : Kept) (s : State) : (keepRsp p k s).n1 = s.n1 := by cases p <;> rfl
@[simp] theorem keepRsp_w (p : Port) (k : Kept) (s : State) : (keepRsp p k s).w = s.w := by cases p <;> rfl
@[simp] theorem keepRsp_ridgeB (p : Port) (k : Kept) (s : State) : (keepRsp p k s).ridgeB = s.ridgeB := by cases p <;> rfl
@[simp] theorem keepRsp_flash (p : Port) (k : Kept) (s : State) : (keepRsp p k s).flash = s.flash := by cases p <;> rfl
@[simp] theorem keepRsp_active (p : Port) (k : Kept) (s : State) : (keepRsp p k s).active = s.active := by cases p <;> rfl
@[simp] theorem keepRsp_slate (p : Port) (k : Kept) (s : State) : (keepRsp p k s).slate = s.slate := by cases p <;> rfl
@[simp] theorem keepRsp_bk (p : Port) (k : Kept) (s : State) : (keepRsp p k s).bk = s.bk := by cases p <;> rfl
@[simp] theorem keepRsp_pwr (p : Port) (k : Kept) (s : State) : (keepRsp p k s).pwr = s.pwr := by cases p <;> rfl
@[simp] theorem keepRsp_wth (p : Port) (k : Kept) (s : State) : (keepRsp p k s).wth = s.wth := by cases p <;> rfl
@[simp] theorem keepRsp_ridge (p : Port) (k : Kept) (s : State) : (keepRsp p k s).ridge = s.ridge := by cases p <;> rfl
@[simp] theorem keepRsp_thatch (p : Port) (k : Kept) (s : State) : (keepRsp p k s).thatch = s.thatch := by cases p <;> rfl
@[simp] theorem keepRsp_pair (p : Port) (k : Kept) (s : State) : (keepRsp p k s).pair = s.pair := by cases p <;> rfl
@[simp] theorem keepRsp_tcm (p : Port) (k : Kept) (s : State) : (keepRsp p k s).tcm = s.tcm := by cases p <;> rfl
@[simp] theorem keepRsp_thatchMem (p : Port) (k : Kept) (s : State) : (keepRsp p k s).thatchMem = s.thatchMem := by cases p <;> rfl
@[simp] theorem keepRsp_laneP (p : Port) (k : Kept) (s : State) : (keepRsp p k s).laneP = s.laneP := by cases p <;> rfl
@[simp] theorem keepRsp_laneT (p : Port) (k : Kept) (s : State) : (keepRsp p k s).laneT = s.laneT := by cases p <;> rfl
@[simp] theorem keepRsp_field (p : Port) (k : Kept) (s : State) : (keepRsp p k s).field = s.field := by cases p <;> rfl
@[simp] theorem keepRsp_fa (p : Port) (k : Kept) (s : State) : (keepRsp p k s).fa = s.fa := by cases p <;> rfl
@[simp] theorem keepRsp_motion (p : Port) (k : Kept) (s : State) : (keepRsp p k s).motion = s.motion := by cases p <;> rfl
@[simp] theorem keepRsp_portA (p : Port) (k : Kept) (s : State) : (keepRsp p k s).portA = s.portA := by cases p <;> rfl
@[simp] theorem keepRsp_portB (p : Port) (k : Kept) (s : State) : (keepRsp p k s).portB = s.portB := by cases p <;> rfl
@[simp] theorem keepRsp_ptp (p : Port) (k : Kept) (s : State) : (keepRsp p k s).ptp = s.ptp := by cases p <;> rfl
@[simp] theorem keepRsp_cas (p : Port) (k : Kept) (s : State) : (keepRsp p k s).cas = s.cas := by cases p <;> rfl
@[simp] theorem keepRsp_cvu (p : Port) (k : Kept) (s : State) : (keepRsp p k s).cvu = s.cvu := by cases p <;> rfl

/-! ## setLane -/

@[simp] theorem setLane_pending (l : Lane) (x : LaneFc) (s : State) : (setLane l x s).pending = s.pending := by cases l <;> rfl
@[simp] theorem setLane_free (l : Lane) (x : LaneFc) (s : State) : (setLane l x s).free = s.free := by cases l <;> rfl
@[simp] theorem setLane_tb (l : Lane) (x : LaneFc) (s : State) : (setLane l x s).tb = s.tb := by cases l <;> rfl
@[simp] theorem setLane_tick (l : Lane) (x : LaneFc) (s : State) : (setLane l x s).tick = s.tick := by cases l <;> rfl
@[simp] theorem setLane_tmu (l : Lane) (x : LaneFc) (s : State) : (setLane l x s).tmu = s.tmu := by cases l <;> rfl
@[simp] theorem setLane_host (l : Lane) (x : LaneFc) (s : State) : (setLane l x s).host = s.host := by cases l <;> rfl
@[simp] theorem setLane_mbx (l : Lane) (x : LaneFc) (s : State) : (setLane l x s).mbx = s.mbx := by cases l <;> rfl
@[simp] theorem setLane_lull (l : Lane) (x : LaneFc) (s : State) : (setLane l x s).lull = s.lull := by cases l <;> rfl
@[simp] theorem setLane_scrubs (l : Lane) (x : LaneFc) (s : State) : (setLane l x s).scrubs = s.scrubs := by cases l <;> rfl
@[simp] theorem setLane_mirror (l : Lane) (x : LaneFc) (s : State) : (setLane l x s).mirror = s.mirror := by cases l <;> rfl
@[simp] theorem setLane_buf (l : Lane) (x : LaneFc) (s : State) : (setLane l x s).buf = s.buf := by cases l <;> rfl
@[simp] theorem setLane_ev (l : Lane) (x : LaneFc) (s : State) : (setLane l x s).ev = s.ev := by cases l <;> rfl
@[simp] theorem setLane_mode (l : Lane) (x : LaneFc) (s : State) : (setLane l x s).mode = s.mode := by cases l <;> rfl
@[simp] theorem setLane_bootStep (l : Lane) (x : LaneFc) (s : State) : (setLane l x s).bootStep = s.bootStep := by cases l <;> rfl
@[simp] theorem setLane_resetHeld (l : Lane) (x : LaneFc) (s : State) : (setLane l x s).resetHeld = s.resetHeld := by cases l <;> rfl
@[simp] theorem setLane_resetCause (l : Lane) (x : LaneFc) (s : State) : (setLane l x s).resetCause = s.resetCause := by cases l <;> rfl
@[simp] theorem setLane_want (l : Lane) (x : LaneFc) (s : State) : (setLane l x s).want = s.want := by cases l <;> rfl
@[simp] theorem setLane_hPend (l : Lane) (x : LaneFc) (s : State) : (setLane l x s).hPend = s.hPend := by cases l <;> rfl
@[simp] theorem setLane_restart (l : Lane) (x : LaneFc) (s : State) : (setLane l x s).restart = s.restart := by cases l <;> rfl
@[simp] theorem setLane_faults (l : Lane) (x : LaneFc) (s : State) : (setLane l x s).faults = s.faults := by cases l <;> rfl
@[simp] theorem setLane_unlisted (l : Lane) (x : LaneFc) (s : State) : (setLane l x s).unlisted = s.unlisted := by cases l <;> rfl
@[simp] theorem setLane_lockWin (l : Lane) (x : LaneFc) (s : State) : (setLane l x s).lockWin = s.lockWin := by cases l <;> rfl
@[simp] theorem setLane_gableE (l : Lane) (x : LaneFc) (s : State) : (setLane l x s).gableE = s.gableE := by cases l <;> rfl
@[simp] theorem setLane_n0 (l : Lane) (x : LaneFc) (s : State) : (setLane l x s).n0 = s.n0 := by cases l <;> rfl
@[simp] theorem setLane_n1 (l : Lane) (x : LaneFc) (s : State) : (setLane l x s).n1 = s.n1 := by cases l <;> rfl
@[simp] theorem setLane_w (l : Lane) (x : LaneFc) (s : State) : (setLane l x s).w = s.w := by cases l <;> rfl
@[simp] theorem setLane_ridgeB (l : Lane) (x : LaneFc) (s : State) : (setLane l x s).ridgeB = s.ridgeB := by cases l <;> rfl
@[simp] theorem setLane_gable (l : Lane) (x : LaneFc) (s : State) : (setLane l x s).gable = s.gable := by cases l <;> rfl
@[simp] theorem setLane_flash (l : Lane) (x : LaneFc) (s : State) : (setLane l x s).flash = s.flash := by cases l <;> rfl
@[simp] theorem setLane_active (l : Lane) (x : LaneFc) (s : State) : (setLane l x s).active = s.active := by cases l <;> rfl
@[simp] theorem setLane_slate (l : Lane) (x : LaneFc) (s : State) : (setLane l x s).slate = s.slate := by cases l <;> rfl
@[simp] theorem setLane_bk (l : Lane) (x : LaneFc) (s : State) : (setLane l x s).bk = s.bk := by cases l <;> rfl
@[simp] theorem setLane_pwr (l : Lane) (x : LaneFc) (s : State) : (setLane l x s).pwr = s.pwr := by cases l <;> rfl
@[simp] theorem setLane_wth (l : Lane) (x : LaneFc) (s : State) : (setLane l x s).wth = s.wth := by cases l <;> rfl
@[simp] theorem setLane_ridge (l : Lane) (x : LaneFc) (s : State) : (setLane l x s).ridge = s.ridge := by cases l <;> rfl
@[simp] theorem setLane_thatch (l : Lane) (x : LaneFc) (s : State) : (setLane l x s).thatch = s.thatch := by cases l <;> rfl
@[simp] theorem setLane_pair (l : Lane) (x : LaneFc) (s : State) : (setLane l x s).pair = s.pair := by cases l <;> rfl
@[simp] theorem setLane_tcm (l : Lane) (x : LaneFc) (s : State) : (setLane l x s).tcm = s.tcm := by cases l <;> rfl
@[simp] theorem setLane_thatchMem (l : Lane) (x : LaneFc) (s : State) : (setLane l x s).thatchMem = s.thatchMem := by cases l <;> rfl
@[simp] theorem setLane_field (l : Lane) (x : LaneFc) (s : State) : (setLane l x s).field = s.field := by cases l <;> rfl
@[simp] theorem setLane_fa (l : Lane) (x : LaneFc) (s : State) : (setLane l x s).fa = s.fa := by cases l <;> rfl
@[simp] theorem setLane_motion (l : Lane) (x : LaneFc) (s : State) : (setLane l x s).motion = s.motion := by cases l <;> rfl
@[simp] theorem setLane_portA (l : Lane) (x : LaneFc) (s : State) : (setLane l x s).portA = s.portA := by cases l <;> rfl
@[simp] theorem setLane_portB (l : Lane) (x : LaneFc) (s : State) : (setLane l x s).portB = s.portB := by cases l <;> rfl
@[simp] theorem setLane_ptp (l : Lane) (x : LaneFc) (s : State) : (setLane l x s).ptp = s.ptp := by cases l <;> rfl
@[simp] theorem setLane_cas (l : Lane) (x : LaneFc) (s : State) : (setLane l x s).cas = s.cas := by cases l <;> rfl
@[simp] theorem setLane_cvu (l : Lane) (x : LaneFc) (s : State) : (setLane l x s).cvu = s.cvu := by cases l <;> rfl

/-! ## setChan -/

@[simp] theorem setChan_pending (l : Lane) (x : Chan) (s : State) : (setChan l x s).pending = s.pending := by cases l <;> rfl
@[simp] theorem setChan_free (l : Lane) (x : Chan) (s : State) : (setChan l x s).free = s.free := by cases l <;> rfl
@[simp] theorem setChan_tb (l : Lane) (x : Chan) (s : State) : (setChan l x s).tb = s.tb := by cases l <;> rfl
@[simp] theorem setChan_tick (l : Lane) (x : Chan) (s : State) : (setChan l x s).tick = s.tick := by cases l <;> rfl
@[simp] theorem setChan_tmu (l : Lane) (x : Chan) (s : State) : (setChan l x s).tmu = s.tmu := by cases l <;> rfl
@[simp] theorem setChan_host (l : Lane) (x : Chan) (s : State) : (setChan l x s).host = s.host := by cases l <;> rfl
@[simp] theorem setChan_mbx (l : Lane) (x : Chan) (s : State) : (setChan l x s).mbx = s.mbx := by cases l <;> rfl
@[simp] theorem setChan_lull (l : Lane) (x : Chan) (s : State) : (setChan l x s).lull = s.lull := by cases l <;> rfl
@[simp] theorem setChan_scrubs (l : Lane) (x : Chan) (s : State) : (setChan l x s).scrubs = s.scrubs := by cases l <;> rfl
@[simp] theorem setChan_mirror (l : Lane) (x : Chan) (s : State) : (setChan l x s).mirror = s.mirror := by cases l <;> rfl
@[simp] theorem setChan_buf (l : Lane) (x : Chan) (s : State) : (setChan l x s).buf = s.buf := by cases l <;> rfl
@[simp] theorem setChan_ev (l : Lane) (x : Chan) (s : State) : (setChan l x s).ev = s.ev := by cases l <;> rfl
@[simp] theorem setChan_mode (l : Lane) (x : Chan) (s : State) : (setChan l x s).mode = s.mode := by cases l <;> rfl
@[simp] theorem setChan_bootStep (l : Lane) (x : Chan) (s : State) : (setChan l x s).bootStep = s.bootStep := by cases l <;> rfl
@[simp] theorem setChan_resetHeld (l : Lane) (x : Chan) (s : State) : (setChan l x s).resetHeld = s.resetHeld := by cases l <;> rfl
@[simp] theorem setChan_resetCause (l : Lane) (x : Chan) (s : State) : (setChan l x s).resetCause = s.resetCause := by cases l <;> rfl
@[simp] theorem setChan_want (l : Lane) (x : Chan) (s : State) : (setChan l x s).want = s.want := by cases l <;> rfl
@[simp] theorem setChan_hPend (l : Lane) (x : Chan) (s : State) : (setChan l x s).hPend = s.hPend := by cases l <;> rfl
@[simp] theorem setChan_restart (l : Lane) (x : Chan) (s : State) : (setChan l x s).restart = s.restart := by cases l <;> rfl
@[simp] theorem setChan_faults (l : Lane) (x : Chan) (s : State) : (setChan l x s).faults = s.faults := by cases l <;> rfl
@[simp] theorem setChan_unlisted (l : Lane) (x : Chan) (s : State) : (setChan l x s).unlisted = s.unlisted := by cases l <;> rfl
@[simp] theorem setChan_lockWin (l : Lane) (x : Chan) (s : State) : (setChan l x s).lockWin = s.lockWin := by cases l <;> rfl
@[simp] theorem setChan_gableE (l : Lane) (x : Chan) (s : State) : (setChan l x s).gableE = s.gableE := by cases l <;> rfl
@[simp] theorem setChan_n0 (l : Lane) (x : Chan) (s : State) : (setChan l x s).n0 = s.n0 := by cases l <;> rfl
@[simp] theorem setChan_n1 (l : Lane) (x : Chan) (s : State) : (setChan l x s).n1 = s.n1 := by cases l <;> rfl
@[simp] theorem setChan_w (l : Lane) (x : Chan) (s : State) : (setChan l x s).w = s.w := by cases l <;> rfl
@[simp] theorem setChan_ridgeB (l : Lane) (x : Chan) (s : State) : (setChan l x s).ridgeB = s.ridgeB := by cases l <;> rfl
@[simp] theorem setChan_gable (l : Lane) (x : Chan) (s : State) : (setChan l x s).gable = s.gable := by cases l <;> rfl
@[simp] theorem setChan_flash (l : Lane) (x : Chan) (s : State) : (setChan l x s).flash = s.flash := by cases l <;> rfl
@[simp] theorem setChan_active (l : Lane) (x : Chan) (s : State) : (setChan l x s).active = s.active := by cases l <;> rfl
@[simp] theorem setChan_slate (l : Lane) (x : Chan) (s : State) : (setChan l x s).slate = s.slate := by cases l <;> rfl
@[simp] theorem setChan_bk (l : Lane) (x : Chan) (s : State) : (setChan l x s).bk = s.bk := by cases l <;> rfl
@[simp] theorem setChan_pwr (l : Lane) (x : Chan) (s : State) : (setChan l x s).pwr = s.pwr := by cases l <;> rfl
@[simp] theorem setChan_wth (l : Lane) (x : Chan) (s : State) : (setChan l x s).wth = s.wth := by cases l <;> rfl
@[simp] theorem setChan_pair (l : Lane) (x : Chan) (s : State) : (setChan l x s).pair = s.pair := by cases l <;> rfl
@[simp] theorem setChan_tcm (l : Lane) (x : Chan) (s : State) : (setChan l x s).tcm = s.tcm := by cases l <;> rfl
@[simp] theorem setChan_thatchMem (l : Lane) (x : Chan) (s : State) : (setChan l x s).thatchMem = s.thatchMem := by cases l <;> rfl
@[simp] theorem setChan_laneP (l : Lane) (x : Chan) (s : State) : (setChan l x s).laneP = s.laneP := by cases l <;> rfl
@[simp] theorem setChan_laneT (l : Lane) (x : Chan) (s : State) : (setChan l x s).laneT = s.laneT := by cases l <;> rfl
@[simp] theorem setChan_field (l : Lane) (x : Chan) (s : State) : (setChan l x s).field = s.field := by cases l <;> rfl
@[simp] theorem setChan_fa (l : Lane) (x : Chan) (s : State) : (setChan l x s).fa = s.fa := by cases l <;> rfl
@[simp] theorem setChan_motion (l : Lane) (x : Chan) (s : State) : (setChan l x s).motion = s.motion := by cases l <;> rfl
@[simp] theorem setChan_portA (l : Lane) (x : Chan) (s : State) : (setChan l x s).portA = s.portA := by cases l <;> rfl
@[simp] theorem setChan_portB (l : Lane) (x : Chan) (s : State) : (setChan l x s).portB = s.portB := by cases l <;> rfl
@[simp] theorem setChan_ptp (l : Lane) (x : Chan) (s : State) : (setChan l x s).ptp = s.ptp := by cases l <;> rfl
@[simp] theorem setChan_cas (l : Lane) (x : Chan) (s : State) : (setChan l x s).cas = s.cas := by cases l <;> rfl
@[simp] theorem setChan_cvu (l : Lane) (x : Chan) (s : State) : (setChan l x s).cvu = s.cvu := by cases l <;> rfl

/-! ## setPort -/

@[simp] theorem setPort_pending (p : NetPort) (x : PortSt) (s : State) : (setPort p x s).pending = s.pending := by cases p <;> rfl
@[simp] theorem setPort_free (p : NetPort) (x : PortSt) (s : State) : (setPort p x s).free = s.free := by cases p <;> rfl
@[simp] theorem setPort_tb (p : NetPort) (x : PortSt) (s : State) : (setPort p x s).tb = s.tb := by cases p <;> rfl
@[simp] theorem setPort_tick (p : NetPort) (x : PortSt) (s : State) : (setPort p x s).tick = s.tick := by cases p <;> rfl
@[simp] theorem setPort_tmu (p : NetPort) (x : PortSt) (s : State) : (setPort p x s).tmu = s.tmu := by cases p <;> rfl
@[simp] theorem setPort_host (p : NetPort) (x : PortSt) (s : State) : (setPort p x s).host = s.host := by cases p <;> rfl
@[simp] theorem setPort_mbx (p : NetPort) (x : PortSt) (s : State) : (setPort p x s).mbx = s.mbx := by cases p <;> rfl
@[simp] theorem setPort_lull (p : NetPort) (x : PortSt) (s : State) : (setPort p x s).lull = s.lull := by cases p <;> rfl
@[simp] theorem setPort_scrubs (p : NetPort) (x : PortSt) (s : State) : (setPort p x s).scrubs = s.scrubs := by cases p <;> rfl
@[simp] theorem setPort_mirror (p : NetPort) (x : PortSt) (s : State) : (setPort p x s).mirror = s.mirror := by cases p <;> rfl
@[simp] theorem setPort_buf (p : NetPort) (x : PortSt) (s : State) : (setPort p x s).buf = s.buf := by cases p <;> rfl
@[simp] theorem setPort_ev (p : NetPort) (x : PortSt) (s : State) : (setPort p x s).ev = s.ev := by cases p <;> rfl
@[simp] theorem setPort_mode (p : NetPort) (x : PortSt) (s : State) : (setPort p x s).mode = s.mode := by cases p <;> rfl
@[simp] theorem setPort_bootStep (p : NetPort) (x : PortSt) (s : State) : (setPort p x s).bootStep = s.bootStep := by cases p <;> rfl
@[simp] theorem setPort_resetHeld (p : NetPort) (x : PortSt) (s : State) : (setPort p x s).resetHeld = s.resetHeld := by cases p <;> rfl
@[simp] theorem setPort_resetCause (p : NetPort) (x : PortSt) (s : State) : (setPort p x s).resetCause = s.resetCause := by cases p <;> rfl
@[simp] theorem setPort_want (p : NetPort) (x : PortSt) (s : State) : (setPort p x s).want = s.want := by cases p <;> rfl
@[simp] theorem setPort_hPend (p : NetPort) (x : PortSt) (s : State) : (setPort p x s).hPend = s.hPend := by cases p <;> rfl
@[simp] theorem setPort_restart (p : NetPort) (x : PortSt) (s : State) : (setPort p x s).restart = s.restart := by cases p <;> rfl
@[simp] theorem setPort_faults (p : NetPort) (x : PortSt) (s : State) : (setPort p x s).faults = s.faults := by cases p <;> rfl
@[simp] theorem setPort_unlisted (p : NetPort) (x : PortSt) (s : State) : (setPort p x s).unlisted = s.unlisted := by cases p <;> rfl
@[simp] theorem setPort_lockWin (p : NetPort) (x : PortSt) (s : State) : (setPort p x s).lockWin = s.lockWin := by cases p <;> rfl
@[simp] theorem setPort_gableE (p : NetPort) (x : PortSt) (s : State) : (setPort p x s).gableE = s.gableE := by cases p <;> rfl
@[simp] theorem setPort_n0 (p : NetPort) (x : PortSt) (s : State) : (setPort p x s).n0 = s.n0 := by cases p <;> rfl
@[simp] theorem setPort_n1 (p : NetPort) (x : PortSt) (s : State) : (setPort p x s).n1 = s.n1 := by cases p <;> rfl
@[simp] theorem setPort_w (p : NetPort) (x : PortSt) (s : State) : (setPort p x s).w = s.w := by cases p <;> rfl
@[simp] theorem setPort_ridgeB (p : NetPort) (x : PortSt) (s : State) : (setPort p x s).ridgeB = s.ridgeB := by cases p <;> rfl
@[simp] theorem setPort_gable (p : NetPort) (x : PortSt) (s : State) : (setPort p x s).gable = s.gable := by cases p <;> rfl
@[simp] theorem setPort_flash (p : NetPort) (x : PortSt) (s : State) : (setPort p x s).flash = s.flash := by cases p <;> rfl
@[simp] theorem setPort_active (p : NetPort) (x : PortSt) (s : State) : (setPort p x s).active = s.active := by cases p <;> rfl
@[simp] theorem setPort_slate (p : NetPort) (x : PortSt) (s : State) : (setPort p x s).slate = s.slate := by cases p <;> rfl
@[simp] theorem setPort_bk (p : NetPort) (x : PortSt) (s : State) : (setPort p x s).bk = s.bk := by cases p <;> rfl
@[simp] theorem setPort_pwr (p : NetPort) (x : PortSt) (s : State) : (setPort p x s).pwr = s.pwr := by cases p <;> rfl
@[simp] theorem setPort_wth (p : NetPort) (x : PortSt) (s : State) : (setPort p x s).wth = s.wth := by cases p <;> rfl
@[simp] theorem setPort_ridge (p : NetPort) (x : PortSt) (s : State) : (setPort p x s).ridge = s.ridge := by cases p <;> rfl
@[simp] theorem setPort_thatch (p : NetPort) (x : PortSt) (s : State) : (setPort p x s).thatch = s.thatch := by cases p <;> rfl
@[simp] theorem setPort_pair (p : NetPort) (x : PortSt) (s : State) : (setPort p x s).pair = s.pair := by cases p <;> rfl
@[simp] theorem setPort_tcm (p : NetPort) (x : PortSt) (s : State) : (setPort p x s).tcm = s.tcm := by cases p <;> rfl
@[simp] theorem setPort_thatchMem (p : NetPort) (x : PortSt) (s : State) : (setPort p x s).thatchMem = s.thatchMem := by cases p <;> rfl
@[simp] theorem setPort_laneP (p : NetPort) (x : PortSt) (s : State) : (setPort p x s).laneP = s.laneP := by cases p <;> rfl
@[simp] theorem setPort_laneT (p : NetPort) (x : PortSt) (s : State) : (setPort p x s).laneT = s.laneT := by cases p <;> rfl
@[simp] theorem setPort_field (p : NetPort) (x : PortSt) (s : State) : (setPort p x s).field = s.field := by cases p <;> rfl
@[simp] theorem setPort_fa (p : NetPort) (x : PortSt) (s : State) : (setPort p x s).fa = s.fa := by cases p <;> rfl
@[simp] theorem setPort_motion (p : NetPort) (x : PortSt) (s : State) : (setPort p x s).motion = s.motion := by cases p <;> rfl
@[simp] theorem setPort_ptp (p : NetPort) (x : PortSt) (s : State) : (setPort p x s).ptp = s.ptp := by cases p <;> rfl
@[simp] theorem setPort_cas (p : NetPort) (x : PortSt) (s : State) : (setPort p x s).cas = s.cas := by cases p <;> rfl
@[simp] theorem setPort_cvu (p : NetPort) (x : PortSt) (s : State) : (setPort p x s).cvu = s.cvu := by cases p <;> rfl

/-! ## setEngine -/

@[simp] theorem setEngine_pending (e : Engine) (x : EngineSt) (s : State) : (setEngine e x s).pending = s.pending := by cases e <;> rfl
@[simp] theorem setEngine_free (e : Engine) (x : EngineSt) (s : State) : (setEngine e x s).free = s.free := by cases e <;> rfl
@[simp] theorem setEngine_tb (e : Engine) (x : EngineSt) (s : State) : (setEngine e x s).tb = s.tb := by cases e <;> rfl
@[simp] theorem setEngine_tick (e : Engine) (x : EngineSt) (s : State) : (setEngine e x s).tick = s.tick := by cases e <;> rfl
@[simp] theorem setEngine_tmu (e : Engine) (x : EngineSt) (s : State) : (setEngine e x s).tmu = s.tmu := by cases e <;> rfl
@[simp] theorem setEngine_host (e : Engine) (x : EngineSt) (s : State) : (setEngine e x s).host = s.host := by cases e <;> rfl
@[simp] theorem setEngine_mbx (e : Engine) (x : EngineSt) (s : State) : (setEngine e x s).mbx = s.mbx := by cases e <;> rfl
@[simp] theorem setEngine_lull (e : Engine) (x : EngineSt) (s : State) : (setEngine e x s).lull = s.lull := by cases e <;> rfl
@[simp] theorem setEngine_scrubs (e : Engine) (x : EngineSt) (s : State) : (setEngine e x s).scrubs = s.scrubs := by cases e <;> rfl
@[simp] theorem setEngine_mirror (e : Engine) (x : EngineSt) (s : State) : (setEngine e x s).mirror = s.mirror := by cases e <;> rfl
@[simp] theorem setEngine_buf (e : Engine) (x : EngineSt) (s : State) : (setEngine e x s).buf = s.buf := by cases e <;> rfl
@[simp] theorem setEngine_ev (e : Engine) (x : EngineSt) (s : State) : (setEngine e x s).ev = s.ev := by cases e <;> rfl
@[simp] theorem setEngine_mode (e : Engine) (x : EngineSt) (s : State) : (setEngine e x s).mode = s.mode := by cases e <;> rfl
@[simp] theorem setEngine_bootStep (e : Engine) (x : EngineSt) (s : State) : (setEngine e x s).bootStep = s.bootStep := by cases e <;> rfl
@[simp] theorem setEngine_resetHeld (e : Engine) (x : EngineSt) (s : State) : (setEngine e x s).resetHeld = s.resetHeld := by cases e <;> rfl
@[simp] theorem setEngine_resetCause (e : Engine) (x : EngineSt) (s : State) : (setEngine e x s).resetCause = s.resetCause := by cases e <;> rfl
@[simp] theorem setEngine_want (e : Engine) (x : EngineSt) (s : State) : (setEngine e x s).want = s.want := by cases e <;> rfl
@[simp] theorem setEngine_hPend (e : Engine) (x : EngineSt) (s : State) : (setEngine e x s).hPend = s.hPend := by cases e <;> rfl
@[simp] theorem setEngine_restart (e : Engine) (x : EngineSt) (s : State) : (setEngine e x s).restart = s.restart := by cases e <;> rfl
@[simp] theorem setEngine_faults (e : Engine) (x : EngineSt) (s : State) : (setEngine e x s).faults = s.faults := by cases e <;> rfl
@[simp] theorem setEngine_unlisted (e : Engine) (x : EngineSt) (s : State) : (setEngine e x s).unlisted = s.unlisted := by cases e <;> rfl
@[simp] theorem setEngine_lockWin (e : Engine) (x : EngineSt) (s : State) : (setEngine e x s).lockWin = s.lockWin := by cases e <;> rfl
@[simp] theorem setEngine_gable (e : Engine) (x : EngineSt) (s : State) : (setEngine e x s).gable = s.gable := by cases e <;> rfl
@[simp] theorem setEngine_flash (e : Engine) (x : EngineSt) (s : State) : (setEngine e x s).flash = s.flash := by cases e <;> rfl
@[simp] theorem setEngine_active (e : Engine) (x : EngineSt) (s : State) : (setEngine e x s).active = s.active := by cases e <;> rfl
@[simp] theorem setEngine_slate (e : Engine) (x : EngineSt) (s : State) : (setEngine e x s).slate = s.slate := by cases e <;> rfl
@[simp] theorem setEngine_bk (e : Engine) (x : EngineSt) (s : State) : (setEngine e x s).bk = s.bk := by cases e <;> rfl
@[simp] theorem setEngine_pwr (e : Engine) (x : EngineSt) (s : State) : (setEngine e x s).pwr = s.pwr := by cases e <;> rfl
@[simp] theorem setEngine_wth (e : Engine) (x : EngineSt) (s : State) : (setEngine e x s).wth = s.wth := by cases e <;> rfl
@[simp] theorem setEngine_ridge (e : Engine) (x : EngineSt) (s : State) : (setEngine e x s).ridge = s.ridge := by cases e <;> rfl
@[simp] theorem setEngine_thatch (e : Engine) (x : EngineSt) (s : State) : (setEngine e x s).thatch = s.thatch := by cases e <;> rfl
@[simp] theorem setEngine_pair (e : Engine) (x : EngineSt) (s : State) : (setEngine e x s).pair = s.pair := by cases e <;> rfl
@[simp] theorem setEngine_tcm (e : Engine) (x : EngineSt) (s : State) : (setEngine e x s).tcm = s.tcm := by cases e <;> rfl
@[simp] theorem setEngine_thatchMem (e : Engine) (x : EngineSt) (s : State) : (setEngine e x s).thatchMem = s.thatchMem := by cases e <;> rfl
@[simp] theorem setEngine_laneP (e : Engine) (x : EngineSt) (s : State) : (setEngine e x s).laneP = s.laneP := by cases e <;> rfl
@[simp] theorem setEngine_laneT (e : Engine) (x : EngineSt) (s : State) : (setEngine e x s).laneT = s.laneT := by cases e <;> rfl
@[simp] theorem setEngine_field (e : Engine) (x : EngineSt) (s : State) : (setEngine e x s).field = s.field := by cases e <;> rfl
@[simp] theorem setEngine_fa (e : Engine) (x : EngineSt) (s : State) : (setEngine e x s).fa = s.fa := by cases e <;> rfl
@[simp] theorem setEngine_motion (e : Engine) (x : EngineSt) (s : State) : (setEngine e x s).motion = s.motion := by cases e <;> rfl
@[simp] theorem setEngine_portA (e : Engine) (x : EngineSt) (s : State) : (setEngine e x s).portA = s.portA := by cases e <;> rfl
@[simp] theorem setEngine_portB (e : Engine) (x : EngineSt) (s : State) : (setEngine e x s).portB = s.portB := by cases e <;> rfl
@[simp] theorem setEngine_ptp (e : Engine) (x : EngineSt) (s : State) : (setEngine e x s).ptp = s.ptp := by cases e <;> rfl
@[simp] theorem setEngine_cas (e : Engine) (x : EngineSt) (s : State) : (setEngine e x s).cas = s.cas := by cases e <;> rfl
@[simp] theorem setEngine_cvu (e : Engine) (x : EngineSt) (s : State) : (setEngine e x s).cvu = s.cvu := by cases e <;> rfl

/-! ## The updated fields -/

@[simp] theorem irqSet_host (k : Nat) (s : State) : (irqSet k s).host = { s.host with irq := setBit s.host.irq k true } := rfl
@[simp] theorem setData_host (w : W32) (s : State) : (setData w s).host = { s.host with data := w } := rfl
@[simp] theorem setLockFlag_bk (s : State) : (setLockFlag s).bk = { s.bk with lockFlag := Voted.of 1 } := rfl
@[simp] theorem setCand_gable (c : Option Candidate) (s : State) : (setCand c s).gable = { s.gable with cand := c } := rfl
@[simp] theorem sessionOf_setSession (p : Port) (x : Session) (s : State) : sessionOf p (setSession p x s) = x := by cases p <;> rfl
@[simp] theorem laneOf_setLane (l : Lane) (x : LaneFc) (s : State) : laneOf l (setLane l x s) = x := by cases l <;> rfl
@[simp] theorem chanOf_setChan (l : Lane) (x : Chan) (s : State) : chanOf l (setChan l x s) = x := by cases l <;> rfl
@[simp] theorem portOf_setPort (p : NetPort) (x : PortSt) (s : State) : portOf p (setPort p x s) = x := by cases p <;> rfl
@[simp] theorem engineOf_setEngine (e : Engine) (x : EngineSt) (s : State) : engineOf e (setEngine e x s) = x := by cases e <;> rfl
@[simp] theorem laneOf_setChan (l m : Lane) (x : Chan) (s : State) : laneOf m (setChan l x s) = laneOf m s := by
  cases l <;> cases m <;> rfl
@[simp] theorem chanOf_setLane (l m : Lane) (x : LaneFc) (s : State) : chanOf m (setLane l x s) = chanOf m s := by
  cases l <;> cases m <;> rfl

/-- The other lane's controller stays. -/
theorem laneOf_setLane_ne (l m : Lane) (x : LaneFc) (s : State) (h : l ≠ m) : laneOf m (setLane l x s) = laneOf m s := by
  cases l <;> cases m <;> simp_all [setLane, laneOf]

/-- The other lane's channel stays. -/
theorem chanOf_setChan_ne (l m : Lane) (x : Chan) (s : State) (h : l ≠ m) : chanOf m (setChan l x s) = chanOf m s := by
  cases l <;> cases m <;> simp_all [setChan, chanOf]

/-- The other port stays. -/
theorem portOf_setPort_ne (p q : NetPort) (x : PortSt) (s : State) (h : p ≠ q) : portOf q (setPort p x s) = portOf q s := by
  cases p <;> cases q <;> simp_all [setPort, portOf]

/-! ## Vectors -/

/-- The element changed. -/
theorem vget_vmod_self {α : Type} {n : Nat} (v : Vector α n) (i : Nat) (f : α → α) (d : α) (h : i < n) :
    vget (vmod v i f) i d = f (vget v i d) := by
  simp [vget, vmod, h]

/-- Every other element stays. -/
theorem vget_vmod_ne {α : Type} {n : Nat} (v : Vector α n) (i j : Nat) (f : α → α) (d : α) (h : i ≠ j) :
    vget (vmod v i f) j d = vget v j d := by
  unfold vget vmod; split
  · split <;> simp [Vector.getElem_set, h]
  · rfl

/-- The timer channel changed. -/
theorem tmuAt_upd_self (s : State) (n : Nat) (f : TmuCh → TmuCh) (h : n < 32) : tmuAt (tmuUpd n f s) n = f (tmuAt s n) := by
  simp [tmuAt, tmuUpd, vget_vmod_self _ _ _ _ h]

/-- Every other timer channel stays. -/
theorem tmuAt_upd_ne (s : State) (n m : Nat) (f : TmuCh → TmuCh) (h : n ≠ m) : tmuAt (tmuUpd n f s) m = tmuAt s m := by
  simp [tmuAt, tmuUpd, vget_vmod_ne _ _ _ _ _ h]

/-- Two changes of one timer channel are one. -/
theorem tmuUpd_upd (n : Nat) (f g : TmuCh → TmuCh) (s : State) :
    tmuUpd n f (tmuUpd n g s) = tmuUpd n (fun c => f (g c)) s := by
  unfold tmuUpd vmod; split <;> simp

end Sys2Proof.Laws
end

