-- ==== Sys2Proof/Laws/Ops.lean ====
section
/-! SUPPORT. What the shared operations of Machine/Ops.lean and Machine/Service.lean can do: the fields they leave, the faults
present after them, the mailbox memory's form. -/

namespace Sys2Proof.Laws

open Sys2Proof Sys2Proof.Machine

/-- What `writeEvent` leaves as it is. -/
@[simp] theorem writeEvent_frame (kind : Nat) (code : BitVec 16) (arg : W32) (s : State) :
    (writeEvent kind code arg s).pending = s.pending ∧ (writeEvent kind code arg s).free = s.free ∧ (writeEvent kind code arg s).tb = s.tb ∧
    (writeEvent kind code arg s).tick = s.tick ∧ (writeEvent kind code arg s).tmu = s.tmu ∧ (writeEvent kind code arg s).lull = s.lull ∧
    (writeEvent kind code arg s).scrubs = s.scrubs ∧ (writeEvent kind code arg s).mirror = s.mirror ∧ (writeEvent kind code arg s).buf = s.buf ∧
    (writeEvent kind code arg s).ev = s.ev ∧ (writeEvent kind code arg s).mode = s.mode ∧ (writeEvent kind code arg s).bootStep = s.bootStep ∧
    (writeEvent kind code arg s).resetHeld = s.resetHeld ∧ (writeEvent kind code arg s).resetCause = s.resetCause ∧ (writeEvent kind code arg s).want = s.want ∧
    (writeEvent kind code arg s).hPend = s.hPend ∧ (writeEvent kind code arg s).restart = s.restart ∧ (writeEvent kind code arg s).faults = s.faults ∧
    (writeEvent kind code arg s).unlisted = s.unlisted ∧ (writeEvent kind code arg s).lockWin = s.lockWin ∧ (writeEvent kind code arg s).gableE = s.gableE ∧
    (writeEvent kind code arg s).n0 = s.n0 ∧ (writeEvent kind code arg s).n1 = s.n1 ∧ (writeEvent kind code arg s).w = s.w ∧
    (writeEvent kind code arg s).ridgeB = s.ridgeB ∧ (writeEvent kind code arg s).flash = s.flash ∧ (writeEvent kind code arg s).active = s.active ∧
    (writeEvent kind code arg s).slate = s.slate ∧ (writeEvent kind code arg s).bk = s.bk ∧ (writeEvent kind code arg s).pwr = s.pwr ∧
    (writeEvent kind code arg s).wth = s.wth ∧ (writeEvent kind code arg s).ridge = s.ridge ∧ (writeEvent kind code arg s).thatch = s.thatch ∧
    (writeEvent kind code arg s).pair = s.pair ∧ (writeEvent kind code arg s).tcm = s.tcm ∧ (writeEvent kind code arg s).thatchMem = s.thatchMem ∧
    (writeEvent kind code arg s).laneP = s.laneP ∧ (writeEvent kind code arg s).laneT = s.laneT ∧ (writeEvent kind code arg s).field = s.field ∧
    (writeEvent kind code arg s).fa = s.fa ∧ (writeEvent kind code arg s).motion = s.motion ∧ (writeEvent kind code arg s).portA = s.portA ∧
    (writeEvent kind code arg s).portB = s.portB ∧ (writeEvent kind code arg s).ptp = s.ptp ∧ (writeEvent kind code arg s).cas = s.cas ∧
    (writeEvent kind code arg s).cvu = s.cvu := by
  simp [writeEvent]

/-- What `trigMatch` leaves as it is. -/
@[simp] theorem trigMatch_frame (listed : Bool) (code : BitVec 16) (arg : W32) (s : State) :
    (trigMatch listed code arg s).pending = s.pending ∧ (trigMatch listed code arg s).free = s.free ∧ (trigMatch listed code arg s).tb = s.tb ∧
    (trigMatch listed code arg s).tick = s.tick ∧ (trigMatch listed code arg s).tmu = s.tmu ∧ (trigMatch listed code arg s).host = s.host ∧
    (trigMatch listed code arg s).mbx = s.mbx ∧ (trigMatch listed code arg s).scrubs = s.scrubs ∧ (trigMatch listed code arg s).mirror = s.mirror ∧
    (trigMatch listed code arg s).buf = s.buf ∧ (trigMatch listed code arg s).ev = s.ev ∧ (trigMatch listed code arg s).mode = s.mode ∧
    (trigMatch listed code arg s).bootStep = s.bootStep ∧ (trigMatch listed code arg s).resetHeld = s.resetHeld ∧ (trigMatch listed code arg s).resetCause = s.resetCause ∧
    (trigMatch listed code arg s).want = s.want ∧ (trigMatch listed code arg s).hPend = s.hPend ∧ (trigMatch listed code arg s).restart = s.restart ∧
    (trigMatch listed code arg s).faults = s.faults ∧ (trigMatch listed code arg s).unlisted = s.unlisted ∧ (trigMatch listed code arg s).lockWin = s.lockWin ∧
    (trigMatch listed code arg s).gableE = s.gableE ∧ (trigMatch listed code arg s).n0 = s.n0 ∧ (trigMatch listed code arg s).n1 = s.n1 ∧
    (trigMatch listed code arg s).w = s.w ∧ (trigMatch listed code arg s).ridgeB = s.ridgeB ∧ (trigMatch listed code arg s).gable = s.gable ∧
    (trigMatch listed code arg s).flash = s.flash ∧ (trigMatch listed code arg s).active = s.active ∧ (trigMatch listed code arg s).slate = s.slate ∧
    (trigMatch listed code arg s).bk = s.bk ∧ (trigMatch listed code arg s).pwr = s.pwr ∧ (trigMatch listed code arg s).wth = s.wth ∧
    (trigMatch listed code arg s).ridge = s.ridge ∧ (trigMatch listed code arg s).thatch = s.thatch ∧ (trigMatch listed code arg s).pair = s.pair ∧
    (trigMatch listed code arg s).tcm = s.tcm ∧ (trigMatch listed code arg s).thatchMem = s.thatchMem ∧ (trigMatch listed code arg s).laneP = s.laneP ∧
    (trigMatch listed code arg s).laneT = s.laneT ∧ (trigMatch listed code arg s).field = s.field ∧ (trigMatch listed code arg s).fa = s.fa ∧
    (trigMatch listed code arg s).motion = s.motion ∧ (trigMatch listed code arg s).portA = s.portA ∧ (trigMatch listed code arg s).portB = s.portB ∧
    (trigMatch listed code arg s).ptp = s.ptp ∧ (trigMatch listed code arg s).cas = s.cas ∧ (trigMatch listed code arg s).cvu = s.cvu := by
  unfold trigMatch; dsimp only; (repeat' split) <;> simp

/-- What `listFault` leaves as it is. -/
@[simp] theorem listFault_frame (e : FaultEntry) (s : State) :
    (listFault e s).pending = s.pending ∧ (listFault e s).free = s.free ∧ (listFault e s).tb = s.tb ∧
    (listFault e s).tick = s.tick ∧ (listFault e s).tmu = s.tmu ∧ (listFault e s).mbx = s.mbx ∧ (listFault e s).scrubs = s.scrubs ∧ (listFault e s).mirror = s.mirror ∧
    (listFault e s).buf = s.buf ∧ (listFault e s).ev = s.ev ∧ (listFault e s).mode = s.mode ∧
    (listFault e s).bootStep = s.bootStep ∧ (listFault e s).resetHeld = s.resetHeld ∧ (listFault e s).resetCause = s.resetCause ∧
    (listFault e s).want = s.want ∧ (listFault e s).hPend = s.hPend ∧ (listFault e s).restart = s.restart ∧
    (listFault e s).lockWin = s.lockWin ∧ (listFault e s).gableE = s.gableE ∧ (listFault e s).n0 = s.n0 ∧
    (listFault e s).n1 = s.n1 ∧ (listFault e s).w = s.w ∧ (listFault e s).ridgeB = s.ridgeB ∧
    (listFault e s).gable = s.gable ∧ (listFault e s).flash = s.flash ∧ (listFault e s).active = s.active ∧
    (listFault e s).slate = s.slate ∧ (listFault e s).bk = s.bk ∧ (listFault e s).pwr = s.pwr ∧
    (listFault e s).wth = s.wth ∧ (listFault e s).ridge = s.ridge ∧ (listFault e s).thatch = s.thatch ∧
    (listFault e s).pair = s.pair ∧ (listFault e s).tcm = s.tcm ∧ (listFault e s).thatchMem = s.thatchMem ∧
    (listFault e s).laneP = s.laneP ∧ (listFault e s).laneT = s.laneT ∧ (listFault e s).field = s.field ∧
    (listFault e s).fa = s.fa ∧ (listFault e s).motion = s.motion ∧ (listFault e s).portA = s.portA ∧
    (listFault e s).portB = s.portB ∧ (listFault e s).ptp = s.ptp ∧ (listFault e s).cas = s.cas ∧
    (listFault e s).cvu = s.cvu := by
  unfold listFault; (repeat' split) <;> simp

/-- What `dropEvent` leaves as it is. -/
@[simp] theorem dropEvent_frame (s : State) :
    (dropEvent s).pending = s.pending ∧ (dropEvent s).free = s.free ∧ (dropEvent s).tb = s.tb ∧
    (dropEvent s).tick = s.tick ∧ (dropEvent s).tmu = s.tmu ∧ (dropEvent s).mbx = s.mbx ∧ (dropEvent s).scrubs = s.scrubs ∧ (dropEvent s).mirror = s.mirror ∧
    (dropEvent s).buf = s.buf ∧ (dropEvent s).ev = s.ev ∧ (dropEvent s).mode = s.mode ∧
    (dropEvent s).bootStep = s.bootStep ∧ (dropEvent s).resetHeld = s.resetHeld ∧ (dropEvent s).resetCause = s.resetCause ∧
    (dropEvent s).want = s.want ∧ (dropEvent s).hPend = s.hPend ∧ (dropEvent s).restart = s.restart ∧
    (dropEvent s).lockWin = s.lockWin ∧ (dropEvent s).gableE = s.gableE ∧ (dropEvent s).n0 = s.n0 ∧
    (dropEvent s).n1 = s.n1 ∧ (dropEvent s).w = s.w ∧ (dropEvent s).ridgeB = s.ridgeB ∧
    (dropEvent s).flash = s.flash ∧ (dropEvent s).active = s.active ∧ (dropEvent s).slate = s.slate ∧
    (dropEvent s).bk = s.bk ∧ (dropEvent s).pwr = s.pwr ∧ (dropEvent s).wth = s.wth ∧
    (dropEvent s).ridge = s.ridge ∧ (dropEvent s).thatch = s.thatch ∧ (dropEvent s).pair = s.pair ∧
    (dropEvent s).tcm = s.tcm ∧ (dropEvent s).thatchMem = s.thatchMem ∧ (dropEvent s).laneP = s.laneP ∧
    (dropEvent s).laneT = s.laneT ∧ (dropEvent s).field = s.field ∧ (dropEvent s).fa = s.fa ∧
    (dropEvent s).motion = s.motion ∧ (dropEvent s).portA = s.portA ∧ (dropEvent s).portB = s.portB ∧
    (dropEvent s).ptp = s.ptp ∧ (dropEvent s).cas = s.cas ∧ (dropEvent s).cvu = s.cvu := by
  unfold dropEvent; (repeat' split) <;> simp

/-- What `flushLost` leaves as it is. -/
@[simp] theorem flushLost_frame (s : State) :
    (flushLost s).pending = s.pending ∧ (flushLost s).free = s.free ∧ (flushLost s).tb = s.tb ∧
    (flushLost s).tick = s.tick ∧ (flushLost s).tmu = s.tmu ∧
    (flushLost s).scrubs = s.scrubs ∧ (flushLost s).mirror = s.mirror ∧ (flushLost s).buf = s.buf ∧
    (flushLost s).ev = s.ev ∧ (flushLost s).mode = s.mode ∧ (flushLost s).bootStep = s.bootStep ∧
    (flushLost s).resetHeld = s.resetHeld ∧ (flushLost s).resetCause = s.resetCause ∧ (flushLost s).want = s.want ∧
    (flushLost s).hPend = s.hPend ∧ (flushLost s).restart = s.restart ∧ (flushLost s).faults = s.faults ∧
    (flushLost s).unlisted = s.unlisted ∧ (flushLost s).lockWin = s.lockWin ∧ (flushLost s).gableE = s.gableE ∧
    (flushLost s).n0 = s.n0 ∧ (flushLost s).n1 = s.n1 ∧ (flushLost s).w = s.w ∧
    (flushLost s).ridgeB = s.ridgeB ∧ (flushLost s).flash = s.flash ∧ (flushLost s).active = s.active ∧
    (flushLost s).slate = s.slate ∧ (flushLost s).bk = s.bk ∧ (flushLost s).pwr = s.pwr ∧
    (flushLost s).wth = s.wth ∧ (flushLost s).ridge = s.ridge ∧ (flushLost s).thatch = s.thatch ∧
    (flushLost s).pair = s.pair ∧ (flushLost s).tcm = s.tcm ∧ (flushLost s).thatchMem = s.thatchMem ∧
    (flushLost s).laneP = s.laneP ∧ (flushLost s).laneT = s.laneT ∧ (flushLost s).field = s.field ∧
    (flushLost s).fa = s.fa ∧ (flushLost s).motion = s.motion ∧ (flushLost s).portA = s.portA ∧
    (flushLost s).portB = s.portB ∧ (flushLost s).ptp = s.ptp ∧ (flushLost s).cas = s.cas ∧
    (flushLost s).cvu = s.cvu := by
  unfold flushLost; (repeat' split) <;> simp

/-- What `postEvent` leaves as it is. -/
@[simp] theorem postEvent_frame (kind : Nat) (code : BitVec 16) (arg : W32) (s : State) :
    (postEvent kind code arg s).pending = s.pending ∧ (postEvent kind code arg s).free = s.free ∧ (postEvent kind code arg s).tb = s.tb ∧
    (postEvent kind code arg s).tick = s.tick ∧ (postEvent kind code arg s).tmu = s.tmu ∧
    (postEvent kind code arg s).scrubs = s.scrubs ∧ (postEvent kind code arg s).mirror = s.mirror ∧ (postEvent kind code arg s).buf = s.buf ∧
    (postEvent kind code arg s).ev = s.ev ∧ (postEvent kind code arg s).mode = s.mode ∧ (postEvent kind code arg s).bootStep = s.bootStep ∧
    (postEvent kind code arg s).resetHeld = s.resetHeld ∧ (postEvent kind code arg s).resetCause = s.resetCause ∧ (postEvent kind code arg s).want = s.want ∧
    (postEvent kind code arg s).hPend = s.hPend ∧ (postEvent kind code arg s).restart = s.restart ∧ (postEvent kind code arg s).lockWin = s.lockWin ∧
    (postEvent kind code arg s).gableE = s.gableE ∧ (postEvent kind code arg s).n0 = s.n0 ∧ (postEvent kind code arg s).n1 = s.n1 ∧
    (postEvent kind code arg s).w = s.w ∧ (postEvent kind code arg s).ridgeB = s.ridgeB ∧ (postEvent kind code arg s).flash = s.flash ∧
    (postEvent kind code arg s).active = s.active ∧ (postEvent kind code arg s).slate = s.slate ∧ (postEvent kind code arg s).bk = s.bk ∧
    (postEvent kind code arg s).pwr = s.pwr ∧ (postEvent kind code arg s).wth = s.wth ∧ (postEvent kind code arg s).ridge = s.ridge ∧
    (postEvent kind code arg s).thatch = s.thatch ∧ (postEvent kind code arg s).pair = s.pair ∧ (postEvent kind code arg s).tcm = s.tcm ∧
    (postEvent kind code arg s).thatchMem = s.thatchMem ∧ (postEvent kind code arg s).laneP = s.laneP ∧ (postEvent kind code arg s).laneT = s.laneT ∧
    (postEvent kind code arg s).field = s.field ∧ (postEvent kind code arg s).fa = s.fa ∧ (postEvent kind code arg s).motion = s.motion ∧
    (postEvent kind code arg s).portA = s.portA ∧ (postEvent kind code arg s).portB = s.portB ∧ (postEvent kind code arg s).ptp = s.ptp ∧
    (postEvent kind code arg s).cas = s.cas ∧ (postEvent kind code arg s).cvu = s.cvu := by
  unfold postEvent; (repeat' split) <;> simp <;> (repeat' split) <;> simp

/-- What `logAppend` leaves as it is. -/
@[simp] theorem logAppend_frame (f : LogFields) (c : Nat) (prev : List Byte) (s : State) :
    (logAppend f c prev s).pending = s.pending ∧ (logAppend f c prev s).free = s.free ∧ (logAppend f c prev s).tb = s.tb ∧
    (logAppend f c prev s).tick = s.tick ∧ (logAppend f c prev s).tmu = s.tmu ∧ (logAppend f c prev s).host = s.host ∧
    (logAppend f c prev s).mbx = s.mbx ∧ (logAppend f c prev s).lull = s.lull ∧ (logAppend f c prev s).scrubs = s.scrubs ∧
    (logAppend f c prev s).mirror = s.mirror ∧ (logAppend f c prev s).buf = s.buf ∧ (logAppend f c prev s).ev = s.ev ∧
    (logAppend f c prev s).mode = s.mode ∧ (logAppend f c prev s).bootStep = s.bootStep ∧ (logAppend f c prev s).resetHeld = s.resetHeld ∧
    (logAppend f c prev s).resetCause = s.resetCause ∧ (logAppend f c prev s).want = s.want ∧ (logAppend f c prev s).hPend = s.hPend ∧
    (logAppend f c prev s).restart = s.restart ∧ (logAppend f c prev s).faults = s.faults ∧ (logAppend f c prev s).unlisted = s.unlisted ∧
    (logAppend f c prev s).lockWin = s.lockWin ∧ (logAppend f c prev s).gableE = s.gableE ∧ (logAppend f c prev s).n0 = s.n0 ∧
    (logAppend f c prev s).n1 = s.n1 ∧ (logAppend f c prev s).w = s.w ∧ (logAppend f c prev s).ridgeB = s.ridgeB ∧
    (logAppend f c prev s).gable = s.gable ∧ (logAppend f c prev s).active = s.active ∧ (logAppend f c prev s).slate = s.slate ∧
    (logAppend f c prev s).pwr = s.pwr ∧ (logAppend f c prev s).wth = s.wth ∧ (logAppend f c prev s).ridge = s.ridge ∧
    (logAppend f c prev s).thatch = s.thatch ∧ (logAppend f c prev s).pair = s.pair ∧ (logAppend f c prev s).tcm = s.tcm ∧
    (logAppend f c prev s).thatchMem = s.thatchMem ∧ (logAppend f c prev s).laneP = s.laneP ∧ (logAppend f c prev s).laneT = s.laneT ∧
    (logAppend f c prev s).field = s.field ∧ (logAppend f c prev s).fa = s.fa ∧ (logAppend f c prev s).motion = s.motion ∧
    (logAppend f c prev s).portA = s.portA ∧ (logAppend f c prev s).portB = s.portB ∧ (logAppend f c prev s).ptp = s.ptp ∧
    (logAppend f c prev s).cas = s.cas ∧ (logAppend f c prev s).cvu = s.cvu := by
  simp [logAppend]

/-- What `logNext` leaves as it is. -/
@[simp] theorem logNext_frame (f : LogFields) (s : State) :
    (logNext f s).pending = s.pending ∧ (logNext f s).free = s.free ∧ (logNext f s).tb = s.tb ∧
    (logNext f s).tick = s.tick ∧ (logNext f s).tmu = s.tmu ∧ (logNext f s).host = s.host ∧
    (logNext f s).mbx = s.mbx ∧ (logNext f s).lull = s.lull ∧ (logNext f s).scrubs = s.scrubs ∧
    (logNext f s).mirror = s.mirror ∧ (logNext f s).buf = s.buf ∧ (logNext f s).ev = s.ev ∧
    (logNext f s).mode = s.mode ∧ (logNext f s).bootStep = s.bootStep ∧ (logNext f s).resetHeld = s.resetHeld ∧
    (logNext f s).resetCause = s.resetCause ∧ (logNext f s).want = s.want ∧ (logNext f s).hPend = s.hPend ∧
    (logNext f s).restart = s.restart ∧ (logNext f s).faults = s.faults ∧ (logNext f s).unlisted = s.unlisted ∧
    (logNext f s).lockWin = s.lockWin ∧ (logNext f s).gableE = s.gableE ∧ (logNext f s).n0 = s.n0 ∧
    (logNext f s).n1 = s.n1 ∧ (logNext f s).w = s.w ∧ (logNext f s).ridgeB = s.ridgeB ∧
    (logNext f s).gable = s.gable ∧ (logNext f s).active = s.active ∧ (logNext f s).slate = s.slate ∧
    (logNext f s).pwr = s.pwr ∧ (logNext f s).wth = s.wth ∧ (logNext f s).ridge = s.ridge ∧
    (logNext f s).thatch = s.thatch ∧ (logNext f s).pair = s.pair ∧ (logNext f s).tcm = s.tcm ∧
    (logNext f s).thatchMem = s.thatchMem ∧ (logNext f s).laneP = s.laneP ∧ (logNext f s).laneT = s.laneT ∧
    (logNext f s).field = s.field ∧ (logNext f s).fa = s.fa ∧ (logNext f s).motion = s.motion ∧
    (logNext f s).portA = s.portA ∧ (logNext f s).portB = s.portB ∧ (logNext f s).ptp = s.ptp ∧
    (logNext f s).cas = s.cas ∧ (logNext f s).cvu = s.cvu := by
  simp [logNext]

/-- What `logWrite` leaves as it is. -/
@[simp] theorem logWrite_frame (f : LogFields) (s : State) :
    (logWrite f s).pending = s.pending ∧ (logWrite f s).free = s.free ∧ (logWrite f s).tb = s.tb ∧
    (logWrite f s).tick = s.tick ∧ (logWrite f s).tmu = s.tmu ∧ (logWrite f s).host = s.host ∧
    (logWrite f s).mbx = s.mbx ∧ (logWrite f s).lull = s.lull ∧ (logWrite f s).scrubs = s.scrubs ∧
    (logWrite f s).mirror = s.mirror ∧ (logWrite f s).buf = s.buf ∧ (logWrite f s).ev = s.ev ∧
    (logWrite f s).mode = s.mode ∧ (logWrite f s).bootStep = s.bootStep ∧ (logWrite f s).resetHeld = s.resetHeld ∧
    (logWrite f s).resetCause = s.resetCause ∧ (logWrite f s).want = s.want ∧ (logWrite f s).hPend = s.hPend ∧
    (logWrite f s).restart = s.restart ∧ (logWrite f s).faults = s.faults ∧ (logWrite f s).unlisted = s.unlisted ∧
    (logWrite f s).lockWin = s.lockWin ∧ (logWrite f s).gableE = s.gableE ∧ (logWrite f s).n0 = s.n0 ∧
    (logWrite f s).n1 = s.n1 ∧ (logWrite f s).w = s.w ∧ (logWrite f s).ridgeB = s.ridgeB ∧
    (logWrite f s).gable = s.gable ∧ (logWrite f s).active = s.active ∧ (logWrite f s).slate = s.slate ∧
    (logWrite f s).pwr = s.pwr ∧ (logWrite f s).wth = s.wth ∧ (logWrite f s).ridge = s.ridge ∧
    (logWrite f s).thatch = s.thatch ∧ (logWrite f s).pair = s.pair ∧ (logWrite f s).tcm = s.tcm ∧
    (logWrite f s).thatchMem = s.thatchMem ∧ (logWrite f s).laneP = s.laneP ∧ (logWrite f s).laneT = s.laneT ∧
    (logWrite f s).field = s.field ∧ (logWrite f s).fa = s.fa ∧ (logWrite f s).motion = s.motion ∧
    (logWrite f s).portA = s.portA ∧ (logWrite f s).portB = s.portB ∧ (logWrite f s).ptp = s.ptp ∧
    (logWrite f s).cas = s.cas ∧ (logWrite f s).cvu = s.cvu := by
  unfold logWrite; split <;> simp

/-- What `logEvent` leaves as it is. -/
@[simp] theorem logEvent_frame (code : BitVec 16) (arg : List Byte) (s : State) :
    (logEvent code arg s).pending = s.pending ∧ (logEvent code arg s).free = s.free ∧ (logEvent code arg s).tb = s.tb ∧
    (logEvent code arg s).tick = s.tick ∧ (logEvent code arg s).tmu = s.tmu ∧ (logEvent code arg s).host = s.host ∧
    (logEvent code arg s).mbx = s.mbx ∧ (logEvent code arg s).lull = s.lull ∧ (logEvent code arg s).scrubs = s.scrubs ∧
    (logEvent code arg s).mirror = s.mirror ∧ (logEvent code arg s).buf = s.buf ∧ (logEvent code arg s).ev = s.ev ∧
    (logEvent code arg s).mode = s.mode ∧ (logEvent code arg s).bootStep = s.bootStep ∧ (logEvent code arg s).resetHeld = s.resetHeld ∧
    (logEvent code arg s).resetCause = s.resetCause ∧ (logEvent code arg s).want = s.want ∧ (logEvent code arg s).hPend = s.hPend ∧
    (logEvent code arg s).restart = s.restart ∧ (logEvent code arg s).faults = s.faults ∧ (logEvent code arg s).unlisted = s.unlisted ∧
    (logEvent code arg s).lockWin = s.lockWin ∧ (logEvent code arg s).gableE = s.gableE ∧ (logEvent code arg s).n0 = s.n0 ∧
    (logEvent code arg s).n1 = s.n1 ∧ (logEvent code arg s).w = s.w ∧ (logEvent code arg s).ridgeB = s.ridgeB ∧
    (logEvent code arg s).gable = s.gable ∧ (logEvent code arg s).active = s.active ∧ (logEvent code arg s).slate = s.slate ∧
    (logEvent code arg s).pwr = s.pwr ∧ (logEvent code arg s).wth = s.wth ∧ (logEvent code arg s).ridge = s.ridge ∧
    (logEvent code arg s).thatch = s.thatch ∧ (logEvent code arg s).pair = s.pair ∧ (logEvent code arg s).tcm = s.tcm ∧
    (logEvent code arg s).thatchMem = s.thatchMem ∧ (logEvent code arg s).laneP = s.laneP ∧ (logEvent code arg s).laneT = s.laneT ∧
    (logEvent code arg s).field = s.field ∧ (logEvent code arg s).fa = s.fa ∧ (logEvent code arg s).motion = s.motion ∧
    (logEvent code arg s).portA = s.portA ∧ (logEvent code arg s).portB = s.portB ∧ (logEvent code arg s).ptp = s.ptp ∧
    (logEvent code arg s).cas = s.cas ∧ (logEvent code arg s).cvu = s.cvu := by
  unfold logEvent; (repeat' split) <;> simp

/-- What `classH` leaves as it is. -/
@[simp] theorem classH_frame (code : BitVec 16) (arg : W32) (s : State) :
    (classH code arg s).pending = s.pending ∧ (classH code arg s).free = s.free ∧ (classH code arg s).tb = s.tb ∧
    (classH code arg s).tick = s.tick ∧ (classH code arg s).tmu = s.tmu ∧ (classH code arg s).host = s.host ∧
    (classH code arg s).mbx = s.mbx ∧ (classH code arg s).lull = s.lull ∧ (classH code arg s).scrubs = s.scrubs ∧
    (classH code arg s).mirror = s.mirror ∧ (classH code arg s).buf = s.buf ∧ (classH code arg s).ev = s.ev ∧
    (classH code arg s).mode = s.mode ∧ (classH code arg s).bootStep = s.bootStep ∧ (classH code arg s).resetHeld = s.resetHeld ∧
    (classH code arg s).resetCause = s.resetCause ∧ (classH code arg s).want = s.want ∧ (classH code arg s).restart = s.restart ∧
    (classH code arg s).faults = s.faults ∧ (classH code arg s).unlisted = s.unlisted ∧ (classH code arg s).lockWin = s.lockWin ∧
    (classH code arg s).gableE = s.gableE ∧ (classH code arg s).n0 = s.n0 ∧ (classH code arg s).n1 = s.n1 ∧
    (classH code arg s).w = s.w ∧ (classH code arg s).ridgeB = s.ridgeB ∧ (classH code arg s).gable = s.gable ∧
    (classH code arg s).active = s.active ∧ (classH code arg s).slate = s.slate ∧ (classH code arg s).pwr = s.pwr ∧
    (classH code arg s).wth = s.wth ∧ (classH code arg s).ridge = s.ridge ∧ (classH code arg s).thatch = s.thatch ∧
    (classH code arg s).pair = s.pair ∧ (classH code arg s).tcm = s.tcm ∧ (classH code arg s).thatchMem = s.thatchMem ∧
    (classH code arg s).laneP = s.laneP ∧ (classH code arg s).laneT = s.laneT ∧ (classH code arg s).field = s.field ∧
    (classH code arg s).fa = s.fa ∧ (classH code arg s).motion = s.motion ∧ (classH code arg s).portA = s.portA ∧
    (classH code arg s).portB = s.portB ∧ (classH code arg s).ptp = s.ptp ∧ (classH code arg s).cas = s.cas ∧
    (classH code arg s).cvu = s.cvu := by
  unfold classH; (repeat' split) <;> simp <;> (repeat' split) <;> simp

/-- What `foundAgain` leaves as it is. -/
@[simp] theorem foundAgain_frame (code : BitVec 16) (s : State) :
    (foundAgain code s).pending = s.pending ∧ (foundAgain code s).free = s.free ∧ (foundAgain code s).tb = s.tb ∧
    (foundAgain code s).tick = s.tick ∧ (foundAgain code s).tmu = s.tmu ∧ (foundAgain code s).host = s.host ∧
    (foundAgain code s).mbx = s.mbx ∧ (foundAgain code s).lull = s.lull ∧ (foundAgain code s).scrubs = s.scrubs ∧
    (foundAgain code s).mirror = s.mirror ∧ (foundAgain code s).buf = s.buf ∧ (foundAgain code s).ev = s.ev ∧
    (foundAgain code s).mode = s.mode ∧ (foundAgain code s).bootStep = s.bootStep ∧ (foundAgain code s).resetHeld = s.resetHeld ∧
    (foundAgain code s).resetCause = s.resetCause ∧ (foundAgain code s).want = s.want ∧ (foundAgain code s).restart = s.restart ∧
    (foundAgain code s).faults = s.faults ∧ (foundAgain code s).unlisted = s.unlisted ∧ (foundAgain code s).lockWin = s.lockWin ∧
    (foundAgain code s).gableE = s.gableE ∧ (foundAgain code s).n0 = s.n0 ∧ (foundAgain code s).n1 = s.n1 ∧
    (foundAgain code s).w = s.w ∧ (foundAgain code s).ridgeB = s.ridgeB ∧ (foundAgain code s).gable = s.gable ∧
    (foundAgain code s).flash = s.flash ∧ (foundAgain code s).active = s.active ∧ (foundAgain code s).slate = s.slate ∧
    (foundAgain code s).bk = s.bk ∧ (foundAgain code s).pwr = s.pwr ∧ (foundAgain code s).wth = s.wth ∧
    (foundAgain code s).ridge = s.ridge ∧ (foundAgain code s).thatch = s.thatch ∧ (foundAgain code s).pair = s.pair ∧
    (foundAgain code s).tcm = s.tcm ∧ (foundAgain code s).thatchMem = s.thatchMem ∧ (foundAgain code s).laneP = s.laneP ∧
    (foundAgain code s).laneT = s.laneT ∧ (foundAgain code s).field = s.field ∧ (foundAgain code s).fa = s.fa ∧
    (foundAgain code s).motion = s.motion ∧ (foundAgain code s).portA = s.portA ∧ (foundAgain code s).portB = s.portB ∧
    (foundAgain code s).ptp = s.ptp ∧ (foundAgain code s).cas = s.cas ∧ (foundAgain code s).cvu = s.cvu := by
  unfold foundAgain; split <;> simp

/-- What `raiseW` leaves as it is. -/
@[simp] theorem raiseW_frame (warning : Bool) (code : BitVec 16) (arg : W32) (s : State) :
    (raiseW warning code arg s).pending = s.pending ∧ (raiseW warning code arg s).free = s.free ∧ (raiseW warning code arg s).tb = s.tb ∧
    (raiseW warning code arg s).tick = s.tick ∧ (raiseW warning code arg s).tmu = s.tmu ∧ (raiseW warning code arg s).scrubs = s.scrubs ∧
    (raiseW warning code arg s).mirror = s.mirror ∧ (raiseW warning code arg s).buf = s.buf ∧ (raiseW warning code arg s).mode = s.mode ∧
    (raiseW warning code arg s).bootStep = s.bootStep ∧ (raiseW warning code arg s).resetHeld = s.resetHeld ∧ (raiseW warning code arg s).resetCause = s.resetCause ∧
    (raiseW warning code arg s).want = s.want ∧ (raiseW warning code arg s).restart = s.restart ∧ (raiseW warning code arg s).lockWin = s.lockWin ∧
    (raiseW warning code arg s).gableE = s.gableE ∧ (raiseW warning code arg s).n0 = s.n0 ∧ (raiseW warning code arg s).n1 = s.n1 ∧
    (raiseW warning code arg s).w = s.w ∧ (raiseW warning code arg s).ridgeB = s.ridgeB ∧ (raiseW warning code arg s).active = s.active ∧
    (raiseW warning code arg s).slate = s.slate ∧ (raiseW warning code arg s).pwr = s.pwr ∧ (raiseW warning code arg s).wth = s.wth ∧
    (raiseW warning code arg s).ridge = s.ridge ∧ (raiseW warning code arg s).thatch = s.thatch ∧ (raiseW warning code arg s).pair = s.pair ∧
    (raiseW warning code arg s).tcm = s.tcm ∧ (raiseW warning code arg s).thatchMem = s.thatchMem ∧ (raiseW warning code arg s).laneP = s.laneP ∧
    (raiseW warning code arg s).laneT = s.laneT ∧ (raiseW warning code arg s).field = s.field ∧ (raiseW warning code arg s).fa = s.fa ∧
    (raiseW warning code arg s).motion = s.motion ∧ (raiseW warning code arg s).portA = s.portA ∧ (raiseW warning code arg s).portB = s.portB ∧
    (raiseW warning code arg s).ptp = s.ptp ∧ (raiseW warning code arg s).cas = s.cas ∧ (raiseW warning code arg s).cvu = s.cvu := by
  unfold raiseW; split
  · simp
  · split
    · simp
    · dsimp only; (repeat' split) <;> simp

/-- What `raise` leaves as it is. -/
@[simp] theorem raise_frame (code : BitVec 16) (arg : Nat) (s : State) :
    (raise code arg s).pending = s.pending ∧ (raise code arg s).free = s.free ∧ (raise code arg s).tb = s.tb ∧
    (raise code arg s).tick = s.tick ∧ (raise code arg s).tmu = s.tmu ∧ (raise code arg s).scrubs = s.scrubs ∧
    (raise code arg s).mirror = s.mirror ∧ (raise code arg s).buf = s.buf ∧ (raise code arg s).mode = s.mode ∧
    (raise code arg s).bootStep = s.bootStep ∧ (raise code arg s).resetHeld = s.resetHeld ∧ (raise code arg s).resetCause = s.resetCause ∧
    (raise code arg s).want = s.want ∧ (raise code arg s).restart = s.restart ∧ (raise code arg s).lockWin = s.lockWin ∧
    (raise code arg s).gableE = s.gableE ∧ (raise code arg s).n0 = s.n0 ∧ (raise code arg s).n1 = s.n1 ∧
    (raise code arg s).w = s.w ∧ (raise code arg s).ridgeB = s.ridgeB ∧ (raise code arg s).active = s.active ∧
    (raise code arg s).slate = s.slate ∧ (raise code arg s).pwr = s.pwr ∧ (raise code arg s).wth = s.wth ∧
    (raise code arg s).ridge = s.ridge ∧ (raise code arg s).thatch = s.thatch ∧ (raise code arg s).pair = s.pair ∧
    (raise code arg s).tcm = s.tcm ∧ (raise code arg s).thatchMem = s.thatchMem ∧ (raise code arg s).laneP = s.laneP ∧
    (raise code arg s).laneT = s.laneT ∧ (raise code arg s).field = s.field ∧ (raise code arg s).fa = s.fa ∧
    (raise code arg s).motion = s.motion ∧ (raise code arg s).portA = s.portA ∧ (raise code arg s).portB = s.portB ∧
    (raise code arg s).ptp = s.ptp ∧ (raise code arg s).cas = s.cas ∧ (raise code arg s).cvu = s.cvu := by
  simp [raise]

/-- What `dropFault` leaves as it is. -/
@[simp] theorem dropFault_frame (e : FaultEntry) (s : State) :
    (dropFault e s).pending = s.pending ∧ (dropFault e s).free = s.free ∧ (dropFault e s).tb = s.tb ∧
    (dropFault e s).tick = s.tick ∧ (dropFault e s).tmu = s.tmu ∧
    (dropFault e s).scrubs = s.scrubs ∧ (dropFault e s).mirror = s.mirror ∧ (dropFault e s).buf = s.buf ∧
    (dropFault e s).ev = s.ev ∧ (dropFault e s).mode = s.mode ∧ (dropFault e s).bootStep = s.bootStep ∧
    (dropFault e s).resetHeld = s.resetHeld ∧ (dropFault e s).resetCause = s.resetCause ∧ (dropFault e s).want = s.want ∧
    (dropFault e s).hPend = s.hPend ∧ (dropFault e s).restart = s.restart ∧ (dropFault e s).lockWin = s.lockWin ∧
    (dropFault e s).gableE = s.gableE ∧ (dropFault e s).n0 = s.n0 ∧ (dropFault e s).n1 = s.n1 ∧
    (dropFault e s).w = s.w ∧ (dropFault e s).ridgeB = s.ridgeB ∧ (dropFault e s).flash = s.flash ∧
    (dropFault e s).active = s.active ∧ (dropFault e s).slate = s.slate ∧ (dropFault e s).bk = s.bk ∧
    (dropFault e s).pwr = s.pwr ∧ (dropFault e s).wth = s.wth ∧ (dropFault e s).ridge = s.ridge ∧
    (dropFault e s).thatch = s.thatch ∧ (dropFault e s).pair = s.pair ∧ (dropFault e s).tcm = s.tcm ∧
    (dropFault e s).thatchMem = s.thatchMem ∧ (dropFault e s).laneP = s.laneP ∧ (dropFault e s).laneT = s.laneT ∧
    (dropFault e s).field = s.field ∧ (dropFault e s).fa = s.fa ∧ (dropFault e s).motion = s.motion ∧
    (dropFault e s).portA = s.portA ∧ (dropFault e s).portB = s.portB ∧ (dropFault e s).ptp = s.ptp ∧
    (dropFault e s).cas = s.cas ∧ (dropFault e s).cvu = s.cvu := by
  unfold dropFault; dsimp only; split <;> simp

/-- What a fold of steps leaves as it is. -/
theorem foldl_keeps {α β : Type} (p : State → β) (f : State → α → State) (hf : ∀ t a, p (f t a) = p t) (l : List α) (s : State) :
    p (l.foldl f s) = p s := by
  induction l generalizing s with
  | nil => rfl
  | cons a l ih => simp [ih, hf]

/-- What `clearWhere` leaves as it is. -/
@[simp] theorem clearWhere_frame (p : FaultEntry → Bool) (s : State) :
    (clearWhere p s).pending = s.pending ∧ (clearWhere p s).free = s.free ∧ (clearWhere p s).tb = s.tb ∧
    (clearWhere p s).tick = s.tick ∧ (clearWhere p s).tmu = s.tmu ∧
    (clearWhere p s).scrubs = s.scrubs ∧ (clearWhere p s).mirror = s.mirror ∧ (clearWhere p s).buf = s.buf ∧
    (clearWhere p s).ev = s.ev ∧ (clearWhere p s).mode = s.mode ∧ (clearWhere p s).bootStep = s.bootStep ∧
    (clearWhere p s).resetHeld = s.resetHeld ∧ (clearWhere p s).resetCause = s.resetCause ∧ (clearWhere p s).want = s.want ∧
    (clearWhere p s).hPend = s.hPend ∧ (clearWhere p s).restart = s.restart ∧ (clearWhere p s).lockWin = s.lockWin ∧
    (clearWhere p s).gableE = s.gableE ∧ (clearWhere p s).n0 = s.n0 ∧ (clearWhere p s).n1 = s.n1 ∧
    (clearWhere p s).w = s.w ∧ (clearWhere p s).ridgeB = s.ridgeB ∧ (clearWhere p s).flash = s.flash ∧
    (clearWhere p s).active = s.active ∧ (clearWhere p s).slate = s.slate ∧ (clearWhere p s).bk = s.bk ∧
    (clearWhere p s).pwr = s.pwr ∧ (clearWhere p s).wth = s.wth ∧ (clearWhere p s).ridge = s.ridge ∧
    (clearWhere p s).thatch = s.thatch ∧ (clearWhere p s).pair = s.pair ∧ (clearWhere p s).tcm = s.tcm ∧
    (clearWhere p s).thatchMem = s.thatchMem ∧ (clearWhere p s).laneP = s.laneP ∧ (clearWhere p s).laneT = s.laneT ∧
    (clearWhere p s).field = s.field ∧ (clearWhere p s).fa = s.fa ∧ (clearWhere p s).motion = s.motion ∧
    (clearWhere p s).portA = s.portA ∧ (clearWhere p s).portB = s.portB ∧ (clearWhere p s).ptp = s.ptp ∧
    (clearWhere p s).cas = s.cas ∧ (clearWhere p s).cvu = s.cvu := by
  unfold clearWhere
  refine ⟨?_, ?_, ?_, ?_, ?_, ?_, ?_, ?_, ?_, ?_, ?_, ?_, ?_, ?_, ?_, ?_, ?_, ?_, ?_, ?_, ?_, ?_, ?_, ?_, ?_, ?_, ?_, ?_, ?_, ?_, ?_, ?_, ?_, ?_, ?_, ?_, ?_, ?_, ?_, ?_, ?_, ?_, ?_⟩ <;> exact foldl_keeps _ _ (fun t e => by simp) _ _

/-- What `clearFault` leaves as it is. -/
@[simp] theorem clearFault_frame (code : BitVec 16) (obj : Nat) (s : State) :
    (clearFault code obj s).pending = s.pending ∧ (clearFault code obj s).free = s.free ∧ (clearFault code obj s).tb = s.tb ∧
    (clearFault code obj s).tick = s.tick ∧ (clearFault code obj s).tmu = s.tmu ∧
    (clearFault code obj s).scrubs = s.scrubs ∧ (clearFault code obj s).mirror = s.mirror ∧ (clearFault code obj s).buf = s.buf ∧
    (clearFault code obj s).ev = s.ev ∧ (clearFault code obj s).mode = s.mode ∧ (clearFault code obj s).bootStep = s.bootStep ∧
    (clearFault code obj s).resetHeld = s.resetHeld ∧ (clearFault code obj s).resetCause = s.resetCause ∧ (clearFault code obj s).want = s.want ∧
    (clearFault code obj s).hPend = s.hPend ∧ (clearFault code obj s).restart = s.restart ∧ (clearFault code obj s).lockWin = s.lockWin ∧
    (clearFault code obj s).gableE = s.gableE ∧ (clearFault code obj s).n0 = s.n0 ∧ (clearFault code obj s).n1 = s.n1 ∧
    (clearFault code obj s).w = s.w ∧ (clearFault code obj s).ridgeB = s.ridgeB ∧ (clearFault code obj s).flash = s.flash ∧
    (clearFault code obj s).active = s.active ∧ (clearFault code obj s).slate = s.slate ∧ (clearFault code obj s).bk = s.bk ∧
    (clearFault code obj s).pwr = s.pwr ∧ (clearFault code obj s).wth = s.wth ∧ (clearFault code obj s).ridge = s.ridge ∧
    (clearFault code obj s).thatch = s.thatch ∧ (clearFault code obj s).pair = s.pair ∧ (clearFault code obj s).tcm = s.tcm ∧
    (clearFault code obj s).thatchMem = s.thatchMem ∧ (clearFault code obj s).laneP = s.laneP ∧ (clearFault code obj s).laneT = s.laneT ∧
    (clearFault code obj s).field = s.field ∧ (clearFault code obj s).fa = s.fa ∧ (clearFault code obj s).motion = s.motion ∧
    (clearFault code obj s).portA = s.portA ∧ (clearFault code obj s).portB = s.portB ∧ (clearFault code obj s).ptp = s.ptp ∧
    (clearFault code obj s).cas = s.cas ∧ (clearFault code obj s).cvu = s.cvu := by
  unfold clearFault; split <;> simp

/-- What `setFault` leaves as it is. -/
@[simp] theorem setFault_frame (cond : Bool) (code : BitVec 16) (arg : Nat) (s : State) :
    (setFault cond code arg s).pending = s.pending ∧ (setFault cond code arg s).free = s.free ∧ (setFault cond code arg s).tb = s.tb ∧
    (setFault cond code arg s).tick = s.tick ∧ (setFault cond code arg s).tmu = s.tmu ∧ (setFault cond code arg s).scrubs = s.scrubs ∧
    (setFault cond code arg s).mirror = s.mirror ∧ (setFault cond code arg s).buf = s.buf ∧ (setFault cond code arg s).mode = s.mode ∧
    (setFault cond code arg s).bootStep = s.bootStep ∧ (setFault cond code arg s).resetHeld = s.resetHeld ∧ (setFault cond code arg s).resetCause = s.resetCause ∧
    (setFault cond code arg s).want = s.want ∧ (setFault cond code arg s).restart = s.restart ∧ (setFault cond code arg s).lockWin = s.lockWin ∧
    (setFault cond code arg s).gableE = s.gableE ∧ (setFault cond code arg s).n0 = s.n0 ∧ (setFault cond code arg s).n1 = s.n1 ∧
    (setFault cond code arg s).w = s.w ∧ (setFault cond code arg s).ridgeB = s.ridgeB ∧ (setFault cond code arg s).active = s.active ∧
    (setFault cond code arg s).slate = s.slate ∧ (setFault cond code arg s).pwr = s.pwr ∧ (setFault cond code arg s).wth = s.wth ∧
    (setFault cond code arg s).ridge = s.ridge ∧ (setFault cond code arg s).thatch = s.thatch ∧ (setFault cond code arg s).pair = s.pair ∧
    (setFault cond code arg s).tcm = s.tcm ∧ (setFault cond code arg s).thatchMem = s.thatchMem ∧ (setFault cond code arg s).laneP = s.laneP ∧
    (setFault cond code arg s).laneT = s.laneT ∧ (setFault cond code arg s).field = s.field ∧ (setFault cond code arg s).fa = s.fa ∧
    (setFault cond code arg s).motion = s.motion ∧ (setFault cond code arg s).portA = s.portA ∧ (setFault cond code arg s).portB = s.portB ∧
    (setFault cond code arg s).ptp = s.ptp ∧ (setFault cond code arg s).cas = s.cas ∧ (setFault cond code arg s).cvu = s.cvu := by
  unfold setFault; split <;> simp

/-- What `setMode` leaves as it is. -/
@[simp] theorem setMode_frame (m : Mode) (s : State) :
    (setMode m s).pending = s.pending ∧ (setMode m s).free = s.free ∧ (setMode m s).tb = s.tb ∧
    (setMode m s).tick = s.tick ∧ (setMode m s).tmu = s.tmu ∧
    (setMode m s).scrubs = s.scrubs ∧ (setMode m s).mirror = s.mirror ∧ (setMode m s).buf = s.buf ∧
    (setMode m s).ev = s.ev ∧ (setMode m s).bootStep = s.bootStep ∧ (setMode m s).resetHeld = s.resetHeld ∧
    (setMode m s).resetCause = s.resetCause ∧ (setMode m s).want = s.want ∧ (setMode m s).hPend = s.hPend ∧
    (setMode m s).restart = s.restart ∧ (setMode m s).lockWin = s.lockWin ∧ (setMode m s).gableE = s.gableE ∧
    (setMode m s).n0 = s.n0 ∧ (setMode m s).n1 = s.n1 ∧ (setMode m s).w = s.w ∧
    (setMode m s).ridgeB = s.ridgeB ∧ (setMode m s).active = s.active ∧ (setMode m s).slate = s.slate ∧
    (setMode m s).pwr = s.pwr ∧ (setMode m s).wth = s.wth ∧ (setMode m s).ridge = s.ridge ∧
    (setMode m s).thatch = s.thatch ∧ (setMode m s).pair = s.pair ∧ (setMode m s).tcm = s.tcm ∧
    (setMode m s).thatchMem = s.thatchMem ∧ (setMode m s).laneP = s.laneP ∧ (setMode m s).laneT = s.laneT ∧
    (setMode m s).field = s.field ∧ (setMode m s).fa = s.fa ∧ (setMode m s).motion = s.motion ∧
    (setMode m s).portA = s.portA ∧ (setMode m s).portB = s.portB ∧ (setMode m s).ptp = s.ptp ∧
    (setMode m s).cas = s.cas ∧ (setMode m s).cvu = s.cvu := by
  unfold setMode; (repeat' split) <;> simp

/-- What `postRsp` leaves as it is. -/
@[simp] theorem postRsp_frame (p : Port) (msg : List Byte) (st : Byte) (s : State) :
    (postRsp p msg st s).pending = s.pending ∧ (postRsp p msg st s).free = s.free ∧ (postRsp p msg st s).tb = s.tb ∧
    (postRsp p msg st s).tick = s.tick ∧ (postRsp p msg st s).tmu = s.tmu ∧ (postRsp p msg st s).lull = s.lull ∧
    (postRsp p msg st s).scrubs = s.scrubs ∧ (postRsp p msg st s).mirror = s.mirror ∧ (postRsp p msg st s).buf = s.buf ∧
    (postRsp p msg st s).ev = s.ev ∧ (postRsp p msg st s).mode = s.mode ∧ (postRsp p msg st s).bootStep = s.bootStep ∧
    (postRsp p msg st s).resetHeld = s.resetHeld ∧ (postRsp p msg st s).resetCause = s.resetCause ∧ (postRsp p msg st s).want = s.want ∧
    (postRsp p msg st s).hPend = s.hPend ∧ (postRsp p msg st s).restart = s.restart ∧ (postRsp p msg st s).faults = s.faults ∧
    (postRsp p msg st s).unlisted = s.unlisted ∧ (postRsp p msg st s).lockWin = s.lockWin ∧ (postRsp p msg st s).gableE = s.gableE ∧
    (postRsp p msg st s).n0 = s.n0 ∧ (postRsp p msg st s).n1 = s.n1 ∧ (postRsp p msg st s).w = s.w ∧
    (postRsp p msg st s).ridgeB = s.ridgeB ∧ (postRsp p msg st s).flash = s.flash ∧ (postRsp p msg st s).active = s.active ∧
    (postRsp p msg st s).slate = s.slate ∧ (postRsp p msg st s).bk = s.bk ∧ (postRsp p msg st s).pwr = s.pwr ∧
    (postRsp p msg st s).wth = s.wth ∧ (postRsp p msg st s).ridge = s.ridge ∧ (postRsp p msg st s).thatch = s.thatch ∧
    (postRsp p msg st s).pair = s.pair ∧ (postRsp p msg st s).tcm = s.tcm ∧ (postRsp p msg st s).thatchMem = s.thatchMem ∧
    (postRsp p msg st s).laneP = s.laneP ∧ (postRsp p msg st s).laneT = s.laneT ∧ (postRsp p msg st s).field = s.field ∧
    (postRsp p msg st s).fa = s.fa ∧ (postRsp p msg st s).motion = s.motion ∧ (postRsp p msg st s).portA = s.portA ∧
    (postRsp p msg st s).portB = s.portB ∧ (postRsp p msg st s).ptp = s.ptp ∧ (postRsp p msg st s).cas = s.cas ∧
    (postRsp p msg st s).cvu = s.cvu := by
  unfold postRsp; split <;> simp

/-- What `touch` leaves as it is. -/
@[simp] theorem touch_frame (p : Port) (s : State) :
    (touch p s).pending = s.pending ∧ (touch p s).free = s.free ∧ (touch p s).tb = s.tb ∧
    (touch p s).tick = s.tick ∧ (touch p s).tmu = s.tmu ∧ (touch p s).host = s.host ∧
    (touch p s).mbx = s.mbx ∧ (touch p s).lull = s.lull ∧ (touch p s).scrubs = s.scrubs ∧
    (touch p s).mirror = s.mirror ∧ (touch p s).buf = s.buf ∧ (touch p s).ev = s.ev ∧
    (touch p s).mode = s.mode ∧ (touch p s).bootStep = s.bootStep ∧ (touch p s).resetHeld = s.resetHeld ∧
    (touch p s).resetCause = s.resetCause ∧ (touch p s).want = s.want ∧ (touch p s).hPend = s.hPend ∧
    (touch p s).restart = s.restart ∧ (touch p s).faults = s.faults ∧ (touch p s).unlisted = s.unlisted ∧
    (touch p s).lockWin = s.lockWin ∧ (touch p s).gableE = s.gableE ∧ (touch p s).n0 = s.n0 ∧
    (touch p s).n1 = s.n1 ∧ (touch p s).w = s.w ∧ (touch p s).ridgeB = s.ridgeB ∧
    (touch p s).flash = s.flash ∧ (touch p s).active = s.active ∧ (touch p s).slate = s.slate ∧
    (touch p s).bk = s.bk ∧ (touch p s).pwr = s.pwr ∧ (touch p s).wth = s.wth ∧
    (touch p s).ridge = s.ridge ∧ (touch p s).thatch = s.thatch ∧ (touch p s).pair = s.pair ∧
    (touch p s).tcm = s.tcm ∧ (touch p s).thatchMem = s.thatchMem ∧ (touch p s).laneP = s.laneP ∧
    (touch p s).laneT = s.laneT ∧ (touch p s).field = s.field ∧ (touch p s).fa = s.fa ∧
    (touch p s).motion = s.motion ∧ (touch p s).portA = s.portA ∧ (touch p s).portB = s.portB ∧
    (touch p s).ptp = s.ptp ∧ (touch p s).cas = s.cas ∧ (touch p s).cvu = s.cvu := by
  unfold touch; dsimp only; split <;> simp

/-- What `logCommand` leaves as it is. -/
@[simp] theorem logCommand_frame (code : BitVec 16) (r : Req) (level : BitVec 2) (a : Answer) (s : State) :
    (logCommand code r level a s).pending = s.pending ∧ (logCommand code r level a s).free = s.free ∧ (logCommand code r level a s).tb = s.tb ∧
    (logCommand code r level a s).tick = s.tick ∧ (logCommand code r level a s).tmu = s.tmu ∧ (logCommand code r level a s).host = s.host ∧
    (logCommand code r level a s).mbx = s.mbx ∧ (logCommand code r level a s).lull = s.lull ∧ (logCommand code r level a s).scrubs = s.scrubs ∧
    (logCommand code r level a s).mirror = s.mirror ∧ (logCommand code r level a s).buf = s.buf ∧ (logCommand code r level a s).ev = s.ev ∧
    (logCommand code r level a s).mode = s.mode ∧ (logCommand code r level a s).bootStep = s.bootStep ∧ (logCommand code r level a s).resetHeld = s.resetHeld ∧
    (logCommand code r level a s).resetCause = s.resetCause ∧ (logCommand code r level a s).want = s.want ∧ (logCommand code r level a s).hPend = s.hPend ∧
    (logCommand code r level a s).restart = s.restart ∧ (logCommand code r level a s).faults = s.faults ∧ (logCommand code r level a s).unlisted = s.unlisted ∧
    (logCommand code r level a s).lockWin = s.lockWin ∧ (logCommand code r level a s).gableE = s.gableE ∧ (logCommand code r level a s).n0 = s.n0 ∧
    (logCommand code r level a s).n1 = s.n1 ∧ (logCommand code r level a s).w = s.w ∧ (logCommand code r level a s).ridgeB = s.ridgeB ∧
    (logCommand code r level a s).gable = s.gable ∧ (logCommand code r level a s).active = s.active ∧ (logCommand code r level a s).slate = s.slate ∧
    (logCommand code r level a s).pwr = s.pwr ∧ (logCommand code r level a s).wth = s.wth ∧ (logCommand code r level a s).ridge = s.ridge ∧
    (logCommand code r level a s).thatch = s.thatch ∧ (logCommand code r level a s).pair = s.pair ∧ (logCommand code r level a s).tcm = s.tcm ∧
    (logCommand code r level a s).thatchMem = s.thatchMem ∧ (logCommand code r level a s).laneP = s.laneP ∧ (logCommand code r level a s).laneT = s.laneT ∧
    (logCommand code r level a s).field = s.field ∧ (logCommand code r level a s).fa = s.fa ∧ (logCommand code r level a s).motion = s.motion ∧
    (logCommand code r level a s).portA = s.portA ∧ (logCommand code r level a s).portB = s.portB ∧ (logCommand code r level a s).ptp = s.ptp ∧
    (logCommand code r level a s).cas = s.cas ∧ (logCommand code r level a s).cvu = s.cvu := by
  simp [logCommand]

/-- What `finishOne` leaves as it is. -/
@[simp] theorem finishOne_frame (code : BitVec 16) (r : Req) (level : BitVec 2) (a : Answer) (s : State) :
    (finishOne code r level a s).pending = s.pending ∧ (finishOne code r level a s).free = s.free ∧ (finishOne code r level a s).tb = s.tb ∧
    (finishOne code r level a s).tick = s.tick ∧ (finishOne code r level a s).tmu = s.tmu ∧ (finishOne code r level a s).lull = s.lull ∧
    (finishOne code r level a s).scrubs = s.scrubs ∧ (finishOne code r level a s).mirror = s.mirror ∧ (finishOne code r level a s).buf = s.buf ∧
    (finishOne code r level a s).ev = s.ev ∧ (finishOne code r level a s).mode = s.mode ∧ (finishOne code r level a s).bootStep = s.bootStep ∧
    (finishOne code r level a s).resetHeld = s.resetHeld ∧ (finishOne code r level a s).resetCause = s.resetCause ∧ (finishOne code r level a s).want = s.want ∧
    (finishOne code r level a s).hPend = s.hPend ∧ (finishOne code r level a s).restart = s.restart ∧ (finishOne code r level a s).faults = s.faults ∧
    (finishOne code r level a s).unlisted = s.unlisted ∧ (finishOne code r level a s).lockWin = s.lockWin ∧ (finishOne code r level a s).gableE = s.gableE ∧
    (finishOne code r level a s).n0 = s.n0 ∧ (finishOne code r level a s).n1 = s.n1 ∧ (finishOne code r level a s).w = s.w ∧
    (finishOne code r level a s).ridgeB = s.ridgeB ∧ (finishOne code r level a s).active = s.active ∧ (finishOne code r level a s).slate = s.slate ∧
    (finishOne code r level a s).pwr = s.pwr ∧ (finishOne code r level a s).wth = s.wth ∧ (finishOne code r level a s).ridge = s.ridge ∧
    (finishOne code r level a s).thatch = s.thatch ∧ (finishOne code r level a s).pair = s.pair ∧ (finishOne code r level a s).tcm = s.tcm ∧
    (finishOne code r level a s).thatchMem = s.thatchMem ∧ (finishOne code r level a s).laneP = s.laneP ∧ (finishOne code r level a s).laneT = s.laneT ∧
    (finishOne code r level a s).field = s.field ∧ (finishOne code r level a s).fa = s.fa ∧ (finishOne code r level a s).motion = s.motion ∧
    (finishOne code r level a s).portA = s.portA ∧ (finishOne code r level a s).portB = s.portB ∧ (finishOne code r level a s).ptp = s.ptp ∧
    (finishOne code r level a s).cas = s.cas ∧ (finishOne code r level a s).cvu = s.cvu := by
  unfold finishOne; dsimp only; (repeat' split) <;> simp

/-- What `replyOnly` leaves as it is. -/
@[simp] theorem replyOnly_frame (p : Port) (tag code : BitVec 16) (st : Byte) (s : State) :
    (replyOnly p tag code st s).pending = s.pending ∧ (replyOnly p tag code st s).free = s.free ∧ (replyOnly p tag code st s).tb = s.tb ∧
    (replyOnly p tag code st s).tick = s.tick ∧ (replyOnly p tag code st s).tmu = s.tmu ∧ (replyOnly p tag code st s).lull = s.lull ∧
    (replyOnly p tag code st s).scrubs = s.scrubs ∧ (replyOnly p tag code st s).mirror = s.mirror ∧ (replyOnly p tag code st s).buf = s.buf ∧
    (replyOnly p tag code st s).ev = s.ev ∧ (replyOnly p tag code st s).mode = s.mode ∧ (replyOnly p tag code st s).bootStep = s.bootStep ∧
    (replyOnly p tag code st s).resetHeld = s.resetHeld ∧ (replyOnly p tag code st s).resetCause = s.resetCause ∧ (replyOnly p tag code st s).want = s.want ∧
    (replyOnly p tag code st s).hPend = s.hPend ∧ (replyOnly p tag code st s).restart = s.restart ∧ (replyOnly p tag code st s).faults = s.faults ∧
    (replyOnly p tag code st s).unlisted = s.unlisted ∧ (replyOnly p tag code st s).lockWin = s.lockWin ∧ (replyOnly p tag code st s).gableE = s.gableE ∧
    (replyOnly p tag code st s).n0 = s.n0 ∧ (replyOnly p tag code st s).n1 = s.n1 ∧ (replyOnly p tag code st s).w = s.w ∧
    (replyOnly p tag code st s).ridgeB = s.ridgeB ∧ (replyOnly p tag code st s).flash = s.flash ∧ (replyOnly p tag code st s).active = s.active ∧
    (replyOnly p tag code st s).slate = s.slate ∧ (replyOnly p tag code st s).bk = s.bk ∧ (replyOnly p tag code st s).pwr = s.pwr ∧
    (replyOnly p tag code st s).wth = s.wth ∧ (replyOnly p tag code st s).ridge = s.ridge ∧ (replyOnly p tag code st s).thatch = s.thatch ∧
    (replyOnly p tag code st s).pair = s.pair ∧ (replyOnly p tag code st s).tcm = s.tcm ∧ (replyOnly p tag code st s).thatchMem = s.thatchMem ∧
    (replyOnly p tag code st s).laneP = s.laneP ∧ (replyOnly p tag code st s).laneT = s.laneT ∧ (replyOnly p tag code st s).field = s.field ∧
    (replyOnly p tag code st s).fa = s.fa ∧ (replyOnly p tag code st s).motion = s.motion ∧ (replyOnly p tag code st s).portA = s.portA ∧
    (replyOnly p tag code st s).portB = s.portB ∧ (replyOnly p tag code st s).ptp = s.ptp ∧ (replyOnly p tag code st s).cas = s.cas ∧
    (replyOnly p tag code st s).cvu = s.cvu := by
  simp [replyOnly]

/-- What `takeNow` leaves as it is. -/
@[simp] theorem takeNow_frame (p : Port) (m : List Byte) (s : State) :
    (takeNow p m s).pending = s.pending ∧ (takeNow p m s).free = s.free ∧ (takeNow p m s).tb = s.tb ∧
    (takeNow p m s).tick = s.tick ∧ (takeNow p m s).tmu = s.tmu ∧ (takeNow p m s).lull = s.lull ∧
    (takeNow p m s).scrubs = s.scrubs ∧ (takeNow p m s).mirror = s.mirror ∧ (takeNow p m s).buf = s.buf ∧
    (takeNow p m s).ev = s.ev ∧ (takeNow p m s).mode = s.mode ∧ (takeNow p m s).bootStep = s.bootStep ∧
    (takeNow p m s).resetHeld = s.resetHeld ∧ (takeNow p m s).resetCause = s.resetCause ∧ (takeNow p m s).want = s.want ∧
    (takeNow p m s).hPend = s.hPend ∧ (takeNow p m s).restart = s.restart ∧ (takeNow p m s).faults = s.faults ∧
    (takeNow p m s).unlisted = s.unlisted ∧ (takeNow p m s).lockWin = s.lockWin ∧ (takeNow p m s).gableE = s.gableE ∧
    (takeNow p m s).n0 = s.n0 ∧ (takeNow p m s).n1 = s.n1 ∧ (takeNow p m s).w = s.w ∧
    (takeNow p m s).ridgeB = s.ridgeB ∧ (takeNow p m s).active = s.active ∧ (takeNow p m s).slate = s.slate ∧
    (takeNow p m s).pwr = s.pwr ∧ (takeNow p m s).wth = s.wth ∧ (takeNow p m s).ridge = s.ridge ∧
    (takeNow p m s).thatch = s.thatch ∧ (takeNow p m s).pair = s.pair ∧ (takeNow p m s).tcm = s.tcm ∧
    (takeNow p m s).thatchMem = s.thatchMem ∧ (takeNow p m s).laneP = s.laneP ∧ (takeNow p m s).laneT = s.laneT ∧
    (takeNow p m s).field = s.field ∧ (takeNow p m s).fa = s.fa ∧ (takeNow p m s).motion = s.motion ∧
    (takeNow p m s).portA = s.portA ∧ (takeNow p m s).portB = s.portB ∧ (takeNow p m s).ptp = s.ptp ∧
    (takeNow p m s).cas = s.cas ∧ (takeNow p m s).cvu = s.cvu := by
  unfold takeNow; dsimp only; (repeat' split) <;> simp

/-- What `takeRequest` leaves as it is. -/
@[simp] theorem takeRequest_frame (p : Port) (m : List Byte) (s : State) :
    (takeRequest p m s).pending = s.pending ∧ (takeRequest p m s).free = s.free ∧ (takeRequest p m s).tb = s.tb ∧
    (takeRequest p m s).tick = s.tick ∧ (takeRequest p m s).tmu = s.tmu ∧ (takeRequest p m s).lull = s.lull ∧
    (takeRequest p m s).scrubs = s.scrubs ∧ (takeRequest p m s).mirror = s.mirror ∧ (takeRequest p m s).buf = s.buf ∧
    (takeRequest p m s).ev = s.ev ∧ (takeRequest p m s).mode = s.mode ∧ (takeRequest p m s).bootStep = s.bootStep ∧
    (takeRequest p m s).resetHeld = s.resetHeld ∧ (takeRequest p m s).resetCause = s.resetCause ∧ (takeRequest p m s).want = s.want ∧
    (takeRequest p m s).hPend = s.hPend ∧ (takeRequest p m s).restart = s.restart ∧ (takeRequest p m s).faults = s.faults ∧
    (takeRequest p m s).unlisted = s.unlisted ∧ (takeRequest p m s).lockWin = s.lockWin ∧ (takeRequest p m s).gableE = s.gableE ∧
    (takeRequest p m s).n0 = s.n0 ∧ (takeRequest p m s).n1 = s.n1 ∧ (takeRequest p m s).w = s.w ∧
    (takeRequest p m s).ridgeB = s.ridgeB ∧ (takeRequest p m s).active = s.active ∧ (takeRequest p m s).slate = s.slate ∧
    (takeRequest p m s).pwr = s.pwr ∧ (takeRequest p m s).wth = s.wth ∧ (takeRequest p m s).ridge = s.ridge ∧
    (takeRequest p m s).thatch = s.thatch ∧ (takeRequest p m s).pair = s.pair ∧ (takeRequest p m s).tcm = s.tcm ∧
    (takeRequest p m s).thatchMem = s.thatchMem ∧ (takeRequest p m s).laneP = s.laneP ∧ (takeRequest p m s).laneT = s.laneT ∧
    (takeRequest p m s).field = s.field ∧ (takeRequest p m s).fa = s.fa ∧ (takeRequest p m s).motion = s.motion ∧
    (takeRequest p m s).portA = s.portA ∧ (takeRequest p m s).portB = s.portB ∧ (takeRequest p m s).ptp = s.ptp ∧
    (takeRequest p m s).cas = s.cas ∧ (takeRequest p m s).cvu = s.cvu := by
  unfold takeRequest; dsimp only; split <;> simp

/-- What `settleMbx` leaves as it is. -/
@[simp] theorem settleMbx_frame (p : Port) (s : State) :
    (settleMbx p s).pending = s.pending ∧ (settleMbx p s).free = s.free ∧ (settleMbx p s).tb = s.tb ∧
    (settleMbx p s).tick = s.tick ∧ (settleMbx p s).tmu = s.tmu ∧ (settleMbx p s).lull = s.lull ∧
    (settleMbx p s).scrubs = s.scrubs ∧ (settleMbx p s).mirror = s.mirror ∧ (settleMbx p s).buf = s.buf ∧
    (settleMbx p s).ev = s.ev ∧ (settleMbx p s).mode = s.mode ∧ (settleMbx p s).bootStep = s.bootStep ∧
    (settleMbx p s).resetHeld = s.resetHeld ∧ (settleMbx p s).resetCause = s.resetCause ∧ (settleMbx p s).want = s.want ∧
    (settleMbx p s).hPend = s.hPend ∧ (settleMbx p s).restart = s.restart ∧ (settleMbx p s).faults = s.faults ∧
    (settleMbx p s).unlisted = s.unlisted ∧ (settleMbx p s).lockWin = s.lockWin ∧ (settleMbx p s).gableE = s.gableE ∧
    (settleMbx p s).n0 = s.n0 ∧ (settleMbx p s).n1 = s.n1 ∧ (settleMbx p s).w = s.w ∧
    (settleMbx p s).ridgeB = s.ridgeB ∧ (settleMbx p s).active = s.active ∧ (settleMbx p s).slate = s.slate ∧
    (settleMbx p s).pwr = s.pwr ∧ (settleMbx p s).wth = s.wth ∧ (settleMbx p s).ridge = s.ridge ∧
    (settleMbx p s).thatch = s.thatch ∧ (settleMbx p s).pair = s.pair ∧ (settleMbx p s).tcm = s.tcm ∧
    (settleMbx p s).thatchMem = s.thatchMem ∧ (settleMbx p s).laneP = s.laneP ∧ (settleMbx p s).laneT = s.laneT ∧
    (settleMbx p s).field = s.field ∧ (settleMbx p s).fa = s.fa ∧ (settleMbx p s).motion = s.motion ∧
    (settleMbx p s).portA = s.portA ∧ (settleMbx p s).portB = s.portB ∧ (settleMbx p s).ptp = s.ptp ∧
    (settleMbx p s).cas = s.cas ∧ (settleMbx p s).cvu = s.cvu := by
  unfold settleMbx; (repeat' split) <;> simp

/-- What `finish` leaves as it is. -/
@[simp] theorem finish_frame (code : BitVec 16) (r : Req) (level : BitVec 2) (a : Answer) (s : State) :
    (finish code r level a s).pending = s.pending ∧ (finish code r level a s).free = s.free ∧ (finish code r level a s).tb = s.tb ∧
    (finish code r level a s).tick = s.tick ∧ (finish code r level a s).tmu = s.tmu ∧ (finish code r level a s).lull = s.lull ∧
    (finish code r level a s).scrubs = s.scrubs ∧ (finish code r level a s).mirror = s.mirror ∧ (finish code r level a s).buf = s.buf ∧
    (finish code r level a s).ev = s.ev ∧ (finish code r level a s).mode = s.mode ∧ (finish code r level a s).bootStep = s.bootStep ∧
    (finish code r level a s).resetHeld = s.resetHeld ∧ (finish code r level a s).resetCause = s.resetCause ∧ (finish code r level a s).want = s.want ∧
    (finish code r level a s).hPend = s.hPend ∧ (finish code r level a s).restart = s.restart ∧ (finish code r level a s).faults = s.faults ∧
    (finish code r level a s).unlisted = s.unlisted ∧ (finish code r level a s).lockWin = s.lockWin ∧ (finish code r level a s).gableE = s.gableE ∧
    (finish code r level a s).n0 = s.n0 ∧ (finish code r level a s).n1 = s.n1 ∧ (finish code r level a s).w = s.w ∧
    (finish code r level a s).ridgeB = s.ridgeB ∧ (finish code r level a s).active = s.active ∧ (finish code r level a s).slate = s.slate ∧
    (finish code r level a s).pwr = s.pwr ∧ (finish code r level a s).wth = s.wth ∧ (finish code r level a s).ridge = s.ridge ∧
    (finish code r level a s).thatch = s.thatch ∧ (finish code r level a s).pair = s.pair ∧ (finish code r level a s).tcm = s.tcm ∧
    (finish code r level a s).thatchMem = s.thatchMem ∧ (finish code r level a s).laneP = s.laneP ∧ (finish code r level a s).laneT = s.laneT ∧
    (finish code r level a s).field = s.field ∧ (finish code r level a s).fa = s.fa ∧ (finish code r level a s).motion = s.motion ∧
    (finish code r level a s).portA = s.portA ∧ (finish code r level a s).portB = s.portB ∧ (finish code r level a s).ptp = s.ptp ∧
    (finish code r level a s).cas = s.cas ∧ (finish code r level a s).cvu = s.cvu := by
  simp [finish]

/-- What `tmuFire` leaves as it is. -/
@[simp] theorem tmuFire_frame (n : Nat) (s : State) :
    (tmuFire n s).pending = s.pending ∧ (tmuFire n s).free = s.free ∧ (tmuFire n s).tb = s.tb ∧
    (tmuFire n s).tick = s.tick ∧ (tmuFire n s).mbx = s.mbx ∧ (tmuFire n s).lull = s.lull ∧
    (tmuFire n s).scrubs = s.scrubs ∧ (tmuFire n s).mirror = s.mirror ∧ (tmuFire n s).buf = s.buf ∧
    (tmuFire n s).ev = s.ev ∧ (tmuFire n s).mode = s.mode ∧ (tmuFire n s).bootStep = s.bootStep ∧
    (tmuFire n s).resetHeld = s.resetHeld ∧ (tmuFire n s).resetCause = s.resetCause ∧ (tmuFire n s).want = s.want ∧
    (tmuFire n s).hPend = s.hPend ∧ (tmuFire n s).restart = s.restart ∧ (tmuFire n s).faults = s.faults ∧
    (tmuFire n s).unlisted = s.unlisted ∧ (tmuFire n s).lockWin = s.lockWin ∧ (tmuFire n s).gableE = s.gableE ∧
    (tmuFire n s).n0 = s.n0 ∧ (tmuFire n s).n1 = s.n1 ∧ (tmuFire n s).w = s.w ∧
    (tmuFire n s).ridgeB = s.ridgeB ∧ (tmuFire n s).gable = s.gable ∧ (tmuFire n s).flash = s.flash ∧
    (tmuFire n s).active = s.active ∧ (tmuFire n s).slate = s.slate ∧ (tmuFire n s).bk = s.bk ∧
    (tmuFire n s).pwr = s.pwr ∧ (tmuFire n s).wth = s.wth ∧ (tmuFire n s).ridge = s.ridge ∧
    (tmuFire n s).thatch = s.thatch ∧ (tmuFire n s).pair = s.pair ∧ (tmuFire n s).tcm = s.tcm ∧
    (tmuFire n s).thatchMem = s.thatchMem ∧ (tmuFire n s).laneP = s.laneP ∧ (tmuFire n s).laneT = s.laneT ∧
    (tmuFire n s).field = s.field ∧ (tmuFire n s).fa = s.fa ∧ (tmuFire n s).motion = s.motion ∧
    (tmuFire n s).portA = s.portA ∧ (tmuFire n s).portB = s.portB ∧ (tmuFire n s).ptp = s.ptp ∧
    (tmuFire n s).cas = s.cas ∧ (tmuFire n s).cvu = s.cvu := by
  unfold tmuFire; dsimp only; split <;> simp

/-- What `tmuMove` leaves as it is. -/
@[simp] theorem tmuMove_frame (n : Nat) (w : W32) (s : State) :
    (tmuMove n w s).pending = s.pending ∧ (tmuMove n w s).free = s.free ∧ (tmuMove n w s).tb = s.tb ∧
    (tmuMove n w s).tick = s.tick ∧ (tmuMove n w s).mbx = s.mbx ∧ (tmuMove n w s).lull = s.lull ∧
    (tmuMove n w s).scrubs = s.scrubs ∧ (tmuMove n w s).mirror = s.mirror ∧ (tmuMove n w s).buf = s.buf ∧
    (tmuMove n w s).ev = s.ev ∧ (tmuMove n w s).mode = s.mode ∧ (tmuMove n w s).bootStep = s.bootStep ∧
    (tmuMove n w s).resetHeld = s.resetHeld ∧ (tmuMove n w s).resetCause = s.resetCause ∧ (tmuMove n w s).want = s.want ∧
    (tmuMove n w s).hPend = s.hPend ∧ (tmuMove n w s).restart = s.restart ∧ (tmuMove n w s).faults = s.faults ∧
    (tmuMove n w s).unlisted = s.unlisted ∧ (tmuMove n w s).lockWin = s.lockWin ∧ (tmuMove n w s).gableE = s.gableE ∧
    (tmuMove n w s).n0 = s.n0 ∧ (tmuMove n w s).n1 = s.n1 ∧ (tmuMove n w s).w = s.w ∧
    (tmuMove n w s).ridgeB = s.ridgeB ∧ (tmuMove n w s).gable = s.gable ∧ (tmuMove n w s).flash = s.flash ∧
    (tmuMove n w s).active = s.active ∧ (tmuMove n w s).slate = s.slate ∧ (tmuMove n w s).bk = s.bk ∧
    (tmuMove n w s).pwr = s.pwr ∧ (tmuMove n w s).wth = s.wth ∧ (tmuMove n w s).ridge = s.ridge ∧
    (tmuMove n w s).thatch = s.thatch ∧ (tmuMove n w s).pair = s.pair ∧ (tmuMove n w s).tcm = s.tcm ∧
    (tmuMove n w s).thatchMem = s.thatchMem ∧ (tmuMove n w s).laneP = s.laneP ∧ (tmuMove n w s).laneT = s.laneT ∧
    (tmuMove n w s).field = s.field ∧ (tmuMove n w s).fa = s.fa ∧ (tmuMove n w s).motion = s.motion ∧
    (tmuMove n w s).portA = s.portA ∧ (tmuMove n w s).portB = s.portB ∧ (tmuMove n w s).ptp = s.ptp ∧
    (tmuMove n w s).cas = s.cas ∧ (tmuMove n w s).cvu = s.cvu := by
  unfold tmuMove; dsimp only; split <;> simp

/-- What `tmuPresc` leaves as it is. -/
@[simp] theorem tmuPresc_frame (n : Nat) (s : State) :
    (tmuPresc n s).pending = s.pending ∧ (tmuPresc n s).free = s.free ∧ (tmuPresc n s).tb = s.tb ∧
    (tmuPresc n s).tick = s.tick ∧ (tmuPresc n s).host = s.host ∧ (tmuPresc n s).mbx = s.mbx ∧
    (tmuPresc n s).lull = s.lull ∧ (tmuPresc n s).scrubs = s.scrubs ∧ (tmuPresc n s).mirror = s.mirror ∧
    (tmuPresc n s).buf = s.buf ∧ (tmuPresc n s).ev = s.ev ∧ (tmuPresc n s).mode = s.mode ∧
    (tmuPresc n s).bootStep = s.bootStep ∧ (tmuPresc n s).resetHeld = s.resetHeld ∧ (tmuPresc n s).resetCause = s.resetCause ∧
    (tmuPresc n s).want = s.want ∧ (tmuPresc n s).hPend = s.hPend ∧ (tmuPresc n s).restart = s.restart ∧
    (tmuPresc n s).faults = s.faults ∧ (tmuPresc n s).unlisted = s.unlisted ∧ (tmuPresc n s).lockWin = s.lockWin ∧
    (tmuPresc n s).gableE = s.gableE ∧ (tmuPresc n s).n0 = s.n0 ∧ (tmuPresc n s).n1 = s.n1 ∧
    (tmuPresc n s).w = s.w ∧ (tmuPresc n s).ridgeB = s.ridgeB ∧ (tmuPresc n s).gable = s.gable ∧
    (tmuPresc n s).flash = s.flash ∧ (tmuPresc n s).active = s.active ∧ (tmuPresc n s).slate = s.slate ∧
    (tmuPresc n s).bk = s.bk ∧ (tmuPresc n s).pwr = s.pwr ∧ (tmuPresc n s).wth = s.wth ∧
    (tmuPresc n s).ridge = s.ridge ∧ (tmuPresc n s).thatch = s.thatch ∧ (tmuPresc n s).pair = s.pair ∧
    (tmuPresc n s).tcm = s.tcm ∧ (tmuPresc n s).thatchMem = s.thatchMem ∧ (tmuPresc n s).laneP = s.laneP ∧
    (tmuPresc n s).laneT = s.laneT ∧ (tmuPresc n s).field = s.field ∧ (tmuPresc n s).fa = s.fa ∧
    (tmuPresc n s).motion = s.motion ∧ (tmuPresc n s).portA = s.portA ∧ (tmuPresc n s).portB = s.portB ∧
    (tmuPresc n s).ptp = s.ptp ∧ (tmuPresc n s).cas = s.cas ∧ (tmuPresc n s).cvu = s.cvu := by
  simp [tmuPresc]

/-- What `tmuStepBy` leaves as it is. -/
@[simp] theorem tmuStepBy_frame (fuel n : Nat) (s : State) :
    (tmuStepBy fuel n s).pending = s.pending ∧ (tmuStepBy fuel n s).free = s.free ∧ (tmuStepBy fuel n s).tb = s.tb ∧
    (tmuStepBy fuel n s).tick = s.tick ∧ (tmuStepBy fuel n s).mbx = s.mbx ∧ (tmuStepBy fuel n s).lull = s.lull ∧
    (tmuStepBy fuel n s).scrubs = s.scrubs ∧ (tmuStepBy fuel n s).mirror = s.mirror ∧ (tmuStepBy fuel n s).buf = s.buf ∧
    (tmuStepBy fuel n s).ev = s.ev ∧ (tmuStepBy fuel n s).mode = s.mode ∧ (tmuStepBy fuel n s).bootStep = s.bootStep ∧
    (tmuStepBy fuel n s).resetHeld = s.resetHeld ∧ (tmuStepBy fuel n s).resetCause = s.resetCause ∧ (tmuStepBy fuel n s).want = s.want ∧
    (tmuStepBy fuel n s).hPend = s.hPend ∧ (tmuStepBy fuel n s).restart = s.restart ∧ (tmuStepBy fuel n s).faults = s.faults ∧
    (tmuStepBy fuel n s).unlisted = s.unlisted ∧ (tmuStepBy fuel n s).lockWin = s.lockWin ∧ (tmuStepBy fuel n s).gableE = s.gableE ∧
    (tmuStepBy fuel n s).n0 = s.n0 ∧ (tmuStepBy fuel n s).n1 = s.n1 ∧ (tmuStepBy fuel n s).w = s.w ∧
    (tmuStepBy fuel n s).ridgeB = s.ridgeB ∧ (tmuStepBy fuel n s).gable = s.gable ∧ (tmuStepBy fuel n s).flash = s.flash ∧
    (tmuStepBy fuel n s).active = s.active ∧ (tmuStepBy fuel n s).slate = s.slate ∧ (tmuStepBy fuel n s).bk = s.bk ∧
    (tmuStepBy fuel n s).pwr = s.pwr ∧ (tmuStepBy fuel n s).wth = s.wth ∧ (tmuStepBy fuel n s).ridge = s.ridge ∧
    (tmuStepBy fuel n s).thatch = s.thatch ∧ (tmuStepBy fuel n s).pair = s.pair ∧ (tmuStepBy fuel n s).tcm = s.tcm ∧
    (tmuStepBy fuel n s).thatchMem = s.thatchMem ∧ (tmuStepBy fuel n s).laneP = s.laneP ∧ (tmuStepBy fuel n s).laneT = s.laneT ∧
    (tmuStepBy fuel n s).field = s.field ∧ (tmuStepBy fuel n s).fa = s.fa ∧ (tmuStepBy fuel n s).motion = s.motion ∧
    (tmuStepBy fuel n s).portA = s.portA ∧ (tmuStepBy fuel n s).portB = s.portB ∧ (tmuStepBy fuel n s).ptp = s.ptp ∧
    (tmuStepBy fuel n s).cas = s.cas ∧ (tmuStepBy fuel n s).cvu = s.cvu := by
  induction fuel generalizing n s with
  | zero => simp [tmuStepBy]
  | succ k ih => unfold tmuStepBy; dsimp only; (repeat' split) <;> simp [ih]

/-- What `tmuStep` leaves as it is. -/
@[simp] theorem tmuStep_frame (n : Nat) (s : State) :
    (tmuStep n s).pending = s.pending ∧ (tmuStep n s).free = s.free ∧ (tmuStep n s).tb = s.tb ∧
    (tmuStep n s).tick = s.tick ∧ (tmuStep n s).mbx = s.mbx ∧ (tmuStep n s).lull = s.lull ∧
    (tmuStep n s).scrubs = s.scrubs ∧ (tmuStep n s).mirror = s.mirror ∧ (tmuStep n s).buf = s.buf ∧
    (tmuStep n s).ev = s.ev ∧ (tmuStep n s).mode = s.mode ∧ (tmuStep n s).bootStep = s.bootStep ∧
    (tmuStep n s).resetHeld = s.resetHeld ∧ (tmuStep n s).resetCause = s.resetCause ∧ (tmuStep n s).want = s.want ∧
    (tmuStep n s).hPend = s.hPend ∧ (tmuStep n s).restart = s.restart ∧ (tmuStep n s).faults = s.faults ∧
    (tmuStep n s).unlisted = s.unlisted ∧ (tmuStep n s).lockWin = s.lockWin ∧ (tmuStep n s).gableE = s.gableE ∧
    (tmuStep n s).n0 = s.n0 ∧ (tmuStep n s).n1 = s.n1 ∧ (tmuStep n s).w = s.w ∧
    (tmuStep n s).ridgeB = s.ridgeB ∧ (tmuStep n s).gable = s.gable ∧ (tmuStep n s).flash = s.flash ∧
    (tmuStep n s).active = s.active ∧ (tmuStep n s).slate = s.slate ∧ (tmuStep n s).bk = s.bk ∧
    (tmuStep n s).pwr = s.pwr ∧ (tmuStep n s).wth = s.wth ∧ (tmuStep n s).ridge = s.ridge ∧
    (tmuStep n s).thatch = s.thatch ∧ (tmuStep n s).pair = s.pair ∧ (tmuStep n s).tcm = s.tcm ∧
    (tmuStep n s).thatchMem = s.thatchMem ∧ (tmuStep n s).laneP = s.laneP ∧ (tmuStep n s).laneT = s.laneT ∧
    (tmuStep n s).field = s.field ∧ (tmuStep n s).fa = s.fa ∧ (tmuStep n s).motion = s.motion ∧
    (tmuStep n s).portA = s.portA ∧ (tmuStep n s).portB = s.portB ∧ (tmuStep n s).ptp = s.ptp ∧
    (tmuStep n s).cas = s.cas ∧ (tmuStep n s).cvu = s.cvu := by
  simp [tmuStep]

/-- What `tmuInput` leaves as it is. -/
@[simp] theorem tmuInput_frame (n : Nat) (s : State) :
    (tmuInput n s).pending = s.pending ∧ (tmuInput n s).free = s.free ∧ (tmuInput n s).tb = s.tb ∧
    (tmuInput n s).tick = s.tick ∧ (tmuInput n s).mbx = s.mbx ∧ (tmuInput n s).lull = s.lull ∧
    (tmuInput n s).scrubs = s.scrubs ∧ (tmuInput n s).mirror = s.mirror ∧ (tmuInput n s).buf = s.buf ∧
    (tmuInput n s).ev = s.ev ∧ (tmuInput n s).mode = s.mode ∧ (tmuInput n s).bootStep = s.bootStep ∧
    (tmuInput n s).resetHeld = s.resetHeld ∧ (tmuInput n s).resetCause = s.resetCause ∧ (tmuInput n s).want = s.want ∧
    (tmuInput n s).hPend = s.hPend ∧ (tmuInput n s).restart = s.restart ∧ (tmuInput n s).faults = s.faults ∧
    (tmuInput n s).unlisted = s.unlisted ∧ (tmuInput n s).lockWin = s.lockWin ∧ (tmuInput n s).gableE = s.gableE ∧
    (tmuInput n s).n0 = s.n0 ∧ (tmuInput n s).n1 = s.n1 ∧ (tmuInput n s).w = s.w ∧
    (tmuInput n s).ridgeB = s.ridgeB ∧ (tmuInput n s).gable = s.gable ∧ (tmuInput n s).flash = s.flash ∧
    (tmuInput n s).active = s.active ∧ (tmuInput n s).slate = s.slate ∧ (tmuInput n s).bk = s.bk ∧
    (tmuInput n s).pwr = s.pwr ∧ (tmuInput n s).wth = s.wth ∧ (tmuInput n s).ridge = s.ridge ∧
    (tmuInput n s).thatch = s.thatch ∧ (tmuInput n s).pair = s.pair ∧ (tmuInput n s).tcm = s.tcm ∧
    (tmuInput n s).thatchMem = s.thatchMem ∧ (tmuInput n s).laneP = s.laneP ∧ (tmuInput n s).laneT = s.laneT ∧
    (tmuInput n s).field = s.field ∧ (tmuInput n s).fa = s.fa ∧ (tmuInput n s).motion = s.motion ∧
    (tmuInput n s).portA = s.portA ∧ (tmuInput n s).portB = s.portB ∧ (tmuInput n s).ptp = s.ptp ∧
    (tmuInput n s).cas = s.cas ∧ (tmuInput n s).cvu = s.cvu := by
  unfold tmuInput; dsimp only; (repeat' split) <;> simp

/-- What `tmuClock` leaves as it is. -/
@[simp] theorem tmuClock_frame (b : Bool) (s : State) :
    (tmuClock b s).pending = s.pending ∧ (tmuClock b s).free = s.free ∧ (tmuClock b s).tb = s.tb ∧
    (tmuClock b s).tick = s.tick ∧ (tmuClock b s).mbx = s.mbx ∧ (tmuClock b s).lull = s.lull ∧
    (tmuClock b s).scrubs = s.scrubs ∧ (tmuClock b s).mirror = s.mirror ∧ (tmuClock b s).buf = s.buf ∧
    (tmuClock b s).ev = s.ev ∧ (tmuClock b s).mode = s.mode ∧ (tmuClock b s).bootStep = s.bootStep ∧
    (tmuClock b s).resetHeld = s.resetHeld ∧ (tmuClock b s).resetCause = s.resetCause ∧ (tmuClock b s).want = s.want ∧
    (tmuClock b s).hPend = s.hPend ∧ (tmuClock b s).restart = s.restart ∧ (tmuClock b s).faults = s.faults ∧
    (tmuClock b s).unlisted = s.unlisted ∧ (tmuClock b s).lockWin = s.lockWin ∧ (tmuClock b s).gableE = s.gableE ∧
    (tmuClock b s).n0 = s.n0 ∧ (tmuClock b s).n1 = s.n1 ∧ (tmuClock b s).w = s.w ∧
    (tmuClock b s).ridgeB = s.ridgeB ∧ (tmuClock b s).gable = s.gable ∧ (tmuClock b s).flash = s.flash ∧
    (tmuClock b s).active = s.active ∧ (tmuClock b s).slate = s.slate ∧ (tmuClock b s).bk = s.bk ∧
    (tmuClock b s).pwr = s.pwr ∧ (tmuClock b s).wth = s.wth ∧ (tmuClock b s).ridge = s.ridge ∧
    (tmuClock b s).thatch = s.thatch ∧ (tmuClock b s).pair = s.pair ∧ (tmuClock b s).tcm = s.tcm ∧
    (tmuClock b s).thatchMem = s.thatchMem ∧ (tmuClock b s).laneP = s.laneP ∧ (tmuClock b s).laneT = s.laneT ∧
    (tmuClock b s).field = s.field ∧ (tmuClock b s).fa = s.fa ∧ (tmuClock b s).motion = s.motion ∧
    (tmuClock b s).portA = s.portA ∧ (tmuClock b s).portB = s.portB ∧ (tmuClock b s).ptp = s.ptp ∧
    (tmuClock b s).cas = s.cas ∧ (tmuClock b s).cvu = s.cvu := by
  unfold tmuClock; split
  · simp
  · refine ⟨?_, ?_, ?_, ?_, ?_, ?_, ?_, ?_, ?_, ?_, ?_, ?_, ?_, ?_, ?_, ?_, ?_, ?_, ?_, ?_, ?_, ?_, ?_, ?_, ?_, ?_, ?_, ?_, ?_, ?_, ?_, ?_, ?_, ?_, ?_, ?_, ?_, ?_, ?_, ?_, ?_, ?_, ?_, ?_, ?_, ?_, ?_⟩ <;> exact foldl_keeps _ _ (fun t n => by dsimp only; (repeat' split) <;> simp) _ _

/-- What `clockTick` leaves as it is. -/
@[simp] theorem clockTick_frame (s : State) :
    (clockTick s).pending = s.pending ∧ (clockTick s).free = s.free ∧ (clockTick s).tick = s.tick ∧
    (clockTick s).mbx = s.mbx ∧ (clockTick s).lull = s.lull ∧ (clockTick s).scrubs = s.scrubs ∧
    (clockTick s).mirror = s.mirror ∧ (clockTick s).buf = s.buf ∧ (clockTick s).ev = s.ev ∧
    (clockTick s).mode = s.mode ∧ (clockTick s).bootStep = s.bootStep ∧ (clockTick s).resetHeld = s.resetHeld ∧
    (clockTick s).resetCause = s.resetCause ∧ (clockTick s).want = s.want ∧ (clockTick s).hPend = s.hPend ∧
    (clockTick s).restart = s.restart ∧ (clockTick s).faults = s.faults ∧ (clockTick s).unlisted = s.unlisted ∧
    (clockTick s).lockWin = s.lockWin ∧ (clockTick s).gableE = s.gableE ∧ (clockTick s).n0 = s.n0 ∧
    (clockTick s).n1 = s.n1 ∧ (clockTick s).w = s.w ∧ (clockTick s).ridgeB = s.ridgeB ∧
    (clockTick s).gable = s.gable ∧ (clockTick s).flash = s.flash ∧ (clockTick s).active = s.active ∧
    (clockTick s).slate = s.slate ∧ (clockTick s).pwr.shutdown = s.pwr.shutdown ∧ (clockTick s).pwr.aoOn = s.pwr.aoOn ∧ (clockTick s).pwr.lplus = s.pwr.lplus ∧
    (clockTick s).pwr.hold = s.pwr.hold ∧ (clockTick s).pwr.domains = s.pwr.domains ∧ (clockTick s).pwr.ride = s.pwr.ride ∧ (clockTick s).wth = s.wth ∧
    (clockTick s).ridge = s.ridge ∧ (clockTick s).thatch = s.thatch ∧ (clockTick s).pair = s.pair ∧
    (clockTick s).tcm = s.tcm ∧ (clockTick s).thatchMem = s.thatchMem ∧ (clockTick s).laneP = s.laneP ∧
    (clockTick s).laneT = s.laneT ∧ (clockTick s).field = s.field ∧ (clockTick s).fa = s.fa ∧
    (clockTick s).motion = s.motion ∧ (clockTick s).portA = s.portA ∧ (clockTick s).portB = s.portB ∧
    (clockTick s).ptp = s.ptp ∧ (clockTick s).cas = s.cas ∧ (clockTick s).cvu = s.cvu := by
  unfold clockTick; dsimp only; (repeat' split) <;> simp

/-- Outside an ordered shutdown an idle clock is a clock of the timebase. -/
theorem idle_eq {s : State} (h : s.pwr.shutdown = none) : idle s = clockTick s := by
  simp [idle, shutdownClock, h]

/-- What `clocks` leaves as it is. -/
theorem clocks_frame (n : Nat) (s : State) (h : s.pwr.shutdown = none) :
    (clocks n s).pending = s.pending ∧ (clocks n s).free = s.free ∧ (clocks n s).tick = s.tick ∧
    (clocks n s).mbx = s.mbx ∧ (clocks n s).lull = s.lull ∧ (clocks n s).scrubs = s.scrubs ∧
    (clocks n s).mirror = s.mirror ∧ (clocks n s).buf = s.buf ∧ (clocks n s).ev = s.ev ∧
    (clocks n s).mode = s.mode ∧ (clocks n s).bootStep = s.bootStep ∧ (clocks n s).resetHeld = s.resetHeld ∧
    (clocks n s).resetCause = s.resetCause ∧ (clocks n s).want = s.want ∧ (clocks n s).hPend = s.hPend ∧
    (clocks n s).restart = s.restart ∧ (clocks n s).faults = s.faults ∧ (clocks n s).unlisted = s.unlisted ∧
    (clocks n s).lockWin = s.lockWin ∧ (clocks n s).gableE = s.gableE ∧ (clocks n s).n0 = s.n0 ∧
    (clocks n s).n1 = s.n1 ∧ (clocks n s).w = s.w ∧ (clocks n s).ridgeB = s.ridgeB ∧
    (clocks n s).gable = s.gable ∧ (clocks n s).flash = s.flash ∧ (clocks n s).active = s.active ∧
    (clocks n s).slate = s.slate ∧ (clocks n s).pwr.shutdown = s.pwr.shutdown ∧ (clocks n s).pwr.aoOn = s.pwr.aoOn ∧ (clocks n s).pwr.lplus = s.pwr.lplus ∧
    (clocks n s).pwr.hold = s.pwr.hold ∧ (clocks n s).pwr.domains = s.pwr.domains ∧ (clocks n s).pwr.ride = s.pwr.ride ∧ (clocks n s).wth = s.wth ∧
    (clocks n s).ridge = s.ridge ∧ (clocks n s).thatch = s.thatch ∧ (clocks n s).pair = s.pair ∧
    (clocks n s).tcm = s.tcm ∧ (clocks n s).thatchMem = s.thatchMem ∧ (clocks n s).laneP = s.laneP ∧
    (clocks n s).laneT = s.laneT ∧ (clocks n s).field = s.field ∧ (clocks n s).fa = s.fa ∧
    (clocks n s).motion = s.motion ∧ (clocks n s).portA = s.portA ∧ (clocks n s).portB = s.portB ∧
    (clocks n s).ptp = s.ptp ∧ (clocks n s).cas = s.cas ∧ (clocks n s).cvu = s.cvu := by
  induction n generalizing s with
  | zero => simp [clocks]
  | succ k ih =>
    have e := ih (idle s) (by simp [idle_eq h, h])
    simp only [idle_eq h, clockTick_frame] at e
    simpa only [clocks, idle_eq h] using e

/-! ## The mailbox memory keeps its canonical form -/

@[simp] theorem writeEvent_wf (kind : Nat) (code : BitVec 16) (arg : W32) (s : State) (h : Memory.wf s.mbx = true) :
    Memory.wf (writeEvent kind code arg s).mbx = true := by
  simp [writeEvent, memWriteBytes_wf, h]

@[simp] theorem listFault_mbx (e : FaultEntry) (s : State) : (listFault e s).mbx = s.mbx := by
  unfold listFault; (repeat' split) <;> simp

theorem flushLost_wf (s : State) (h : Memory.wf s.mbx = true) : Memory.wf (flushLost s).mbx = true := by
  unfold flushLost; split
  · exact h
  · simpa using writeEvent_wf 0 fcEvtLost s.gable.evtDropped s h

/-- An event entry keeps the form. -/
theorem postEvent_wf (kind : Nat) (code : BitVec 16) (arg : W32) (s : State) (h : Memory.wf s.mbx = true) :
    Memory.wf (postEvent kind code arg s).mbx = true := by
  unfold postEvent
  (repeat' split) <;> simp_all <;> (repeat' split) <;> simp_all [flushLost_wf]

/-- A response keeps the form. -/
theorem postRsp_wf (p : Port) (msg : List Byte) (st : Byte) (s : State) (h : Memory.wf s.mbx = true) :
    Memory.wf (postRsp p msg st s).mbx = true := by
  cases p <;> simp [postRsp, memWriteBytes_wf, h]

/-! ## Faults present -/

theorem isFault_self (c : BitVec 16) (a : W32) (k : FClass) (w : Bool) (t : W64) :
    FaultEntry.isFault { code := c, arg := a, cls := k, warning := w, time := t } c (a.toNat % 65536) = true := by
  simp [FaultEntry.isFault]

/-- The first entry that satisfies `p` moved elsewhere: nothing is lost. -/
theorem any_erase_find (p q : FaultEntry → Bool) (l : List FaultEntry) (h : l.any p = true) :
    ((l.eraseP p).any q || (l.find? p).toList.any q) = l.any q := by
  induction l with
  | nil => simp at h
  | cons a l ih =>
    by_cases ha : p a = true
    · simp [ha, Bool.or_comm]
    · simp only [List.any_cons, ha, Bool.false_or] at h
      simp [ha, Bool.or_assoc, ih h]

/-- Some entry, listed or only counted, satisfies `q`. -/
def anyFault (s : State) (q : FaultEntry → Bool) : Bool := (s.faults ++ s.unlisted).any q

theorem hasFault_eq (s : State) (c : BitVec 16) (o : Nat) : hasFault s c o = anyFault s (fun e => e.isFault c o) := rfl

theorem anyFault_congr {s t : State} (h1 : t.faults = s.faults) (h2 : t.unlisted = s.unlisted) (q : FaultEntry → Bool) :
    anyFault t q = anyFault s q := by
  simp [anyFault, h1, h2]

theorem hasFault_congr {s t : State} (h1 : t.faults = s.faults) (h2 : t.unlisted = s.unlisted) (c : BitVec 16) (o : Nat) :
    hasFault t c o = hasFault s c o := anyFault_congr h1 h2 _

/-- Listing a fault: it is present, and so is every fault that was (R286). -/
theorem anyFault_listFault (e : FaultEntry) (s : State) (q : FaultEntry → Bool) :
    anyFault (listFault e s) q = (anyFault s q || q e) := by
  unfold listFault anyFault
  split
  · simp [Bool.or_comm, Bool.or_left_comm]
  · split
    · rename_i h
      have := any_erase_find (fun f => f.warning) q s.faults h
      simp only [trigMatch_frame, irqSet_faults, irqSet_unlisted, List.any_append, List.any_cons, List.any_nil, ← this]
      generalize (List.eraseP _ _).any _ = x; generalize (Option.toList _).any _ = y; generalize s.unlisted.any _ = z
      cases x <;> cases y <;> cases z <;> cases q e <;> rfl
    · simp [Bool.or_assoc]

/-- Dropping an event entry lists EVT_LOST and nothing else. -/
theorem anyFault_dropEvent (s : State) (q : FaultEntry → Bool) (h : ∀ e, e.code = fcEvtLost → q e = false) :
    anyFault (dropEvent s) q = anyFault s q := by
  unfold dropEvent; dsimp only; split
  · rfl
  · rw [anyFault_listFault, h _ rfl, Bool.or_false]; rfl

/-- An event entry leaves every fault but EVT_LOST as it stands. -/
theorem anyFault_postEvent (kind : Nat) (code : BitVec 16) (arg : W32) (s : State) (q : FaultEntry → Bool)
    (h : ∀ e, e.code = fcEvtLost → q e = false) : anyFault (postEvent kind code arg s) q = anyFault s q := by
  unfold postEvent; split
  · rfl
  · dsimp only
    generalize hu : (if (s.gable.usbAttached && !s.pwr.shedEvt) = true then _ else s) = u
    have hf : u.faults = s.faults ∧ u.unlisted = s.unlisted := by subst hu; split <;> simp
    have hs := anyFault_congr hf.1 hf.2 q
    have hl := anyFault_congr (t := flushLost u) (s := s) (by simp [hf.1]) (by simp [hf.2]) q
    have hw := anyFault_congr (t := writeEvent kind code arg (flushLost u)) (s := s) (by simp [hf.1]) (by simp [hf.2]) q
    (repeat' split) <;> simp [anyFault_dropEvent _ _ h, hs, hl, hw]

theorem isFault_of_ne {c : BitVec 16} (o : Nat) (h : c ≠ fcEvtLost) (e : FaultEntry) (he : e.code = fcEvtLost) :
    e.isFault c o = false := by
  simp only [FaultEntry.isFault, he, Bool.and_eq_false_iff, beq_eq_false_iff_ne]; exact .inl (Ne.symm h)

/-- Raising a fault leaves every other fault as it stands; the fault itself is present afterwards, unless the table stands still. -/
theorem hasFault_raiseW (w : Bool) (code : BitVec 16) (arg : W32) (s : State) (c : BitVec 16) (o : Nat) (h : c ≠ fcEvtLost) :
    hasFault (raiseW w code arg s) c o =
      (hasFault s c o || (!tableStill s && code == c && arg.toNat % 65536 == o)) := by
  unfold raiseW
  split
  · rename_i g; simp [g]
  split
  · rename_i g
    rw [hasFault_congr (s := s) (by simp) (by simp)]
    by_cases hc : code = c <;> by_cases ho : arg.toNat % 65536 = o <;> simp_all
  · rename_i g _
    simp only [Bool.not_eq_true] at g
    dsimp only
    simp only [hasFault_eq]
    refine (anyFault_congr (s := postEvent 0 code arg (listFault
      { code := code, arg := arg, cls := faultClass code, warning := w, time := s.tb.count } s)) ?_ ?_ _).trans
      (((anyFault_postEvent _ _ _ _ _ (isFault_of_ne o h)).trans (anyFault_listFault _ _ _)).trans ?_)
    · (repeat' split) <;> simp
    · (repeat' split) <;> simp
    · simp [g, FaultEntry.isFault]

/-- The same for the reaction of Table 12.7. -/
theorem hasFault_raise (code : BitVec 16) (n : Nat) (s : State) (c : BitVec 16) (o : Nat) (h : c ≠ fcEvtLost) :
    hasFault (raise code n s) c o = (hasFault s c o || (!tableStill s && code == c && n % 65536 == o)) := by
  rw [raise, hasFault_raiseW _ _ _ _ _ _ h]; congr 2; simp

/-- Dropping an entry: it is gone, and no fault but EVT_LOST appears. -/
theorem anyFault_dropFault (e : FaultEntry) (s : State) (q : FaultEntry → Bool) (h : ∀ e, e.code = fcEvtLost → q e = false) :
    anyFault (dropFault e s) q = anyFault s (fun f => f != e && q f) := by
  rw [dropFault, anyFault_postEvent _ _ _ _ _ h]; unfold anyFault; split <;> simp

/-- Dropping entries one after another. -/
theorem anyFault_dropAll (l : List FaultEntry) (s : State) (q : FaultEntry → Bool) (h : ∀ e, e.code = fcEvtLost → q e = false) :
    anyFault (l.foldl (fun t e => dropFault e t) s) q = anyFault s (fun f => !l.contains f && q f) := by
  induction l generalizing s with
  | nil => simp [anyFault]
  | cons a l ih =>
    rw [List.foldl_cons, ih, anyFault_dropFault _ _ _ (fun e he => by simp [h e he])]
    congr 1; funext f; by_cases hf : f = a <;> by_cases hl : f ∈ l <;> simp [hf, hl]

/-- A fault clears: it is gone, and every other fault but EVT_LOST stands as before; a table that stands still and a class H entry
stay (R281, R286). -/
theorem hasFault_clearFault (code : BitVec 16) (n : Nat) (s : State) (c : BitVec 16) (o : Nat) (h : c ≠ fcEvtLost) :
    hasFault (clearFault code n s) c o =
      (hasFault s c o && (tableStill s || faultClass code == .h || !(code == c && n == o))) := by
  unfold clearFault
  split
  · rename_i g; simp [g]
  · rename_i g
    simp only [Bool.not_eq_true] at g
    simp only [hasFault_eq, clearWhere, g, Bool.false_or, anyFault_dropAll _ _ _ (isFault_of_ne o h)]
    by_cases e : code = c ∧ n = o
    · obtain ⟨rfl, rfl⟩ := e
      simp [anyFault, FaultEntry.isFault]; grind
    · have e' : (code == c && n == o) = false := by simpa using e
      simp only [e', Bool.not_false, Bool.and_true, anyFault]
      congr 1; funext f
      by_cases hf : f.isFault c o = true
      · have : f.isFault code n = false := by
          simp only [FaultEntry.isFault, Bool.and_eq_true, beq_iff_eq] at hf
          simp only [FaultEntry.isFault, hf.1, hf.2]
          rw [BEq.comm (a := c), BEq.comm (a := o)]; exact e'
        simp [this]
      · simp [hf]

end Sys2Proof.Laws
end

