-- ==== Sys2Proof/Laws/Timers.lean ====
section
/-! SUPPORT. What the clocks of the timer unit can do to its channels: CTRL and PRESC of every channel stay. -/

namespace Sys2Proof.Laws

open Sys2Proof Sys2Proof.Machine Sys2Proof.Safety

/-- CTRL and PRESC of every channel. -/
def tmuShape (s : State) : List (W32 × W32) := s.tmu.ch.toList.map (fun c => (c.ctrl, c.presc))

/-- The timer unit is legal by these two registers alone. -/
theorem tmuLegal_shape (s : State) :
    s.tmu.ch.toList.all tmuLegal =
      (tmuShape s).all (fun p => p.1 &&& 0x7003FFFF == 0 && decide (fld p.1 24 4 ≤ 8) && p.2 &&& 0x0000FF00 == 0
        && decide (1 ≤ fld p.2 16 16)) := by
  unfold tmuShape
  rw [List.all_map]
  rfl

/-- A change of a channel that keeps both registers keeps the shape. -/
theorem tmuShape_upd (n : Nat) (f : TmuCh → TmuCh) (s : State) (h : ∀ c, (f c).ctrl = c.ctrl ∧ (f c).presc = c.presc) :
    tmuShape (tmuUpd n f s) = tmuShape s := by
  unfold tmuShape tmuUpd vmod
  split
  · next hn =>
    apply List.ext_getElem (by simp)
    intro i h1 h2
    simp only [Vector.toList_set, List.getElem_map, List.getElem_set]
    split
    · next e => subst e; simp [h, Vector.getElem_toList]
    · rfl
  · rfl

/-- An interrupt event does not touch the timer unit. -/
@[simp] theorem tmuShape_irqSet (k : Nat) (s : State) : tmuShape (irqSet k s) = tmuShape s := by simp [tmuShape]

@[simp] theorem tmuShape_fire (n : Nat) (s : State) : tmuShape (tmuFire n s) = tmuShape s := by
  unfold tmuFire; dsimp only; split <;> simp [tmuShape_upd]

@[simp] theorem tmuShape_move (n : Nat) (w : W32) (s : State) : tmuShape (tmuMove n w s) = tmuShape s := by
  unfold tmuMove; dsimp only; split <;> simp [tmuShape_upd]

@[simp] theorem tmuShape_stepBy (fuel n : Nat) (s : State) : tmuShape (tmuStepBy fuel n s) = tmuShape s := by
  induction fuel generalizing n s with
  | zero => rfl
  | succ k ih => unfold tmuStepBy; dsimp only; (repeat' split) <;> simp [ih, tmuShape_upd]

@[simp] theorem tmuShape_input (n : Nat) (s : State) : tmuShape (tmuInput n s) = tmuShape s := by
  unfold tmuInput tmuStep tmuPresc; dsimp only; (repeat' split) <;> simp [tmuShape_upd]

@[simp] theorem tmuShape_clock (b : Bool) (s : State) : tmuShape (tmuClock b s) = tmuShape s := by
  unfold tmuClock
  by_cases h : (s.tmu.ch.toList.all fun c => !c.en && !c.fire) = true
  · rw [if_pos h]
  · rw [if_neg h]
    generalize List.range 32 = l
    refine foldl_keeps tmuShape _ (fun t n => ?_) l s
    by_cases h1 : (tmuAt t n).fire = true <;> simp only [h1, if_true, if_false, Bool.false_eq_true] <;> split <;> simp

/-- A timebase clock keeps CTRL and PRESC of every channel. -/
@[simp] theorem tmuShape_clockTick (s : State) : tmuShape (clockTick s) = tmuShape s := by
  unfold clockTick; dsimp only; split
  · rw [tmuShape_clock]; simp [tmuShape]
  · split <;> simp [tmuShape]

/-- So do any number of them outside an ordered shutdown. -/
theorem tmuShape_clocks (n : Nat) (s : State) (h : s.pwr.shutdown = none) : tmuShape (clocks n s) = tmuShape s := by
  induction n generalizing s with
  | zero => rfl
  | succ k ih =>
    rw [clocks, idle_eq h, ih _ (by simp [h])]; simp

end Sys2Proof.Laws
end

