-- ==== Sys2Proof/Laws/Legal.lean ====
section
/-! SUPPORT. The operations that write the held registers, or start a check value unit's vector, keep their fields legal. -/

namespace Sys2Proof.Laws

open Sys2Proof Sys2Proof.Machine Sys2Proof.Safety

/-- What is asked of the held registers, by the fields alone. -/
theorem legal_held (s : State) :
    legal (held s) = (s.host.irqEn &&& 0xFFFFFC00 == 0 && s.host.indAddr.toNat % 4 == 0 && trigLegal s.lull.trig
      && s.tmu.ch.toList.all tmuLegal && s.tmu.ch.toList.head?.all (fun c => fld c.ctrl 24 4 != 8)
      && (s.cvu.toList.map (fun c => c.ctrl)).all cvuLegal) := rfl

/-- TMU0 has no chain source, by its control register alone. -/
theorem tmuHead_shape (s : State) :
    s.tmu.ch.toList.head?.all (fun c => fld c.ctrl 24 4 != 8) = (tmuShape s).head?.all (fun p => fld p.1 24 4 != 8) := by
  unfold tmuShape
  cases s.tmu.ch.toList <;> rfl

/-- Two states whose held registers differ in the counts of the timer channels alone are legal together. -/
theorem legal_congr {s t : State} (a : t.host.irqEn = s.host.irqEn) (b : t.host.indAddr = s.host.indAddr) (c : t.lull.trig = s.lull.trig)
    (d : tmuShape t = tmuShape s) (e : t.cvu = s.cvu) : legal (held t) = legal (held s) := by
  simp only [legal_held, tmuLegal_shape, tmuHead_shape, a, b, c, d, e]

/-- The clocks of the timer unit leave the interrupt enables and IND_ADDR. -/
@[simp] theorem tmuFire_host (n : Nat) (s : State) : (tmuFire n s).host.irqEn = s.host.irqEn ∧ (tmuFire n s).host.indAddr = s.host.indAddr := by
  unfold tmuFire; dsimp only; split <;> simp [irqSet, tmuUpd]

@[simp] theorem tmuMove_host (n : Nat) (w : W32) (s : State) :
    (tmuMove n w s).host.irqEn = s.host.irqEn ∧ (tmuMove n w s).host.indAddr = s.host.indAddr := by
  unfold tmuMove; dsimp only; split <;> simp [tmuUpd]

@[simp] theorem tmuStepBy_host (fuel n : Nat) (s : State) :
    (tmuStepBy fuel n s).host.irqEn = s.host.irqEn ∧ (tmuStepBy fuel n s).host.indAddr = s.host.indAddr := by
  induction fuel generalizing n s with
  | zero => simp [tmuStepBy]
  | succ k ih => unfold tmuStepBy; dsimp only; (repeat' split) <;> simp [ih, tmuUpd]

@[simp] theorem tmuInput_host (n : Nat) (s : State) :
    (tmuInput n s).host.irqEn = s.host.irqEn ∧ (tmuInput n s).host.indAddr = s.host.indAddr := by
  unfold tmuInput tmuStep tmuPresc; dsimp only; (repeat' split) <;> simp [tmuUpd]

@[simp] theorem tmuClock_host (b : Bool) (s : State) :
    (tmuClock b s).host.irqEn = s.host.irqEn ∧ (tmuClock b s).host.indAddr = s.host.indAddr := by
  have e : (fun t : State => (t.host.irqEn, t.host.indAddr)) (tmuClock b s) = (s.host.irqEn, s.host.indAddr) := by
    unfold tmuClock
    by_cases h : (s.tmu.ch.toList.all fun c => !c.en && !c.fire) = true
    · rw [if_pos h]
    · rw [if_neg h]
      generalize List.range 32 = l
      refine foldl_keeps (fun t : State => (t.host.irqEn, t.host.indAddr)) _ (fun t n => ?_) l s
      by_cases h1 : (tmuAt t n).fire = true <;> simp only [h1, if_true, if_false, Bool.false_eq_true] <;> split <;> simp
  exact ⟨congrArg Prod.fst e, congrArg Prod.snd e⟩

@[simp] theorem clockTick_host (s : State) :
    (clockTick s).host.irqEn = s.host.irqEn ∧ (clockTick s).host.indAddr = s.host.indAddr := by
  unfold clockTick; dsimp only; (repeat' split) <;> simp

/-- A timebase clock keeps the fields legal. -/
@[simp] theorem legal_clockTick (s : State) : legal (held (clockTick s)) = legal (held s) :=
  legal_congr (by simp) (by simp) (by simp) (by simp) (by simp)

/-! ## Check value units -/

/-- A vector run leaves the unit's control register at its owner's own set. -/
theorem cvuVector_ctrl (u : Nat) (c : Cvu) : (cvuVector u c).ctrl = 0x30000020 ∨ (cvuVector u c).ctrl = 0x00000010 := by
  have a (c : Cvu) : (cvuStart c).ctrl = c.ctrl := by unfold cvuStart; dsimp only; split <;> rfl
  have b (v : W32) (c : Cvu) : (cvuData v c).ctrl = c.ctrl := by unfold cvuData; dsimp only; split <;> rfl
  have e : (cvuVector u c).ctrl = (cvuOwnSet u c).ctrl := by simp [cvuVector, cvuDone, Cvu.beat, a, b]
  rw [e]
  unfold cvuOwnSet
  split <;> simp

/-- Replacing one unit by one whose control register is legal keeps all of them legal. -/
theorem legal_cvuUpd (u : Fin 4) (f : Cvu → Cvu) (s : State) (h : legal (held s) = true)
    (hf : cvuLegal (cvuAt u s).ctrl = true → cvuLegal (f (cvuAt u s)).ctrl = true) : legal (held (cvuUpd u f s)) = true := by
  simp only [legal_held, Bool.and_eq_true] at h ⊢
  refine ⟨h.1, ?_⟩
  have g := h.2
  simp only [List.all_map, List.all_eq_true, Function.comp] at g ⊢
  intro x hx
  simp only [cvuUpd, vupd, Vector.toList_set] at hx
  rcases List.mem_or_eq_of_mem_set hx with hx | rfl
  · exact g x hx
  · exact hf (g _ (by simp [cvuAt]))

/-- A vector run keeps the fields legal. -/
@[simp] theorem legal_cvuCheck (u : Fin 4) (sound : Bool) (s : State) (h : legal (held s) = true) :
    legal (held (cvuCheck u sound s)) = true := by
  unfold cvuCheck
  dsimp only
  rw [held_setFault]
  refine legal_cvuUpd u _ s h (fun _ => ?_)
  rcases cvuVector_ctrl u.val (cvuAt u s) with e | e <;> simp only [e] <;> decide

/-- So does a fold of steps that do. -/
theorem legal_foldl {α : Type} (f : State → α → State) (hf : ∀ t a, legal (held t) = true → legal (held (f t a)) = true) (l : List α)
    (s : State) (h : legal (held s) = true) : legal (held (l.foldl f s)) = true := by
  induction l generalizing s with
  | nil => exact h
  | cons a l ih => exact ih _ (hf _ _ h)

/-! ## Restarts -/

@[simp] theorem legal_selftestAgain (s : State) (h : legal (held s) = true) : legal (held (selftestAgain s)) = true := by
  unfold selftestAgain
  exact legal_foldl _ (fun t a g => legal_cvuCheck _ _ _ g) _ _ (by simpa using h)

@[simp] theorem legal_restartSelftest (s : State) (h : legal (held s) = true) : legal (held (restartSelftest s)) = true := by
  unfold restartSelftest; split <;> simp [h]

@[simp] theorem legal_deliberateRestart (s : State) (h : legal (held s) = true) : legal (held (deliberateRestart s)) = true := by
  simp [deliberateRestart, h]

@[simp] theorem legal_commitRestart (s : State) (h : legal (held s) = true) : legal (held (commitRestart s)) = true := by
  unfold commitRestart
  refine legal_selftestAgain _ ?_
  rw [held_sealCheck]
  have e := held_loadConfig { s with restart := none }
  simpa using e ▸ h

@[simp] theorem legal_lowerSession (p : Port) (level : BitVec 2) (s : State) (h : legal (held s) = true) :
    legal (held (lowerSession p level s)) = true := by
  unfold lowerSession; dsimp only; (repeat' split) <;> simp [h]

@[simp] theorem legal_grant (p : Port) (level : Nat) (service unsetOnly : Bool) (s : State) (h : legal (held s) = true) :
    legal (held (grant p level service unsetOnly s)) = true := by
  unfold grant; dsimp only; (repeat' split) <;> simp [h]

@[simp] theorem legal_loginBody (r : Req) (s : State) (h : legal (held s) = true) : legal (held (loginBody r s).1) = true := by
  unfold loginBody; dsimp only; (repeat' split) <;> simp [h]

@[simp] theorem legal_usbOff (s : State) (h : legal (held s) = true) : legal (held (usbOff s)) = true := by
  simp [usbOff, h]

@[simp] theorem legal_shedDown (c : ClkStep) (s : State) (h : legal (held s) = true) : legal (held (shedDown c s)) = true := by
  have g : legal (held (raise fcLplusLow 0 s)) = true := by rw [held_raise]; exact h
  unfold shedDown; dsimp only; split
  · exact legal_usbOff _ g
  · exact g

@[simp] theorem legal_clkTo (c : ClkStep) (s : State) (h : legal (held s) = true) : legal (held (clkTo c s)) = true := by
  unfold clkTo; dsimp only; (repeat' split) <;> simp [h]

@[simp] theorem legal_setStep (c : ClkStep) (s : State) (h : legal (held s) = true) : legal (held (setStep c s)) = true := by
  unfold setStep; split <;> simp [h]

@[simp] theorem legal_shutdownStart (mv holdMv : Nat) (s : State) (h : legal (held s) = true) :
    legal (held (shutdownStart mv holdMv s)) = true := by
  refine legal_usbOff _ ?_
  change legal (held (irqSet 8 (raise fcLplusShutdown 0 s))) = true
  rw [held_irqSet, held_raise]
  exact h

/-! ## The mailbox -/

/-- A mailbox command keeps the fields legal if its effect does. -/
theorem legal_serve (code : BitVec 16) (r : Req) (body : State → State × Answer) (s : State)
    (hb : ∀ t, legal (held t) = true → legal (held (body t).1) = true) (h : legal (held s) = true) :
    legal (held (serve code r body s)) = true := by
  unfold serve
  split
  · exact h
  split
  · simpa using h
  have g := hb (touch r.port s) (by simpa using h)
  dsimp only
  split
  · next e => simpa [held_turnedAway e] using h
  split
  · simpa using h
  split <;> simpa using g

/-- So does a held one at its boundary. -/
theorem legal_heldEnd (code : BitVec 16) (r : Req) (body : State → State × Answer) (s : State)
    (hb : ∀ t, legal (held t) = true → legal (held (body t).1) = true) (h : legal (held s) = true) :
    legal (held (heldEnd code r body s)) = true := by
  have g := hb { s with gable := { s.gable with held := none } } (by simpa using h)
  unfold heldEnd
  dsimp only
  split
  · simpa using h
  split <;> simp [h, g]

@[simp] theorem legal_heldStep (s : State) (h : legal (held s) = true) : legal (held (heldStep s)) = true := by
  unfold heldStep
  split
  · exact h
  split
  · exact h
  split
  · exact legal_heldEnd _ _ _ _ (fun t g => by simp [g]) h
  split
  · exact legal_heldEnd _ _ _ _ (fun t g => by simp [g]) h
  · exact legal_heldEnd _ _ _ _ (fun t g => legal_loginBody _ _ g) h

/-! ## Boundaries, resets, clocks -/

@[simp] theorem legal_tickStart (s : State) (h : legal (held s) = true) : legal (held (tickStart s)) = true := by
  have g := legal_clkTo (nowStep s) s h
  simp [tickStart, g]

@[simp] theorem legal_boundaryChanges (s : State) (h : legal (held s) = true) : legal (held (boundaryChanges s)) = true := by
  simp [boundaryChanges, h]

/-- A reset of AO leaves every held register at its reset value. -/
@[simp] theorem held_coldReset (s : State) : held (coldReset s) = held State.reset := rfl

/-- The reset values are legal. -/
theorem legal_reset : legal (held State.reset) = true := by decide +kernel

@[simp] theorem legal_powerOff (lplus : Bool) (s : State) : legal (held (powerOff lplus s)) = true := legal_reset

@[simp] theorem legal_bootStep1 (cause : BitVec 8) (alm : Bool) (s : State) : legal (held (bootStep1 cause alm s)) = true :=
  legal_reset

@[simp] theorem legal_aoReset (s : State) : legal (held (aoReset s)) = true := legal_reset

@[simp] theorem legal_shutdownClock (s : State) (h : legal (held s) = true) : legal (held (shutdownClock s)) = true := by
  unfold shutdownClock; (repeat' split) <;> simp [h]

/-- A clock without a command keeps the fields legal. -/
@[simp] theorem legal_idle (s : State) (h : legal (held s) = true) : legal (held (idle s)) = true := by
  simp [idle, h]

end Sys2Proof.Laws
end

