-- ==== Sys2Proof/Laws/Service.lean ====
section
/-! SUPPORT. A mailbox command from its checks to its response: what serve and finish do. -/

namespace Sys2Proof.Laws

open Sys2Proof Sys2Proof.Machine Sys2Proof.Safety

/-- Nothing is executed while Gable does not serve (R291). -/
theorem serve_idle {code : BitVec 16} {r : Req} {body : State → State × Answer} {s : State} (h : serves s = false) :
    serve code r body s = s := by
  simp [serve, h]

/-- A request that passes the checks has no reserved bit of FLAGS set (R245). -/
theorem flagsOk_of_preCheck {code : BitVec 16} {r : Req} {s : State} (h : preCheck code r s = none) : r.flagsOk = true := by
  cases hf : r.flagsOk
  · simp [preCheck, hf] at h
  · rfl

/-- A request that does not stand first in Gable's queue waits (R246). -/
theorem serve_waits {code : BitVec 16} {r : Req} {body : State → State × Answer} {s : State} (h : inTurn code r s = false) :
    serve code r body s = s := by
  simp [serve, h]

/-- A request with a reserved bit of FLAGS set is answered, and neither executed nor kept (R245). -/
theorem serve_refuseFlags {code : BitVec 16} {r : Req} {body : State → State × Answer} {s : State} (h : serves s = true)
    (i : inTurn code r s = true) (hf : r.flagsOk = false) : serve code r body s = refuseFlags code r (touch r.port s) := by
  simp [serve, h, i, hf]

/-- A request that passes the checks of R251 has its own effect and its end; one whose response follows later has its effect. -/
theorem serve_admits {code : BitVec 16} {r : Req} {body : State → State × Answer} {s : State} (h : admits code r s = true) :
    serve code r body s =
      if (body (touch r.port s)).2.later then (body (touch r.port s)).1
      else finish code r (sessionOf r.port (touch r.port s)).level (body (touch r.port s)).2 (body (touch r.port s)).1 := by
  simp only [admits, Bool.and_eq_true, Option.isNone_iff_eq_none] at h
  simp [serve, h.1.1.1, h.1.1.2, h.1.2, h.2, flagsOk_of_preCheck h.2]

/-- A request that comes with nothing before it and is a duplicate, or finds its port busy, is answered and has no effect (R244, R248). -/
theorem serve_turnedAway {code : BitVec 16} {r : Req} {body : State → State × Answer} {s u : State} (h : serves s = true)
    (i : inTurn code r s = true) (hf : r.flagsOk = true) (d : turnedAway code r (touch r.port s) = some u) : serve code r body s = u := by
  simp [serve, h, i, hf, d]

/-- A request turned away by the check of its level or mode has its end only. -/
theorem serve_refused {code : BitVec 16} {r : Req} {body : State → State × Answer} {s : State} {st : Byte}
    (h : serves s = true) (i : inTurn code r s = true) (hf : r.flagsOk = true) (d : turnedAway code r (touch r.port s) = none)
    (g : preCheck code r (touch r.port s) = some st) :
    serve code r body s = finish code r (sessionOf r.port (touch r.port s)).level (answer st) (touch r.port s) := by
  simp [serve, h, i, hf, d, g]

/-- The newest of the kept requests is the one kept last (R248). -/
theorem keepIn_last (l : List Kept) (k : Kept) : (keepIn l k).getLast? = some k := by
  unfold keepIn
  rw [List.getLast?_drop]
  simp

/-- Taking a message keeps the requests of the other port. -/
theorem takeNow_kept (p : Port) (m : List Byte) (s : State) : keptOf (otherPort p) (takeNow p m s) = keptOf (otherPort p) s := by
  unfold takeNow
  dsimp only
  (repeat' split) <;> cases p <;> simp [replyOnly, postRsp, finishOne, keepRsp, keptOf, otherPort, dequeue, irqSet, isLogged] <;>
    (repeat' split) <;> simp [logCommand]

/-- A port whose request has ended keeps its requests when the other's message is taken. -/
theorem settleMbx_kept (p : Port) (s : State) : keptOf p (settleMbx p s) = keptOf p s := by
  have o : otherPort (otherPort p) = p := by cases p <;> rfl
  unfold settleMbx
  split
  · split
    · next q m _ e =>
      simp only [Bool.and_eq_true, decide_eq_true_eq] at e
      obtain ⟨rfl, -⟩ := e
      have g := takeNow_kept (otherPort p) m { s with gable := { s.gable with parked := none } }
      rw [o] at g
      rw [g]
      cases p <;> rfl
    · rfl
  · rfl

/-- Every command that ends is kept with its response. -/
theorem answered_finish (code : BitVec 16) (r : Req) (level : BitVec 2) (a : Answer) (s : State) :
    answered code r a.st a.more a.payload (finish code r level a s) := by
  unfold answered finish
  rw [settleMbx_kept]
  unfold finishOne
  dsimp only
  cases r.port <;> simp [keepRsp, keptOf, keepIn_last]

/-- A response neither changes the mode of the module nor any fault. -/
theorem hasFault_finish (code : BitVec 16) (r : Req) (level : BitVec 2) (a : Answer) (s : State) (c : BitVec 16) (o : Nat) :
    hasFault (finish code r level a s) c o = hasFault s c o := hasFault_congr (by simp) (by simp) c o

end Sys2Proof.Laws
end

