-- ==== Sys2Proof/Laws/Word.lean ====
section
/-! SUPPORT. Bytes of a number, most significant byte first. -/

namespace Sys2Proof.Laws

open Sys2Proof

@[simp] theorem be_length (n v : Nat) : (be n v).length = n := by
  induction n with
  | zero => rfl
  | succ n ih => simp [be, ih]

/-- Reading the bytes of a number after others. -/
theorem foldl_be (n v a : Nat) :
    (be n v).foldl (fun a b => a * 256 + b.toNat) a = a * 256 ^ n + v % 256 ^ n := by
  induction n generalizing a with
  | zero => simp [be, Nat.mod_one]
  | succ n ih =>
    rw [be, List.foldl_cons, ih, BitVec.toNat_ofNat, Nat.pow_succ 256, Nat.mod_mul]
    generalize v / 256 ^ n % 2 ^ 8 = x
    ring

/-- The bytes of a number spell it. -/
theorem ofBe_be (n v : Nat) : ofBe (be n v) = v % 256 ^ n := by
  simp [ofBe, foldl_be]

/-- A number that stands at an offset reads back. -/
theorem beAt_be (pre post : List Byte) (n v : Nat) : beAt (pre ++ be n v ++ post) pre.length n = v % 256 ^ n := by
  rw [beAt, List.append_assoc, List.drop_left, List.append_assoc, List.take_left' (be_length n v), ofBe_be]

end Sys2Proof.Laws
end

