-- ==== Sys2Proof/Tests/Slice0.lean ====
section
/-! SUPPORT. Tests: small states, the checks of WellFormed, the codes and vectors that the specification gives, single commands, and
for every statement with hypotheses states and operands that meet them. -/

set_option Elab.async false

namespace Sys2Proof.Tests

open Sys2Proof Sys2Proof.Machine Sys2Proof.Safety

/-! ## Small states -/

def wS : State := { State.reset with
  mode := .run
  tb := { State.reset.tb with count := 100000000000 }
  tick := { State.reset.tick with sel := 2, running := true, boundary := 99999900000 }
  gable := { State.reset.gable with up := true }
  gableE := { State.reset.gableE with up := true }
  n0 := { State.reset.n0 with up := true }
  n1 := { State.reset.n1 with up := true }
  w := { State.reset.w with up := true }
  pwr := { State.reset.pwr with aoOn := true, domains := 0x3FF, vbatNow := 3000, lplus := 24000 } }
def wMode (m : Mode) (s : State) : State := { s with mode := m }
def wImg (f : List Config.Field) (i : List Config.Inst) (s : State) : State :=
  { s with active := { s.active with valid := true, image := { Image.empty with fields := f, insts := i } } }
def wF (p : Config.Param) (i : Nat) (v : Int) : Config.Field := { param := p, index := i, elem := 0, value := v }
def wTb (n : Nat) (s : State) : State := { s with tb := { s.tb with count := BitVec.ofNat 64 n } }
def wTmu (n : Nat) (g : TmuCh → TmuCh) (s : State) : State := tmuUpd n g s
def wSess (l : BitVec 2) (s : State) : State := { s with gable := { s.gable with spi := { s.gable.spi with level := l } } }
def wG (g : Gable → Gable) (s : State) : State := { s with gable := g s.gable }
def wP (g : Power → Power) (s : State) : State := { s with pwr := g s.pwr }
def wRd : RestartDue := { kind := .commit, port := .spi, due := 5 }
def wReq : Req := { port := .spi, tag := 7, flags := 0, payload := [] }
def wPay (l : List Byte) : Req := { wReq with payload := l }
def wMsg (tag code flags : Nat) (p : List Byte) : List Byte :=
  let head := be 2 tag ++ be 2 code ++ be 2 p.length ++ be 2 flags ++ p
  head ++ be 4 (crc32 head).toNat
def wSpi (l : List Byte) : List Byte := l ++ be 2 (crcSpi.crc [] l)
def wPut (l : List Byte) (s : State) : State := { s with mbx := memWriteBytes s.mbx 0x400 l }
def wUsb (s : State) : State := wG (fun g => { g with usbAttached := true }) s
def wKept (tag : Nat) : Kept := { tag := BitVec.ofNat 16 tag, body := (wMsg tag 0x0101 0 []).drop 2, rsp := rspMsg (BitVec.ofNat 16 tag) 0x0101 0 0 [1, 2, 3, 4] }
def wInt (m : Mode) (s : State) : State := wSess 2 (wMode m s)
def wImage (l : List Byte) : List Byte := be 2 3 ++ be 2 3 ++ be 4 0x03030000 ++ be 4 (32 + l.length) ++ List.replicate 20 0 ++ l
def wFw : List Byte :=
  let d := wImage [1, 2, 3, 4]
  d.take 12 ++ be 4 (fwCrc d).toNat ++ d.drop 16
def wCand : Candidate := { newCandidate .spi 64 (crc32 (List.replicate 64 0)) with data := List.replicate 64 0 }
def wCandE : Candidate := { wCand with ended := true, digest := reportDigest [] }
def wClamp : Clamp := { path := 1, given := -5, used := 7 }
def wCandC : Candidate := { wCand with ended := true, clamps := [wClamp], digest := reportDigest [wClamp] }
def wRun : VerifyRun := { state := 0, afterAccept := true, lost := false, vectors := 3, startTick := 0, ticks := 9, dur := 60000000000, ends := 100000000000, entries := [] }
def wPass : List Byte := [1, 2, 3, 4, 5, 6, 7, 8]
def wPw : Password := { salt := 0x1234, digest := passDigest 0x1234 wPass }
def wLockWin : LockWindow := { req := wReq, opened := 99999999999, ends := 100000000001 }
def wCells (b : Nat) : Vector (BitVec 8192) 6 := Vector.replicate 6 (BitVec.ofNat 8192 b)
def wLife (b : Nat) (s : State) : State := { s with slate := { s.slate with cells := wCells b } }
def wOut (l : Lane) (ty : Nat) (sq : Nat) (cm : Nat) : OutFrame :=
  let f := { OutFrame.blank l with ftype := BitVec.ofNat 4 ty, seq := BitVec.ofNat 16 sq, cmds := BitVec.ofNat 28 cm, tickSel := 2,
                                   entries := if ty = 2 then List.replicate 9 { item := 0, index := 0, value := 0 } else [{ item := 0, index := 0, value := 0 }] }
  { f with crc := outCrc f }
def wIn (l : Lane) (hdr : Nat) : InFrame :=
  let f : InFrame := {
    header := BitVec.ofNat 16 (0x1000 + hdr + if l = .t then 0x800 else 0), echo := 0, inputs := 5, bands := 0, follow := 0, sw := 0, live := 0,
    supplies := Vector.replicate 7 0, sd := Vector.replicate 8 0, sar := Vector.replicate 8 0, anStat := Vector.replicate 8 0,
    groupOver := 0, reserved := 0, crc := 0 }
  { f with crc := inCrc f }
def wLane (l : Lane) (g : LaneFc → LaneFc) (s : State) : State := setLane l (g (laneOf l s)) s
def wChan (l : Lane) (g : Chan → Chan) (s : State) : State := setChan l (g (chanOf l s)) s
def wLive (s : State) : State := wLane .p (fun l => { l with resetLevel := false }) (wLane .t (fun l => { l with resetLevel := false }) s)
def wRec (l : List W32) : Vector W32 8 := vtab 8 (fun k => if k < 7 then l.getD k 0 else crc32 ((List.range 7).flatMap (fun k => be 4 (l.getD k 0).toNat)))
def wDom (n : Nat) (s : State) : State := wP (fun p => { p with domains := BitVec.ofNat 10 n }) s
def wInp (n : Nat) (g : InFc → InFc) (s : State) : State := inpUpd n g s
def wTpo (n : Nat) (g : TpoFc → TpoFc) (s : State) : State := tpoUpd n g s
def wSup (n : Nat) (g : Supply → Supply) (s : State) : State := supUpd n g s
def wEntries (ins tpos outs ans : List (Nat × Nat)) (s : State) : State :=
  let f (l : LaneFc) : LaneFc := { l with
    resetLevel := false
    pIn := vtab 48 (fun k => (ins.lookup k).map (BitVec.ofNat 32)), pTpo := vtab 16 (fun k => (tpos.lookup k).map (BitVec.ofNat 32))
    pOut := vtab 28 (fun k => (outs.lookup k).map (BitVec.ofNat 32)), pAn := vtab 8 (fun k => (ans.lookup k).map (BitVec.ofNat 32)) }
  wLane .p f (wLane .t f s)
def wTakes (f : Lane → OutFrame) (s : State) : State :=
  wLane .p (fun l => { l with accepted := true, frame := some (f .p) }) (wLane .t (fun l => { l with accepted := true, frame := some (f .t) }) s)
def wVec : Config.RefVec := { inputs := wIn .p 0, blocks := [], expP := Vector.replicate 8 0, expT := Vector.replicate 8 0 }
def wRow : Config.ThatchRow := { bits := 5, crc := 0 }
def wRowOk : Config.ThatchRow := { bits := 5, crc := crc32 (be 32 5) }
def wTx (l : Lane) (s : State) : State := wChan l (fun c => { c with tx := wOut l 1 1 0 }) s
def wFrame (typ : Nat) (l : List Byte) : List Byte := List.replicate 12 0 ++ be 2 typ ++ l
def wCtt : List Byte := cttBytes 1 0x40 77 5 99999900000 [1, 2, 3, 4, 5, 6, 7, 8]
def wCttFrame : List Byte := wFrame 0x88B5 wCtt
def wUdpFrame (dst : Nat) : List Byte :=
  let head (sum : Nat) : List Byte := be 1 0x45 ++ be 1 0 ++ be 2 (28 + wCtt.length) ++ be 2 0 ++ be 2 0 ++ be 1 64 ++ be 1 17 ++ be 2 sum ++ be 4 0x0A000009 ++ be 4 dst
  wFrame 0x0800 (head (inetSum (head 0)) ++ udpBytes 0x0A000009 dst 50000 52400 wCtt)
def wInst (typ : Nat) (l : List Config.Link) : Config.Inst := { typ := typ, ins := l, reset := none, reach := [], reachEdm := [] }
def wAnn : Announce := { prio1 := 128, clockClass := 248, accuracy := 0xFE, variance := 0xFFFF, prio2 := 128, identity := 5, ptpScale := true, utcOffset := 37 }
def wEnv : BootEnv := { almOpen := false, pllOk := true, slateInTime := true, slateVpp := 0, vbat := 3000, lplus := 17500, badDomains := 0, lullN := false, cvuBad := 0, testPort := [], lplusFirst := 18000, lplusLeast := 17500, lplusUs := 10000 }
def wRaw : EncRaw := {
  counts := 100, amp := 100, freqOk := true, togetherOk := true, spacingOk := true, diffMin := 500,
  zInterval := none, ssi := 0, startOk := true, parityOk := true, doubleOk := true }
def wSample : FieldSample := {
  landP := Vector.replicate 48 24000, landT := Vector.replicate 48 24000, cur := Vector.replicate 48 0
  supP := Vector.replicate 7 24000, supT := Vector.replicate 7 24000
  tpoMv := Vector.replicate 16 24000, tpoMa := Vector.replicate 16 0, swP := Vector.replicate 28 0, swT := Vector.replicate 28 0
  senseP := Vector.replicate 2 5, senseT := #v[1, 2], retP := Vector.replicate 28 0, retT := Vector.replicate 28 0 }
def wBlk (k : Nat) (typ : Nat) (ins : List Config.Link) (b : Blk) (f : List Config.Field) (s : State) : State :=
  let t := wImg f (List.replicate k { typ := 0, ins := [], reset := none, reach := [], reachEdm := [] } ++
    [{ typ := typ, ins := ins, reset := none, reach := [], reachEdm := [] }]) s
  { t with ridge := { t.ridge with frozen := false, blk := List.replicate k Blk.reset ++ [b] }
           thatch := { t.thatch with frozen := false, blk := List.replicate k Blk.reset ++ [b] } }
def wCtx (c : Chan) (f : List Config.Field) : BlkCtx := { cfg := { Image.empty with fields := f }, h := sharedOf wS, c := c, taken := 0, bad := 0, lost := [] }

/-- COMMIT with the candidate's CRC and the digest of its passed run. -/
theorem wCommit_ok : commitRefusal
    (wPay (be 4 wCandE.totalCrc.toNat ++ be 32 (verifyDigest { wRun with state := 1 }).toNat))
    (wG (fun g => { g with cand := some wCandE, verify := some { wRun with state := 1 } }) (wInt .configure wS)) = none := by
  have h1 := Sys2Proof.Laws.beAt_be [] (be 32 (verifyDigest { wRun with state := 1 }).toNat) 4 wCandE.totalCrc.toNat
  have h2 := Sys2Proof.Laws.beAt_be (be 4 wCandE.totalCrc.toNat) [] 32 (verifyDigest { wRun with state := 1 }).toNat
  rw [Nat.mod_eq_of_lt (show wCandE.totalCrc.toNat < 256 ^ 4 from wCandE.totalCrc.isLt)] at h1
  rw [Nat.mod_eq_of_lt (show (verifyDigest _).toNat < 256 ^ 32 from (verifyDigest _).isLt), Sys2Proof.Laws.be_length, List.append_nil] at h2
  rw [List.nil_append, List.length_nil] at h1
  unfold commitRefusal Req.num wPay
  rw [h1, h2]
  simp [wG, wInt, wSess, wMode, wCandE, wCand, newCandidate, wRun]

/-- The inbound frame of a lane passes its checks. -/
theorem wIn_sound (l : Lane) : inSound l (wIn l 0) = true := by
  have h : ∀ (f : InFrame) (c : W32), inCrc { f with crc := c } = inCrc f := fun _ _ => rfl
  unfold wIn inSound
  rw [h]
  cases l <;> simp <;> decide +kernel

/-- What an optional value that is present satisfies, from the check of it. -/
theorem all_of {α : Type} {o : Option α} {p : α → Prop} [DecidablePred p] (h : o.all (fun x => decide (p x)) = true) :
    ∀ x, o = some x → p x := by
  rintro x rfl
  simpa using h

/-- Instance `k` of type `typ` runs with block `b` in the channel of lane `l`, as a Bool. -/
def instAtB (l : Lane) (s : State) (k typ : Nat) (b : Blk) : Bool :=
  s.mode.evaluates && !tableStill s && !(chanOf l s).frozen && !(chanOf l s).evaluated && (chanOf l s).early.all (fun q => q.1 != k)
    && decide (k < 65536) && b.fault == 0 && (chanOf l s).blk[k]? == some b && (evalCfg s).insts[k]?.any (fun y => y.typ == typ)

/-- What the Bool says. -/
theorem instAt_of {l : Lane} {s : State} {k typ : Nat} {b : Blk} (h : instAtB l s k typ b = true) : instAt l s k typ b := by
  simp only [instAtB, Bool.and_eq_true, decide_eq_true_eq, beq_iff_eq, Bool.not_eq_true', Option.any_eq_true, List.all_eq_true,
    bne_iff_ne] at h
  obtain ⟨⟨⟨⟨⟨⟨⟨⟨h1, h2⟩, h3⟩, e1⟩, e2⟩, h4⟩, h5⟩, h6⟩, y, h7, h8⟩ := h
  exact ⟨h1, h2, h3, e1, e2, h4, h5, h6, y, h7, h8⟩

/-- The next state of a command satisfies `p`. -/
def after (c : Instr) (s : State) (p : State → Bool) : Bool :=
  match exec c s with
  | .next t => p t
  | _ => false

/-- Both channels have evaluated, with equal records that switch on outputs 0 and 2. -/
def wBoth : State :=
  wChan .p (fun c => { c with evaluated := true, record := wRec [1, 5, 0] })
    (wChan .t (fun c => { c with evaluated := true, record := wRec [1, 5, 0] }) (wTb 99999950000 wS))

/-- Some commands one after another end in a state that satisfies `p`. -/
def afterAll (l : List Instr) (s : State) (p : State → Bool) : Bool :=
  match runAll l s with
  | .next t => p t
  | _ => false

/-! ## WellFormed: one term that each check refuses, beside one it lets through -/

theorem test_wf_request_length : (Instr.getStatus (wPay [1, 2])).wf = false ∧ (Instr.getStatus (wPay [])).wf = true := by decide +kernel
theorem test_wf_request_size : (Instr.cfgBlock (wPay (List.replicate 1016 0))).wf = false ∧
    (Instr.cfgBlock (wPay (List.replicate 1012 0))).wf = true := by decide +kernel
theorem test_wf_program_rounds : (Instr.slateProgramBit (wPay []) { passRound := 5, vppMv := 0, cut := false }).wf = false ∧
    (Instr.slateProgramBit (wPay []) { passRound := 4, vppMv := 0, cut := false }).wf = true := by decide +kernel
theorem test_wf_lock_rounds : (Instr.slateLock (wPay []) { passRound := 5, vppMv := 0, cut := false }).wf = false ∧
    (Instr.slateLock (wPay []) { passRound := 4, vppMv := 0, cut := false }).wf = true := by decide +kernel
/-- OP 0x81 is a write of two words: 14 bytes. -/
theorem test_wf_spi_write : (Instr.spiWriteFrame (0x81 :: List.replicate 9 0)).wf = false ∧
    (Instr.spiWriteFrame (0x81 :: List.replicate 13 0)).wf = true := by decide +kernel
theorem test_wf_spi_read : (Instr.spiReadFrame [0x80, 1, 0, 0x20, 0, 0]).wf = false ∧
    (Instr.spiReadFrame [0x40, 1, 0, 0x20, 0, 0]).wf = true := by decide +kernel
theorem test_wf_spi_bad_kind : (Instr.spiBadOpcodeFrame [0x40, 1, 0, 0, 0, 0]).wf = false ∧
    (Instr.spiBadOpcodeFrame [0xC0, 1, 0, 0, 0, 0]).wf = true := by decide +kernel
theorem test_wf_register_addresses : (Instr.readClearRegister 6).wf = false ∧ (Instr.aliasSetWrite 2 0).wf = false ∧
    (Instr.aliasClearWrite 1 0).wf = false ∧ (Instr.aliasToggleWrite 3 0).wf = false ∧ (Instr.registerWrite 0x22 0).wf = false ∧
    (Instr.registerWrite 0x20 0).wf = true := by decide +kernel
/-- An outbound frame carries one entry or nine. -/
theorem test_wf_outbound_entries : (Instr.eaveOutboundFrame .p (.other { OutFrame.blank .p with entries := [] }) 0).wf = false ∧
    (Instr.eaveOutboundFrame .p .asSent 0).wf = true := by decide +kernel
/-- A start is read at most 2 µs late, 200 counts. -/
theorem test_wf_outbound_start : (Instr.eaveOutboundFrame .p .asSent 201).wf = false ∧ (Instr.eaveOutboundFrame .p .asSent 200).wf = true := by
  decide +kernel
theorem test_wf_memory_address : (Instr.ridgeEccDed .dataA 131072 0).wf = false ∧ (Instr.ridgeEccCorrection .instrB 262144 0).wf = false ∧
    (Instr.ridgeEccDed .instrA 131072 0).wf = true := by decide +kernel
theorem test_wf_instances : (Instr.pairDiscrepancy 2048).wf = false ∧ (Instr.estopStopDelayEnd 2048).wf = false ∧
    (Instr.brakeTestDue 2048).wf = false ∧ (Instr.aThreshDelayEnd 2047).wf = true := by decide +kernel
theorem test_no_row_has_bits : decodeTableWord 16 0x1234 = none := rfl

/-! ## Values of the specification -/

/-- "123456789", Table 10.2. -/
def digits : List Byte := [0x31, 0x32, 0x33, 0x34, 0x35, 0x36, 0x37, 0x38, 0x39]

theorem test_crc_spi : crcSpi.crc [] digits = 0x29B1 := by decide +kernel
theorem test_crc_mbx : crcMbx.crc [] digits = 0xCBF43926 := by decide +kernel
theorem test_crc_csf_prefix : crcMbx.crc [0x31, 0x32, 0x33, 0x34] (digits.drop 4) = 0xCBF43926 := by decide +kernel
theorem test_crc_ctt : crcCtt.crc [] digits = 0xE3069283 := by decide +kernel
theorem test_crc_ctt_prefix : crcCtt.crc (digits.take 8) [0x39] = 0xE3069283 := by decide +kernel

/-- Table 2.8: codes 0 to 3 are 250 µs, 500 µs, 1 ms, 2 ms. -/
theorem test_tick_periods : [0, 1, 2, 3].map tickUnits = [25000, 50000, 100000, 200000] := by decide +kernel
/-- Times are rounded up to whole ticks (R102): 1 001 µs are three ticks of 500 µs. -/
theorem test_ticks_round_up : ticksOf 500 1001 = 3 ∧ ticksOf 500 1000 = 2 ∧ ticksOf 500 0 = 0 := by decide +kernel
/-- Two copies of three decide each bit (R340). -/
theorem test_vote : (Voted.val { a := 0x0F, b := 0x3C, c := 0x55 } : BitVec 8) = 0x1D := by decide +kernel
/-- Data are sent most significant byte first (R245). -/
theorem test_byte_order : be 4 0x01020304 = [1, 2, 3, 4] ∧ beAt [9, 1, 2, 3, 4] 1 4 = 0x01020304 := by decide +kernel
/-- LINEAR and TABLE (R187): half way from 0 to 100 lies half way from 0 to −10; below the first point the first value. -/
theorem test_characteristic : interp 0 0 100 (-10) 50 = -5 ∧ tableAt [(10, 7), (20, 17)] 15 = 12 ∧ tableAt [(10, 7), (20, 17)] 3 = 7 ∧
    tableAt [(10, 7), (20, 17)] 99 = 17 := by decide +kernel
/-- The division truncates towards zero (R187): −1 × 1 / 2 is 0. -/
theorem test_linear_truncates : interp 0 0 2 1 (-1) = 0 := by decide +kernel
/-- A press is at least 50 ms long, at most 3 s (R92). -/
theorem test_press_ticks : ackMin 500 = 100 ∧ ackMax 500 = 6000 ∧ ackMin 2000 = 25 := by decide +kernel
/-- Writing 0 unlists a byte, writing another value lists it in order. -/
theorem test_memory_form : memWrite (memWrite (memWrite [] 8 5) 3 7) 8 0 = [(3, 7)] ∧ memRead [(3, 7)] 4 = 0 := by decide +kernel

/-! ## Registers, timers and check values -/

/-- The key 0x0000_5A3C opens the guard for 1 ms, 100 000 counts of 100 MHz (R338). -/
theorem test_unlock : after (.unlockWrite 0x5A3C) wS (fun t => t.host.guard == some 100000100000) = true := by decide +kernel
/-- Any other value counts in KEY_FAIL. -/
theorem test_unlock_wrong : after (.unlockWrite 0x5A3D) wS (fun t => t.host.guard == none && t.host.keyFails == 1) = true := by
  decide +kernel
/-- 100 000 000 000 is 0x17_4876_E800 (R35). -/
theorem test_timebase_low : after (.tbLoRead .spi) wS (fun t => t.host.data == 0x4876E800 && t.tb.shadow == some 0x17) = true := by
  decide +kernel
theorem test_timebase_torn : after (.tbHiRead .spi) wS (fun t => t.host.data == 0x17 && t.tb.torn) = true := by decide +kernel
/-- An overflow of channel 4 counts on in the chained channel 5 (R38). -/
theorem test_timer_chain : after (.tmuOverflow 4) (wTmu 5 (fun c => { c with ctrl := 0x88000000 })
    (wTmu 4 (fun c => { c with ctrl := 0x82000000, count := 0xFFFFFFFF }) wS))
    (fun t => (tmuAt t 4).count == 0 && (tmuAt t 5).count == 1) = true := by decide +kernel
/-- SRC = 9 is refused with CFG_REJ (R37). -/
theorem test_timer_source : after (.tmuCtrlWrite .host 3 0x89000000) wS (fun t => (tmuAt t 3).rej && (tmuAt t 3).ctrl == 0) = true := by
  decide +kernel
/-- N = 0 is stored as 1 (R37). -/
theorem test_timer_prescaler : after (.tmuPrescWrite .host 3 0x00000005) wS (fun t => (tmuAt t 3).presc == 0x00010005) = true := by
  decide +kernel
/-- MODE 3 is refused (R234). -/
theorem test_cvu_mode : after (.cvuCtrlWrite 0 0xC0000020) wS (fun t => (cvuAt 0 t).rej) = true := by decide +kernel
/-- A partial last word gives its leading bytes: the vector of set SPI through a CVU's registers (R230, Table 10.2). -/
theorem test_cvu_vector : afterAll [.cvuCtrlWrite 0 0x00000010, .cvuParamWrite 0 .polyLo 0x1021, .cvuParamWrite 0 .initLo 0xFFFF,
    .cvuParamWrite 0 .length 9, .cvuStart 0, .cvuDataWrite 0 0x31323334, .cvuDataWrite 0 0x35363738, .cvuDataWrite 0 0x39FFFFFF,
    .cvuFrameDone 0] wS (fun t => (cvuAt 0 t).result == 0x29B1 && (cvuAt 0 t).done && !(cvuAt 0 t).busy) = true := by decide +kernel
/-- A data word comes after the end of the frame: LEN_ERR (R230). -/
theorem test_cvu_length : afterAll [.cvuCtrlWrite 0 0x00000010, .cvuParamWrite 0 .length 4, .cvuStart 0, .cvuDataWrite 0 1,
    .cvuDataWrite 0 2] wS (fun t => (cvuAt 0 t).lenErr) = true := by decide +kernel
/-- A CRC error on SPI: the register is not written. -/
theorem test_spi_crc_error : after (.spiWriteFrame [0x80, 7, 0, 0x28, 0, 0, 0, 1, 0, 0]) wS (fun t => t.host.irqEn == wS.host.irqEn) = true := by
  decide +kernel
/-- Only the ten implemented bits of IRQ_ENABLE hold (Table 15.5). -/
theorem test_irq_enable : after (.irqEnableWrite 0xFFFFFFFF) wS (fun t => t.host.irqEn == 0x3FF) = true := by decide +kernel
/-- LULL_CTRL.ENTER, bit 31, does nothing while the guard is closed (R338, R349). -/
theorem test_lull_needs_the_key : after (.lullCtrlEnter 0x80000000) wS (fun t => t.mode == .run) = true := by decide +kernel
/-- With the guard open it enters LULL: both lanes at the reset level (R350). -/
theorem test_lull_entry : after (.lullCtrlEnter 0x80000000) { wS with host := { wS.host with guard := some 100000000001 } }
    (fun t => t.mode == .lull && t.lull.active && t.laneP.resetLevel && t.laneT.resetLevel) = true := by decide +kernel

/-! ## Mailbox and modes -/

/-- The fifth failure starts a back-off of 60 s, 6 000 000 000 counts (R255). -/
theorem test_login_backoff : (countFailure (wG (fun g => { g with fails := 4 }) wS)).gable.backoffEnd = some 106000000000 ∧
    (countFailure (wG (fun g => { g with fails := 3 }) wS)).gable.backoffEnd = none := by decide +kernel
/-- Each later one doubles it, up to 1 h. -/
theorem test_login_backoff_doubles : (countFailure (wG (fun g => { g with fails := 5, backoffLen := 60 }) wS)).gable.backoffLen = 120 ∧
    (countFailure (wG (fun g => { g with fails := 20, backoffLen := 3000 }) wS)).gable.backoffLen = 3600 := by decide +kernel
/-- The sixteen kept requests: a seventeenth pushes the first out (R248). -/
theorem test_kept_requests : (keepIn ((List.range 16).map (fun k => wKept k)) (wKept 16)).length = 16 ∧
    ((keepIn ((List.range 16).map (fun k => wKept k)) (wKept 16)).head?.map (fun k => k.tag)) = some 1 := by decide +kernel
/-- START_RUN outside SAFE_HOLD does nothing. -/
theorem test_start_run_needs_hold : after .startRun (wMode .configure wS) (fun t => t.mode == .configure) = true := by decide +kernel
/-- SELFTEST does not end in RUN while the lock-out flag is set (R282). -/
theorem test_lock_flag : after (.selftestEnd []) (wMode .selftest { wS with bk := { wS.bk with lockFlag := Voted.of 1 } })
    (fun t => t.mode != .run) = true := by decide +kernel
/-- HOLD below 9.0 V: everything without power but BK (R316). -/
theorem test_power_on_reset : after (.holdPowerOnReset 0) wS (fun t => !t.pwr.aoOn) = true := by decide +kernel
/-- TAMPER_N low sets the tamper bit. -/
theorem test_tamper : after .tamperNLow wS (fun t => t.bk.tamper) = true := by decide +kernel

/-! ## Channels, field, motion, analogue, networks -/

/-- A frame that is missing raises a fault of its lane and leaves the other lane alone. -/
theorem test_inbound_missing : after (.eaveInboundFrame .p .missing) (wLive wS) (fun t => t.laneT == (wLive wS).laneT) = true := by
  decide +kernel
/-- A record that arrives with a wrong bit is a mismatch, class H, of the channel that sees it: its switches open, the lock-out pending
(R62, R64). -/
theorem test_cross_compare_mismatch : after (.crossCompare 1 0 false false) wBoth
    (fun t => hasCode t fcCrossMismatch && t.hPend.isSome && t.ridge.latch.cmds == 5 && t.thatch.latch.cmds == 0) = true := by
  decide +kernel
/-- Without a difference both commit what the records say. -/
theorem test_cross_compare_agreement : after (.crossCompare 0 0 false false) wBoth
    (fun t => t.ridge.latch.cmds == 5 && t.thatch.latch.cmds == 5 && !hasCode t fcCrossMismatch) = true := by decide +kernel
/-- Silence on lane P leaves lane T as it is. -/
theorem test_silence : after (.laneSilence .p) (wLive wS) (fun t => t.laneT == (wLive wS).laneT) = true := by
  decide +kernel
/-- A bright check that falls due switches nothing. -/
theorem test_bright_due_switches_nothing : after (.brightDue 3) wS (fun t => t.laneP == wS.laneP && t.laneT == wS.laneT) = true := by decide +kernel
/-- The stop delay of an emergency stop of category 1, 1 000 ms by default, ends with the output at 0 (R110). -/
theorem test_estop_delay : after (.estopStopDelayEnd 1) (wBlk 1 0x02 [] { Blk.reset with start := false, st := 3, cnt := 999, out := 1 } [] wS)
    (fun t => t.ridge.blk[1]?.any (fun d => d.st == 0 && d.out == 0)) = true := by decide +kernel
/-- One tick earlier nothing ends. -/
theorem test_estop_delay_early : after (.estopStopDelayEnd 1)
    (wBlk 1 0x02 [] { Blk.reset with start := false, st := 3, cnt := 998, out := 1 } [] wS)
    (fun t => t.ridge.blk[1]?.any (fun d => d.st == 3 && d.out == 1)) = true := by decide +kernel
/-- A link that comes up answers on its own port only. -/
theorem test_link_up : after (.linkUp .a true) wS (fun t => t.portA.link && t.portB == wS.portB) = true := by decide +kernel
/-- A median of four is the mean of the middle two. -/
theorem test_median : median4 #v[1, 9, 3, 5] = 4 := by decide +kernel
/-- 1 s of the 32 MHz Thatch oscillator is 32 000 000 cycles: 320 more are a deviation of 320 (R325). -/
theorem test_thatch_deviation : after (.thatchDeviationMeasure 32000320) wS (fun t => t.wth.delta.head? == some 320) = true := by
  decide +kernel
/-- A value beyond its bound is rejected (R330). -/
theorem test_margin_rejected : after (.weatheringReplan [] (Vector.replicate 4 0) [(marginNo 4 3, 301)]) (wImg [] [] wS)
    (fun t => t.wth.rejected && hasFault t fcMarginRejected 0) = true := by decide +kernel


/-! ## The hypotheses of the statements are met -/

/-- States and operands that meet the hypotheses of StepRunsFrontCommand, one for each of its clauses that has any. -/
theorem witness_StepRunsFrontCommand :
    ∃ (c : Instr) (rest : List Instr) (s : State), s.pending = c :: rest :=
  ⟨(.spiFrameDiscard), ([.tbLoRead .spi] : List Instr), ({ wS with pending := [.spiFrameDiscard, .tbLoRead .spi] }), by decide +kernel⟩

/-- States and operands that meet the hypotheses of IdleStepMovesOnlyTime, one for each of its clauses that has any. -/
theorem witness_IdleStepMovesOnlyTime :
    (∃ (s : State), s.pending = [] ∧ s.pwr.shutdown = none ∧ s.pwr.aoOn = true) ∧
    (∃ (s : State), s.pending = [] ∧ s.pwr.shutdown = none ∧ s.pwr.aoOn = false ∧ s.pwr.domains.getLsbD 9 = true) ∧
    (∃ (s : State), s.pending = [] ∧ s.pwr.shutdown = none ∧ s.pwr.aoOn = false ∧ s.pwr.domains.getLsbD 9 = false) :=
  ⟨⟨wS, by decide +kernel⟩,
   ⟨({ ({ wS with pwr := { wS.pwr with aoOn := false } }) with pwr := { ({ wS with pwr := { wS.pwr with aoOn := false } }).pwr with domains := 0x200 } }),
     by decide +kernel⟩,
   ⟨({ ({ wS with pwr := { wS.pwr with aoOn := false } }) with pwr := { ({ wS with pwr := { wS.pwr with aoOn := false } }).pwr with domains := 0 } }),
     by decide +kernel⟩⟩

/-- States and operands that meet the hypotheses of CommandsKeepTheQueue, one for each of its clauses that has any. -/
theorem witness_CommandsKeepTheQueue :
    ∃ (c : Instr) (s : State) (t : State), exec c s = .next t :=
  ⟨(.tbLoRead .spi), ({ wS with pending := [.tbHiRead .spi] }), (hostRead readTbLo { wS with pending := [.tbHiRead .spi] }), rfl⟩

/-- States and operands that meet the hypotheses of TimebaseAndTimerReads, one for each of its clauses that has any. -/
theorem witness_TimebaseAndTimerReads :
    (∃ (s : State), portUp s = true) ∧
    (∃ (s : State) (w : W32), portUp s = true ∧ s.tb.shadow = some w) ∧
    (∃ (s : State), portUp s = true ∧ s.tb.shadow = none) ∧
    (∃ (s : State) (who : TbReader) (k : Fin 8), s.pwr.aoOn = true ∧ tbPortNo who = some k) ∧
    (∃ (s : State) (n : Fin 32), portUp s = true ∧ (tmuAt s n).chained = false ∧ feeds s n = false) ∧
    (∃ (s : State) (n : Fin 32), portUp s = true ∧ (tmuAt s n).chained = false ∧ feeds s n = true) ∧
    (∃ (s : State) (n : Fin 32) (w : W32), portUp s = true ∧ (tmuAt s n).chained = true ∧ (tmuAt s n).shadow = some w) ∧
    (∃ (s : State) (n : Fin 32), portUp s = true ∧ (tmuAt s n).chained = true ∧ (tmuAt s n).shadow = none) :=
  ⟨⟨wS, by decide +kernel⟩,
   ⟨({ wS with tb := { wS.tb with shadow := some 7 } }), (7 : W32), by decide +kernel⟩,
   ⟨wS, by decide +kernel⟩,
   ⟨wS, (TbReader.ridgeA), (0 : Fin 8), by decide +kernel⟩,
   ⟨wS, (0 : Fin 32), by decide +kernel⟩,
   ⟨(wTmu 5 (fun c => { c with ctrl := 0x08000000, count := 9 }) (wTmu 6 (fun c => { c with ctrl := 0x08000000, count := 7 }) wS)), (4 :
     Fin 32), by decide +kernel⟩,
   ⟨(tmuUpd 3 (fun c => { c with ctrl := 0x88000000, shadow := some 9 }) wS), (3 : Fin 32), (9 : W32), by decide +kernel⟩,
   ⟨(tmuUpd 3 (fun c => { c with ctrl := 0x88000000 }) wS), (3 : Fin 32), by decide +kernel⟩⟩

/-- States and operands that meet the hypotheses of TimerControlWrites, one for each of its clauses that has any. -/
theorem witness_TimerControlWrites :
    (∃ (n : Fin 32), 28 ≤ n.val) ∧
    (∃ (s : State) (who : Agent) (n : Fin 32) (v : W32), tmuWritable who n s = true ∧ fld v 24 4 ≤ 8 ∧ (fld v 24 4 = 8 → 0 < n.val)) ∧
    (∃ (s : State) (who : Agent) (n : Fin 32) (v : W32), tmuWritable who n s = true ∧ (8 < fld v 24 4 ∨ fld v 24 4 = 8 ∧ n.val = 0)) ∧
    (∃ (s : State) (who : Agent) (n : Fin 32), tmuWritable who n s = true) :=
  ⟨⟨(28 : Fin 32), by decide +kernel⟩,
   ⟨wS, .host, (0 : Fin 32), (0x80000000 : W32), by decide +kernel⟩,
   ⟨wS, .host, (0 : Fin 32), (0x09000000 : W32), by decide +kernel⟩,
   ⟨wS, .host, (0 : Fin 32), by decide +kernel⟩⟩

/-- States and operands that meet the hypotheses of TimerCompareAndCountWrites, one for each of its clauses that has any. -/
theorem witness_TimerCompareAndCountWrites :
    (∃ (s : State) (who : Agent) (n : Fin 32), tmuWritable who n s = true) ∧
    (∃ (s : State) (who : Agent) (n : Fin 32), tmuWritable who n s = true ∧ (tmuAt s n).armed = false) ∧
    (∃ (s : State) (who : Agent) (n : Fin 32), tmuWritable who n s = true ∧ (tmuAt s n).armed = true) :=
  ⟨⟨wS, .host, (0 : Fin 32), by decide +kernel⟩,
   ⟨wS, .host, (0 : Fin 32), by decide +kernel⟩,
   ⟨(tmuUpd 2 (fun c => { c with armed := true, cmp := 9 }) wS), .host, (2 : Fin 32), by decide +kernel⟩⟩

/-- States and operands that meet the hypotheses of TimerSteps, one for each of its clauses that has any. -/
theorem witness_TimerSteps :
    (∃ (s : State) (n : Fin 32) (f : Bool), (tmuAt s n).tin = true ∧ (tmuAt s n).falling ≠ f) ∧
    (∃ (s : State) (n : Fin 32) (f : Bool), s.pwr.aoOn = true ∧ (tmuAt s n).en = true ∧ (tmuAt s n).chained = false ∧ (tmuAt s n).carried =
      false ∧ ((tmuAt s n).tin = true → (tmuAt s n).falling = f) ∧ (tmuAt s n).inCnt + 1 < (tmuAt s n).stepLen) ∧
    (∃ (s : State) (n : Fin 32) (f : Bool), s.pwr.aoOn = true ∧ (tmuAt s n).en = true ∧ (tmuAt s n).chained = false ∧ (tmuAt s n).carried =
      false ∧ ((tmuAt s n).tin = true → (tmuAt s n).falling = f) ∧ (tmuAt s n).stepLen ≤ (tmuAt s n).inCnt + 1 ∧ (tmuAt s n).count ≠
      0xFFFFFFFF ∧ ((tmuAt s n).armed = true → (tmuAt s n).cmp ≠ (tmuAt s n).count + 1)) ∧
    (∃ (s : State) (n : Fin 32), s.pwr.aoOn = true ∧ (tmuAt s n).en = true ∧ (tmuAt s n).chained = false ∧ (tmuAt s n).carried = false ∧
      (tmuAt s n).stepLen ≤ (tmuAt s n).inCnt + 1 ∧ (tmuAt s n).count = 0xFFFFFFFF ∧ (tmuAt s n).stick = false ∧ feeds s n = false) ∧
    (∃ (s : State) (n : Fin 32), s.pwr.aoOn = true ∧ (tmuAt s n).en = true ∧ (tmuAt s n).chained = false ∧ (tmuAt s n).carried = false ∧
      (tmuAt s n).stepLen ≤ (tmuAt s n).inCnt + 1 ∧ (tmuAt s n).count = 0xFFFFFFFF ∧ (tmuAt s n).stick = true ∧ feeds s n = false) ∧
    (∃ (s : State) (n : Nat), n + 1 < 32 ∧ s.pwr.aoOn = true ∧ (tmuAt s n).en = true ∧ (tmuAt s n).chained = false ∧ (tmuAt s n).carried =
      false ∧ (tmuAt s n).stepLen ≤ (tmuAt s n).inCnt + 1 ∧ (tmuAt s n).count = 0xFFFFFFFF ∧ (tmuAt s (n + 1)).chained = true ∧ (tmuAt s (n
      + 1)).en = true ∧ (tmuAt s (n + 1)).count ≠ 0xFFFFFFFF ∧ feeds s (n + 1) = false) ∧
    (∃ (s : State) (n : Fin 32) (top : Nat), s.pwr.aoOn = true ∧ (tmuAt s n).en = true ∧ (tmuAt s n).chained = false ∧ (tmuAt s n).carried
      = false ∧ (tmuAt s n).stepLen ≤ (tmuAt s n).inCnt + 1 ∧ feeds s n = true ∧ (∀ m ∈ n.val :: chainAbove 32 s n, (tmuAt s m).count =
      0xFFFFFFFF) ∧ (chainAbove 32 s n).getLast? = some top ∧ (tmuAt s top).stick = true) :=
  ⟨⟨(tmuUpd 4 (fun c => { c with ctrl := 0x84800000 }) wS), (4 : Fin 32), false, by decide +kernel⟩,
   ⟨(tmuUpd 4 (fun c => { c with ctrl := 0x82000000, stepLen := 3, inCnt := 1 }) wS), (4 : Fin 32), false, by decide +kernel⟩,
   ⟨(tmuUpd 4 (fun c => { c with ctrl := 0x82000000, presc := 0x00010080, acc := 0x80 }) wS), (4 : Fin 32), false, by decide +kernel⟩,
   ⟨(tmuUpd 4 (fun c => { c with ctrl := 0x82000000, count := 0xFFFFFFFF }) wS), (4 : Fin 32), by decide +kernel⟩,
   ⟨(tmuUpd 4 (fun c => { c with ctrl := 0x82400000, count := 0xFFFFFFFF }) wS), (4 : Fin 32), by decide +kernel⟩,
   ⟨(tmuUpd 4 (fun c => { c with ctrl := 0x82000000, count := 0xFFFFFFFF }) (tmuUpd 5 (fun c => { c with ctrl := 0x88000000 }) wS)), (4 :
     Nat), by decide +kernel⟩,
   ⟨(wTmu 5 (fun c => { c with ctrl := 0x82000000, count := 0xFFFFFFFF }) (wTmu 6 (fun c =>
     { c with ctrl := 0x88400000, count := 0xFFFFFFFF }) wS)), (5 : Fin 32), (6 : Nat), by decide +kernel⟩⟩

/-- States and operands that meet the hypotheses of TimerMatchFires, one for each of its clauses that has any. -/
theorem witness_TimerMatchFires :
    (∃ (s : State) (n : Fin 32), s.pwr.aoOn = true ∧ (tmuAt s n).fire = true ∧ (tmuAt s n).ctrl.getLsbD 18 = false ∧ ((tmuAt s
      n).ctrl.getLsbD 20 = false ∨ (tmuAt s n).adv = 0)) ∧
    (∃ (s : State) (n : Fin 32), s.pwr.aoOn = true ∧ (tmuAt s n).fire = true ∧ (tmuAt s n).ctrl.getLsbD 18 = false ∧ (tmuAt s
      n).ctrl.getLsbD 20 = true ∧ (tmuAt s n).adv ≠ 0) ∧
    (∃ (s : State) (n : Fin 32), s.pwr.aoOn = true ∧ (tmuAt s n).fire = true ∧ (tmuAt s n).ctrl.getLsbD 18 = true) ∧
    (∃ (s : State) (n : Fin 32), s.pwr.aoOn = true ∧ (tmuAt s n).en = true ∧ (tmuAt s n).chained = false ∧ (tmuAt s n).carried = false ∧
      (tmuAt s n).stepLen ≤ (tmuAt s n).inCnt + 1 ∧ (tmuAt s n).fire = false ∧ (tmuAt s n).armed = true ∧ (tmuAt s n).cmp = (tmuAt s
      n).count + 1 ∧ (tmuAt s n).count ≠ 0xFFFFFFFF) :=
  ⟨⟨(tmuUpd 4 (fun c => { c with fire := true }) wS), (4 : Fin 32), by decide +kernel⟩,
   ⟨(tmuUpd 4 (fun c => { c with fire := true, ctrl := 0x00100000, adv := 0xFFFFFFFF, cmp := 5 }) wS), (4 : Fin 32), by decide +kernel⟩,
   ⟨(tmuUpd 31 (fun c => { c with fire := true, ctrl := 0x00040000 }) wS), (31 : Fin 32), by decide +kernel⟩,
   ⟨(tmuUpd 4 (fun c => { c with ctrl := 0x82000000, armed := true, cmp := 10, count := 9 }) wS), (4 : Fin 32), by decide +kernel⟩⟩

/-- States and operands that meet the hypotheses of TimerStagger, one for each of its clauses that has any. -/
theorem witness_TimerStagger :
    (∃ (s : State) (v : W32) (first : Nat) (n : Nat), portUp s = true ∧ v.getLsbD 31 = true ∧ first = fld v 8 5 ∧ n = fld v 0 5 + 1 ∧ first
      + n ≤ 28 ∧ n ≤ s.tmu.per.toNat) ∧
    (∃ (s : State) (v : W32), portUp s = true ∧ v.getLsbD 31 = true ∧ (28 < fld v 8 5 + (fld v 0 5 + 1) ∨ s.tmu.per.toNat < fld v 0 5 + 1))
      :=
  ⟨⟨({ ({ ((tmuUpd 24 (fun c => { c with count := 0xFFFFFFF0, presc := 0x00050007 }) wS)) with tmu := { ((tmuUpd 24 (fun c => { c with count := 0xFFFFFFF0, presc := 0x00050007 }) wS)).tmu with per := 100 } }) with tmu := { ({ ((tmuUpd 24 (fun c => { c with count := 0xFFFFFFF0, presc := 0x00050007 }) wS)) with tmu := { ((tmuUpd 24 (fun c => { c with count := 0xFFFFFFF0, presc := 0x00050007 }) wS)).tmu with per := 100 } }).tmu with lead := 10 } }),
    (0x80001803 : W32), (24 : Nat), (4 : Nat), by decide +kernel⟩,
   ⟨({ ({ ((tmuUpd 24 (fun c => { c with count := 0xFFFFFFF0, presc := 0x00050007 }) wS)) with tmu := { ((tmuUpd 24 (fun c => { c with count := 0xFFFFFFF0, presc := 0x00050007 }) wS)).tmu with per := 100 } }) with tmu := { ({ ((tmuUpd 24 (fun c => { c with count := 0xFFFFFFF0, presc := 0x00050007 }) wS)) with tmu := { ((tmuUpd 24 (fun c => { c with count := 0xFFFFFFF0, presc := 0x00050007 }) wS)).tmu with per := 100 } }).tmu with lead := 10 } }),
     (0x80001804 : W32), by decide +kernel⟩⟩

/-- States and operands that meet the hypotheses of CvuOwnerAccess, one for each of its clauses that has any. -/
theorem witness_CvuOwnerAccess :
    (∃ (u : Fin 4) (v : W32) (s : State), cvuOn u s = true ∧ (fld v 30 2 = 3 ∨ fld v 0 7 = 0 ∨ 64 < fld v 0 7 ∨ 8 < fld v 24 4 ∨ ((cvuAt u
      s).busy = true ∧ fld v 30 2 = 2 ∧ (cvuAt u s).total.toNat < ceilDiv (fld v 0 7) 8))) ∧
    (∃ (u : Fin 4) (v : W32) (s : State), cvuOn u s = true ∧ fld v 30 2 ≠ 3 ∧ fld v 0 7 ≠ 0 ∧ fld v 0 7 ≤ 64 ∧ fld v 24 4 ≤ 8 ∧ ((cvuAt u
      s).busy = true → fld v 30 2 = 2 → ceilDiv (fld v 0 7) 8 ≤ (cvuAt u s).total.toNat)) ∧
    (∃ (u : Fin 4) (s : State), cvuOn u s = true) ∧
    (∃ (u : Fin 4) (s : State), cvuOn u s = true ∧ ((cvuAt u s).mode = 2 → (cvuAt u s).checkBytes ≤ (cvuAt u s).length.toNat)) ∧
    (∃ (u : Fin 4) (s : State), cvuOn u s = true ∧ (cvuAt u s).mode = 2 ∧ (cvuAt u s).length.toNat < (cvuAt u s).checkBytes) :=
  ⟨⟨(0 : Fin 4), (0xC0000008 : W32), wS, by decide +kernel⟩,
   ⟨(0 : Fin 4), (0x08FFFFC0 : W32), wS, by decide +kernel⟩,
   ⟨(0 : Fin 4), wS, by decide +kernel⟩,
   ⟨(0 : Fin 4), wS, by decide +kernel⟩,
   ⟨(0 : Fin 4), (cvuUpd 0 (fun c => { c with ctrl := 0x80000020, length := 3 }) wS), by decide +kernel⟩⟩

/-- States and operands that meet the hypotheses of CvuPlainFrameComputesTheCrc, one for each of its clauses that has any. -/
theorem witness_CvuPlainFrameComputesTheCrc :
    ∃ (u : Fin 4) (s : State) (ws : List W32) (data : List Byte), cvuOn u s = true ∧ (cvuAt u s).mode = 0 ∧ 1 ≤ (cvuAt u s).width ∧ (cvuAt
      u s).width ≤ 64 ∧ (cvuAt u s).length.toNat = data.length ∧ ws.length = ceilDiv data.length 4 ∧ (ws.flatMap (fun w => be 4
      w.toNat)).take data.length = data :=
  ⟨(1 : Fin 4), (cvuUpd 1 (fun c => { c with ctrl := 0x02000020, poly := 0x04C11DB7, init := 0xFFFFFFFF, prefixV := 0x1234, length := 5 })
    wS), ([0x01020304, 0x05060708] : List W32), ([1,2,3,4,5] : List Byte), by decide +kernel⟩

/-- States and operands that meet the hypotheses of CvuFramesAndSelfCheck, one for each of its clauses that has any. -/
theorem witness_CvuFramesAndSelfCheck :
    (∃ (u : Fin 4) (s : State), cvuOn u s = true ∧ ((cvuAt u s).mode = 2 → (cvuAt u s).checkBytes ≤ (cvuAt u s).length.toNat)) ∧
    (∃ (u : Fin 4) (s : State), cvuOn u s = true ∧ (cvuAt u s).mode = 2 ∧ (cvuAt u s).length.toNat < (cvuAt u s).checkBytes) ∧
    (∃ (u : Fin 4) (s : State), cvuOn u s = true ∧ ((cvuAt u s).busy = false ∨ (cvuAt u s).length = 0)) ∧
    (∃ (u : Fin 4) (s : State), cvuOn u s = true ∧ (cvuAt u s).busy = true ∧ (cvuAt u s).length ≠ 0) ∧
    (∃ (u : Fin 4) (s : State), cvuOn u s = true ∧ (cvuAt u s).busy = true ∧ (cvuAt u s).length = 0) ∧
    (∃ (u : Fin 4) (s : State), cvuOn u s = true ∧ (cvuAt u s).busy = false ∧ tableStill s = false ∧ (cvuAt u s).vecAt.toNat + 1000000000 ≤
      s.tb.count.toNat) ∧
    (∃ (u : Fin 4) (s : State), s.tb.count.toNat < (cvuAt u s).vecAt.toNat + 1000000000) :=
  ⟨⟨(1 : Fin 4), (cvuUpd 1 (fun c => { c with ctrl := 0x82000010, length := 2, busy := true }) wS), by decide +kernel⟩,
   ⟨(1 : Fin 4), (cvuUpd 1 (fun c => { c with ctrl := 0x82000011, length := 2 }) wS), by decide +kernel⟩,
   ⟨(0 : Fin 4), wS, by decide +kernel⟩,
   ⟨(0 : Fin 4), (cvuUpd 0 (fun c => { c with ctrl := 0x80000020, length := 6, busy := true }) wS), by decide +kernel⟩,
   ⟨(1 : Fin 4), (cvuUpd 1 (fun c => { c with ctrl := 0x40000020, busy := true, poly := 0x04C11DB7 }) wS), by decide +kernel⟩,
   ⟨(0 : Fin 4), wS, by decide +kernel⟩,
   ⟨(0 : Fin 4), (cvuUpd 0 (fun c => { c with vecAt := 99500000000 }) wS), by decide +kernel⟩⟩

/-- States and operands that meet the hypotheses of UnlockGuardAndLullControl, one for each of its clauses that has any. -/
theorem witness_UnlockGuardAndLullControl :
    (∃ (s : State), portUp s = true) ∧
    (∃ (s : State) (v : W32), portUp s = true ∧ v ≠ 0x00005A3C) ∧
    (∃ (s : State) (t : W64), s.host.guard = some t ∧ t.toNat ≤ s.tb.count.toNat) ∧
    (∃ (s : State) (t : W64), s.host.guard = some t ∧ s.tb.count.toNat < t.toNat) ∧
    (∃ (s : State), portUp s = true ∧ guardOpen s = false) ∧
    (∃ (s : State) (v : W32), portUp s = true ∧ guardOpen s = true ∧ v.getLsbD 31 = false) ∧
    (∃ (s : State) (v : W32), portUp s = true ∧ guardOpen s = true ∧ v.getLsbD 31 = true ∧ lullTaken s = true) :=
  ⟨⟨wS, by decide +kernel⟩,
   ⟨wS, (0:W32), by decide +kernel⟩,
   ⟨({ wS with host := { wS.host with guard := some 100000000000 } }), (100000000000 : W64), by decide +kernel⟩,
   ⟨({ wS with host := { wS.host with guard := some 100000000001 } }), (100000000001 : W64), by decide +kernel⟩,
   ⟨wS, by decide +kernel⟩,
   ⟨({ wS with host := { wS.host with guard := some 100000000001 } }), (0x7FFFFFFF : W32), by decide +kernel⟩,
   ⟨({ wS with host := { wS.host with guard := some 100000000001 } }), (0x80000000 : W32), by decide +kernel⟩⟩

/-- States and operands that meet the hypotheses of LullEntry, one for each of its clauses that has any. -/
theorem witness_LullEntry :
    (∃ (s : State) (lowNs : Nat), 1000 ≤ lowNs ∧ lullTaken s = true) ∧
    (∃ (s : State), trigMet s = true ∧ lullTaken s = true) ∧
    (∃ (lowNs : Nat), lowNs < 100) :=
  ⟨⟨wS, (1000 : Nat), by decide +kernel⟩,
   ⟨({ ({ wS with lull := { wS.lull with trig := Voted.of 1 } }) with lull := { ({ wS with lull := { wS.lull with trig := Voted.of 1 } }).lull with matched := 0x0201 } }),
     by decide +kernel⟩,
   ⟨(99 : Nat), by decide +kernel⟩⟩

/-- States and operands that meet the hypotheses of WindowTriggerAndAliasWrites, one for each of its clauses that has any. -/
theorem witness_WindowTriggerAndAliasWrites :
    (∃ (s : State), portUp s = true) ∧
    (∃ (addr : BitVec 12), (addr.toNat ∈ [0x00, 0x04, 0x08, 0x0C, 0x14, 0x20, 0x54, 0x58, 0x60, 0x64, 0x68, 0x6C] ∨ (0x200 ≤ addr.toNat ∧
      addr.toNat < 0x400) ∨ 0x800 ≤ addr.toNat)) ∧
    (∃ (addr : BitVec 12), addr ≠ 0x044) :=
  ⟨⟨wS, by decide +kernel⟩,
   ⟨(0:BitVec 12), by decide +kernel⟩,
   ⟨(0:BitVec 12), by decide +kernel⟩⟩

/-- States and operands that meet the hypotheses of ReadClearRegisters, one for each of its clauses that has any. -/
theorem witness_ReadClearRegisters :
    (∃ (s : State), portUp s = true) ∧
    (∃ (s : State), portUp s = true ∧ s.pwr.domains.getLsbD 0 = true) ∧
    (∃ (s : State), portUp s = true ∧ s.pwr.domains.getLsbD 1 = true) ∧
    (∃ (s : State), portUp s = true ∧ s.pwr.domains.getLsbD 2 = true) ∧
    (∃ (s : State), portUp s = true ∧ s.pwr.domains.getLsbD 4 = true) ∧
    (∃ (s : State), portUp s = true ∧ s.pwr.domains.getLsbD 3 = true) ∧
    (∃ (s : State) (a : BitVec 24), portUp s = true ∧ (a = 0x200100 ∧ s.pwr.domains.getLsbD 0 = false ∨ (a = 0x10011C ∨ a = 0x100120 ∨ a =
      0x100410) ∧ s.pwr.domains.getLsbD 1 = false ∨ (a = 0x300500 ∨ ∃ n : Fin 8, a = BitVec.ofNat 24 (0x30002C + 64 * n.val)) ∧
      s.pwr.domains.getLsbD 2 = false ∨ a = 0x400104 ∧ s.pwr.domains.getLsbD 3 = false ∨ a = 0x400004 ∧ s.pwr.domains.getLsbD 4 = false)) :=
  ⟨⟨wS, by decide +kernel⟩,
   ⟨({ wS with ev := { wS.ev with anEvt := 3 } }), by decide +kernel⟩,
   ⟨wS, by decide +kernel⟩,
   ⟨wS, by decide +kernel⟩,
   ⟨wS, by decide +kernel⟩,
   ⟨wS, by decide +kernel⟩,
   ⟨({ wS with pwr := { wS.pwr with domains := 0x3FF ^^^ 1 } }), (0x200100 : BitVec 24), by decide +kernel⟩⟩

/-- States and operands that meet the hypotheses of HostInterruptLine, one for each of its clauses that has any. -/
theorem witness_HostInterruptLine :
    (∃ (s : State), portUp s = true) ∧
    (∃ (s : State) (n : Fin 32), s.pwr.aoOn = true ∧ (tmuAt s n).fire = true ∧ (tmuAt s n).ctrl.getLsbD 18 = true) ∧
    (∃ (s : State) (n : Fin 32), s.pwr.aoOn = true ∧ (tmuAt s n).en = true ∧ (tmuAt s n).chained = false ∧ (tmuAt s n).carried = false ∧
      (tmuAt s n).stepLen ≤ (tmuAt s n).inCnt + 1 ∧ (tmuAt s n).count = 0xFFFFFFFF ∧ (tmuAt s n).stick = false ∧ feeds s n = false ∧ (tmuAt
      s n).ctrl.getLsbD 19 = true) :=
  ⟨⟨wS, by decide +kernel⟩,
   ⟨(tmuUpd 31 (fun c => { c with fire := true, ctrl := 0x00040000 }) wS), (31 : Fin 32), by decide +kernel⟩,
   ⟨(tmuUpd 31 (fun c => { c with ctrl := 0x82080000, count := 0xFFFFFFFF }) wS), (31 : Fin 32), by decide +kernel⟩⟩

/-- States and operands that meet the hypotheses of IndirectAndPositionAccess, one for each of its clauses that has any. -/
theorem witness_IndirectAndPositionAccess :
    (∃ (s : State) (a : Nat), portUp s = true ∧ a < 0x600000 ∧ a % 4 = 0 ∧ s.host.indAddr = BitVec.ofNat 24 a ∧ indOff a s = false) ∧
    (∃ (s : State), portUp s = true ∧ s.host.indAddr = 0x000010) ∧
    (∃ (s : State) (a : Nat), portUp s = true ∧ a % 4 = 0 ∧ s.host.indAddr = BitVec.ofNat 24 a ∧ (0x100000 ≤ a ∧ a < 0x200000 ∧
      s.pwr.domains.getLsbD 1 = false ∨ 0x200000 ≤ a ∧ a < 0x300000 ∧ s.pwr.domains.getLsbD 0 = false ∨ 0x300000 ≤ a ∧ a < 0x400000 ∧
      s.pwr.domains.getLsbD 2 = false ∨ 0x400000 ≤ a ∧ a < 0x400100 ∧ s.pwr.domains.getLsbD 4 = false ∨ 0x400100 ≤ a ∧ a < 0x400200 ∧
      s.pwr.domains.getLsbD 3 = false ∨ 0x400200 ≤ a ∧ a < 0x500000 ∧ s.pwr.domains.getLsbD 4 = false ∧ s.pwr.domains.getLsbD 3 = false)) ∧
    (∃ (s : State) (op : WinOp), portUp s = true ∧ s.mode ≠ .lull ∧ s.host.indAddr = 0xFFFFFC ∧ op ≠ .read) ∧
    (∃ (s : State), portUp s = true ∧ s.mode ≠ .lull ∧ s.host.indAddr = 0xFFFFFC) ∧
    (∃ (s : State) (a : Nat), portUp s = true ∧ s.mode = .lull ∧ a < 0x40000 ∧ a % 4 = 0 ∧ s.host.indAddr = BitVec.ofNat 24 (0x700000 + a))
      ∧
    (∃ (s : State), portUp s = true ∧ s.pwr.domains.getLsbD 2 = true) :=
  ⟨⟨wS, 0, by decide +kernel⟩,
   ⟨({ wS with host := { wS.host with indAddr := 0x10 } }), by decide +kernel⟩,
   ⟨({ wS with host := { wS.host with indAddr := 0x100000 }, pwr := { wS.pwr with domains := 0x3FF ^^^ 2 } } : State), (0x100000 : Nat), by
     decide +kernel⟩,
   ⟨({ wS with host := { wS.host with indAddr := 0xFFFFFC } }), (WinOp.write 5), by decide +kernel⟩,
   ⟨({ wS with host := { wS.host with indAddr := 0xFFFFFC } }), by decide +kernel⟩,
   ⟨({ (wMode .lull wS) with host := { wS.host with indAddr := 0x700000 }, tcm := { State.reset.tcm with instrA := memWriteBytes [] 0 [1, 2, 3, 4], ded := [] } }
     : State), (0 : Nat), by decide +kernel⟩,
   ⟨wS, by decide +kernel⟩⟩

/-- States and operands that meet the hypotheses of SpiFrames, one for each of its clauses that has any. -/
theorem witness_SpiFrames :
    (∃ (s : State) (f : List Byte), portUp s = true ∧ spiCrcOk f s = false) ∧
    (∃ (s : State) (f : List Byte) (data : List Byte) (st : Byte), portUp s = true ∧ spiCrcOk f s = true ∧ s.host.kept = some (f, spiReply
      st (spiSeq f) data)) ∧
    (∃ (s : State) (f : List Byte), (portUp s = true ∧ spiCrcOk f s = true ∧ (spiAddr f % 4 ≠ 0 ∨ (1 < spiWords f ∧ 0x3FFC < spiAddr f + 4
      * (spiWords f - 1)))) ∧ (∀ rsp, s.host.kept ≠ some (f, rsp))) ∧
    (∃ (s : State) (f : List Byte), (portUp s = true ∧ spiCrcOk f s = true ∧ spiAddr f % 4 = 0 ∧ (spiWords f ≤ 1 ∨ spiAddr f + 4 *
      (spiWords f - 1) ≤ 0x3FFC)) ∧ (∀ rsp, s.host.kept ≠ some (f, rsp))) ∧
    (∃ (s : State) (f : List Byte), (portUp s = true ∧ spiCrcOk f s = true ∧ spiWords f = 1 ∧ spiAddr f % 4 = 0) ∧ (∀ rsp, s.host.kept ≠
      some (f, rsp))) ∧
    (∃ (s : State) (f : List Byte), (portUp s = true ∧ f.length = 6 ∧ spiCrcOk f s = true) ∧ (∀ rsp, s.host.kept ≠ some (f, rsp))) :=
  ⟨⟨wS, ([0x80, 7, 0, 0x24, 1, 2, 3, 4, 0, 0] : List Byte), by decide +kernel⟩,
   ⟨({ wS with host := { wS.host with kept := some ((wSpi [0x80, 7, 0, 0x24, 1, 2, 3, 4]), spiReply 0 (spiSeq (wSpi [0x80, 7, 0, 0x24, 1, 2, 3, 4])) []) } }),
     (wSpi [0x80, 7, 0, 0x24, 1, 2, 3, 4]), ([] : List Byte), (0 : Byte), by decide +kernel⟩,
   ⟨wS, (wSpi [0x80, 7, 0, 0x26, 1, 2, 3, 4]), by decide +kernel, fun _ h => nomatch h⟩,
   ⟨wS, (wSpi [0x80, 7, 0, 0x24, 1, 2, 3, 4]), by decide +kernel, fun _ h => nomatch h⟩,
   ⟨wS, (wSpi [0x80, 7, 0, 0x24, 1, 2, 3, 4]), by decide +kernel, fun _ h => nomatch h⟩,
   ⟨wS, (wSpi [0x00, 7, 0, 0x24]), by decide +kernel, fun _ h => nomatch h⟩⟩

/-- States and operands that meet the hypotheses of ScrubKeepsVotedValues, one for each of its clauses that has any. -/
theorem witness_ScrubKeepsVotedValues :
    (∃ (s : State), s.pwr.aoOn = true) ∧
    (∃ (s : State), s.pwr.aoOn = true ∧ s.lull.trig.agrees = true ∧ s.lull.argLo.agrees = true ∧ s.lull.argHi.agrees = true ∧
      s.bk.lockFlag.agrees = true ∧ s.bk.lockCause.agrees = true ∧ s.slate.shadow.agrees = true) :=
  ⟨⟨wS, by decide +kernel⟩,
   ⟨wS, by decide +kernel⟩⟩

/-- States and operands that meet the hypotheses of MailboxMemoryAndRequestWrites, one for each of its clauses that has any. -/
theorem witness_MailboxMemoryAndRequestWrites :
    (∃ (m : List Host.Cell), Memory.wf m = true) ∧
    (∃ (m : List Host.Cell) (a : Nat) (c : Nat), Memory.wf m = true ∧ c ≠ a) ∧
    (∃ (m : List Host.Cell) (n : List Host.Cell), (Memory.wf m = true ∧ Memory.wf n = true) ∧ (∀ a, memRead m a = memRead n a)) ∧
    (∃ (s : State) (addr : BitVec 12), Memory.wf s.mbx = true ∧ portUp s = true ∧ s.gable.reqBusy = false ∧ addr.toNat % 4 = 0 ∧ 0x400 ≤
      addr.toNat ∧ addr.toNat < 0x800) ∧
    (∃ (s : State) (addr : BitVec 12), portUp s = true ∧ s.gable.reqBusy = true ∧ 0x400 ≤ addr.toNat ∧ addr.toNat < 0x800) :=
  ⟨⟨([(3, 9)] : List Host.Cell), by decide +kernel⟩,
   ⟨([(3, 9)] : List Host.Cell), (3 : Nat), (2 : Nat), by decide +kernel⟩,
   ⟨([(3, 9)] : List Host.Cell), ([(3, 9)] : List Host.Cell), by decide +kernel, fun _ => rfl⟩,
   ⟨wS, (0x400 : BitVec 12), by decide +kernel⟩,
   ⟨(wG (fun g => { g with reqBusy := true }) wS), (0x400 : BitVec 12), by decide +kernel⟩⟩

/-- States and operands that meet the hypotheses of DoorbellAndEventAcknowledge, one for each of its clauses that has any. -/
theorem witness_DoorbellAndEventAcknowledge :
    (∃ (s : State), portUp s = true ∧ (s.gable.up = false ∨ s.gable.reqBusy = true ∨ s.gable.rspReady = true)) ∧
    (∃ (s : State) (m : List Byte) (n : Nat), portUp s = true ∧ s.gable.up = true ∧ s.gable.reqBusy = false ∧ s.gable.rspReady = false ∧ m
      = memReadBytes s.mbx 0x400 1024 ∧ n = beAt m 4 2 ∧ n ≤ 1012 ∧ n % 4 = 0 ∧ beAt m (8 + n) 4 = (crc32 (m.take (8 + n))).toNat ∧ beAt m
      6 2 ≤ 1 ∧ (∀ k ∈ s.gable.keptSpi, k.tag ≠ BitVec.ofNat 16 (beAt m 0 2)) ∧ knownCommand (BitVec.ofNat 16 (beAt m 2 2)) = true) ∧
    (∃ (s : State), portUp s = true ∧ s.restart = none) ∧
    (∃ (s : State) (x : RestartDue), portUp s = true ∧ s.restart = some x ∧ x.port = .spi ∧ s.gable.rspReady = true) ∧
    (∃ (s : State) (n : BitVec 8), portUp s = true ∧ s.gable.evtDropped = 0 ∧ 1 ≤ min n.toNat s.gable.evtPending ∧ hasFault s fcEvtLost 0 =
      false) :=
  ⟨⟨(wG (fun g => { g with reqBusy := true }) wS), by decide +kernel⟩,
   ⟨(wPut (wMsg 9 0x0101 0 []) wS), (memReadBytes (wPut (wMsg 9 0x0101 0 []) wS).mbx 0x400 1024), (0 : Nat), by decide +kernel⟩,
   ⟨wS, by decide +kernel⟩,
   ⟨(wG (fun g => { g with rspReady := true }) { wS with restart := some { wRd with due := 200000000000 } }),
     ({ wRd with due := 200000000000 }), by decide +kernel⟩,
   ⟨(wG (fun g => { g with evtPending := 3 }) wS), (2 : BitVec 8), by decide +kernel⟩⟩

/-- States and operands that meet the hypotheses of RepeatsQueueAndTimeout, one for each of its clauses that has any. -/
theorem witness_RepeatsQueueAndTimeout :
    (∃ (s : State) (m : List Byte) (k : Kept), s.gable.usbAttached = true ∧ s.gable.up = true ∧ usbWaits s = false ∧ 12 ≤ m.length ∧ beAt m
      4 2 ≤ 1012 ∧ beAt m 4 2 % 4 = 0 ∧ m.length = 12 + beAt m 4 2 ∧ beAt m (8 + beAt m 4 2) 4 = (crc32 (m.take (8 + beAt m 4 2))).toNat ∧
      beAt m 6 2 ≤ 1 ∧ s.gable.keptUsb.find? (fun q => q.tag == BitVec.ofNat 16 (beAt m 0 2)) = some k) ∧
    (∃ (s : State) (m : List Byte) (k : Kept) (code : BitVec 16) (r : Req), s.gable.up = true ∧ s.pair.splitReq = none ∧ s.gable.queue =
      [(code, r)] ∧ r.port = .spi ∧ s.gable.parked = some (.usb, m) ∧ s.gable.started.toNat + timeoutOf s code ≤ s.tb.count.toNat ∧ 12 ≤
      m.length ∧ beAt m 4 2 ≤ 1012 ∧ beAt m 4 2 % 4 = 0 ∧ m.length = 12 + beAt m 4 2 ∧ beAt m (8 + beAt m 4 2) 4 = (crc32 (m.take (8 + beAt
      m 4 2))).toNat ∧ beAt m 6 2 ≤ 1 ∧ s.gable.keptUsb.find? (fun q => q.tag == BitVec.ofNat 16 (beAt m 0 2)) = some k ∧ k.body = m.drop
      2) ∧
    (∃ (s : State), s.gable.usbAttached = true ∧ s.gable.up = true ∧ (s.gable.usbRsp ≠ [] ∨ usbWaits s = true)) ∧
    (∃ (s : State) (m : List Byte), s.gable.usbAttached = true ∧ s.gable.up = true ∧ usbWaits s = false ∧ 12 ≤ m.length ∧ beAt m 4 2 ≤ 1012
      ∧ beAt m 4 2 % 4 = 0 ∧ m.length = 12 + beAt m 4 2 ∧ beAt m (8 + beAt m 4 2) 4 = (crc32 (m.take (8 + beAt m 4 2))).toNat ∧ beAt m 6 2
      ≤ 1 ∧ (∀ k ∈ s.gable.keptUsb, k.tag ≠ BitVec.ofNat 16 (beAt m 0 2)) ∧ knownCommand (BitVec.ofNat 16 (beAt m 2 2)) = true) ∧
    (∃ (s : State) (code : BitVec 16) (r : Req) (rest : List (BitVec 16 × Req)), s.gable.up = true ∧ s.pair.splitReq = none ∧ s.gable.queue
      = (code, r) :: rest ∧ s.gable.parked = none ∧ s.gable.started.toNat + timeoutOf s code ≤ s.tb.count.toNat) ∧
    (∃ (s : State) (code : BitVec 16) (r : Req), (s.gable.up = true ∧ s.pair.splitReq = some (code, r) ∧ s.gable.started.toNat + timeoutOf
      s code ≤ s.tb.count.toNat) ∧ (∀ x, s.pair.splitAt = some x → s.tick.count.toNat + 1 < x.toNat ∨ s.pair.splitBusy = true ∧
      s.pair.firewall = false)) ∧
    (∃ (s : State) (q : BitVec 16 × Req) (x : W32), s.pair.splitReq = some q ∧ s.pair.splitAt = some x ∧ x.toNat ≤ s.tick.count.toNat + 1 ∧
      (s.pair.splitBusy = true → s.pair.firewall = true)) :=
  ⟨⟨(wG (fun g => { g with usbAttached := true, keptUsb := [wKept 9] }) wS), (wMsg 9 0x0101 0 []), (wKept 9), by decide +kernel⟩,
   ⟨(wG (fun g =>
     { g with queue := [(ccGetFaults, wReq)], parked := some (.usb, (wMsg 7 0x0101 0 [])), started := 0, usbAttached := true, keptUsb := [wKept 3, wKept 7] })
     wS), (wMsg 7 0x0101 0 []), (wKept 7), ccGetFaults, wReq, by decide +kernel⟩,
   ⟨(wG (fun g => { g with usbAttached := true, usbRsp := [[1]] }) wS), by decide +kernel⟩,
   ⟨(wUsb wS), (wMsg 9 0x0101 1 []), by decide +kernel⟩,
   ⟨(wG (fun g => { g with queue := [(0x0101, wReq)], started := 99800000000 }) wS), (0x0101 : BitVec 16), wReq, ([] : List (BitVec 16 ×
     Req)), by decide +kernel⟩,
   ⟨({ (wSess 2 wS) with pair := { State.reset.pair with splitReq := some (ccRidgeSplit, wReq), splitAt := some 5, splitBusy := true } } :
     State), ccRidgeSplit, wReq, by decide +kernel, all_of (by decide +kernel)⟩,
   ⟨({ wS with pair := { State.reset.pair with splitReq := some (ccRidgeSplit, wReq), splitAt := some 1, splitBusy := true, firewall := true } }
     : State), (ccRidgeSplit, wReq), (1 : W32), by decide +kernel⟩⟩

/-- States and operands that meet the hypotheses of StatusAndReportCommands, one for each of its clauses that has any. -/
theorem witness_StatusAndReportCommands :
    (∃ (r : Req) (s : State), admits ccGetStatus r s = true ∧ r.payload = []) ∧
    (∃ (r : Req) (s : State), admits ccGetFaults r s = true ∧ r.payload.length = 4 ∧ r.num 0 4 ≤ s.faults.length) ∧
    (∃ (r : Req) (s : State), admits ccLogRead r s = true ∧ r.payload.length = 8 ∧ 1 ≤ r.num 4 4 ∧ r.num 4 4 ≤ 15) ∧
    (∃ (r : Req) (s : State), admits ccSlateRead r s = true ∧ r.payload.length = 8 ∧ r.num 0 1 ≤ 4 ∧ r.num 1 1 = 0 ∧ 1 ≤ r.num 4 4 ∧ r.num
      4 4 ≤ 120 ∧ r.num 2 2 + r.num 4 4 ≤ (regionWords (r.num 0 1)).2) ∧
    (∃ (r : Req) (s : State), admits ccWeatherReport r s = true ∧ r.payload.length = 4 ∧ (s.w.up = false ∨ s.pwr.shedWrep = true)) ∧
    (∃ (r : Req) (s : State), admits ccWeatherReport r s = true ∧ r.payload.length = 4 ∧ s.w.up = true ∧ s.pwr.shedWrep = false ∧ r.num 0 4
      = 0) ∧
    (∃ (r : Req) (s : State), admits ccCascadeStatus r s = true ∧ r.payload = []) :=
  ⟨⟨wReq, wS, by decide +kernel⟩,
   ⟨(wPay [0,0,0,0]), wS, by decide +kernel⟩,
   ⟨(wPay [0,0,0,0,0,0,0,15]), wS, by decide +kernel⟩,
   ⟨(wPay [4,0,0,15,0,0,0,1]), (wSess 1 wS), by decide +kernel⟩,
   ⟨(wPay [0,0,0,0]), ({ wS with w := { wS.w with up := false } }), by decide +kernel⟩,
   ⟨(wPay [0,0,0,0]), wS, by decide +kernel⟩,
   ⟨wReq, wS, by decide +kernel⟩⟩

/-- States and operands that meet the hypotheses of ConfigurationDownload, one for each of its clauses that has any. -/
theorem witness_ConfigurationDownload :
    (∃ (r : Req) (s : State), admits ccCfgBegin r s = true ∧ ownedBy r.port s = true ∧ r.payload.length = 8 ∧ 64 ≤ r.num 0 4 ∧ r.num 0 4 ≤
      1048576 ∧ r.num 0 4 % 4 = 0 ∧ overtaken s = false) ∧
    (∃ (r : Req) (s : State), heldNow ccCfgBegin r s = true ∧ ownedBy r.port s = true ∧ r.payload.length = 8 ∧ 64 ≤ r.num 0 4 ∧ r.num 0 4 ≤
      1048576 ∧ r.num 0 4 % 4 = 0 ∧ s.mode ≠ .configure) ∧
    (∃ (r : Req) (s : State), heldNow ccCfgBegin r s = true ∧ ownedBy r.port s = true ∧ r.payload.length = 8 ∧ 64 ≤ r.num 0 4 ∧ r.num 0 4 ≤
      1048576 ∧ r.num 0 4 % 4 = 0 ∧ s.mode ≠ .configure ∧ overtaken s = false) ∧
    (∃ (r : Req) (s : State), heldNow ccCfgBegin r s = true ∧ ownedBy r.port s = true ∧ r.payload.length = 8 ∧ 64 ≤ r.num 0 4 ∧ r.num 0 4 ≤
      1048576 ∧ r.num 0 4 % 4 = 0 ∧ s.mode ≠ .configure ∧ overtaken s = true) ∧
    (∃ (r : Req) (s : State) (c : Candidate), (admits ccCfgBlock r s = true ∧ c.owner = r.port ∧ 8 ≤ r.payload.length ∧ r.payload.length ≤
      1012 ∧ r.num 0 4 = c.data.length ∧ c.data.length + (r.payload.length - 4) ≤ c.totalLen) ∧ s.gable.cand = some c) ∧
    (∃ (r : Req) (s : State) (c : Candidate), (admits ccCfgBlock r s = true ∧ c.owner = r.port ∧ 8 ≤ r.payload.length ∧ r.payload.length ≤
      1012 ∧ r.num 0 4 ≠ c.data.length) ∧ s.gable.cand = some c) ∧
    (∃ (r : Req) (s : State) (c : Candidate), (admits ccCfgEnd r s = true ∧ c.owner = r.port ∧ c.ended = false ∧ r.payload.length = 4 ∧
      r.num 0 4 = 0 ∧ c.data.length = c.totalLen) ∧ s.gable.cand = some c ∧ crc32 c.data = c.totalCrc) ∧
    (∃ (r : Req) (s : State) (c : Candidate), (admits ccCfgEnd r s = true ∧ c.owner = r.port ∧ c.ended = false ∧ r.payload.length = 4 ∧
      r.num 0 4 = 0 ∧ (c.data.length ≠ c.totalLen ∨ crc32 c.data ≠ c.totalCrc)) ∧ s.gable.cand = some c) :=
  ⟨⟨(wPay [0,0,0,64,1,2,3,4]), (wInt .safeHold wS), by decide +kernel⟩,
   ⟨(wPay [0,0,0,64,1,2,3,4]), (wG (fun g =>
     { g with held := some (ccCfgBegin, (wPay [0,0,0,64,1,2,3,4])), queue := [(ccCfgBegin, (wPay [0,0,0,64,1,2,3,4]))] }) (wInt .safeHold
     wS)), by decide +kernel⟩,
   ⟨(wPay [0,0,0,64,1,2,3,4]), (wG (fun g =>
     { g with held := some (ccCfgBegin, (wPay [0,0,0,64,1,2,3,4])), queue := [(ccCfgBegin, (wPay [0,0,0,64,1,2,3,4]))] }) (wInt .safeHold
     wS)), by decide +kernel⟩,
   ⟨(wPay [0,0,0,64,1,2,3,4]),
     ({ (wG (fun g => { g with held := some (ccCfgBegin, (wPay [0,0,0,64,1,2,3,4])), queue := [(ccCfgBegin, (wPay [0,0,0,64,1,2,3,4]))] }) (wInt .safeHold wS)) with hPend := some 99999999000 }),
     by decide +kernel⟩,
   ⟨(wPay [0,0,0,4,9,9,9,9]), (wG (fun g => { g with cand := some ({ newCandidate .spi 64 7 with data := [1, 2, 3, 4] }) }) (wInt
     .configure wS)), ({ newCandidate .spi 64 7 with data := [1, 2, 3, 4] }), by decide +kernel, rfl⟩,
   ⟨(wPay [0,0,0,8,9,9,9,9]), (wG (fun g => { g with cand := some ({ newCandidate .spi 64 7 with data := [1, 2, 3, 4] }) }) (wInt
     .configure wS)), ({ newCandidate .spi 64 7 with data := [1, 2, 3, 4] }), by decide +kernel, rfl⟩,
   ⟨(wPay [0,0,0,0]), (wG (fun g => { g with cand := some wCand }) (wInt .configure wS)), wCand, by decide +kernel, rfl, rfl⟩,
   ⟨(wPay [0,0,0,0]), (wG (fun g => { g with cand := some ({ newCandidate .spi 64 7 with data := [1, 2, 3, 4] }) }) (wInt .configure wS)),
     ({ newCandidate .spi 64 7 with data := [1, 2, 3, 4] }), by decide +kernel, rfl⟩⟩

/-- States and operands that meet the hypotheses of ClampAcceptance, one for each of its clauses that has any. -/
theorem witness_ClampAcceptance :
    ∃ (r : Req) (s : State) (c : Candidate), (admits ccCfgAcceptClamps r s = true ∧ c.owner = r.port ∧ c.ended = true ∧ r.payload.length =
      32) ∧ s.gable.cand = some c :=
  ⟨(wPay (be 32 (reportDigest []).toNat)), (wG (fun g => { g with cand := some wCandE }) (wInt .configure wS)), wCandE, by decide +kernel,
    rfl⟩

/-- States and operands that meet the hypotheses of VerifyRuns, one for each of its clauses that has any. -/
theorem witness_VerifyRuns :
    (∃ (r : Req) (s : State) (c : Candidate), (admits ccVerifyStart r s = true ∧ c.owner = r.port ∧ c.ended = true ∧ r.payload.length = 4 ∧
      1000 ≤ r.num 0 4 ∧ r.num 0 4 ≤ 600000 ∧ verifyBusy s = false ∧ overtaken s = false) ∧ s.gable.cand = some c) ∧
    (∃ (r : Req) (s : State) (c : Candidate), (heldNow ccVerifyStart r s = true ∧ c.owner = r.port ∧ c.ended = true ∧ r.payload.length = 4
      ∧ 1000 ≤ r.num 0 4 ∧ r.num 0 4 ≤ 600000 ∧ verifyBusy s = false) ∧ s.gable.cand = some c) ∧
    (∃ (r : Req) (s : State) (c : Candidate), (heldNow ccVerifyStart r s = true ∧ c.owner = r.port ∧ c.ended = true ∧ r.payload.length = 4
      ∧ 1000 ≤ r.num 0 4 ∧ r.num 0 4 ≤ 600000 ∧ verifyBusy s = false ∧ overtaken s = false) ∧ s.gable.cand = some c) ∧
    (∃ (r : Req) (s : State) (c : Candidate), (heldNow ccVerifyStart r s = true ∧ c.owner = r.port ∧ c.ended = true ∧ r.payload.length = 4
      ∧ 1000 ≤ r.num 0 4 ∧ r.num 0 4 ≤ 600000 ∧ verifyBusy s = false ∧ overtaken s = true) ∧ s.gable.cand = some c) ∧
    (∃ (s : State) (c : Candidate) (v : VerifyRun), (s.mode = .configure ∧ s.hPend = none ∧ s.pwr.shutdown = none ∧ s.want = some .verify)
      ∧ s.gable.cand = some c ∧ s.gable.verify = some v) ∧
    (∃ (s : State) (v : VerifyRun), (s.mode = .verify ∧ v.state = 0 ∧ v.ends.toNat ≤ s.tb.count.toNat) ∧ s.gable.verify = some v) ∧
    (∃ (r : Req) (s : State), admits ccVerifyReport r s = true ∧ ownedBy r.port s = true ∧ r.payload.length = 4 ∧ r.num 0 4 = 0 ∧
      s.gable.verify = none) :=
  ⟨⟨(wPay (be 4 1000)), (wG (fun g => { g with cand := some wCandE }) (wInt .configure wS)), wCandE, by decide +kernel, rfl⟩,
   ⟨(wPay (be 4 1000)), (wG (fun g =>
     { g with held := some (ccVerifyStart, (wPay (be 4 1000))), queue := [(ccVerifyStart, (wPay (be 4 1000)))] }) (wG (fun g =>
     { g with cand := some wCandE }) (wInt .configure wS))), wCandE, by decide +kernel, rfl⟩,
   ⟨(wPay (be 4 1000)), (wG (fun g =>
     { g with held := some (ccVerifyStart, (wPay (be 4 1000))), queue := [(ccVerifyStart, (wPay (be 4 1000)))] }) (wG (fun g =>
     { g with cand := some wCandE }) (wInt .configure wS))), wCandE, by decide +kernel, rfl⟩,
   ⟨(wPay (be 4 1000)),
     ({ (wG (fun g => { g with held := some (ccVerifyStart, (wPay (be 4 1000))), queue := [(ccVerifyStart, (wPay (be 4 1000)))] }) (wG (fun g => { g with cand := some wCandE }) (wInt .configure wS))) with hPend := some 99999999000 }),
     wCandE, by decide +kernel, rfl⟩,
   ⟨(wG (fun g => { g with cand := some wCandE, verify := some wRun }) { (wInt .configure wS) with want := some .verify }), wCandE, wRun,
     by decide +kernel, rfl, rfl⟩,
   ⟨(wG (fun g => { g with verify := some wRun }) (wInt .verify wS)), wRun, by decide +kernel, rfl⟩,
   ⟨(wPay [0,0,0,0]), (wInt .configure wS), by decide +kernel⟩⟩

/-- States and operands that meet the hypotheses of CommitWritesTheInactiveBank, one for each of its clauses that has any. -/
theorem witness_CommitWritesTheInactiveBank :
    (∃ (r : Req) (s : State) (st : Byte), admits ccCommit r s = true ∧ ownedBy r.port s = true ∧ r.payload.length = 36 ∧ commitRefusal r s
      = some st) ∧
    (∃ (r : Req) (s : State) (c : Candidate), (admits ccCommit r s = true ∧ c.owner = r.port ∧ r.payload.length = 36) ∧ s.gable.cand = some
      c ∧ commitRefusal r s = none) ∧
    (∃ (s : State) (x : RestartDue), s.restart = some x ∧ x.kind = .commit ∧ x.due.toNat ≤ s.tb.count.toNat ∧ s.pwr.shutdown = none ∧
      tableStill s = false) :=
  ⟨⟨(wPay (List.replicate 36 0)), (wG (fun g => { g with cand := some wCandE }) (wInt .configure wS)), stNotVerified, by decide +kernel⟩,
   ⟨(wPay (be 4 wCandE.totalCrc.toNat ++ be 32 (verifyDigest { wRun with state := 1 }).toNat)), (wG (fun g =>
     { g with cand := some wCandE, verify := some { wRun with state := 1 } }) (wInt .configure wS)), wCandE, by decide +kernel, rfl,
     wCommit_ok⟩,
   ⟨({ wS with restart := some wRd }), wRd, by decide +kernel⟩⟩

/-- States and operands that meet the hypotheses of FirmwareUpdate, one for each of its clauses that has any. -/
theorem witness_FirmwareUpdate :
    (∃ (r : Req) (s : State), admits ccFwUpdateBlock r s = true ∧ 8 ≤ r.payload.length ∧ r.payload.length ≤ 1012 ∧ r.num 0 4 =
      s.gable.fwData.length ∧ 32 ≤ (s.gable.fwData ++ r.payload.drop 4).length ∧ (s.gable.fwData ++ r.payload.drop 4).length ≤ fwLength
      (s.gable.fwData ++ r.payload.drop 4)) ∧
    (∃ (r : Req) (s : State), admits ccFwActivate r s = true ∧ r.payload.length = 4 ∧ 32 ≤ s.gable.fwData.length ∧ s.gable.fwData.length =
      fwLength s.gable.fwData ∧ beAt s.gable.fwData 12 4 = r.num 0 4 ∧ (fwCrc s.gable.fwData).toNat = r.num 0 4 ∧ (s.active.valid = true →
      beAt s.gable.fwData 0 2 = s.active.image.fwClass ∨ r.confirm = true)) ∧
    (∃ (s : State) (x : RestartDue), s.restart = some x ∧ x.kind = .fwActivate ∧ x.due.toNat ≤ s.tb.count.toNat ∧ s.pwr.shutdown = none ∧
      tableStill s = false) :=
  ⟨⟨(wPay (be 4 0 ++ wFw)), (wInt .service wS), by decide +kernel⟩,
   ⟨(wPay (be 4 (fwCrc wFw).toNat)), (wG (fun g => { g with fwData := wFw }) (wInt .service wS)), by decide +kernel⟩,
   ⟨({ wS with restart := some { wRd with kind := .fwActivate } }), ({ wRd with kind := .fwActivate }), by decide +kernel⟩⟩

/-- States and operands that meet the hypotheses of SessionsAndPasswords, one for each of its clauses that has any. -/
theorem witness_SessionsAndPasswords :
    (∃ (r : Req) (s : State), admits ccLogin r s = true ∧ s.gable.backoffEnd = none ∧ 4 ≤ r.payload.length ∧ r.payload.length = 4 + padded
      (r.num 2 1) ∧ r.num 1 1 = 0 ∧ r.num 3 1 = 0 ∧ 8 ≤ r.num 2 1 ∧ r.num 2 1 ≤ 64 ∧ r.num 0 1 ≤ 2 ∧ (sessionOf r.port s).level.toNat <
      r.num 0 1 ∧ (r.num 0 1 = 2 → (sessionOf (otherPort r.port) s).level ≠ 2) ∧ (passwordOf (r.num 0 1) s).isSome = true ∧ passwordOk
      (r.num 0 1) ((r.payload.drop 4).take (r.num 2 1)) s = true) ∧
    (∃ (r : Req) (s : State), admits ccLogin r s = true ∧ s.gable.backoffEnd = none ∧ 4 ≤ r.payload.length ∧ r.payload.length = 4 + padded
      (r.num 2 1) ∧ r.num 1 1 = 0 ∧ r.num 3 1 = 0 ∧ 8 ≤ r.num 2 1 ∧ r.num 2 1 ≤ 64 ∧ r.num 0 1 ≤ 2 ∧ (sessionOf r.port s).level.toNat <
      r.num 0 1 ∧ (r.num 0 1 = 2 → (sessionOf (otherPort r.port) s).level ≠ 2) ∧ (passwordOf (r.num 0 1) s).isSome = true ∧ passwordOk
      (r.num 0 1) ((r.payload.drop 4).take (r.num 2 1)) s = false) ∧
    (∃ (r : Req) (s : State), admits ccLogout r s = true ∧ r.payload = [] ∧ ownsMode s = false) ∧
    (∃ (p : Port) (s : State), (s.gable.up = true ∨ romServes s = true) ∧ flashClosed s = false ∧ (sessionOf p s).level ≠ 0 ∧ ownsMode s =
      false ∧ (sessionOf p s).lastReq.toNat + 60000000000 ≤ s.tb.count.toNat) ∧
    (∃ (r : Req) (s : State), admits ccLogin r s = true ∧ 4 ≤ r.payload.length ∧ r.payload.length = 4 + padded (r.num 2 1) ∧ r.num 0 1 ≤ 2
      ∧ r.num 1 1 = 0 ∧ r.num 3 1 = 0 ∧ 8 ≤ r.num 2 1 ∧ r.num 2 1 ≤ 64 ∧ s.gable.backoffEnd ≠ none) ∧
    (∃ (r : Req) (s : State), admits ccLogin r s = true ∧ s.gable.backoffEnd = none ∧ 4 ≤ r.payload.length ∧ r.payload.length = 4 + padded
      (r.num 2 1) ∧ r.num 0 1 = 2 ∧ r.num 1 1 = 1 ∧ r.num 3 1 = 0 ∧ 8 ≤ r.num 2 1 ∧ r.num 2 1 ≤ 64 ∧ s.mode = .safeHold ∧ overtaken s =
      false ∧ (sessionOf r.port s).level ≠ 2 ∧ (sessionOf (otherPort r.port) s).level ≠ 2 ∧ s.gable.integrate.isSome = true ∧ passwordOk 2
      ((r.payload.drop 4).take (r.num 2 1)) s = true) ∧
    (∃ (r : Req) (s : State), heldNow ccLogin r s = true ∧ s.gable.backoffEnd = none ∧ 4 ≤ r.payload.length ∧ r.payload.length = 4 + padded
      (r.num 2 1) ∧ r.num 0 1 = 2 ∧ r.num 1 1 = 1 ∧ r.num 3 1 = 0 ∧ 8 ≤ r.num 2 1 ∧ r.num 2 1 ≤ 64 ∧ s.mode = .safeHold ∧ (sessionOf r.port
      s).level ≠ 2 ∧ (sessionOf (otherPort r.port) s).level ≠ 2 ∧ s.gable.integrate.isSome = true ∧ passwordOk 2 ((r.payload.drop 4).take
      (r.num 2 1)) s = true) ∧
    (∃ (r : Req) (s : State), heldNow ccLogin r s = true ∧ s.gable.backoffEnd = none ∧ 4 ≤ r.payload.length ∧ r.payload.length = 4 + padded
      (r.num 2 1) ∧ r.num 0 1 = 2 ∧ r.num 1 1 = 1 ∧ r.num 3 1 = 0 ∧ 8 ≤ r.num 2 1 ∧ r.num 2 1 ≤ 64 ∧ s.mode = .safeHold ∧ (sessionOf r.port
      s).level ≠ 2 ∧ (sessionOf (otherPort r.port) s).level ≠ 2 ∧ s.gable.integrate.isSome = true ∧ passwordOk 2 ((r.payload.drop 4).take
      (r.num 2 1)) s = true ∧ overtaken s = false) ∧
    (∃ (r : Req) (s : State), heldNow ccLogin r s = true ∧ s.gable.backoffEnd = none ∧ 4 ≤ r.payload.length ∧ r.payload.length = 4 + padded
      (r.num 2 1) ∧ r.num 0 1 = 2 ∧ r.num 1 1 = 1 ∧ r.num 3 1 = 0 ∧ 8 ≤ r.num 2 1 ∧ r.num 2 1 ≤ 64 ∧ s.mode = .safeHold ∧ (sessionOf r.port
      s).level ≠ 2 ∧ (sessionOf (otherPort r.port) s).level ≠ 2 ∧ s.gable.integrate.isSome = true ∧ passwordOk 2 ((r.payload.drop 4).take
      (r.num 2 1)) s = true ∧ overtaken s = true) ∧
    (∃ (s : State) (e : W64), s.gable.backoffEnd = some e ∧ s.gable.backoffHeld = false ∧ e.toNat ≤ s.tb.count.toNat) ∧
    (∃ (s : State), s.gable.usbAttached = true ∧ ownsMode s = false) ∧
    (∃ (s : State), s.pwr.aoOn = true ∧ s.pwr.shedUsb = false ∧ s.gable.up = true) ∧
    (∃ (r : Req) (s : State), admits ccSetPassword r s = true ∧ (sessionOf r.port s).level = 2 ∧ 4 ≤ r.payload.length ∧ r.payload.length =
      4 + padded (r.num 1 1) + padded (r.num 2 1) ∧ r.num 0 1 = 2 ∧ r.num 3 1 = 0 ∧ r.num 1 1 ≤ 64 ∧ 8 ≤ r.num 2 1 ∧ r.num 2 1 ≤ 64) ∧
    (∃ (r : Req) (s : State), admits ccSetPassword r s = true ∧ (sessionOf r.port s).level = 2 ∧ 4 ≤ r.payload.length ∧ r.payload.length =
      4 + padded (r.num 1 1) ∧ r.num 0 1 = 1 ∧ r.num 3 1 = 0 ∧ r.num 1 1 ≤ 64 ∧ r.num 2 1 = 0) :=
  ⟨⟨(wPay ([1, 0, 8, 0] ++ wPass)), (wG (fun g => { g with maintain := some wPw, integrate := some wPw, fails := 4 }) wS), by
    decide +kernel⟩,
   ⟨(wPay ([1, 0, 8, 0] ++ wPass.reverse)), (wG (fun g => { g with maintain := some wPw, integrate := some wPw, fails := 4 }) wS), by
     decide +kernel⟩,
   ⟨wReq, wS, by decide +kernel⟩,
   ⟨Port.spi, (wG (fun g => { g with spi := { g.spi with level := 1, lastReq := 40000000000 } }) wS), by decide +kernel⟩,
   ⟨(wPay ([1, 0, 8, 0] ++ wPass)), (wG (fun g => { g with backoffEnd := some 100000000001, fails := 5 }) wS), by decide +kernel⟩,
   ⟨(wPay ([2, 1, 8, 0] ++ wPass)), (wG (fun g => { g with integrate := some wPw, fails := 3 }) (wMode .safeHold wS)), by decide +kernel⟩,
   ⟨(wPay ([2, 1, 8, 0] ++ wPass)), (wG (fun g =>
     { g with held := some (ccLogin, (wPay ([2, 1, 8, 0] ++ wPass))), queue := [(ccLogin, (wPay ([2, 1, 8, 0] ++ wPass)))] }) (wG (fun g =>
     { g with integrate := some wPw, fails := 3 }) (wMode .safeHold wS))), by decide +kernel⟩,
   ⟨(wPay ([2, 1, 8, 0] ++ wPass)), (wG (fun g =>
     { g with held := some (ccLogin, (wPay ([2, 1, 8, 0] ++ wPass))), queue := [(ccLogin, (wPay ([2, 1, 8, 0] ++ wPass)))] }) (wG (fun g =>
     { g with integrate := some wPw, fails := 3 }) (wMode .safeHold wS))), by decide +kernel⟩,
   ⟨(wPay ([2, 1, 8, 0] ++ wPass)),
     ({ (wG (fun g => { g with held := some (ccLogin, (wPay ([2, 1, 8, 0] ++ wPass))), queue := [(ccLogin, (wPay ([2, 1, 8, 0] ++ wPass)))] }) (wG (fun g => { g with integrate := some wPw, fails := 3 }) (wMode .safeHold wS))) with hPend := some 99999999000 }),
     by decide +kernel⟩,
   ⟨(wG (fun g => { g with backoffEnd := some 100000000000 }) wS), (100000000000 : W64), by decide +kernel⟩,
   ⟨(wUsb wS), by decide +kernel⟩,
   ⟨wS, by decide +kernel⟩,
   ⟨(wPay ([2, 0, 8, 0] ++ wPass)), (wSess 2 wS), by decide +kernel⟩,
   ⟨(wPay [1, 0, 0, 0]), (wSess 2 wS), by decide +kernel⟩⟩

/-- States and operands that meet the hypotheses of LockoutClearanceSplitAndArm, one for each of its clauses that has any. -/
theorem witness_LockoutClearanceSplitAndArm :
    (∃ (r : Req) (s : State), admits ccClearLockout r s = true ∧ r.payload = []) ∧
    (∃ (s : State) (w : LockWindow), s.lockWin = some w ∧ s.gable.up = true ∧ s.pair.ackPress = true ∧ s.tb.count.toNat < w.ends.toNat) ∧
    (∃ (s : State) (w : LockWindow), s.lockWin = some w ∧ s.gable.up = true ∧ w.ends.toNat ≤ s.tb.count.toNat) ∧
    (∃ (s : State) (x : RestartDue), s.restart = some x ∧ x.kind = .lockout ∧ x.due.toNat ≤ s.tb.count.toNat ∧ s.pwr.shutdown = none ∧
      s.resetHeld = false ∧ s.mode = .lockout) ∧
    (∃ (r : Req) (s : State), admits ccRidgeSplit r s = true ∧ r.payload = [] ∧ lookB s.active.image .splitPermitted 0 false = true ∧
      s.active.image.split = true ∧ s.pair.split = false ∧ s.pair.splitAt = none ∧ s.pair.diverged = false) ∧
    (∃ (s : State), s.pair.splitAt = some s.tick.count ∧ s.pair.splitBusy = true) ∧
    (∃ (r : Req) (s : State), s.pair.splitReq = some (ccRidgeSplit, r) ∧ s.pair.splitAt = some s.tick.count ∧ s.pair.splitBusy = true ∧
      s.pair.firewall = true ∧ s.pair.split = false ∧ s.gable.up = true) ∧
    (∃ (r : Req) (s : State), admits ccRidgeJoin r s = true ∧ r.payload = [] ∧ s.pair.split = true ∧ s.pair.splitAt = none) ∧
    (∃ (r : Req) (s : State), s.pair.splitReq = some (ccRidgeJoin, r) ∧ s.pair.splitAt = some s.tick.count ∧ s.pair.splitBusy = false ∧
      s.gable.up = true) ∧
    (∃ (r : Req) (s : State), admits ccLullArm r s = true ∧ r.payload.length = 12 ∧ r.num 0 1 ≤ 3 ∧ r.num 1 3 = 0) :=
  ⟨⟨wReq, (wInt .lockout wS), by decide +kernel⟩,
   ⟨({ ({ ({ ((wInt .lockout wS)) with lockWin := some wLockWin }) with pair := { ({ ((wInt .lockout wS)) with lockWin := some wLockWin }).pair with ackPress := true } }) with bk := { ({ ({ ((wInt .lockout wS)) with lockWin := some wLockWin }) with pair := { ({ ((wInt .lockout wS)) with lockWin := some wLockWin }).pair with ackPress := true } }).bk with lockCause := Voted.of 0x0201 } }),
     wLockWin, by decide +kernel⟩,
   ⟨(wTb 100000000001
     { ({ ({ ((wInt .lockout wS)) with lockWin := some wLockWin }) with pair := { ({ ((wInt .lockout wS)) with lockWin := some wLockWin }).pair with ackPress := true } }) with bk := { ({ ({ ((wInt .lockout wS)) with lockWin := some wLockWin }) with pair := { ({ ((wInt .lockout wS)) with lockWin := some wLockWin }).pair with ackPress := true } }).bk with lockCause := Voted.of 0x0201 } }),
     wLockWin, by decide +kernel⟩,
   ⟨({ ((wInt .lockout wS)) with restart := some ({ wRd with kind := .lockout, due := 100000000000 }) }),
     ({ wRd with kind := .lockout, due := 100000000000 }), by decide +kernel⟩,
   ⟨wReq, ({ wImg [wF .splitPermitted 0 1] [] (wSess 2 wS) with active := { (wImg [wF .splitPermitted 0 1] [] (wSess 2 wS)).active with image := { (wImg [wF .splitPermitted 0 1] [] (wSess 2 wS)).active.image with split := true } } }),
     by decide +kernel⟩,
   ⟨({ wS with ridgeB := { EngineSt.reset with up := true }, pair := { State.reset.pair with splitAt := some 0, splitBusy := true } } :
     State), by decide +kernel⟩,
   ⟨wReq, ({ (wSess 2 wS) with pair := { State.reset.pair with splitReq := some (ccRidgeSplit, wReq), splitAt := some 0, splitBusy := true, firewall := true } }
     : State), by decide +kernel⟩,
   ⟨wReq, ({ ((wSess 2 wS)) with pair := { ((wSess 2 wS)).pair with split := true } }), by decide +kernel⟩,
   ⟨wReq, ({ (wSess 2 wS) with pair := { State.reset.pair with splitReq := some (ccRidgeJoin, wReq), splitAt := some 0, split := true, joinBusy := true } }
     : State), by decide +kernel⟩,
   ⟨(wPay [3,0,0,0,1,2,3,4,5,6,7,8]), (wSess 2 wS), by decide +kernel⟩⟩

/-- States and operands that meet the hypotheses of SlateProgramming, one for each of its clauses that has any. -/
theorem witness_SlateProgramming :
    (∃ (r : Req) (p : SlatePulse) (s : State), admits ccSlateProgramBit r s = true ∧ r.payload.length = 4 ∧ r.num 0 2 ≤ 8191 ∧ 10 ≤ r.num 2
      1 ∧ r.num 2 1 ≤ 50 ∧ r.num 3 1 = 0 ∧ programRefusal r (r.num 0 2) s = none ∧ alreadySet s (r.num 0 2) = false ∧ p.cut = false ∧ 1 ≤
      p.passRound ∧ p.passRound ≤ 4) ∧
    (∃ (r : Req) (p : SlatePulse) (s : State), admits ccSlateProgramBit r s = true ∧ r.payload.length = 4 ∧ r.num 0 2 ≤ 8191 ∧ 10 ≤ r.num 2
      1 ∧ r.num 2 1 ≤ 50 ∧ r.num 3 1 = 0 ∧ programRefusal r (r.num 0 2) s = none ∧ verifies s.slate.cells (r.num 0 2) = false ∧ p.cut =
      false ∧ p.passRound = 0) ∧
    (∃ (r : Req) (p : SlatePulse) (s : State), admits ccSlateProgramBit r s = true ∧ r.payload.length = 4 ∧ r.num 0 2 ≤ 8191 ∧ 10 ≤ r.num 2
      1 ∧ r.num 2 1 ≤ 50 ∧ r.num 3 1 = 0 ∧ programRefusal r (r.num 0 2) s = none ∧ alreadySet s (r.num 0 2) = false ∧ p.cut = true) ∧
    (∃ (r : Req) (s : State) (st : Byte), admits ccSlateProgramBit r s = true ∧ r.payload.length = 4 ∧ r.num 0 2 ≤ 8191 ∧ 10 ≤ r.num 2 1 ∧
      r.num 2 1 ≤ 50 ∧ r.num 3 1 = 0 ∧ programRefusal r (r.num 0 2) s = some st) ∧
    (∃ (r : Req) (p : SlatePulse) (slot : Nat) (s : State), admits ccSlateLock r s = true ∧ r.payload.length = 4 ∧ r.num 0 1 = 3 ∧ r.num 1
      1 = slot ∧ slot ≤ 7 ∧ r.num 2 2 = 0 ∧ lockAllowed 3 slot s = true ∧ alreadySet s (3648 + slot) = false ∧ p.cut = false ∧ 1 ≤
      p.passRound ∧ p.passRound ≤ 4) ∧
    (∃ (r : Req) (slot : Nat) (s : State), admits ccSlateLock r s = true ∧ r.payload.length = 4 ∧ r.num 0 1 = 3 ∧ r.num 1 1 = slot ∧ slot ≤
      7 ∧ r.num 2 2 = 0 ∧ lockAllowed 3 slot s = false) :=
  ⟨⟨(wPay [0x06, 0x40, 10, 0]), ({ passRound := 1, vppMv := 0, cut := false } : SlatePulse), (wInt .service wS), by decide +kernel⟩,
   ⟨(wPay [0x06, 0x40, 10, 0]), ({ passRound := 0, vppMv := 0, cut := false }), (wInt .service wS), by decide +kernel⟩,
   ⟨(wPay [0x06, 0x40, 10, 0]), ({ passRound := 1, vppMv := 0, cut := true }), (wInt .service wS), by decide +kernel⟩,
   ⟨(wPay [0x1F, 0xFF, 50, 0]), (wInt .service wS), stSlateDenied, by decide +kernel⟩,
   ⟨(wPay [3, 7, 0, 0]), ({ passRound := 1, vppMv := 0, cut := false } : SlatePulse), (7 : Nat), (wLife (0xFFFF * 2 ^ 1536 + ofBe (be 4
     (crcMbx.crc (be 1 7) (List.replicate 28 0)) ).reverse * 2 ^ (1600 + 256 * 7 + 224)) (wInt .service wS)), by decide +kernel⟩,
   ⟨(wPay [3, 7, 0, 0]), (7 : Nat), (wInt .service wS), by decide +kernel⟩⟩

/-- States and operands that meet the hypotheses of SupplySteps, one for each of its clauses that has any. -/
theorem witness_SupplySteps :
    (∃ (s : State) (mv : Vector Nat 3), squallActs s = true ∧ s.tick.running = true ∧ s.pwr.ride = none ∧ (nowStep s).num < (stepOf (max
      mv[0] (max mv[1] mv[2]))).num) ∧
    (∃ (s : State) (mv : Vector Nat 3), squallActs s = true ∧ s.tick.running = false ∧ s.tick.pendClk = none ∧ ownsMode s = false ∧
      s.tick.clk.num < (stepOf (max mv[0] (max mv[1] mv[2]))).num) ∧
    (∃ (s : State) (mv : Nat) (least : Nat), squallActs s = true ∧ s.pwr.ride = none ∧ s.tick.running = true ∧ (s.pwr.lastUp = none ∨ ∃ x,
      s.pwr.lastUp = some x ∧ x.toNat + 10000000 ≤ s.tb.count.toNat) ∧ (s.pwr.lowAt = none ∨ ∃ x, s.pwr.lowAt = some x ∧ x.toNat + 10000000
      ≤ s.tb.count.toNat) ∧ nowStep s = .c200 ∧ 19000 ≤ min mv least) ∧
    (∃ (s : State) (mv : Nat) (least : Nat), squallActs s = true ∧ s.pwr.ride = none ∧ s.tick.running = true ∧ (s.pwr.lastUp = none ∨ ∃ x,
      s.pwr.lastUp = some x ∧ x.toNat + 10000000 ≤ s.tb.count.toNat) ∧ (s.pwr.lowAt = none ∨ ∃ x, s.pwr.lowAt = some x ∧ x.toNat + 10000000
      ≤ s.tb.count.toNat) ∧ nowStep s = .c300 ∧ 20500 ≤ min mv least) ∧
    (∃ (s : State) (mv : Nat) (least : Nat), squallActs s = true ∧ s.pwr.ride = none ∧ (nowStep s = .c200 ∧ min mv least < 19000 ∨ nowStep
      s = .c300 ∧ min mv least < 20500 ∨ ∃ x, s.pwr.lastUp = some x ∧ s.tb.count.toNat < x.toNat + 10000000)) ∧
    (∃ (s : State) (mv : Vector Nat 3), squallActs s = true ∧ ownsMode s = false ∧ mv[0] < 16000 ∧ mv[1] < 16000 ∧ mv[2] < 16000 ∧
      s.pwr.ride = none) ∧
    (∃ (s : State) (mv : Vector Nat 3) (x : W64), squallActs s = true ∧ 16500 ≤ mv[0] ∧ 16500 ≤ mv[1] ∧ 16500 ≤ mv[2] ∧ s.pwr.ride = some
      x) ∧
    (∃ (s : State) (mv : Nat) (hold : Nat) (x : W64), squallActs s = true ∧ s.pwr.ride = some x ∧ (hold ≤ 13000 ∧ mv < 16000 ∨ x.toNat +
      5000000 ≤ s.tb.count.toNat)) ∧
    (∃ (s : State) (x : W64) (b : W64), s.pending = [] ∧ s.pwr.aoOn = true ∧ s.pwr.shutdown = some x ∧ s.pwr.b1 = some b ∧ s.pwr.doneAt =
      none ∧ (s.tb.count + 1).toNat = b.toNat + 10000) ∧
    (∃ (s : State) (x : W64) (b : W64), s.pending = [] ∧ s.pwr.aoOn = true ∧ s.pwr.shutdown = some x ∧ s.pwr.b1 = some b ∧ s.pwr.doneAt =
      none ∧ (s.tb.count + 1).toNat = b.toNat + 15000) ∧
    (∃ (s : State) (x : W64) (b : W64), s.pending = [] ∧ s.pwr.aoOn = true ∧ s.pwr.shutdown = some x ∧ s.pwr.b1 = some b ∧ s.pwr.doneAt =
      none ∧ (s.tb.count + 1).toNat = b.toNat + 20000) ∧
    (∃ (s : State) (x : W64) (b : W64), s.pending = [] ∧ s.pwr.aoOn = true ∧ s.pwr.shutdown = some x ∧ s.pwr.b1 = some b ∧ s.pwr.doneAt =
      none ∧ (s.tb.count + 1).toNat = b.toNat + 600000 ∧ s.gable.up = true ∧ s.w.up = true) ∧
    (∃ (s : State) (x : W64), (s.pending = [] ∧ s.pwr.aoOn = true ∧ s.pwr.shutdown = some x ∧ s.pwr.doneAt = none ∧ (s.tb.count + 1).toNat
      = x.toNat + 1000000) ∧ (∀ b, s.pwr.b1 = some b → (s.tb.count + 1).toNat ∉ [b.toNat + 10000, b.toNat + 15000, b.toNat + 20000, b.toNat
      + 600000])) ∧
    (∃ (s : State) (x : W64) (d : W64), s.pending = [] ∧ s.pwr.aoOn = true ∧ s.pwr.shutdown = some x ∧ s.pwr.doneAt = some d ∧ 16500 ≤
      s.pwr.lplus) ∧
    (∃ (s : State) (hold : Nat), s.pwr.aoOn = true ∧ hold ≤ 9000) ∧
    (∃ (hold : Nat), 9000 < hold) :=
  ⟨⟨wS, #v[18499, 18499, 18499], by decide +kernel⟩,
   ⟨({ wS with tick := { wS.tick with running := false } }), (#v[18499, 18000, 17900]), by decide +kernel⟩,
   ⟨({ wS with tick := { wS.tick with clk := .c200 } } : State), (19500 : Nat), (19000 : Nat), by decide +kernel⟩,
   ⟨({ wS with tick := { wS.tick with clk := .c300 } } : State), (20500 : Nat), (20500 : Nat), by decide +kernel⟩,
   ⟨({ wS with tick := { wS.tick with clk := .c200 } } : State), (19500 : Nat), (18999 : Nat), by decide +kernel⟩,
   ⟨wS, (#v[15999, 15999, 15999]), by decide +kernel⟩,
   ⟨(wP (fun p => { p with ride := some 7 }) wS), (#v[16500, 16500, 16501]), (7 : W64), by decide +kernel⟩,
   ⟨(wP (fun p => { p with ride := some 7 }) wS), (15999 : Nat), (13000 : Nat), (7 : W64), by decide +kernel⟩,
   ⟨(wP (fun p => { p with shutdown := some 99999000000, b1 := some 99999990001 }) wS), (99999000000 : W64), (99999990001 : W64), by
     decide +kernel⟩,
   ⟨(wP (fun p => { p with shutdown := some 99999000000, b1 := some 99999985001 }) wS), (99999000000 : W64), (99999985001 : W64), by
     decide +kernel⟩,
   ⟨(wP (fun p => { p with shutdown := some 99999000000, b1 := some 99999980001 }) wS), (99999000000 : W64), (99999980001 : W64), by
     decide +kernel⟩,
   ⟨(wP (fun p => { p with shutdown := some 99999000000, b1 := some 99999400001 }) wS), (99999000000 : W64), (99999400001 : W64), by
     decide +kernel⟩,
   ⟨(wP (fun p => { p with shutdown := some 99999000001, b1 := some 99999500000 }) wS), (99999000001 : W64), by decide +kernel, all_of (by
     decide +kernel)⟩,
   ⟨(wP (fun p => { p with shutdown := some 99999000001, b1 := some 99999000001, doneAt := some 99999900000, lplus := 16500 }) wS),
     (99999000001 : W64), (99999900000 : W64), by decide +kernel⟩,
   ⟨wS, (9000 : Nat), by decide +kernel⟩,
   ⟨(9001 : Nat), by decide +kernel⟩⟩

/-- States and operands that meet the hypotheses of BackupDomainAndTemperatures, one for each of its clauses that has any. -/
theorem witness_BackupDomainAndTemperatures :
    (∃ (s : State) (mv : Nat), s.mode = .off ∧ 1800 ≤ mv) ∧
    (∃ (s : State), s.mode ≠ .off ∧ s.mode ≠ .backup) ∧
    (∃ (s : State) (mv : Nat), s.pwr.aoOn = false ∧ (s.mode = .off ∨ s.mode = .backup) ∧ mv < 1800) ∧
    (∃ (s : State) (mv : Nat), s.pwr.aoOn = true ∧ tableStill s = false ∧ mv < 2200) ∧
    (∃ (s : State) (mv : Nat), s.pwr.aoOn = true ∧ tableStill s = false ∧ 2300 ≤ mv) ∧
    (∃ (s : State), s.pwr.domains.getLsbD 9 = false) ∧
    (∃ (s : State), s.pwr.domains.getLsbD 9 = true) ∧
    (∃ (s : State) (die : Int) (fs : Int), s.pwr.aoOn = true ∧ tableStill s = false ∧ die ≤ 1150 ∧ fs ≤ 1100) ∧
    (∃ (s : State) (die : Int) (x : W64), s.pwr.aoOn = true ∧ tableStill s = false ∧ 1200 ≤ die ∧ die < 1450 ∧ s.pwr.highSince[0] = some x
      ∧ x.toNat + 100000000 ≤ s.tb.count.toNat) ∧
    (∃ (s : State) (die : Int) (x : W64), s.pwr.aoOn = true ∧ tableStill s = false ∧ 1300 ≤ die ∧ die < 1450 ∧ s.pwr.highSince[2] = some x
      ∧ x.toNat + 100000000 ≤ s.tb.count.toNat) ∧
    (∃ (s : State) (die : Int), s.pwr.aoOn = true ∧ 1450 ≤ die) :=
  ⟨⟨(wMode .off wS), (1800 : Nat), by decide +kernel⟩,
   ⟨wS, by decide +kernel⟩,
   ⟨(wP (fun p => { p with aoOn := false }) (wMode .backup wS)), (1799 : Nat), by decide +kernel⟩,
   ⟨wS, (2199 : Nat), by decide +kernel⟩,
   ⟨wS, (2300 : Nat), by decide +kernel⟩,
   ⟨(wP (fun p => { p with domains := 0x1FF }) wS), by decide +kernel⟩,
   ⟨wS, by decide +kernel⟩,
   ⟨wS, (1150 : Int), (1100 : Int), by decide +kernel⟩,
   ⟨(wP (fun p => { p with highSince := #v[some 99900000000, none, none, none] }) wS), (1200 : Int), (99900000000 : W64), by
     decide +kernel⟩,
   ⟨(wP (fun p => { p with highSince := #v[none, none, some 99900000000, none] }) wS), (1300 : Int), (99900000000 : W64), by
     decide +kernel⟩,
   ⟨wS, (1450 : Int), by decide +kernel⟩⟩

/-- States and operands that meet the hypotheses of BootAndReset, one for each of its clauses that has any. -/
theorem witness_BootAndReset :
    (∃ (s : State) (env : BootEnv), ((s.mode = .off ∨ s.mode = .backup) ∧ s.resetHeld = false ∧ s.pwr.die < 1250 ∧ s.pwr.aoHold = 0 ∧ 18000
      ≤ env.lplusFirst ∧ 17500 ≤ env.lplusLeast ∧ 10000 ≤ env.lplusUs ∧ env.lplusLeast ≤ env.lplus ∧ env.badDomains.getLsbD 8 = false) ∧ (∀
      x, s.pwr.doneAt = some x → x.toNat + 1000000 ≤ s.tb.count.toNat)) ∧
    (∃ (s : State) (env : BootEnv), waitsForPower s = true ∧ lplusCounted env = true ∧ env.badDomains.getLsbD 8 = true) ∧
    (∃ (s : State), 0 < s.pwr.aoHold) ∧
    (∃ (env : BootEnv), (env.lplusFirst < 18000 ∨ env.lplusLeast < 17500 ∨ env.lplusUs < 10000)) ∧
    (∃ (s : State) (lowNs : Nat), s.pwr.aoOn = true ∧ s.mode ≠ .off ∧ s.mode ≠ .backup ∧ 10000 ≤ lowNs ∧ s.pwr.shutdown = none) ∧
    (∃ (s : State) (lowNs : Nat), s.pwr.aoOn = true ∧ s.mode ≠ .off ∧ s.mode ≠ .backup ∧ 10000 ≤ lowNs ∧ s.pwr.shutdown ≠ none) ∧
    (∃ (s : State) (lowNs : Nat), s.pwr.aoOn = true ∧ s.mode ≠ .off ∧ s.mode ≠ .backup ∧ lowNs < 10000) ∧
    (∃ (s : State) (env : BootEnv), s.resetHeld = true ∧ env.lullN = true) ∧
    (∃ (s : State) (env : BootEnv), s.resetHeld = true ∧ env.lullN = false ∧ env.badDomains.getLsbD 8 = false) ∧
    (∃ (s : State), s.resetHeld = false) ∧
    (∃ (s : State) (env : BootEnv), s.mode = .boot ∧ s.resetHeld = false ∧ s.pwr.aoOn = true ∧ s.bootStep = 5 ∧ env.badDomains = 0) ∧
    (∃ (s : State) (env : BootEnv), s.mode = .boot ∧ s.resetHeld = false ∧ s.pwr.aoOn = true ∧ s.bootStep < 5 ∧ s.pwr.domains.getLsbD 1 =
      true ∧ env.badDomains = 0 ∧ env.pllOk = true ∧ (chooseFw s).1.isSome = true) ∧
    (∃ (s : State) (env : BootEnv), s.mode = .boot ∧ s.resetHeld = false ∧ s.pwr.aoOn = true ∧ s.bootStep = 5 ∧ env.badDomains.getLsbD 7 =
      true ∧ env.badDomains.getLsbD 1 = false) :=
  ⟨⟨(wP (fun p => { p with aoOn := false }) (wMode .backup wS)), wEnv, by decide +kernel, all_of (by decide +kernel)⟩,
   ⟨(wP (fun p => { p with aoOn := false, domains := 0x200 }) (wMode .off State.reset)), ({ wEnv with badDomains := 0x100 }), by
     decide +kernel⟩,
   ⟨(wP (fun p => { p with aoHold := 1, aoOn := false, domains := 0x200 }) (wMode .boot State.reset)), by decide +kernel⟩,
   ⟨({ wEnv with lplusFirst := 17999 }), by decide +kernel⟩,
   ⟨wS, (10000 : Nat), by decide +kernel⟩,
   ⟨(wP (fun p => { p with shutdown := some 99999999000 }) wS), (10000 : Nat), by decide +kernel⟩,
   ⟨wS, (999 : Nat), by decide +kernel⟩,
   ⟨({ wS with resetHeld := true }), ({ wEnv with lullN := true }), by decide +kernel⟩,
   ⟨({ wS with resetHeld := true }), wEnv, by decide +kernel⟩,
   ⟨wS, by decide +kernel⟩,
   ⟨({ ((wMode .boot wS)) with bootStep := 5 }), wEnv, by decide +kernel⟩,
   ⟨({ (wMode .boot wS) with bootStep := 3, flash := { wS.flash with fwA := { Bank.erased with booted := 0, gen := 1, genN := ~~~1, image := wFw, crc := fwCrc wFw } } }),
     wEnv, by decide +kernel⟩,
   ⟨({ (wMode .boot wS) with bootStep := 5 }), ({ wEnv with badDomains := 0x080 }), by decide +kernel⟩⟩

/-- States and operands that meet the hypotheses of SelftestAndStart, one for each of its clauses that has any. -/
theorem witness_SelftestAndStart :
    (∃ (s : State), s.mode = .selftest ∧ s.hPend = none ∧ s.thatchMem.rows.all rowOk = true ∧ (s.active.valid = true →
      s.active.image.vectors.length ≤ s.pair.vecDone)) ∧
    (∃ (s : State) (f : TestFail), s.mode = .selftest ∧ s.resetHeld = false ∧ s.pwr.shutdown = none ∧ selftestCode f.code = true ∧
      faultClass f.code = .h) ∧
    (∃ (s : State), s.mode = .selftest ∧ s.resetHeld = false ∧ s.pwr.shutdown = none ∧ s.thatchMem.rows.all rowOk = false) ∧
    (∃ (s : State), s.mode = .selftest ∧ s.active.valid = true ∧ s.pair.vecDone < s.active.image.vectors.length) ∧
    (∃ (s : State), s.mode = .safeHold ∧ s.tick.began = true ∧ s.tb.count = s.tick.boundary ∧ s.want = none ∧ s.pwr.shutdown = none ∧
      startConditions s = true) ∧
    (∃ (s : State), startConditions s = false) ∧
    (∃ (s : State) (env : BootEnv), s.mode = .boot ∧ s.resetHeld = false ∧ s.pwr.aoOn = true ∧ s.bootStep = 5 ∧ env.badDomains = 0) ∧
    (∃ (s : State), s.mode = .selftest ∧ s.active.valid = true ∧ s.ridge.committed = false ∧ phase2Open s = true ∧ tableStill s = false ∧
      s.pair.vecDone = 0 ∧ s.active.image.ridgeDigest ≠ s.active.image.thatchDigest) ∧
    (∃ (s : State) (v : Config.RefVec), (s.mode = .selftest ∧ s.active.valid = true ∧ s.ridge.committed = false ∧ phase2Open s = true ∧
      tableStill s = false ∧ s.pair.vecDone < 64) ∧ s.active.image.vectors[s.pair.vecDone]? = some v) ∧
    (∃ (s : State), s.mode = .selftest ∧ (s.active.valid = false ∨ s.ridge.committed = true ∨ phase2Open s = false)) :=
  ⟨⟨(wMode .selftest wS), by decide +kernel⟩,
   ⟨(wMode .selftest wS), ({ code := fcRidgeEccDed, arg := 0 }), by decide +kernel⟩,
   ⟨({ (wMode .selftest wS) with thatchMem := { State.reset.thatchMem with rows := [wRow] } }), by decide +kernel⟩,
   ⟨({ (wTb 99999950000 (wMode .selftest wS)) with active := { wS.active with valid := true, image := { Image.empty with vectors := [wVec], split := false } }  }
     : State), by decide +kernel⟩,
   ⟨({ wS with mode := .safeHold, pair := { wS.pair with vecOk := true }, active := { wS.active with valid := true }, tick := { wS.tick with boundary := 100000000000, began := true } }),
     by decide +kernel⟩,
   ⟨wS, by decide +kernel⟩,
   ⟨({ (wMode .boot wS) with bootStep := 5 }), wEnv, by decide +kernel⟩,
   ⟨({ (wTb 99999950000 (wMode .selftest wS)) with active := { wS.active with valid := true, image := { Image.empty with vectors := [wVec], ridgeDigest := 1 } }  }
     : State), by decide +kernel⟩,
   ⟨({ (wTb 99999950000 (wMode .selftest wS)) with active := { wS.active with valid := true, image := { Image.empty with vectors := [wVec], split := false } }  }
     : State), wVec, by decide +kernel, rfl⟩,
   ⟨(wMode .selftest wS), by decide +kernel⟩⟩

/-- States and operands that meet the hypotheses of EnginesAndRegulators, one for each of its clauses that has any. -/
theorem witness_EnginesAndRegulators :
    (∃ (s : State) (e : Engine), supervised e s = true ∧ tableStill s = false) ∧
    (∃ (s : State) (e : Engine), (engineOf e s).up = false ∧ (engineOf e s).down = false ∧ (engineOf e s).misses ≠ [] ∧ s.mode ≠ .lull ∧
      s.resetHeld = false ∧ s.pwr.aoOn = true ∧ s.mode ≠ .configure ∧ s.mode ≠ .verify ∧ s.mode ≠ .service ∧ (e = .gable ∨ s.gableE.up =
      true) ∧ (e = .ridgeB → s.pair.split = true ∧ s.pair.joinBusy = false ∧ s.mode ≠ .lockout ∧ ∀ f ∈ s.faults ++ s.unlisted, f.cls ≠ .h))
      ∧
    (∃ (s : State), (s.mode = .lockout ∨ anyClassH s = true)) ∧
    (∃ (s : State) (d : Fin 10), s.pwr.domains.getLsbD d = true ∧ tableStill s = false ∧ d.val ∈ [0, 1, 2, 6, 7]) ∧
    (∃ (s : State), tableStill s = false ∧ s.pwr.domains.getLsbD 4 = true) ∧
    (∃ (s : State), tableStill s = false ∧ s.pwr.domains.getLsbD 3 = true) ∧
    (∃ (s : State), s.pwr.domains.getLsbD 5 = true ∧ s.gableE.up = true ∧ tableStill s = false) ∧
    (∃ (s : State), s.pwr.domains.getLsbD 8 = true) ∧
    (∃ (s : State), s.pwr.domains.getLsbD 9 = true) ∧
    (∃ (s : State) (d : Fin 10), s.pwr.domains.getLsbD d = false) ∧
    (∃ (s : State), s.pwr.aoOn = true ∧ s.resetHeld = false ∧ s.mode ≠ .off ∧ s.mode ≠ .backup ∧ s.mode ≠ .lull) :=
  ⟨⟨wS, (.gable), by decide +kernel⟩,
   ⟨({ wS with n0 := { EngineSt.reset with misses := [5], restarts := 255 } }), (Engine.n0), by decide +kernel⟩,
   ⟨(wMode .lockout { wS with ridgeB := { EngineSt.reset with misses := [5] }, pair := { wS.pair with split := true } }), by
     decide +kernel⟩,
   ⟨wS, (2 : Fin 10), by decide +kernel⟩,
   ⟨wS, by decide +kernel⟩,
   ⟨wS, by decide +kernel⟩,
   ⟨wS, by decide +kernel⟩,
   ⟨wS, by decide +kernel⟩,
   ⟨wS, by decide +kernel⟩,
   ⟨(wDom 0x37F wS), (7 : Fin 10), by decide +kernel⟩,
   ⟨wS, by decide +kernel⟩⟩

/-- States and operands that meet the hypotheses of TickBoundaries, one for each of its clauses that has any. -/
theorem witness_TickBoundaries :
    (∃ (s : State), boundaryDue s = true ∧ s.pwr.shutdown = none ∧ (s.mode = .selftest → ∀ v, s.hPend = some v → s.tb.count.toNat < v)) ∧
    (∃ (s : State) (cycles : Nat), boundaryDue s = true ∧ s.pwr.shutdown = none ∧ s.tick.began = true ∧ s.tick.silentT = false ∧
      s.pwr.domains.getLsbD 6 = true ∧ tableStill s = false ∧ cyclesInside s cycles = false) ∧
    (∃ (s : State) (v : Nat), boundaryDue s = true ∧ s.pwr.shutdown = none ∧ s.hPend = some v ∧ v ≤ s.tb.count.toNat ∧ s.mode ≠ .lockout ∧
      (s.tick.pendClk = none ∨ ownsMode s = false)) ∧
    (∃ (s : State) (m : Mode), boundaryDue s = true ∧ s.pwr.shutdown = none ∧ s.hPend = none ∧ s.want = some m ∧ s.mode.runs = false ∧
      s.tick.pendClk = none ∧ s.gable.held = none ∧ s.pair.splitAt = none) ∧
    (∃ (s : State) (m : Mode), s.pwr.shutdown = none ∧ s.hPend = none ∧ s.want = some m ∧ (s.mode.runs = true → holdCond s = false)) ∧
    (∃ (s : State) (m : Mode), s.pwr.shutdown = none ∧ s.hPend = none ∧ s.want = some m ∧ (s.mode.runs = true → holdCond s = false) ∧ m ≠
      .verify) ∧
    (∃ (s : State), s.pwr.shutdown = none ∧ s.hPend = none ∧ s.mode.runs = true ∧ holdCond s = true) ∧
    (∃ (s : State), s.pwr.shutdown = none ∧ s.hPend = none ∧ s.mode.runs = true ∧ holdCond s = true ∧ s.want = some .configure) ∧
    (∃ (s : State), s.pwr.shutdown = none ∧ s.hPend = none ∧ s.want = none ∧ holdCond s = false) ∧
    (∃ (s : State), s.pwr.shutdown = none ∧ s.hPend = none ∧ s.want = none ∧ s.mode.runs = false) ∧
    (∃ (s : State) (c : ClkStep), boundaryDue s = true ∧ s.tick.pendClk = some c ∧ s.tick.clk.num < c.num ∧ ownsMode s = false) ∧
    (∃ (s : State) (c : ClkStep), boundaryDue s = true ∧ s.tick.pendClk = some c ∧ c.num < s.tick.clk.num) ∧
    (∃ (s : State) (x : W64), boundaryDue s = true ∧ s.pwr.shutdown = some x ∧ s.pwr.b1 = none ∧ x.toNat + 100 ≤ s.tb.count.toNat ∧
      s.ridge.latch.cmds = 0 ∧ s.thatch.latch.cmds = 0 ∧ s.ridge.late = none ∧ s.thatch.late = none) ∧
    (∃ (s : State), boundaryDue s = false) :=
  ⟨⟨wS, by decide +kernel⟩,
   ⟨({ wS with tick := { wS.tick with began := true } }), (30000 : Nat), by decide +kernel⟩,
   ⟨({ wS with hPend := some 100000000000, want := some .configure }), (100000000000 : Nat), by decide +kernel⟩,
   ⟨(wMode .safeHold { wS with want := some .configure }), (Mode.configure), by decide +kernel⟩,
   ⟨(wMode .safeHold { wS with want := some .configure }), (Mode.configure), by decide +kernel⟩,
   ⟨(wMode .safeHold { wS with want := some .configure }), (Mode.configure), by decide +kernel⟩,
   ⟨(raise fcTempLimit 0 wS), by decide +kernel⟩,
   ⟨(raise fcTempLimit 0 { (wG (fun g => { g with cand := some wCand }) wS) with want := some .configure }), by decide +kernel⟩,
   ⟨wS, by decide +kernel⟩,
   ⟨(wMode .safeHold wS), by decide +kernel⟩,
   ⟨({ wS with tick := { wS.tick with pendClk := some .c200 } }), (ClkStep.c200), by decide +kernel⟩,
   ⟨({ wS with tick := { wS.tick with clk := .c300, pendClk := some .c400 } }), (ClkStep.c400), by decide +kernel⟩,
   ⟨(wP (fun p => { p with shutdown := some 99999999900 }) wS), (99999999900 : W64), by decide +kernel⟩,
   ⟨(wTb 100000000001 wS), by decide +kernel⟩⟩

/-- States and operands that meet the hypotheses of OutboundFrames, one for each of its clauses that has any. -/
theorem witness_OutboundFrames :
    (∃ (s : State) (lane : Lane) (f : OutFrame), takesFrames (laneOf lane s) = true ∧ (chanOf lane s).tx.ftype ≠ 0 ∧ (laneOf lane s).inTx =
      none ∧ outSound f = true ∧ seqNext (laneOf lane s).ref f.seq = true) ∧
    (∃ (s : State) (lane : Lane) (f : OutFrame), takesFrames (laneOf lane s) = true ∧ (chanOf lane s).tx.ftype ≠ 0 ∧ (laneOf lane s).inTx =
      none ∧ (outSound f = false ∨ seqNext (laneOf lane s).ref f.seq = false)) ∧
    (∃ (s : State) (lane : Lane), (laneOf lane s).silent = true ∧ (laneOf lane s).resetLevel = false ∧ (chanOf lane s).tx.ftype ≠ 0 ∧
      (laneOf lane s).inTx = none) ∧
    (∃ (s : State) (lane : Lane), ((laneOf lane s).resetLevel = true ∨ (chanOf lane s).tx.ftype = 0)) :=
  ⟨⟨(wTx .t (wLive wS)), (Lane.t), (wOut .t 1 9 0xFFFFFFF), by decide +kernel⟩,
   ⟨(wTx .t (wLive wS)), (Lane.t), ({ wOut .t 1 9 0xFFFFFFF with crc := 0 }), by decide +kernel⟩,
   ⟨(wTx .p (wLane .p (fun l => { l with silent := true, resetLevel := false }) wS)), Lane.p, by decide +kernel⟩,
   ⟨wS, Lane.p, by decide +kernel⟩⟩

/-- States and operands that meet the hypotheses of InboundFramesAndEvaluation, one for each of its clauses that has any. -/
theorem witness_InboundFramesAndEvaluation :
    (∃ (s : State) (f : InFrame), (s.ridge.tx.ftype ≠ 0 ∧ s.ridge.frozen = false ∧ s.ridge.frameOk = false ∧ s.ridge.evaluated = false ∧
      f.header.getLsbD 10 = false ∧ s.mode.evaluates = true) ∧ s.laneP.inTx = some f ∧ inSound .p f = true ∧ (∀ e, s.ridge.echoDue = some e
      → f.echo = e)) ∧
    (∃ (s : State) (f : InFrame), (s.thatch.tx.ftype ≠ 0 ∧ s.thatch.frozen = false ∧ s.thatch.frameOk = false ∧ s.thatch.evaluated = false
      ∧ f.header.getLsbD 10 = false) ∧ s.laneT.inTx = some f ∧ inSound .t f = true ∧ (∀ e, s.thatch.echoDue = some e → f.echo = e)) ∧
    (∃ (s : State) (lane : Lane) (g : InFrame), ((chanOf lane s).tx.ftype ≠ 0 ∧ (chanOf lane s).frozen = false ∧ (chanOf lane s).frameOk =
      false ∧ (chanOf lane s).evaluated = false ∧ tableStill s = false) ∧ inSound lane g = false) ∧
    (∃ (s : State), s.thatch.frameOk = true ∧ s.thatch.frozen = false ∧ s.thatch.evaluated = false ∧ s.mode.evaluates = true) ∧
    (∃ (s : State) (cycles : Nat), s.thatch.frameOk = true ∧ s.thatch.frozen = false ∧ s.thatch.evaluated = false ∧ tableStill s = false ∧
      2048 < cycles) ∧
    (∃ (s : State) (cycles : Nat), (s.thatch.frameOk = false ∨ cycles < 2048)) :=
  ⟨⟨(wTx .p (wLane .p (fun x => { x with inTx := some (wIn .p 0) }) wS)), (wIn .p 0), by decide +kernel, rfl, wIn_sound .p, all_of (by
    decide +kernel)⟩,
   ⟨(wTx .t (wLane .t (fun x => { x with inTx := some (wIn .t 0) }) wS)), (wIn .t 0), by decide +kernel, rfl, wIn_sound .t, all_of (by
     decide +kernel)⟩,
   ⟨(wTx .p wS), (Lane.p), ({ wIn .p 0 with reserved := 1 }), by decide +kernel, by simp [inSound]⟩,
   ⟨(wChan .t (fun c => { c with frameOk := true, passAt := 99999940000 }) wS), by decide +kernel⟩,
   ⟨(wChan .t (fun c => { c with frameOk := true, passAt := 99999940000 }) wS), (2049 : Nat), by decide +kernel⟩,
   ⟨(wChan .t (fun c => { c with frameOk := true, passAt := 99999940000 }) wS), (2047 : Nat), by decide +kernel⟩⟩

/-- States and operands that meet the hypotheses of CrossCompareCommitsOnlyAgreement, one for each of its clauses that has any. -/
theorem witness_CrossCompareCommitsOnlyAgreement :
    (∃ (s : State), bothReady s = true ∧ s.mode.evaluates = true ∧ phase2Open s = true ∧ tableStill s = false) ∧
    (∃ (s : State), s.mode ≠ .selftest ∧ (bothReady s = false ∨ phase2Open s = false)) :=
  ⟨⟨(wTb 99999950000 (wChan .p (fun c => { c with evaluated := true, record := wRec [1, 5, 0] }) (wChan .t (fun c =>
    { c with evaluated := true, record := wRec [1, 5, 0] }) wS))), by decide +kernel⟩,
   ⟨wS, by decide +kernel⟩⟩

/-- States and operands that meet the hypotheses of ChannelSupervision, one for each of its clauses that has any. -/
theorem witness_ChannelSupervision :
    (∃ (s : State), s.tick.running = true ∧ tableStill s = false ∧ overrunRg s = true) ∧
    (∃ (s : State), s.tick.running = true ∧ tableStill s = false ∧ s.thatch.frameOk = true ∧ s.thatch.evaluated = false ∧
      s.thatch.passAt.toNat + 6210 ≤ s.tb.count.toNat) ∧
    (∃ (s : State), s.tick.running = true ∧ tableStill s = false ∧ s.tick.silentT = false ∧ boundaryLate s = true) ∧
    (∃ (s : State), s.tick.running = true ∧ tableStill s = false ∧ s.tick.silentT = false ∧ genMissing s = true) ∧
    (∃ (s : State) (r : Config.ThatchRow), s.tick.running = true ∧ tableStill s = false ∧ s.pwr.domains.getLsbD 6 = true ∧
      s.thatchMem.rows[s.thatchMem.scan % s.thatchMem.rows.length]? = some r) ∧
    (∃ (s : State), overrunRg s = false) ∧
    (∃ (s : State), genMissing s = false) ∧
    (∃ (s : State), boundaryLate s = false) ∧
    (∃ (s : State) (lane : Lane), s.tick.running = true ∧ tableStill s = false ∧ s.mode.evaluates = true ∧ (chanOf lane s).frozen = false ∧
      (chanOf (otherLane lane) s).evaluated = false ∧ phase3At lane s ≤ s.tb.count.toNat) ∧
    (∃ (s : State), ridgeRuns s = true ∧ tableStill s = false ∧ s.pair.split = false ∧ s.pair.firewall = false ∧ s.pair.diverged = false) ∧
    (∃ (s : State) (m : TcmId), ridgeRuns s = true ∧ tableStill s = false ∧ Memory.wf (tcmOf m s) = true) ∧
    (∃ (s : State), s.pair.faultLine = true ∧ s.tick.running = true ∧ s.mode ≠ .lull ∧ s.thatch.frozen = false) ∧
    (∃ (s : State) (units : Nat), s.tick.running = true ∧ s.mode ≠ .lull ∧ s.tick.silentT = false ∧ pulseInside s units = true) ∧
    (∃ (s : State) (units : Nat), s.tick.running = true ∧ tableStill s = false ∧ s.tick.silentT = false ∧ pulseInside s units = false) ∧
    (∃ (s : State) (act : DebugAct), act ≠ .read ∧ debugAllowed s = true ∧ tableStill s = false ∧ s.pair.diverged = false) ∧
    (∃ (s : State) (cycles : Nat), s.thatch.frameOk = true ∧ s.thatch.frozen = false ∧ s.thatch.evaluated = false ∧ tableStill s = false ∧
      s.pwr.shutdown = none ∧ s.mode ≠ .lockout ∧ s.hPend = none ∧ hasFault s fcTickOverrunTh 0 = false ∧ 2048 < cycles) ∧
    (∃ (s : State), s.tick.running = true ∧ tableStill s = false ∧ s.pwr.shutdown ≠ none ∧ overrunRg s = true) :=
  ⟨⟨wS, by decide +kernel⟩,
   ⟨(wChan .t (fun c => { c with frameOk := true, passAt := 99999940000 }) wS), by decide +kernel⟩,
   ⟨(wTb 100000005000 wS), by decide +kernel⟩,
   ⟨(wTb 100000005000 wS), by decide +kernel⟩,
   ⟨({ wS with thatchMem := { State.reset.thatchMem with rows := [wRow, wRow], scan := 1 } }), wRow, by decide +kernel⟩,
   ⟨(wTb 99999950000 wS), by decide +kernel⟩,
   ⟨wS, by decide +kernel⟩,
   ⟨wS, by decide +kernel⟩,
   ⟨wS, Lane.p, by decide +kernel⟩,
   ⟨wS, by decide +kernel⟩,
   ⟨wS, TcmId.dataA, by decide +kernel⟩,
   ⟨({ wS with pair := { wS.pair with faultLine := true } }), by decide +kernel⟩,
   ⟨wS, (100000 : Nat), by decide +kernel⟩,
   ⟨wS, (105001 : Nat), by decide +kernel⟩,
   ⟨({ wS with slate := { wS.slate with readDone := true } }), (DebugAct.halt), by decide +kernel⟩,
   ⟨(wChan .t (fun c => { c with frameOk := true, passAt := 99999940000 }) wS), (2049 : Nat), by decide +kernel⟩,
   ⟨(wP (fun p => { p with shutdown := some 5 }) wS), by decide +kernel⟩⟩

/-- States and operands that meet the hypotheses of FieldSamples, one for each of its clauses that has any. -/
theorem witness_FieldSamples :
    (∃ (s : State), s.pwr.domains.getLsbD 1 = true) ∧
    (∃ (s : State), s.pwr.domains.getLsbD 1 = false) :=
  ⟨⟨wS, by decide +kernel⟩,
   ⟨(wDom 0x3FD wS), by decide +kernel⟩⟩

/-- States and operands that meet the hypotheses of FiltersBandsAndSupplies, one for each of its clauses that has any. -/
theorem witness_FiltersBandsAndSupplies :
    (∃ (s : State) (n : Fin 48), s.field.inp[n].cand ≠ s.field.inp[n].filt ∧ max (fcInFilter s.laneP n) 1 < s.field.inp[n].cnt) ∧
    (∃ (s : State) (n : Fin 48), s.field.inp[n].cnt ≤ max (fcInFilter s.laneP n) 1) ∧
    (∃ (s : State) (n : Fin 48) (b : BitVec 2), s.field.inp[n].bandCand = some b ∧ s.field.inp[n].offClosed = 0 ∧ max (fcInFilter s.laneP
      n) 32 < s.field.inp[n].bandCnt) ∧
    (∃ (s : State) (n : Fin 48), max (fcInFilter s.laneP n) 32 + 1 < s.field.inp[n].offClosed) ∧
    (∃ (s : State) (n : Fin 48), 80 ≤ s.field.inp[n].disagree ∧ tableStill s = false) ∧
    (∃ (s : State) (n : Fin 48), max (fcInFilter s.laneP n) 32 + 1 < s.field.inp[n].onBreak ∧ tableStill s = false) ∧
    (∃ (s : State) (n : Fin 48), s.field.inp[n].disagree < 80) ∧
    (∃ (s : State) (k : Fin 7), s.field.sup[k].st = 2 ∧ 34 ≤ s.field.sup[k].dip) ∧
    (∃ (s : State) (k : Fin 7), s.field.sup[k].st = 3 ∧ 1601 ≤ s.field.sup[k].good) ∧
    (∃ (s : State) (k : Fin 7), 80 ≤ s.field.sup[k].diff ∧ tableStill s = false) ∧
    (∃ (s : State) (k : Fin 7), s.field.sup[k].dip < 34) ∧
    (∃ (s : State) (k : Fin 7), s.field.sup[k].good < 1601) :=
  ⟨⟨(wInp 3 (fun x => { x with cand := true, cnt := 49 }) (wEntries [(3, 2 * 2 ^ 29 + 1 * 2 ^ 24 + 48 * 2 ^ 10), (4, 2 ^ 29), (5, 4 * 2 ^
    29 + 1 * 2 ^ 24)] [(0, 2 * 2 ^ 30 + 500)] [(0, 2 ^ 31 + 2 ^ 29), (1, 2 ^ 31), (2, 0)] [] wS)), (3 : Fin 48), by decide +kernel⟩,
   ⟨(wInp 3 (fun x => { x with cand := true, cnt := 48 }) (wEntries [(3, 2 * 2 ^ 29 + 1 * 2 ^ 24 + 48 * 2 ^ 10), (4, 2 ^ 29), (5, 4 * 2 ^
     29 + 1 * 2 ^ 24)] [(0, 2 * 2 ^ 30 + 500)] [(0, 2 ^ 31 + 2 ^ 29), (1, 2 ^ 31), (2, 0)] [] wS)), (3 : Fin 48), by decide +kernel⟩,
   ⟨(wInp 3 (fun x => { x with bandCand := some 2, bandCnt := 49 }) (wEntries [(3, 2 * 2 ^ 29 + 1 * 2 ^ 24 + 48 * 2 ^ 10), (4, 2 ^ 29), (5,
     4 * 2 ^ 29 + 1 * 2 ^ 24)] [(0, 2 * 2 ^ 30 + 500)] [(0, 2 ^ 31 + 2 ^ 29), (1, 2 ^ 31), (2, 0)] [] wS)), (3 : Fin 48), (2 : BitVec 2),
     by decide +kernel⟩,
   ⟨(wInp 3 (fun x => { x with offClosed := 50 }) (wEntries [(3, 2 * 2 ^ 29 + 1 * 2 ^ 24 + 48 * 2 ^ 10), (4, 2 ^ 29), (5, 4 * 2 ^ 29 + 1 *
     2 ^ 24)] [(0, 2 * 2 ^ 30 + 500)] [(0, 2 ^ 31 + 2 ^ 29), (1, 2 ^ 31), (2, 0)] [] wS)), (3 : Fin 48), by decide +kernel⟩,
   ⟨(wInp 47 (fun x => { x with disagree := 80 }) (wEntries [(3, 2 * 2 ^ 29 + 1 * 2 ^ 24 + 48 * 2 ^ 10), (4, 2 ^ 29), (5, 4 * 2 ^ 29 + 1 *
     2 ^ 24)] [(0, 2 * 2 ^ 30 + 500)] [(0, 2 ^ 31 + 2 ^ 29), (1, 2 ^ 31), (2, 0)] [] wS)), (47 : Fin 48), by decide +kernel⟩,
   ⟨(wInp 3 (fun x => { x with onBreak := 50 }) (wEntries [(3, 2 * 2 ^ 29 + 1 * 2 ^ 24 + 48 * 2 ^ 10), (4, 2 ^ 29), (5, 4 * 2 ^ 29 + 1 * 2
     ^ 24)] [(0, 2 * 2 ^ 30 + 500)] [(0, 2 ^ 31 + 2 ^ 29), (1, 2 ^ 31), (2, 0)] [] wS)), (3 : Fin 48), by decide +kernel⟩,
   ⟨(wInp 3 (fun x => { x with disagree := 79 }) (wEntries [(3, 2 * 2 ^ 29 + 1 * 2 ^ 24 + 48 * 2 ^ 10), (4, 2 ^ 29), (5, 4 * 2 ^ 29 + 1 * 2
     ^ 24)] [(0, 2 * 2 ^ 30 + 500)] [(0, 2 ^ 31 + 2 ^ 29), (1, 2 ^ 31), (2, 0)] [] wS)), (3 : Fin 48), by decide +kernel⟩,
   ⟨(wSup 6 (fun x => { x with st := 2, dip := 34 }) wS), (6 : Fin 7), by decide +kernel⟩,
   ⟨(wSup 6 (fun x => { x with st := 3, good := 1601 }) wS), (6 : Fin 7), by decide +kernel⟩,
   ⟨(wSup 6 (fun x => { x with diff := 80 }) wS), (6 : Fin 7), by decide +kernel⟩,
   ⟨(wSup 6 (fun x => { x with st := 2, dip := 33 }) wS), (6 : Fin 7), by decide +kernel⟩,
   ⟨(wSup 6 (fun x => { x with st := 3, good := 1600 }) wS), (6 : Fin 7), by decide +kernel⟩⟩

/-- States and operands that meet the hypotheses of ResetLevelAndSilence, one for each of its clauses that has any. -/
theorem witness_ResetLevelAndSilence :
    (∃ (s : State), s.mode = .selftest ∧ s.resetHeld = false ∧ s.laneP.resetLevel = true ∧ s.laneT.resetLevel = true) ∧
    (∃ (s : State) (lane : Lane), takesFrames (laneOf lane s) = true ∧ (laneOf lane s).since.toNat + (2 * tickUnits s.tick.sel.toNat +
      10000) ≤ s.tb.count.toNat) ∧
    (∃ (s : State) (lane : Lane), s.tb.count.toNat < (laneOf lane s).since.toNat + (2 * tickUnits s.tick.sel.toNat + 10000)) ∧
    (∃ (s : State) (ns : Nat), s.pwr.aoOn = true ∧ s.mode ≠ .off ∧ s.mode ≠ .backup ∧ 10000 ≤ ns) ∧
    (∃ (s : State), s.mode ≠ .selftest) :=
  ⟨⟨(wMode .selftest wS), by decide +kernel⟩,
   ⟨(wLane .t (fun l => { l with since := 99999790000 }) (wEntries [(3, 2 * 2 ^ 29 + 1 * 2 ^ 24 + 48 * 2 ^ 10), (4, 2 ^ 29), (5, 4 * 2 ^ 29
     + 1 * 2 ^ 24)] [(0, 2 * 2 ^ 30 + 500)] [(0, 2 ^ 31 + 2 ^ 29), (1, 2 ^ 31), (2, 0)] [] wS)), (.t), by decide +kernel⟩,
   ⟨(wLane .t (fun l => { l with since := 99999790001 }) (wEntries [(3, 2 * 2 ^ 29 + 1 * 2 ^ 24 + 48 * 2 ^ 10), (4, 2 ^ 29), (5, 4 * 2 ^ 29
     + 1 * 2 ^ 24)] [(0, 2 * 2 ^ 30 + 500)] [(0, 2 ^ 31 + 2 ^ 29), (1, 2 ^ 31), (2, 0)] [] wS)), (.t), by decide +kernel⟩,
   ⟨wS, (10000 : Nat), by decide +kernel⟩,
   ⟨wS, by decide +kernel⟩⟩

/-- States and operands that meet the hypotheses of GustPulsesAndTpoOverload, one for each of its clauses that has any. -/
theorem witness_GustPulsesAndTpoOverload :
    (∃ (s : State) (m : Fin 16) (g : GustEv), agreedGust s m = some g ∧ g.code = 1 ∧ g.off.toNat * 10 < tickUs s ∧ mayPulse s m = true ∧
      max s.laneP.det.toNat s.laneT.det.toNat + g.off.toNat * 1000 ≤ s.tb.count.toNat) ∧
    (∃ (s : State) (m : Fin 16), agreedGust s m = none) ∧
    (∃ (s : State) (m : Fin 16), s.field.tpo[m].phase = 1 ∧ s.field.tpo[m].t0.toNat + 15000 ≤ s.tb.count.toNat) ∧
    (∃ (s : State) (m : Fin 16), s.field.tpo[m].phase = 2 ∧ tableStill s = false) ∧
    (∃ (s : State) (m : Fin 16), s.field.tpo[m].phase = 3 ∧ s.field.tpo[m].t0.toNat + (s.field.tpo[m].width + 150) * 100 ≤
      s.tb.count.toNat) ∧
    (∃ (s : State) (m : Fin 16), fcTpoMode s.laneP m ≠ 0 ∧ s.laneP.resetLevel = false ∧ (s.field.tpo[m].overload = false ∨
      s.field.tpo[m].restart ≠ none) ∧ tableStill s = false) ∧
    (∃ (s : State) (m : Fin 16) (x : W64), s.field.tpo[m].overload = true ∧ s.field.tpo[m].restart = some x ∧ x.toNat + 10000000 ≤
      s.tb.count.toNat ∧ tableStill s = false) ∧
    (∃ (s : State) (m : Fin 16), s.field.tpo[m].restart = none) :=
  ⟨⟨(wInp 3 (fun x => { x with cand := true }) (wTakes (fun l =>
    { wOut l 1 9 0 with gust := Vector.replicate 16 { code := 1, off := 10 } }) (wEntries [(3, 2 * 2 ^ 29 + 1 * 2 ^ 24 + 48 * 2 ^ 10), (4,
    2 ^ 29), (5, 4 * 2 ^ 29 + 1 * 2 ^ 24)] [(0, 2 * 2 ^ 30 + 500)] [(0, 2 ^ 31 + 2 ^ 29), (1, 2 ^ 31), (2, 0)] [] wS))), (0 : Fin 16),
    ({ code := 1, off := 10 }), by decide +kernel⟩,
   ⟨wS, (0 : Fin 16), by decide +kernel⟩,
   ⟨(wTpo 0 (fun x => { x with phase := 1, t0 := 99999985000 }) (wInp 3 (fun x => { x with onAtT0 := true }) (wEntries [(3, 2 * 2 ^ 29 + 1
     * 2 ^ 24 + 48 * 2 ^ 10), (4, 2 ^ 29), (5, 4 * 2 ^ 29 + 1 * 2 ^ 24)] [(0, 2 * 2 ^ 30 + 500)] [(0, 2 ^ 31 + 2 ^ 29), (1, 2 ^ 31), (2,
     0)] [] wS))), (0 : Fin 16), by decide +kernel⟩,
   ⟨(wTpo 0 (fun x => { x with phase := 2, width := 500, lowRun := 1, t0 := 99999950000 }) (wInp 3 (fun x => { x with onAtT0 := true })
     (wEntries [(3, 2 * 2 ^ 29 + 1 * 2 ^ 24 + 48 * 2 ^ 10), (4, 2 ^ 29), (5, 4 * 2 ^ 29 + 1 * 2 ^ 24)] [(0, 2 * 2 ^ 30 + 500)] [(0, 2 ^ 31
     + 2 ^ 29), (1, 2 ^ 31), (2, 0)] [] wS))), (0 : Fin 16), by decide +kernel⟩,
   ⟨(wTpo 0 (fun x => { x with phase := 3, width := 500, t0 := 99999935000 }) (wInp 3 (fun x => { x with onAtT0 := true }) (wEntries [(3, 2
     * 2 ^ 29 + 1 * 2 ^ 24 + 48 * 2 ^ 10), (4, 2 ^ 29), (5, 4 * 2 ^ 29 + 1 * 2 ^ 24)] [(0, 2 * 2 ^ 30 + 500)] [(0, 2 ^ 31 + 2 ^ 29), (1, 2
     ^ 31), (2, 0)] [] wS))), (0 : Fin 16), by decide +kernel⟩,
   ⟨(wEntries [(3, 2 * 2 ^ 29 + 1 * 2 ^ 24 + 48 * 2 ^ 10), (4, 2 ^ 29), (5, 4 * 2 ^ 29 + 1 * 2 ^ 24)] [(0, 2 * 2 ^ 30 + 500)] [(0, 2 ^ 31 +
     2 ^ 29), (1, 2 ^ 31), (2, 0)] [] wS), (0 : Fin 16), by decide +kernel⟩,
   ⟨(wTpo 0 (fun x => { x with overload := true, restart := some 99990000000 }) (wInp 3 (fun x => { x with onAtT0 := true }) (wEntries [(3,
     2 * 2 ^ 29 + 1 * 2 ^ 24 + 48 * 2 ^ 10), (4, 2 ^ 29), (5, 4 * 2 ^ 29 + 1 * 2 ^ 24)] [(0, 2 * 2 ^ 30 + 500)] [(0, 2 ^ 31 + 2 ^ 29), (1,
     2 ^ 31), (2, 0)] [] wS))), (0 : Fin 16), (99990000000 : W64), by decide +kernel⟩,
   ⟨(wEntries [(3, 2 * 2 ^ 29 + 1 * 2 ^ 24 + 48 * 2 ^ 10), (4, 2 ^ 29), (5, 4 * 2 ^ 29 + 1 * 2 ^ 24)] [(0, 2 * 2 ^ 30 + 500)] [(0, 2 ^ 31 +
     2 ^ 29), (1, 2 ^ 31), (2, 0)] [] wS), (0 : Fin 16), by decide +kernel⟩⟩

/-- States and operands that meet the hypotheses of DarkTests, one for each of its clauses that has any. -/
theorem witness_DarkTests :
    (∃ (s : State) (lane : Lane) (o : Fin 28), s.mode.runs = true ∧ darkDueAt lane o.val (s.tick.count + 1).toNat s = true) ∧
    (∃ (s : State) (lane : Lane) (o : Fin 28), darkDueAt lane o.val (s.tick.count + 1).toNat s = false) ∧
    (∃ (s : State) (lane : Lane) (d : DarkTest), (laneOf lane s).dt = some d ∧ d.opened = false ∧ takesFrames (laneOf lane s) = true ∧
      (laneOf lane s).det.toNat + 15000 ≤ s.tb.count.toNat) ∧
    (∃ (s : State) (lane : Lane) (d : DarkTest), (laneOf lane s).dt = some d ∧ d.opened = true ∧ (laneOf lane s).dtUntil.toNat - 5000 ≤
      s.tb.count.toNat) ∧
    (∃ (s : State) (lane : Lane), (laneOf lane s).dt = none) :=
  ⟨⟨({ (wImg [wF .outTest 0 0, wF .bOutput 0 0] [wInst 0x13 [.none]] { wS with wth := { wS.wth with interval := Vector.replicate 28 1000000 } }) with tick := { ((wImg [wF .outTest 0 0, wF .bOutput 0 0] [wInst 0x13 [.none]] { wS with wth := { wS.wth with interval := Vector.replicate 28 1000000 } })).tick with count := 999999 } }),
    (.p), (0 : Fin 28), by decide +kernel⟩,
   ⟨wS, Lane.p, (0 : Fin 28), by decide +kernel⟩,
   ⟨(wLane .p (fun x => { x with sw := 0xFFFFFFF, dt := some { out := 27, opened := false } }) (wEntries [(3, 2 * 2 ^ 29 + 1 * 2 ^ 24 + 48
     * 2 ^ 10), (4, 2 ^ 29), (5, 4 * 2 ^ 29 + 1 * 2 ^ 24)] [(0, 2 * 2 ^ 30 + 500)] [(0, 2 ^ 31 + 2 ^ 29), (1, 2 ^ 31), (2, 0)] [] wS)),
     (.p), ({ out := 27, opened := false }), by decide +kernel⟩,
   ⟨(wLane .t (fun x => { x with sw := 0xFFFFFFF, dt := some { out := 2, opened := true }, dtUntil := 100000005000 }) (wEntries [(3, 2 * 2
     ^ 29 + 1 * 2 ^ 24 + 48 * 2 ^ 10), (4, 2 ^ 29), (5, 4 * 2 ^ 29 + 1 * 2 ^ 24)] [(0, 2 * 2 ^ 30 + 500)] [(0, 2 ^ 31 + 2 ^ 29), (1, 2 ^
     31), (2, 0)] [] wS)), (Lane.t), ({ out := 2, opened := true } : DarkTest), by decide +kernel⟩,
   ⟨wS, Lane.p, by decide +kernel⟩⟩

/-- States and operands that meet the hypotheses of OutputSupervision, one for each of its clauses that has any. -/
theorem witness_OutputSupervision :
    (∃ (s : State) (lane : Lane) (o : Fin 28), (laneOf lane s).sw.getLsbD o = true) ∧
    (∃ (s : State) (lane : Lane) (o : Fin 28), (laneOf lane s).sw.getLsbD o = false) ∧
    (∃ (s : State) (lane : Lane) (g : Fin 5), (laneOf lane s).resetLevel = false ∧ 1601 ≤ (laneOf lane s).grpHigh[g]) ∧
    (∃ (s : State) (lane : Lane) (g : Fin 5), 16001 ≤ (laneOf lane s).grpOk[g]) ∧
    (∃ (s : State) (lane : Lane) (g : Fin 5), (laneOf lane s).grpHigh[g] < 1601) ∧
    (∃ (s : State) (lane : Lane) (g : Fin 5), (laneOf lane s).grpOk[g] < 16001) ∧
    (∃ (s : State) (lane : Lane) (k : Fin 4) (ma : Nat), outBlocked s.active.image (24 + k.val) = true ∧ (chanOf lane s).prevCmd.getLsbD
      (24 + k.val) = true ∧ ticksOf (tickUs s) (lookN s.active.image .brkTPull (24 + k.val) 0 200000) ≤ (vget (chanOf lane s).outs (24 +
      k.val) OutCh.reset).onTicks ∧ dtHeld s.tb.count s.laneP (24 + k.val) = false ∧ dtHeld s.tb.count s.laneT (24 + k.val) = false ∧ ma <
      lookN s.active.image .brkIMin (24 + k.val) 0 200 ∧ tableStill s = false) ∧
    (∃ (s : State) (o : Fin 28), tableStill s = false ∧ brightAt s 9 o s.ridge = true) ∧
    (∃ (s : State) (o : Fin 28), tableStill s = false ∧ brightAt s 10 o s.ridge = true) ∧
    (∃ (s : State) (o : Fin 28), brightAt s 9 o s.ridge = false ∧ brightAt s 9 o s.thatch = false) :=
  ⟨⟨(wLane .p (fun x => { x with sw := 0xFFFFFFF, trip := Vector.replicate 28 none }) (wEntries [(3, 2 * 2 ^ 29 + 1 * 2 ^ 24 + 48 * 2 ^
    10), (4, 2 ^ 29), (5, 4 * 2 ^ 29 + 1 * 2 ^ 24)] [(0, 2 * 2 ^ 30 + 500)] [(0, 2 ^ 31 + 2 ^ 29), (1, 2 ^ 31), (2, 0)] [] wS)), (.p), (27
    : Fin 28), by decide +kernel⟩,
   ⟨wS, Lane.p, (0 : Fin 28), by decide +kernel⟩,
   ⟨(wLane .p (fun x => { x with resetLevel := false, groupOver := 0x1F, grpHigh := Vector.replicate 5 1601 }) wS), (Lane.p), (4 : Fin 5),
     by decide +kernel⟩,
   ⟨(wLane .p (fun x => { x with resetLevel := false, groupOver := 0x1F, grpOk := Vector.replicate 5 16001 }) wS), (Lane.p), (4 : Fin 5),
     by decide +kernel⟩,
   ⟨(wLane .p (fun x => { x with resetLevel := false, groupOver := 0x1F, grpHigh := Vector.replicate 5 1600 }) wS), (Lane.p), (4 : Fin 5),
     by decide +kernel⟩,
   ⟨(wLane .p (fun x => { x with resetLevel := false, groupOver := 0x1F, grpOk := Vector.replicate 5 16000 }) wS), (Lane.p), (4 : Fin 5),
     by decide +kernel⟩,
   ⟨(wChan .p (fun c => { c with prevCmd := 0xFFFFFFF, outs := vmap (fun x => { x with onTicks := 200 }) c.outs }) (wImg [wF .bOutput 0 27]
     [wInst 0x13 [.none]] wS)), (.p), (3 : Fin 4), (199 : Nat), by decide +kernel⟩,
   ⟨(wChan .p (fun c => { c with outs := vmap (fun x => { x with sinceProof := 10000000 }) c.outs }) (wImg [wF .outTest 5 1, wF .bOutput 0
     5, wF .outBrightMax 5 1000000] [wInst 0x13 [.none]] wS)), (5 : Fin 28), by decide +kernel⟩,
   ⟨(wChan .p (fun c => { c with outs := vmap (fun x => { x with sinceProof := 100000000 }) c.outs }) (wImg [wF .outTest 5 1, wF .bOutput 0
     5, wF .outBrightMax 5 1000000] [wInst 0x13 [.none]] wS)), (5 : Fin 28), by decide +kernel⟩,
   ⟨wS, (0 : Fin 28), by decide +kernel⟩⟩

/-- States and operands that meet the hypotheses of MotionEngines, one for each of its clauses that has any. -/
theorem witness_MotionEngines :
    (∃ (s : State), motionRuns s = true) ∧
    (∃ (s : State), motionRuns s = false) ∧
    (∃ (s : State) (j : Fin 8), motionRuns s = true ∧ s.motion.pwr[j].st = 1 ∧ (16 ≤ s.motion.pwr[j].bad ∨ 160 ≤ s.motion.pwr[j].lim)) ∧
    (∃ (s : State) (j : Fin 8), s.motion.pwr[j].bad < 16 ∧ s.motion.pwr[j].lim < 160) ∧
    (∃ (s : State) (a : Fin 8), s.mode.evaluates = true ∧ tableStill s = false ∧ ((axesApart (evalCfg s) s.ridge).contains a.val = true ∨
      (axesApart (evalCfg s) s.thatch).contains a.val = true)) :=
  ⟨⟨wS, by decide +kernel⟩,
   ⟨(wDom 0x3FB wS), by decide +kernel⟩,
   ⟨({ wS with motion := { wS.motion with pwr := Vector.replicate 8 { st := 1, volt := 0, cur := 0, bad := 16, lim := 0, good := 0 } } }),
     (7 : Fin 8), by decide +kernel⟩,
   ⟨({ wS with motion := { wS.motion with pwr := Vector.replicate 8 { st := 1, volt := 0, cur := 0, bad := 15, lim := 159, good := 0 } } }),
     (0 : Fin 8), by decide +kernel⟩,
   ⟨(wChan .t (fun c => { c with ax := vmap (fun x => { x with dev := 2 }) c.ax }) (wImg [wF .axisEnable 7 1] [] wS)), (7 : Fin 8), by
     decide +kernel⟩⟩

/-- States and operands that meet the hypotheses of AnalogueConversions, one for each of its clauses that has any. -/
theorem witness_AnalogueConversions :
    (∃ (s : State) (ch : Fin 8) (w : W64), faRuns s = true ∧ fcUacMode (faLane s) ch ≠ 0 ∧ s.fa.ch[ch].winAt = some w ∧ w.toNat + fcConv
      (faLane s) ch ≤ s.tb.count.toNat) ∧
    (∃ (s : State) (ch : Fin 8), (faRuns s = false ∨ fcUacMode (faLane s) ch = 0 ∨ s.fa.ch[ch].winAt = none ∨ (∃ w, s.fa.ch[ch].winAt =
      some w ∧ s.tb.count.toNat < w.toNat + fcConv (faLane s) ch))) ∧
    (∃ (s : State), s.pwr.domains.getLsbD 0 = true ∧ s.fa.inLull = false) ∧
    (∃ (s : State) (ch : Fin 8), s.mode.evaluates = true ∧ tableStill s = false ∧ lookN (evalCfg s) .uacMode ch 0 0 ≠ 0 ∧ cfgConv (evalCfg
      s) ch + cfgT (evalCfg s) < (s.ridge.an[ch].noNew + 1) * cfgT (evalCfg s)) ∧
    (∃ (s : State) (ch : Fin 8), s.ridge.an[ch].has 2 = false ∧ s.thatch.an[ch].has 2 = false ∧ (s.ridge.an[ch].noNew + 1) * cfgT (evalCfg
      s) ≤ cfgConv (evalCfg s) ch + cfgT (evalCfg s) ∧ (s.thatch.an[ch].noNew + 1) * cfgT (evalCfg s) ≤ cfgConv (evalCfg s) ch + cfgT
      (evalCfg s)) :=
  ⟨⟨({ (wEntries [] [] [] [(5, 6 * 2 ^ 28 + 2 ^ 20), (6, 2 ^ 28)] wS) with fa := { wS.fa with ch := Vector.replicate 8 { AnFa.reset with winAt := some 99999900000 } } }),
    (6 : Fin 8), (99999900000 : W64), by decide +kernel⟩,
   ⟨wS, (0 : Fin 8), by decide +kernel⟩,
   ⟨wS, by decide +kernel⟩,
   ⟨(wChan .p (fun c => { c with an := vmap (fun x => { x with noNew := 9999 }) c.an }) (wImg [wF .uacMode 3 1] [] wS)), (3 : Fin 8), by
     decide +kernel⟩,
   ⟨(wImg [wF .uacMode 3 1] [] wS), (3 : Fin 8), by decide +kernel⟩⟩

/-- States and operands that meet the hypotheses of NetworkPortsAndPhase3, one for each of its clauses that has any. -/
theorem witness_NetworkPortsAndPhase3 :
    (∃ (s : State), phase3Due s = true) ∧
    (∃ (s : State), phase3Due s = false) ∧
    (∃ (s : State) (p : NetPort) (h : List Byte) (f : List Byte) (b : List Byte) (proto : Proto), canReceive p s = true ∧ s.tick.running =
      true ∧ macAccepts p (h ++ f) true s = true ∧ telegramOf p (h ++ f) s = some (proto, b) ∧ preCheck1 (evalCfg s) s.active.image p proto
      b = true ∧ ((chanOf (viewLane s) s).buf.filter (fun x => x.port == p)).length < 256) ∧
    (∃ (s : State) (p : NetPort) (h : List Byte) (f : List Byte) (b : List Byte) (proto : Proto), canReceive p s = true ∧ s.tick.running =
      true ∧ macAccepts p (h ++ f) true s = true ∧ telegramOf p (h ++ f) s = some (proto, b) ∧ (256 ≤ ((chanOf (viewLane s) s).buf.filter
      (fun x => x.port == p)).length ∨ (preCheckOff p s = false ∧ preCheck1 (evalCfg s) s.active.image p proto b = false))) ∧
    (∃ (s : State) (p : NetPort) (h : List Byte) (f : List Byte), (canReceive p s = false ∨ s.tick.running = false ∨ macAccepts p (h ++ f)
      true s = false ∨ telegramOf p (h ++ f) s = none)) ∧
    (∃ (s : State) (p : NetPort), canReceive p s = true) ∧
    (∃ (s : State) (p : NetPort), canReceive p s = false) ∧
    (∃ (s : State) (p : NetPort), portPowered p s = true ∧ tableStill s = false ∧ s.gable.up = false) ∧
    (∃ (s : State) (p : NetPort), portPowered p s = true) ∧
    (∃ (s : State) (p : NetPort), portPowered p s = true ∧ tableStill s = false) ∧
    (∃ (s : State) (p : NetPort), portPowered p s = false) ∧
    (∃ (s : State) (p : NetPort) (ip : W32), canSend p s = true ∧ ipOf s.active.image p = some ip.toNat) ∧
    (∃ (s : State) (p : NetPort) (ip : W32), ipOf s.active.image p ≠ some ip.toNat) :=
  ⟨⟨wS, by decide +kernel⟩,
   ⟨(wTb 99999994999 wS), by decide +kernel⟩,
   ⟨(wImg [wF .connDir 3 1, wF .connId 3 77, wF .connLen 3 8] []
     ({ wS with portA := { wS.portA with link := true }, portB := { wS.portB with link := true } })), (NetPort.a), ([]:List Byte),
     wCttFrame, wCtt, Proto.ctt, by decide +kernel⟩,
   ⟨(wImg [wF .connDir 3 1, wF .connId 3 77, wF .connLen 3 8] []
     ({ wS with portA := { wS.portA with link := true }, portB := { wS.portB with link := true } })), (NetPort.a), ([]:List Byte), (wFrame
     0x88B5 [1,2,0,1]), ([1,2,0,1] : List Byte), Proto.ctt, by decide +kernel⟩,
   ⟨({ wS with portA := { wS.portA with link := true }, portB := { wS.portB with link := true } }), (NetPort.a), ([]:List Byte), (wFrame
     0x86DD wCtt), by decide +kernel⟩,
   ⟨({ wS with portA := { wS.portA with link := true }, portB := { wS.portB with link := true } }), (NetPort.a), by decide +kernel⟩,
   ⟨(wG (fun g => { g with up := false }) wS), (NetPort.a), by decide +kernel⟩,
   ⟨(wG (fun g => { g with up := false }) wS), (NetPort.a), by decide +kernel⟩,
   ⟨wS, (NetPort.a), by decide +kernel⟩,
   ⟨wS, (NetPort.a), by decide +kernel⟩,
   ⟨(wDom 0x300 wS), (NetPort.a), by decide +kernel⟩,
   ⟨(wImg [wF .connDir 3 1, wF .connId 3 77, wF .connLen 3 8, wF .netIpA 0 0x0A000001, wF .netIpB 0 0x0A000002] []
     ({ wS with portA := { wS.portA with link := true }, portB := { wS.portB with link := true } })), (NetPort.a), (0x0A000001 : W32), by
     decide +kernel⟩,
   ⟨(wImg [wF .connDir 3 1, wF .connId 3 77, wF .connLen 3 8, wF .netIpA 0 0x0A000001, wF .netIpB 0 0x0A000002] []
     ({ wS with portA := { wS.portA with link := true }, portB := { wS.portB with link := true } })), (NetPort.a), (0x0A000002 : W32), by
     decide +kernel⟩⟩

/-- States and operands that meet the hypotheses of ConnectionExpiries, one for each of its clauses that has any. -/
theorem witness_ConnectionExpiries :
    (∃ (s : State) (k : Fin 128), expiryDue k s = true ∧ isCsf (evalCfg s) k = false ∧ tableStill s = false ∧ s.ridge.frozen = false ∧ (∀ q
      ∈ s.ridge.earlyConn, q.1 ≠ k.val) ∧ s.ridge.conn[k].st = 1 ∧ s.ridge.conn[k].held = [] ∧ cfgTimeout (evalCfg s) k ≤
      s.ridge.conn[k].since + 1) ∧
    (∃ (s : State) (k : Fin 128), s.ridge.frozen = false ∧ s.ridge.conn[k].since + 1 < cfgTimeout (evalCfg s) k) ∧
    (∃ (s : State) (k : Fin 128), expiryDue k s = true ∧ isCsf (evalCfg s) k = true ∧ tableStill s = false ∧ s.ridge.frozen = false ∧ (∀ q
      ∈ s.ridge.earlyConn, q.1 ≠ k.val) ∧ s.ridge.conn[k].st = 1 ∧ cfgWdg (evalCfg s) k ≤ s.ridge.conn[k].since + 1) ∧
    (∃ (s : State) (k : Fin 128), phase3Due s = true ∧ consumes (evalCfg s) k = true ∧ tableStill s = false ∧ s.ridge.frozen = false ∧ (∀ q
      ∈ s.ridge.earlyConn, q.1 ≠ k.val) ∧ (s.ridge.conn[k].st = 2 ∨ s.ridge.conn[k].st = 3) ∧ s.ridge.conn[k].leeRun = true ∧ cfgLee
      (evalCfg s) k ≤ countUp s.ridge.conn[k].lee) ∧
    (∃ (s : State) (k : Fin 128) (x : Copy), expiryDue k s = true ∧ isCsf (evalCfg s) k = false ∧ tableStill s = false ∧ s.ridge.frozen =
      false ∧ (∀ q ∈ s.ridge.earlyConn, q.1 ≠ k.val) ∧ s.ridge.conn[k].st = 1 ∧ s.ridge.conn[k].leeRun = false ∧ s.ridge.conn[k].held = [x]
      ∧ s.ridge.conn[k].stamp.toNat < (tgStamp x.bytes).toNat ∧ copyStale (cfgAge (evalCfg s) k) (hasFault s fcTimeStale 0) x = false ∧
      x.rx.toNat + cfgW (evalCfg s) k * cfgT (evalCfg s) * tUs ≤ (syncAt s s.tb.count).toNat) ∧
    (∃ (s : State) (k : Fin 128), expiryDue k s = true ∧ tableStill s = false ∧ s.ridge.frozen = false ∧ s.mode.runs = true ∧
      s.ridge.conn[k].st = 0 ∧ 3 * cfgTimeout (evalCfg s) k ≤ countUp s.ridge.conn[k].startFor) ∧
    (∃ (s : State) (k : Fin 128), expiryDue k s = false) :=
  ⟨⟨(wChan .p (fun c => { c with conn := vmap (fun n => { n with st := 1, since := 2 }) c.conn }) (wChan .t (fun c =>
    { c with conn := vmap (fun n => { n with st := 1, since := 2 }) c.conn }) (wImg [wF .connDir 3 1, wF .connId 3 77, wF .connLen 3 8] []
    wS))), (3 : Fin 128), by decide +kernel⟩,
   ⟨(wChan .p (fun c => { c with conn := vmap (fun n => { n with st := 1, since := 1 }) c.conn }) (wChan .t (fun c =>
     { c with conn := vmap (fun n => { n with st := 1, since := 1 }) c.conn }) (wImg [wF .connDir 3 1, wF .connId 3 77, wF .connLen 3 8] []
     wS))), (3 : Fin 128), by decide +kernel⟩,
   ⟨(wChan .p (fun c => { c with conn := vmap (fun n => { n with st := 1, since := 99 }) c.conn }) (wChan .t (fun c =>
     { c with conn := vmap (fun n => { n with st := 1, since := 99 }) c.conn }) (wImg [wF .connDir 3 1, wF .connId 3 77, wF .connLen 3 8,
     wF .connProto 3 1] [] wS))), (3 : Fin 128), by decide +kernel⟩,
   ⟨(wChan .p (fun c => { c with conn := vmap (fun n => { n with st := 3, leeRun := true, lee := 9999 }) c.conn }) (wChan .t (fun c =>
     { c with conn := vmap (fun n => { n with st := 3, leeRun := true, lee := 9999 }) c.conn }) (wImg [wF .connDir 3 1, wF .connId 3 77, wF
     .connLen 3 8] [] wS))), (3 : Fin 128), by decide +kernel⟩,
   ⟨(wChan .p (fun c =>
     { c with conn := vmap (fun n => { n with st := 1, held := [({ port := NetPort.a, bytes := cttBytes 1 0x40 77 5 99999800000 [1,2,3,4,5,6,7,8], src := 0, rx := 99999850000 } : Copy)] }) c.conn })
     (wChan .t (fun c =>
     { c with conn := vmap (fun n => { n with st := 1, held := [({ port := NetPort.a, bytes := cttBytes 1 0x40 77 5 99999800000 [1,2,3,4,5,6,7,8], src := 0, rx := 99999850000 } : Copy)] }) c.conn })
     (wImg [wF .connDir 3 1, wF .connId 3 77, wF .connLen 3 8] [] wS))), (3 : Fin 128),
     ({ port := NetPort.a, bytes := cttBytes 1 0x40 77 5 99999800000 [1,2,3,4,5,6,7,8], src := 0, rx := 99999850000 } : Copy), by
     decide +kernel⟩,
   ⟨(wChan .p (fun c => { c with conn := vmap (fun n => { n with startFor := 8 }) c.conn }) (wChan .t (fun c =>
     { c with conn := vmap (fun n => { n with startFor := 8 }) c.conn }) (wImg [wF .connDir 3 1, wF .connId 3 77, wF .connLen 3 8] []
     wS))), (3 : Fin 128), by decide +kernel⟩,
   ⟨(wChan .p (fun c => { c with conn := vmap (fun n => { n with st := 1 }) c.conn }) (wChan .t (fun c =>
     { c with conn := vmap (fun n => { n with st := 1 }) c.conn }) (wImg [wF .connDir 3 1, wF .connId 3 77, wF .connLen 3 8] [] wS))), (4 :
     Fin 128), by decide +kernel⟩⟩

/-- States and operands that meet the hypotheses of CascadeTelegrams, one for each of its clauses that has any. -/
theorem witness_CascadeTelegrams :
    (∃ (s : State), casSends s = true ∧ s.cas.hbSent.toNat + casCycle s.active.image ≤ s.tb.count.toNat) ∧
    (∃ (s : State), casSends s = true ∧ s.cas.agreeSent.toNat + 10000000 ≤ s.tb.count.toNat) ∧
    (∃ (s : State), (casSends s = false ∨ s.tb.count.toNat < s.cas.hbSent.toNat + casCycle s.active.image)) ∧
    (∃ (s : State), (casSends s = false ∨ s.tb.count.toNat < s.cas.agreeSent.toNat + 10000000)) ∧
    (∃ (s : State) (m : Fin 8), casSends s = true ∧ casOther s.active.image m = true ∧ casPresent s m = false ∧ tableStill s = false ∧
      s.gable.up = false) ∧
    (∃ (s : State) (m : Fin 8), casPresent s m = true) :=
  ⟨⟨(wImg [wF .casId 0 0x123456, wF .casSelf 0 1, { param := .casListNum, index := 0, elem := 0, value := 1 },
    { param := .casListNum, index := 0, elem := 1, value := 7 }] [] wS), by decide +kernel⟩,
   ⟨(wImg [wF .casId 0 0x123456, wF .casSelf 0 1, { param := .casListNum, index := 0, elem := 0, value := 1 },
     { param := .casListNum, index := 0, elem := 1, value := 7 }] [] wS), by decide +kernel⟩,
   ⟨wS, by decide +kernel⟩,
   ⟨wS, by decide +kernel⟩,
   ⟨(wImg [wF .casId 0 0x123456, wF .casSelf 0 1, { param := .casListNum, index := 0, elem := 0, value := 1 },
     { param := .casListNum, index := 0, elem := 1, value := 7 }] [] (wG (fun g => { g with up := false }) wS)), (7 : Fin 8), by
     decide +kernel⟩,
   ⟨(wChan .p (fun c =>
     { c with mem := Vector.replicate 8 { Member.reset with lastHb := some 99999700000, lastAgree := some 99970000000 } }) (wImg [wF .casId
     0 0x123456, wF .casSelf 0 1, { param := .casListNum, index := 0, elem := 0, value := 1 },
     { param := .casListNum, index := 0, elem := 1, value := 7 }] [] wS)), (7 : Fin 8), by decide +kernel⟩⟩

/-- States and operands that meet the hypotheses of NetworkTime, one for each of its clauses that has any. -/
theorem witness_NetworkTime :
    (∃ (s : State), serves1588 s = true ∧ ptpOn (ptpPortNow s) s = true ∧ canSend (ptpPortNow s) s = true ∧ s.ptp.syncSent.toNat +
      syncInterval s.active.image ≤ s.tb.count.toNat) ∧
    (∃ (s : State), serves1588 s = true ∧ ptpOn (ptpPortNow s) s = true ∧ canSend (ptpPortNow s) s = true ∧ s.ptp.annSent.toNat + 100000000
      ≤ s.tb.count.toNat) ∧
    (∃ (s : State) (p : NetPort) (m : W64) (t1 : Int) (t2 : Int), follows1588 s = true ∧ ptpOn p s = true ∧ canReceive p s = true ∧
      masterNow (dropSilent s) = some m ∧ tableStill s = false ∧ (t2 - t1 - s.ptp.delay).natAbs ≤ 5000 ∧ s.ptp.state = 1 ∧ 7 ≤ s.ptp.good) ∧
    (∃ (s : State) (p : NetPort) (m : W64) (t1 : Int) (t2 : Int), follows1588 s = true ∧ ptpOn p s = true ∧ canReceive p s = true ∧
      masterNow (dropSilent s) = some m ∧ tableStill s = false ∧ 50000 < (t2 - t1 - s.ptp.delay).natAbs ∧ s.ptp.state = 2) ∧
    (∃ (s : State) (m : W64), masterNow (dropSilent s) ≠ some m) ∧
    (∃ (s : State), s.tb.count.toNat < s.ptp.annHeard.toNat + 300000000) ∧
    (∃ (s : State), follows1588 s = true ∧ ptpOn (ptpPortNow s) s = true ∧ s.mode ≠ .lull ∧ s.ptp.lastSync.toNat + 4 * syncInterval
      s.active.image ≤ s.tb.count.toNat ∧ s.ptp.state = 2) ∧
    (∃ (s : State), s.ptp.state = 3 ∧ s.mode ≠ .lull ∧ s.ptp.holdAt.toNat + 4 * syncInterval s.active.image ≤ s.tb.count.toNat ∧ ptpRoleOf
      s.active.image ≠ 0 ∧ tableStill s = false) ∧
    (∃ (s : State), s.ptp.state ≠ 3) ∧
    (∃ (s : State) (p : NetPort), serves1588 s = true ∧ ptpOn p s = true ∧ canReceive p s = true ∧ canSend p s = true) ∧
    (∃ (s : State) (p : NetPort), follows1588 s = true ∧ ptpOn p s = true ∧ canReceive p s = true) ∧
    (∃ (s : State) (p : NetPort) (seq : BitVec 16), follows1588 s = true ∧ ptpOn p s = true ∧ canReceive p s = true ∧ seq + 1 ≠
      s.ptp.delaySeq) ∧
    (∃ (s : State) (p : NetPort) (seq : BitVec 16), follows1588 s = true ∧ ptpOn p s = true ∧ canReceive p s = true ∧ seq + 1 =
      s.ptp.delaySeq) ∧
    (∃ (s : State) (p : NetPort) (a : Announce), follows1588 s = true ∧ ptpOn p s = true ∧ canReceive p s = true ∧ s.ptp.best = none ∧
      (ptpRoleOf s.active.image = 1 ∨ masterNow s = some a.identity)) ∧
    (∃ (s : State) (p : NetPort) (a : Announce) (b : Announce), follows1588 s = true ∧ ptpOn p s = true ∧ canReceive p s = true ∧
      s.ptp.best = some b ∧ a.identity ≠ b.identity ∧ ptpRoleOf s.active.image = 1) :=
  ⟨⟨({ wImg [wF .ptpRole 0 2] [] ({ wS with portA := { wS.portA with link := true }, portB := { wS.portB with link := true } }) with ptp := { (wImg [wF .ptpRole 0 2] [] ({ wS with portA := { wS.portA with link := true }, portB := { wS.portB with link := true } })).ptp with onB := false } }),
    by decide +kernel⟩,
   ⟨({ wImg [wF .ptpRole 0 2] [] ({ wS with portA := { wS.portA with link := true }, portB := { wS.portB with link := true } }) with ptp := { (wImg [wF .ptpRole 0 2] [] ({ wS with portA := { wS.portA with link := true }, portB := { wS.portB with link := true } })).ptp with onB := false } }),
     by decide +kernel⟩,
   ⟨({ wImg [wF .ptpRole 0 1] [] ({ wS with portA := { wS.portA with link := true }, portB := { wS.portB with link := true } }) with ptp := { (wImg [wF .ptpRole 0 1] [] ({ wS with portA := { wS.portA with link := true }, portB := { wS.portB with link := true } })).ptp with annHeard := 99999999999, best := some wAnn, state := 1, good := 7 } }),
     (NetPort.a), (5 : W64), (0 : Int), (-5000 : Int), by decide +kernel⟩,
   ⟨({ wImg [wF .ptpRole 0 1] [] ({ wS with portA := { wS.portA with link := true }, portB := { wS.portB with link := true } }) with ptp := { (wImg [wF .ptpRole 0 1] [] ({ wS with portA := { wS.portA with link := true }, portB := { wS.portB with link := true } })).ptp with annHeard := 99999999999, best := some wAnn, state := 2, good := 7 } }),
     (NetPort.a), (5 : W64), (0 : Int), (50001 : Int), by decide +kernel⟩,
   ⟨wS, (0:W64), by decide +kernel⟩,
   ⟨({ wImg [wF .ptpRole 0 1] [] ({ wS with portA := { wS.portA with link := true }, portB := { wS.portB with link := true } }) with ptp := { (wImg [wF .ptpRole 0 1] [] ({ wS with portA := { wS.portA with link := true }, portB := { wS.portB with link := true } })).ptp with annHeard := 99999999999, best := some wAnn } }),
     by decide +kernel⟩,
   ⟨({ wImg [wF .ptpRole 0 1] [] ({ wS with portA := { wS.portA with link := true }, portB := { wS.portB with link := true } }) with ptp := { (wImg [wF .ptpRole 0 1] [] ({ wS with portA := { wS.portA with link := true }, portB := { wS.portB with link := true } })).ptp with best := some wAnn, state := 2, lastSync := 99987500000 } }),
     by decide +kernel⟩,
   ⟨({ wImg [wF .ptpRole 0 1] [] ({ wS with portA := { wS.portA with link := true }, portB := { wS.portB with link := true } }) with ptp := { (wImg [wF .ptpRole 0 1] [] ({ wS with portA := { wS.portA with link := true }, portB := { wS.portB with link := true } })).ptp with state := 3, holdAt := 99987500000 } }),
     by decide +kernel⟩,
   ⟨wS, by decide +kernel⟩,
   ⟨({ wImg [wF .ptpRole 0 2] [] ({ wS with portA := { wS.portA with link := true }, portB := { wS.portB with link := true } }) with ptp := { (wImg [wF .ptpRole 0 2] [] ({ wS with portA := { wS.portA with link := true }, portB := { wS.portB with link := true } })).ptp with onB := false } }),
     (NetPort.a), by decide +kernel⟩,
   ⟨({ wImg [wF .ptpRole 0 1] [] ({ wS with portA := { wS.portA with link := true }, portB := { wS.portB with link := true } }) with ptp := { (wImg [wF .ptpRole 0 1] [] ({ wS with portA := { wS.portA with link := true }, portB := { wS.portB with link := true } })).ptp with lastT1 := 5, lastT2 := 9 } }),
     (NetPort.a), by decide +kernel⟩,
   ⟨({ wImg [wF .ptpRole 0 1] [] ({ wS with portA := { wS.portA with link := true }, portB := { wS.portB with link := true } }) with ptp := { (wImg [wF .ptpRole 0 1] [] ({ wS with portA := { wS.portA with link := true }, portB := { wS.portB with link := true } })).ptp with lastT1 := 5, lastT2 := 9, delaySeq := 7 } }),
     (NetPort.a), (7 : BitVec 16), by decide +kernel⟩,
   ⟨({ wImg [wF .ptpRole 0 1] [] ({ wS with portA := { wS.portA with link := true }, portB := { wS.portB with link := true } }) with ptp := { (wImg [wF .ptpRole 0 1] [] ({ wS with portA := { wS.portA with link := true }, portB := { wS.portB with link := true } })).ptp with lastT1 := 5, lastT2 := 9, delaySeq := 8 } }),
     (NetPort.a), (7 : BitVec 16), by decide +kernel⟩,
   ⟨({ wImg [wF .ptpRole 0 1] [] ({ wS with portA := { wS.portA with link := true }, portB := { wS.portB with link := true } }) with ptp := { (wImg [wF .ptpRole 0 1] [] ({ wS with portA := { wS.portA with link := true }, portB := { wS.portB with link := true } })).ptp with best := none } }),
     (NetPort.a), wAnn, by decide +kernel⟩,
   ⟨({ wImg [wF .ptpRole 0 1] [] ({ wS with portA := { wS.portA with link := true }, portB := { wS.portB with link := true } }) with ptp := { (wImg [wF .ptpRole 0 1] [] ({ wS with portA := { wS.portA with link := true }, portB := { wS.portB with link := true } })).ptp with annHeard := 99999999999, best := some { wAnn with identity := 6 }, state := 2 } }),
     (NetPort.a), wAnn, ({ wAnn with identity := 6 } : Announce), by decide +kernel⟩⟩

/-- States and operands that meet the hypotheses of SafetyFunctionTimes, one for each of its clauses that has any. -/
theorem witness_SafetyFunctionTimes :
    (∃ (l : Lane) (s : State) (k : Nat) (m : Nat) (n : Nat) (b : Blk) (y : Config.Inst), ((evalCfg s).insts[k]? = some y ∧ y.ins = [.pin m,
      .pin n] ∧ (b.st = 1 ∨ b.st = 3) ∧ ticksAt s .inTDisc m 100000 < b.cnt + 1) ∧ instAt l s k 0x01 b) ∧
    (∃ (l : Lane) (s : State) (k : Nat) (b : Blk), (b.st = 3 ∧ ticksAt s .estopTStop k 1000000 ≤ b.cnt + 1) ∧ instAt l s k 0x02 b) ∧
    (∃ (l : Lane) (s : State) (k : Nat) (b : Blk), (b.st = 8 ∧ b.fA = false ∧ ticksAt s .glTUnlockMax k 60000000 ≤ b.cnt + 1) ∧ instAt l s
      k 0x04 b) ∧
    (∃ (l : Lane) (s : State) (k : Nat) (b : Blk), (b.st = 9 ∧ b.fB = true ∧ lookN (evalCfg s) .glMonitor k 0 0 = 1 ∧ ticksAt s .glTLock k
      1000000 < b.cnt + 1) ∧ instAt l s k 0x04 b) ∧
    (∃ (l : Lane) (s : State) (k : Nat) (b : Blk), (b.st = 2 ∧ b.sel = 1 ∧ lookN (evalCfg s) .curMuting k 0 0 = 2 ∧ ticksAt s .curT12 k
      2000000 < b.cnt + 1) ∧ instAt l s k 0x05 b) ∧
    (∃ (l : Lane) (s : State) (k : Nat) (b : Blk), (b.st = 2 ∧ b.sel = 1 ∧ lookN (evalCfg s) .curMuting k 0 0 = 1 ∧ ticksAt s .curTSync k
      2000000 < b.cnt + 1) ∧ instAt l s k 0x05 b) ∧
    (∃ (l : Lane) (s : State) (k : Nat) (b : Blk), (b.st = 2 ∧ b.sel = 2 ∧ ticksAt s .curTMuteMax k 30000000 < b.cnt2 + 1) ∧ instAt l s k
      0x05 b) ∧
    (∃ (l : Lane) (s : State) (k : Nat) (b : Blk), (b.st = 9 ∧ 500000 / cfgT (evalCfg s) - 1 < b.cnt + 1) ∧ instAt l s k 0x06 b) ∧
    (∃ (l : Lane) (s : State) (k : Nat) (b : Blk), (b.st = 9 ∧ ticksAt s .en3TMax k 0 ≠ 0 ∧ ticksAt s .en3TMax k 0 ≤ b.cnt + 1) ∧ instAt l
      s k 0x07 b) ∧
    (∃ (l : Lane) (s : State) (k : Nat) (b : Blk), (b.st = 9 ∧ ticksAt s .msTChange k 500000 < b.cnt + 1) ∧ instAt l s k 0x08 b) ∧
    (∃ (l : Lane) (s : State) (k : Nat) (b : Blk), ((b.st = 9 ∧ ticksAt s .edmTPick k 100000 < b.cnt + 1) ∨ ((b.st = 11 ∨ (b.st = 8 ∧ b.fB
      = true)) ∧ ticksAt s .edmTDrop k 100000 < b.cnt + 1)) ∧ instAt l s k 0x09 b) ∧
    (∃ (l : Lane) (s : State) (n : Fin 48), s.mode.evaluates = true ∧ tableStill s = false ∧ lookN (evalCfg s) .inAckRole n 0 0 ≠ 0 ∧
      ackMax (cfgT (evalCfg s)) ≤ (chanOf l s).inp[n].closed) :=
  ⟨⟨Lane.p, (wBlk 1 0x01 [.pin 4, .pin 5] { Blk.reset with start := false, st := 1, cnt := 100 } [] wS), (1 : Nat), (4 : Nat), (5 : Nat),
    ({ Blk.reset with start := false, st := 1, cnt := 100 }), (wInst 0x01 [.pin 4, .pin 5]), by decide +kernel, instAt_of (by
    decide +kernel)⟩,
   ⟨Lane.p, (wBlk 1 0x02 [] { Blk.reset with start := false, st := 3, cnt := 0 } [wF .estopTStop 1 1000] wS), (1 : Nat),
     ({ Blk.reset with start := false, st := 3, cnt := 0 }), by decide +kernel, instAt_of (by decide +kernel)⟩,
   ⟨Lane.p, (wBlk 1 0x04 [] { Blk.reset with start := false, st := 8, cnt := 59999 } [] wS), (1 : Nat),
     ({ Blk.reset with start := false, st := 8, cnt := 59999 }), by decide +kernel, instAt_of (by decide +kernel)⟩,
   ⟨Lane.p, (wBlk 1 0x04 [] { Blk.reset with start := false, st := 9, cnt := 1000, fB := true } [wF .glMonitor 1 1] wS), (1 : Nat),
     ({ Blk.reset with start := false, st := 9, cnt := 1000, fB := true }), by decide +kernel, instAt_of (by decide +kernel)⟩,
   ⟨Lane.p, (wBlk 1 0x05 [] { Blk.reset with start := false, st := 2, sel := 1, cnt := 2000 } [wF .curMuting 1 2] wS), (1 : Nat),
     ({ Blk.reset with start := false, st := 2, sel := 1, cnt := 2000 }), by decide +kernel, instAt_of (by decide +kernel)⟩,
   ⟨Lane.p, (wBlk 1 0x05 [] { Blk.reset with start := false, st := 2, sel := 1, cnt := 2000 } [wF .curMuting 1 1] wS), (1 : Nat),
     ({ Blk.reset with start := false, st := 2, sel := 1, cnt := 2000 }), by decide +kernel, instAt_of (by decide +kernel)⟩,
   ⟨Lane.p, (wBlk 1 0x05 [] { Blk.reset with start := false, st := 2, sel := 2, cnt2 := 30000 } [] wS), (1 : Nat),
     ({ Blk.reset with start := false, st := 2, sel := 2, cnt2 := 30000 }), by decide +kernel, instAt_of (by decide +kernel)⟩,
   ⟨Lane.p, (wBlk 1 0x06 [] { Blk.reset with start := false, st := 9, cnt := 499 } [] wS), (1 : Nat),
     ({ Blk.reset with start := false, st := 9, cnt := 499 }), by decide +kernel, instAt_of (by decide +kernel)⟩,
   ⟨Lane.p, (wBlk 1 0x07 [] { Blk.reset with start := false, st := 9, cnt := 4 } [wF .en3TMax 1 5000] wS), (1 : Nat),
     ({ Blk.reset with start := false, st := 9, cnt := 4 }), by decide +kernel, instAt_of (by decide +kernel)⟩,
   ⟨Lane.p, (wBlk 1 0x08 [] { Blk.reset with start := false, st := 9, cnt := 500 } [] wS), (1 : Nat),
     ({ Blk.reset with start := false, st := 9, cnt := 500 }), by decide +kernel, instAt_of (by decide +kernel)⟩,
   ⟨Lane.p, (wBlk 1 0x09 [] { Blk.reset with start := false, st := 9, cnt := 100 } [] wS), (1 : Nat),
     ({ Blk.reset with start := false, st := 9, cnt := 100 }), by decide +kernel, instAt_of (by decide +kernel)⟩,
   ⟨Lane.p, (wImg [wF .inAckRole 0 1] []
     { wS with thatch := { wS.thatch with inp := Vector.replicate 48 { InCh.reset with closed := 60000 } }, ridge := { wS.ridge with inp := Vector.replicate 48 { InCh.reset with closed := 60000 } } }),
     (0 : Fin 48), by decide +kernel⟩⟩

/-- States and operands that meet the hypotheses of TimerAndMotionTimes, one for each of its clauses that has any. -/
theorem witness_TimerAndMotionTimes :
    (∃ (l : Lane) (s : State) (k : Nat) (b : Blk), (b.fB = true ∧ b.prev.getLsbD 0 = true ∧ ticksAt s .timPt k 0 ≤ b.cnt + 1) ∧ instAt l s
      k 0x0A b) ∧
    (∃ (l : Lane) (s : State) (k : Nat) (b : Blk), (b.fB = true ∧ ticksAt s .timPt k 0 ≤ b.cnt + 1) ∧ (instAt l s k 0x0B b ∨ instAt l s k
      0x0C b)) ∧
    (∃ (l : Lane) (s : State) (k : Nat) (b : Blk), (b.fB = true ∧ b.fA = false ∧ (b.st = 1 ∨ b.st = 2) ∧ ticksAt s .atTDelay k 0 ≤ b.cnt +
      1) ∧ instAt l s k 0x12 b) ∧
    (∃ (l : Lane) (s : State) (k : Nat) (b : Blk), (b.st = 11 ∧ ticksAt s .s1TStop k 1000000 ≤ b.cnt + 1) ∧ instAt l s k 0x21 b) ∧
    (∃ (l : Lane) (s : State) (k : Nat) (b : Blk), (b.st = 12 ∧ ticksAt s .tBrake k 0 ≤ b.cnt + 1 ∧ offWindow (axView (blkCtx (evalCfg s)
      (sharedOf s) (chanOf l s)) (lookN (evalCfg s) .bAxis k 0 0)) b (look (evalCfg s) .sosWin k 0 1000) = false) ∧ (instAt l s k 0x21 b ∨
      instAt l s k 0x22 b)) ∧
    (∃ (l : Lane) (s : State) (k : Nat) (b : Blk), (b.st = 12 ∧ ticksAt s .tBrake k 0 ≤ b.cnt + 1 ∧ offWindow (axView (blkCtx (evalCfg s)
      (sharedOf s) (chanOf l s)) (lookN (evalCfg s) .bAxis k 0 0)) b (look (evalCfg s) .sosWin k 0 1000) = true) ∧ (instAt l s k 0x21 b ∨
      instAt l s k 0x22 b)) ∧
    (∃ (l : Lane) (s : State) (k : Nat) (b : Blk), (b.st = 13 ∧ ticksAt s .sosTDelay k 0 ≤ b.cnt + 1 ∧ standstill (axView (blkCtx (evalCfg
      s) (sharedOf s) (chanOf l s)) (lookN (evalCfg s) .bAxis k 0 0)) = false) ∧ instAt l s k 0x24 b) ∧
    (∃ (l : Lane) (s : State) (k : Nat) (b : Blk) (y : Config.Inst), ((evalCfg s).insts[k]? = some y ∧ b.st = 13 ∧ ticksAt s .sosTDelay k 0
      ≤ b.cnt + 1 ∧ y.ins = [] ∧ standstill (axView (blkCtx (evalCfg s) (sharedOf s) (chanOf l s)) (lookN (evalCfg s) .bAxis k 0 0)) =
      true) ∧ instAt l s k 0x24 b) ∧
    (∃ (l : Lane) (s : State) (k : Nat) (b : Blk), (b.st = 9 ∧ ticksAt s .sbcTRel k 100000 ≤ b.cnt + 1) ∧ instAt l s k 0x28 b) ∧
    (∃ (l : Lane) (s : State) (k : Nat) (b : Blk), (b.st = 11 ∧ b.prev.getLsbD 0 = true ∧ ticksAt s .sbtTTest k 1000000 ≤ b.cnt + 1 ∧
      offWindow (axView (blkCtx (evalCfg s) (sharedOf s) (chanOf l s)) (lookN (evalCfg s) .bAxis k 0 0)) b (look (evalCfg s) .sbtWin k 0
      100) = false) ∧ instAt l s k 0x28 b) ∧
    (∃ (l : Lane) (s : State) (k : Nat) (b : Blk), (ticksAt s .sbtInterval k 28800000000 ≠ 0 ∧ 9 * ticksAt s .sbtInterval k 28800000000 ≤
      10 * (b.cnt2 + 1)) ∧ instAt l s k 0x28 b) ∧
    (∃ (l : Lane) (s : State) (k : Nat) (b : Blk), (ticksAt s .sbtInterval k 28800000000 ≠ 0 ∧ ticksAt s .sbtInterval k 28800000000 ≤
      b.cnt2 + 1) ∧ instAt l s k 0x28 b) ∧
    (∃ (s : State), s.mode.evaluates = false) ∧
    (∃ (s : State), (s.ridge.frozen = true ∨ s.ridge.evaluated = true) ∧ (s.thatch.frozen = true ∨ s.thatch.evaluated = true)) :=
  ⟨⟨Lane.p, (wBlk 1 0x0A [] { Blk.reset with start := false, cnt := 4, fB := true, prev := 1 } [wF .timPt 1 5000] wS), (1 : Nat),
    ({ Blk.reset with start := false, cnt := 4, fB := true, prev := 1 }), by decide +kernel, instAt_of (by decide +kernel)⟩,
   ⟨Lane.p, (wBlk 1 0x0B [] { Blk.reset with start := false, cnt := 4, fB := true } [wF .timPt 1 5000] wS), (1 : Nat),
     ({ Blk.reset with start := false, cnt := 4, fB := true }), by decide +kernel, .inl (instAt_of (by decide +kernel))⟩,
   ⟨Lane.p, (wBlk 1 0x12 [] { Blk.reset with start := false, st := 1, cnt := 4, fB := true } [wF .atTDelay 1 5000] wS), (1 : Nat),
     ({ Blk.reset with start := false, st := 1, cnt := 4, fB := true }), by decide +kernel, instAt_of (by decide +kernel)⟩,
   ⟨Lane.p, (wBlk 1 0x21 [] { Blk.reset with start := false, st := 11, cnt := 999 } [] wS), (1 : Nat),
     ({ Blk.reset with start := false, st := 11, cnt := 999 }), by decide +kernel, instAt_of (by decide +kernel)⟩,
   ⟨Lane.p, (wBlk 1 0x21 [] { Blk.reset with start := false, st := 12, cnt := 4 } [wF .tBrake 1 5000] wS), (1 : Nat),
     ({ Blk.reset with start := false, st := 12, cnt := 4 }), by decide +kernel, .inl (instAt_of (by decide +kernel))⟩,
   ⟨Lane.p, (wBlk 1 0x21 [] { Blk.reset with start := false, st := 12, cnt := 4 } [wF .tBrake 1 5000] (wChan .p (fun c =>
     { c with ax := Vector.replicate 8 { AxCh.reset with haveA := true, recA := { MotionRec.zero with stat := 0x80, pos := 2000 } } })
     (wChan .t (fun c =>
     { c with ax := Vector.replicate 8 { AxCh.reset with haveA := true, recA := { MotionRec.zero with stat := 0x80, pos := 2000 } } })
     wS))), (1 : Nat), ({ Blk.reset with start := false, st := 12, cnt := 4 }), by decide +kernel, .inl (instAt_of (by decide +kernel))⟩,
   ⟨Lane.p, (wBlk 1 0x24 [] { Blk.reset with start := false, st := 13, cnt := 4 } [wF .sosTDelay 1 5000] wS), (1 : Nat),
     ({ Blk.reset with start := false, st := 13, cnt := 4 }), by decide +kernel, instAt_of (by decide +kernel)⟩,
   ⟨Lane.p, (wBlk 1 0x24 [] { Blk.reset with start := false, st := 13, cnt := 4 } [wF .sosTDelay 1 5000] (wChan .p (fun c =>
     { c with ax := Vector.replicate 8 { AxCh.reset with haveA := true, recA := { MotionRec.zero with stat := 0x80, pos := 123, vMax := 1000 } } })
     (wChan .t (fun c =>
     { c with ax := Vector.replicate 8 { AxCh.reset with haveA := true, recA := { MotionRec.zero with stat := 0x80, pos := 123, vMax := 1000 } } })
     wS))), (1 : Nat), ({ Blk.reset with start := false, st := 13, cnt := 4 }), (wInst 0x24 []), by decide +kernel, instAt_of (by
     decide +kernel)⟩,
   ⟨Lane.p, (wBlk 1 0x28 [] { Blk.reset with start := false, st := 9, cnt := 99 } [] wS), (1 : Nat),
     ({ Blk.reset with start := false, st := 9, cnt := 99 }), by decide +kernel, instAt_of (by decide +kernel)⟩,
   ⟨Lane.p, (wBlk 1 0x28 [] { Blk.reset with start := false, st := 11, cnt := 999, prev := 1, p0a := 23 } [] (wChan .p (fun c =>
     { c with ax := Vector.replicate 8 { AxCh.reset with haveA := true, recA := { MotionRec.zero with stat := 0x80, pos := 123 } } })
     (wChan .t (fun c =>
     { c with ax := Vector.replicate 8 { AxCh.reset with haveA := true, recA := { MotionRec.zero with stat := 0x80, pos := 123 } } })
     wS))), (1 : Nat), ({ Blk.reset with start := false, st := 11, cnt := 999, prev := 1, p0a := 23 }), by decide +kernel, instAt_of (by
     decide +kernel)⟩,
   ⟨Lane.p, (wBlk 1 0x28 [] { Blk.reset with start := false, st := 8, cnt2 := 25919999 } [] wS), (1 : Nat),
     ({ Blk.reset with start := false, st := 8, cnt2 := 25919999 }), by decide +kernel, instAt_of (by decide +kernel)⟩,
   ⟨Lane.p, (wBlk 1 0x28 [] { Blk.reset with start := false, st := 8, cnt2 := 28799999 } [] wS), (1 : Nat),
     ({ Blk.reset with start := false, st := 8, cnt2 := 28799999 }), by decide +kernel, instAt_of (by decide +kernel)⟩,
   ⟨(wMode .boot wS), by decide +kernel⟩,
   ⟨({ wS with ridge := { wS.ridge with evaluated := true }, thatch := { wS.thatch with frozen := true } }), by decide +kernel⟩⟩

/-- States and operands that meet the hypotheses of StoAndSs2, one for each of its clauses that has any. -/
theorem witness_StoAndSs2 :
    (∃ (y : Config.Inst) (b : Blk), y.typ = 0x20 ∧ b.start = false ∧ b.st ∈ [4, 5, 8, 9, 10]) ∧
    (∃ (x : BlkCtx) (done : List Blk) (old : List Blk) (k : Nat) (y : Config.Inst) (b : Blk), y.typ = 0x20 ∧ b.start = false ∧ b.st = 8 ∧
      (axView x (lookN x.cfg .bAxis k 0 0)).encFault = false ∧ (axView x (lookN x.cfg .bAxis k 0 0)).hold = false ∧ isHeld x k y = false ∧
      linkVal x done old y.ins[0]? = false) ∧
    (∃ (x : BlkCtx) (done : List Blk) (old : List Blk) (k : Nat) (y : Config.Inst) (b : Blk), y.typ = 0x20 ∧ b.start = false ∧ b.st = 8 ∧
      (axView x (lookN x.cfg .bAxis k 0 0)).encFault = false ∧ (axView x (lookN x.cfg .bAxis k 0 0)).hold = false ∧ isHeld x k y = false ∧
      linkVal x done old y.ins[0]? = true) ∧
    (∃ (y : Config.Inst) (b : Blk), y.typ = 0x23 ∧ b.start = false ∧ b.st = 14) :=
  ⟨⟨(wInst 0x20 [.sig 0 0]), ({ Blk.reset with start := false, st := 4 }), by decide +kernel⟩,
   ⟨(wCtx { Chan.reset .p with ax := Vector.replicate 8 AxCh.reset } []), ([]), ([]), (1 : Nat), (wInst 0x20 [.none]),
     ({ Blk.reset with start := false, st := 8 }), by decide +kernel⟩,
   ⟨(wCtx { Chan.reset .p with ax := Vector.replicate 8 AxCh.reset } []), ([{ Blk.reset with out := 1 }]), ([]), (1 : Nat), (wInst 0x20
     [.sig 0 0]), ({ Blk.reset with start := false, st := 8 }), by decide +kernel⟩,
   ⟨(wInst 0x23 [.none]), ({ Blk.reset with start := false, st := 14 }), by decide +kernel⟩⟩

/-- States and operands that meet the hypotheses of WeatheringMeasuresAndReplans, one for each of its clauses that has any. -/
theorem witness_WeatheringMeasuresAndReplans :
    (∃ (s : State), s.w.up = true ∧ s.pwr.domains.getLsbD 6 = true) ∧
    (∃ (s : State), s.w.up = false) ∧
    (∃ (s : State), s.tb.count.toNat < s.wth.planAt.toNat + 60000000000) ∧
    (∃ (s : State), s.w.up = true ∧ s.pwr.aoOn = true) ∧
    (∃ (s : State), s.gable.up = true ∧ flashClosed s = false) ∧
    (∃ (s : State), (s.gable.up = false ∨ flashClosed s = true)) ∧
    (∃ (s : State), s.w.up = true ∧ s.active.valid = true) ∧
    (∃ (s : State) (cells : Vector (BitVec 8192) 6), s.w.up = true ∧ s.slate.readDone = true ∧ tableStill s = false ∧ firstDrift
      s.slate.bootCells cells = none ∧ s.gable.up = false) ∧
    (∃ (s : State) (cells : Vector (BitVec 8192) 6) (b : Nat), s.w.up = true ∧ s.slate.readDone = true ∧ tableStill s = false ∧ firstDrift
      s.slate.bootCells cells = some b ∧ b < 65536) ∧
    (∃ (s : State), s.w.up = true ∧ s.mode ≠ .lull ∧ s.active.valid = true ∧ s.wth.planAt.toNat + 60000000000 ≤ s.tb.count.toNat) ∧
    (∃ (s : State) (m : Fin 16) (v : Int), s.w.up = true ∧ s.active.valid = true ∧ tableStill s = false ∧ s.wth.planAt.toNat + 60000000000
      ≤ s.tb.count.toNat ∧ (v < cfgWidth s.active.image m ∨ (cfgWidthMax s.active.image m : Int) < v)) ∧
    (∃ (s : State) (m : Fin 16) (v : Nat), s.w.up = true ∧ s.mode ≠ .lull ∧ s.active.valid = true ∧ s.wth.planAt.toNat + 60000000000 ≤
      s.tb.count.toNat ∧ cfgWidth s.active.image m ≤ v ∧ v ≤ cfgWidthMax s.active.image m) ∧
    (∃ (s : State) (m : Fin 16), s.mode.evaluates = true ∧ s.field.tpo[m].phase ≠ 0) ∧
    (∃ (s : State) (m : Fin 16), s.mode.evaluates = true ∧ s.field.tpo[m].phase = 0) ∧
    (∃ (l : List RonMeas) (k : Nat), (∀ x ∈ l, x.sw.val = k → x.ua < 50000)) :=
  ⟨⟨wS, by decide +kernel⟩,
   ⟨({ wS with w := { wS.w with up := false } }), by decide +kernel⟩,
   ⟨({ wS with wth := { wS.wth with planAt := 40000000001 } }), by decide +kernel⟩,
   ⟨wS, by decide +kernel⟩,
   ⟨({ wS with wth := { wS.wth with hours := 77 } }), by decide +kernel⟩,
   ⟨(wG (fun g => { g with up := false }) wS), by decide +kernel⟩,
   ⟨(wImg [wF .tpoWidth 3 300] [] wS), by decide +kernel⟩,
   ⟨(wG (fun g => { g with up := false }) { wS with slate := { wS.slate with readDone := true } }), (Vector.replicate 6 0), by
     decide +kernel⟩,
   ⟨({ wS with slate := { wS.slate with readDone := true } }), (Vector.replicate 6 1), (0 : Nat), by decide +kernel⟩,
   ⟨(wImg [wF .wthEnable 0 0] [] { wS with wth := { wS.wth with nextWidth := Vector.replicate 16 300 } }), by decide +kernel⟩,
   ⟨(wImg [] [] { wS with wth := { wS.wth with nextWidth := Vector.replicate 16 300 } }), (0 : Fin 16), (299 : Int), by decide +kernel⟩,
   ⟨(wImg [wF .tpoWidthMax 15 400] [] { wS with wth := { wS.wth with nextWidth := Vector.replicate 16 300 } }), (15 : Fin 16), (300 : Nat),
     by decide +kernel⟩,
   ⟨(wTpo 15 (fun t => { t with phase := 1 }) { wS with wth := { wS.wth with nextWidth := Vector.replicate 16 300 } }), (15 : Fin 16), by
     decide +kernel⟩,
   ⟨(wTpo 15 (fun t => { t with phase := 0 }) { wS with wth := { wS.wth with nextWidth := Vector.replicate 16 300 } }), (15 : Fin 16), by
     decide +kernel⟩,
   ⟨([] : List RonMeas), 0, by decide +kernel⟩⟩

/-- States and operands that meet the hypotheses of StepKeepsHeldRegistersLegal, one for each of its clauses that has any. -/
theorem witness_StepKeepsHeldRegistersLegal :
    ∃ (s : State) (t : State), legal (held s) = true ∧ step s = .next t :=
  ⟨(State.reset), (idle State.reset), by decide +kernel, rfl⟩

end Sys2Proof.Tests
end

section
/-! PROOF. What is read back of a vector given by its elements, and of a word given by its bits. -/

namespace Sys2Proof.Proofs

open Sys2Proof Sys2Proof.Machine

/-- An element of a vector given by its elements, read by a plain number. -/
@[simp] theorem vget_vtab {α : Type} {n k : Nat} (f : Nat → α) (d : α) (h : k < n) : vget (vtab n f) k d = f k := by
  simp [vget, vtab, h]

/-- The same, read within its bounds. -/
@[simp] theorem getElem_vtab {α : Type} {n k : Nat} (f : Nat → α) (h : k < n) : (vtab n f)[k] = f k := by
  simp [vtab]

/-- A read by the number of an index is the read by the index. -/
@[simp] theorem vget_fin {α : Type} {n : Nat} (v : Vector α n) (k : Fin n) (d : α) : vget v k.val d = v[k] := by
  simp [vget]

/-- Bits summed at their places: the sum fits, and each bit stands at its place. -/
theorem sum_bits (f : Nat → Bool) (n : Nat) :
    (List.range n).foldl (fun a k => a + bit (f k) k) 0 < 2 ^ n ∧
      ∀ k, ((List.range n).foldl (fun a k => a + bit (f k) k) 0).testBit k = (decide (k < n) && f k) := by
  induction n with
  | zero => simp
  | succ n ih =>
    obtain ⟨fits, bits⟩ := ih
    simp only [List.range_succ, List.foldl_append, List.foldl_cons, List.foldl_nil]
    generalize (List.range n).foldl (fun a k => a + bit (f k) k) 0 = a at fits bits
    cases hn : f n with
    | false =>
      simp only [bit, Bool.false_eq_true, if_false, Nat.add_zero]
      refine ⟨by omega, fun k => ?_⟩
      by_cases hk : k = n
      · simp [bits, hk, hn]
      · simp [bits, show k < n + 1 ↔ k < n by omega]
    | true =>
      refine ⟨by simp only [bit, if_true]; omega, fun k => ?_⟩
      simp only [bit, if_true, Nat.add_comm a]
      rcases Nat.lt_trichotomy k n with hk | rfl | hk
      · simp [Nat.testBit_two_pow_add_gt hk, bits, hk, Nat.lt_succ_of_lt hk]
      · simp [Nat.testBit_two_pow_add_eq, bits, hn]
      · rw [Nat.testBit_lt_two_pow (Nat.lt_of_lt_of_le (by omega : 2 ^ n + a < 2 ^ (n + 1)) (Nat.pow_le_pow_right (by decide) hk))]
        simp; omega

/-- A bit of a word given by its bits. -/
@[simp] theorem getLsbD_bitsOf {n k : Nat} (f : Nat → Bool) (h : k < n) : (bitsOf n f).getLsbD k = f k := by
  simp only [bitsOf, BitVec.getLsbD_ofNat, (sum_bits f n).2, h, decide_true, Bool.true_and]

end Sys2Proof.Proofs
end

section
/-! PROOF. An outbound frame at its field controller: what its detection, its acceptance and its rejection do to the lane (R16, R17,
R21, R128, R141). -/

namespace Sys2Proof.Proofs

open Sys2Proof Sys2Proof.Machine Sys2Proof.Laws

theorem exec_eaveOutboundFrame (lane : Lane) (rx : OutRx) (det : Nat) (s : State) :
    exec (.eaveOutboundFrame lane rx det) s = execEaveOutboundFrame lane rx s det := rfl

/-- The other lane is another one. -/
theorem ne_otherLane (l : Lane) : l ≠ otherLane l := by cases l <;> simp [otherLane]

/-! ## Detection -/

/-- The lane once it has started its inbound frame of the tick (R16, R30). -/
def startedLane (lane : Lane) (det : Nat) (s : State) : LaneFc :=
  { laneOf lane s with
    det := (chanOf lane s).txAt + BitVec.ofNat 64 (min det 200), inTx := some (inFrameOf lane s), dtHdr := 0, accepted := false }

/-- The start of an inbound frame changes its lane, and of FA at most the NEW bits. -/
theorem startInbound_eq (lane : Lane) (det : Nat) (s : State) :
    ∃ fa, startInbound lane det s = { setLane lane (startedLane lane det s) s with fa := fa } := by
  unfold startInbound takeNew
  dsimp only
  split
  · exact ⟨_, rfl⟩
  · exact ⟨(setLane lane (startedLane lane det s) s).fa, rfl⟩

/-- A lane put back, and FA with it, is the state as it was. -/
theorem setLane_back (lane : Lane) (l : LaneFc) (fa : Fa) (s : State) :
    { setLane lane (laneOf lane s) { setLane lane l s with fa := fa } with fa := s.fa } = s := by
  cases lane <;> rfl

/-- The echo of an inbound frame is the last accepted sequence number (R16). -/
theorem inFrameOf_echo (lane : Lane) (s : State) : (inFrameOf lane s).echo = (laneOf lane s).ref.getD 0 := rfl

/-! ## Acceptance -/

/-- The entries of a frame write parameters only. -/
theorem foldl_takeEntry_keeps {β : Type} (p : LaneFc → β)
    (hp : ∀ l a b c d, p { l with pIn := a, pTpo := b, pOut := c, pAn := d } = p l) (es : List ParamEntry) (l : LaneFc) :
    p (es.foldl takeEntry l) = p l := by
  induction es generalizing l with
  | nil => rfl
  | cons e es ih =>
    rw [List.foldl_cons, ih]
    unfold takeEntry
    split
    · exact hp l _ l.pTpo l.pOut l.pAn
    · exact hp l l.pIn _ l.pOut l.pAn
    · exact hp l l.pIn l.pTpo _ l.pAn
    · exact hp l l.pIn l.pTpo l.pOut _
    · rfl

/-- A dark-test request concerns the lane's dark test and its header only. -/
theorem takeDark_keeps {β : Type} (p : LaneFc → β) (hp : ∀ l a b, p { l with dt := a, dtHdr := b } = p l) (sup : Vector Supply 7)
    (f : OutFrame) (l : LaneFc) : p (takeDark sup f l) = p l := by
  unfold takeDark
  split
  · rfl
  split
  · exact hp l l.dt _
  · exact hp l _ l.dtHdr

/-- An accepted frame is the reference of the next one, silence counts from its start, and the inbound frame and its detection stay
(R16, R139). -/
theorem acceptFrame_marks (now start : W64) (sup : Vector Supply 7) (f : OutFrame) (l : LaneFc) :
    (acceptFrame now start sup f l).accepted = true ∧ (acceptFrame now start sup f l).ref = some f.seq ∧
      (acceptFrame now start sup f l).since = start ∧ (acceptFrame now start sup f l).inTx = l.inTx ∧
      (acceptFrame now start sup f l).det = l.det := by
  unfold acceptFrame
  dsimp only
  refine ⟨?_, ?_, ?_, ?_, ?_⟩
  · rw [takeDark_keeps (fun l => l.accepted) (fun _ _ _ => rfl)]; rfl
  · rw [takeDark_keeps (fun l => l.ref) (fun _ _ _ => rfl)]; rfl
  · rw [takeDark_keeps (fun l => l.since) (fun _ _ _ => rfl)]; rfl
  · rw [takeDark_keeps (fun l => l.inTx) (fun _ _ _ => rfl)]
    exact foldl_takeEntry_keeps (fun l => l.inTx) (fun _ _ _ _ _ => rfl) f.entries l
  · rw [takeDark_keeps (fun l => l.det) (fun _ _ _ => rfl)]
    exact foldl_takeEntry_keeps (fun l => l.det) (fun _ _ _ _ _ => rfl) f.entries l

/-- The switches after a frame's commands depend on the lane's trips and its dark test only. -/
theorem applyCmds_sw_congr (now : W64) (f : OutFrame) {l m : LaneFc} (h : (l.trip, l.tripRel, l.dt) = (m.trip, m.tripRel, m.dt)) :
    (applyCmds now f l).sw = (applyCmds now f m).sw := by
  simp only [Prod.mk.injEq] at h
  obtain ⟨trip, rel, dt⟩ := h
  simp only [applyCmds, tripHolds, trip, rel, dt]

/-- The switches of an accepted frame are those that its commands leave closed. -/
theorem acceptFrame_sw (now start : W64) (sup : Vector Supply 7) (f : OutFrame) (l : LaneFc) :
    (acceptFrame now start sup f l).sw = (applyCmds now f l).sw := by
  unfold acceptFrame
  dsimp only
  rw [takeDark_keeps (fun l => l.sw) (fun _ _ _ => rfl)]
  exact applyCmds_sw_congr now f
    (foldl_takeEntry_keeps (fun l => (l.trip, l.tripRel, l.dt)) (fun _ _ _ _ _ => rfl) f.entries l)

/-- An open command opens, whatever else holds (R128). -/
theorem applyCmds_open (now : W64) (f : OutFrame) (l : LaneFc) (o : Fin 28) (h : (frameCmds f).getLsbD o = false) :
    (applyCmds now f l).sw.getLsbD o = false := by
  simp only [applyCmds, getLsbD_bitsOf _ o.isLt, h, Bool.false_and]

/-- A close command closes a switch that no trip and no dark test holds (R141). -/
theorem applyCmds_close (now : W64) (f : OutFrame) (l : LaneFc) (o : Fin 28) (h : (frameCmds f).getLsbD o = true)
    (trip : l.trip[o] = none) (dt : l.dt = none) : (applyCmds now f l).sw.getLsbD o = true := by
  simp only [applyCmds, getLsbD_bitsOf _ o.isLt, h, tripHolds, vget_fin, trip, dt, Bool.not_false, Bool.and_true]

/-- The commands of a frame: a parameter frame opens every switch (R21). -/
theorem frameCmds_off (f : OutFrame) (o : Nat) (h : f.ftype = 2 ∨ f.cmds.getLsbD o = false) : (frameCmds f).getLsbD o = false := by
  unfold frameCmds
  split <;> simp_all

/-! ## The state around the lane -/

/-- Where both lanes have accepted, the field side and FA alone are written. -/
theorem lanesMeet_keeps {β : Type} (p : State → β) (hp : ∀ t x y, p { t with field := x, fa := y } = p t) (s : State) :
    p (lanesMeet s) = p s := by
  unfold lanesMeet
  split
  · exact hp s _ _
  · rfl

/-- The measured turn-off times are written to the field side and to Weathering only. -/
theorem commandedOffs_keeps {β : Type} (p : State → β) (hp : ∀ t x y n, p { t with field := x, wth := y, free := n } = p t)
    (lane : Lane) (old s : State) : p (commandedOffs lane old s) = p s := by
  unfold commandedOffs
  refine foldl_keeps p _ (fun t o => ?_) _ s
  split
  · exact hp t _ _ _
  · rfl

/-- What an accepted frame's end leaves as it is. -/
theorem accepted_keeps {β : Type} (p : State → β) (hp : ∀ t x y w n, p { t with field := x, fa := y, wth := w, free := n } = p t)
    (lane : Lane) (old s : State) : p (commandedOffs lane old (lanesMeet s)) = p s := by
  rw [commandedOffs_keeps p (fun t x y n => hp t x t.fa y n), lanesMeet_keeps p (fun t x y => hp t x y t.wth t.free)]

/-- Where no switch moves, no turn-off time is measured. -/
theorem commandedOffs_same (lane : Lane) (old s : State) (h : (laneOf lane s).sw = (laneOf lane old).sw) :
    commandedOffs lane old s = s := by
  unfold commandedOffs
  rw [h]
  exact foldl_keeps id _ (fun t o => by simp) _ s

/-- A lane that takes frames is out of the reset level (R129). -/
theorem level_of_takesFrames {l : LaneFc} (h : takesFrames l = true) : l.resetLevel = false := by
  simp only [takesFrames, Bool.and_eq_true, Bool.not_eq_true'] at h
  exact h.1

/-- A lane that takes no frames judges none. -/
theorem judgeFrame_silent {lane : Lane} {f : OutFrame} {s : State} (h : takesFrames (laneOf lane s) = false) :
    judgeFrame lane f s = s := by
  simp [judgeFrame, h]

/-- A sound frame with the next sequence number is accepted (R16, R17). -/
theorem judgeFrame_accepts {lane : Lane} {f : OutFrame} {s : State} (h : takesFrames (laneOf lane s) = true)
    (sound : outSound f = true) (next : seqNext (laneOf lane s).ref f.seq = true) :
    judgeFrame lane f s =
      lanesMeet (setLane lane (acceptFrame s.tb.count (laneOf lane s).det s.field.sup f (laneOf lane s)) s) := by
  simp [judgeFrame, h, sound, next]

/-- Any other frame is counted as rejected (R17). -/
theorem judgeFrame_rejects {lane : Lane} {f : OutFrame} {s : State} (h : takesFrames (laneOf lane s) = true)
    (bad : outSound f = false ∨ seqNext (laneOf lane s).ref f.seq = false) :
    judgeFrame lane f s = setLane lane { laneOf lane s with
      rejected := BitVec.ofNat 16 (min 65535 ((laneOf lane s).rejected.toNat + 1)) } s := by
  have hb : (outSound f && seqNext (laneOf lane s).ref f.seq) = false := by rcases bad with b | b <;> simp [b]
  simp [judgeFrame, h, hb]

/-- A lane out of the reset level that has started no inbound frame in this tick detects a frame, starts its inbound one, and judges what
it received. -/
theorem exec_eaveOutboundFrame_detects {lane : Lane} {s : State} (rx : OutRx) (det : Nat) (level : (laneOf lane s).resetLevel = false)
    (sends : (chanOf lane s).tx.ftype ≠ 0) (first : (laneOf lane s).inTx = none) :
    ∃ f, (∀ g, rx = .other g → f = g) ∧ exec (.eaveOutboundFrame lane rx det) s =
      .next (commandedOffs lane (startInbound lane det s) (judgeFrame lane f (startInbound lane det s))) := by
  rw [exec_eaveOutboundFrame]
  unfold execEaveOutboundFrame
  rw [if_neg (by simpa [level, first] using sends)]
  exact ⟨_, fun g h => by rw [h], rfl⟩

/-- The lane after the start of its inbound frame. -/
theorem laneOf_startInbound (lane : Lane) (det : Nat) (s : State) : laneOf lane (startInbound lane det s) = startedLane lane det s := by
  obtain ⟨fa, h⟩ := startInbound_eq lane det s
  rw [h]
  cases lane <;> rfl

/-- A lane that takes frames takes them still once it has started its inbound frame. -/
theorem takesFrames_startedLane (lane : Lane) (det : Nat) (s : State) :
    takesFrames (startedLane lane det s) = takesFrames (laneOf lane s) := rfl

/-- An accepted frame: its lane is what acceptance makes of it; of the rest only the field side, FA, and the turn-off times that
Weathering takes can differ. -/
theorem exec_eaveOutboundFrame_accepts {s : State} {lane : Lane} {f : OutFrame} (det : Nat) (takes : takesFrames (laneOf lane s) = true)
    (sends : (chanOf lane s).tx.ftype ≠ 0) (first : (laneOf lane s).inTx = none) (sound : outSound f = true)
    (next : seqNext (laneOf lane s).ref f.seq = true) :
    ∃ t sup, exec (.eaveOutboundFrame lane (.other f) det) s = .next t ∧
      laneOf lane t = acceptFrame s.tb.count (startedLane lane det s).det sup f (startedLane lane det s) ∧
      laneOf (otherLane lane) t = laneOf (otherLane lane) s ∧ t.ridge = s.ridge ∧ t.thatch = s.thatch ∧ t.faults = s.faults := by
  obtain ⟨g, hg, he⟩ := exec_eaveOutboundFrame_detects (.other f) det (level_of_takesFrames takes) sends first
  obtain rfl := hg f rfl
  obtain ⟨fa, hu⟩ := startInbound_eq lane det s
  refine ⟨_, s.field.sup, he, ?_⟩
  rw [judgeFrame_accepts (by rw [laneOf_startInbound]; exact takes) sound (by rw [laneOf_startInbound]; exact next),
    accepted_keeps (laneOf lane) (by intros; cases lane <;> rfl),
    accepted_keeps (laneOf (otherLane lane)) (by intros; cases lane <;> rfl),
    accepted_keeps State.ridge (fun _ _ _ _ _ => rfl), accepted_keeps State.thatch (fun _ _ _ _ _ => rfl),
    accepted_keeps State.faults (fun _ _ _ _ _ => rfl),
    laneOf_startInbound, laneOf_setLane, laneOf_setLane_ne _ _ _ _ (ne_otherLane lane), hu]
  cases lane <;> exact ⟨rfl, rfl, rfl, rfl, rfl⟩

/-- A frame that fails its checks: the inbound frame starts, the frame is counted, and nothing else moves but the NEW bits of FA. -/
theorem exec_eaveOutboundFrame_rejects {s : State} {lane : Lane} {f : OutFrame} (det : Nat) (takes : takesFrames (laneOf lane s) = true)
    (sends : (chanOf lane s).tx.ftype ≠ 0) (first : (laneOf lane s).inTx = none)
    (bad : outSound f = false ∨ seqNext (laneOf lane s).ref f.seq = false) :
    ∃ fa, exec (.eaveOutboundFrame lane (.other f) det) s = .next { setLane lane { startedLane lane det s with
      rejected := BitVec.ofNat 16 (min 65535 ((laneOf lane s).rejected.toNat + 1)) } s with fa := fa } := by
  obtain ⟨g, hg, he⟩ := exec_eaveOutboundFrame_detects (.other f) det (level_of_takesFrames takes) sends first
  obtain rfl := hg f rfl
  obtain ⟨fa, hu⟩ := startInbound_eq lane det s
  rw [judgeFrame_rejects (by rw [laneOf_startInbound]; exact takes) (by rw [laneOf_startInbound]; exact bad),
    commandedOffs_same _ _ _ (by rw [laneOf_setLane]), laneOf_startInbound, hu] at he
  refine ⟨fa, he.trans ?_⟩
  cases lane <;> rfl

/-- Settles O39: detection starts the inbound frame in every case; then by whether the frame is accepted, rejected, or not taken at
all. -/
theorem outboundFrames : Obligations.OutboundFrames := by
  unfold Obligations.OutboundFrames
  refine ⟨fun s lane f det takes sends first sound next => ?_, fun s lane f det takes sends first bad => ?_,
    fun s lane rx det silent level sends first => ?_, fun s lane rx det idle => ?_⟩
  · obtain ⟨t, sup, he, hl, rest⟩ := exec_eaveOutboundFrame_accepts det takes sends first sound next
    obtain ⟨accepted, ref, since, inTx, hd⟩ := acceptFrame_marks s.tb.count (startedLane lane det s).det sup f (startedLane lane det s)
    rw [← hl] at accepted ref since inTx hd
    refine ⟨t, he, inTx, inFrameOf_echo lane s, hd, accepted, ref, since.trans hd.symm, fun o h => ?_, fun o h2 h trip dt => ?_, rest⟩
    · rw [hl, acceptFrame_sw]
      exact applyCmds_open _ f _ o (frameCmds_off f o h)
    · rw [hl, acceptFrame_sw]
      exact applyCmds_close _ f _ o (by rwa [frameCmds, if_neg h2]) trip dt
  · obtain ⟨fa, he⟩ := exec_eaveOutboundFrame_rejects det takes sends first bad
    refine ⟨_, he, ?_, ?_, ?_, ?_, ?_, ?_, setLane_back lane _ fa s⟩ <;> cases lane <;> rfl
  · obtain ⟨f, -, he⟩ := exec_eaveOutboundFrame_detects rx det level sends first
    have still : takesFrames (laneOf lane (startInbound lane det s)) = false := by
      rw [laneOf_startInbound, takesFrames_startedLane]
      simp [takesFrames, silent]
    rw [he, judgeFrame_silent still, commandedOffs_same _ _ _ rfl]
  · rw [exec_eaveOutboundFrame]
    unfold execEaveOutboundFrame
    rw [if_pos]
    rcases idle with h | h <;> simp [h]

end Sys2Proof.Proofs
end

section
/-! PROOF. An inbound frame at its channel, and the evaluation of each channel on its own (R16, R23, R26, R140). -/

namespace Sys2Proof.Proofs

open Sys2Proof Sys2Proof.Machine Sys2Proof.Laws

theorem exec_eaveInboundFrame (lane : Lane) (rx : InRx) (s : State) :
    exec (.eaveInboundFrame lane rx) s = execEaveInboundFrame lane rx s := rfl

theorem exec_thatchPassEnd (cycles units : Nat) (ok : Bool) (s : State) :
    exec (.thatchPassEnd cycles units ok) s = execThatchPassEnd cycles units ok s := rfl

/-! ## The evaluation of one channel -/

theorem inputsEval_snap (cfg : Config.Image) (now : W64) (frameAt : Nat) (c : Chan) : (inputsEval cfg now frameAt c).snap = c.snap := rfl

theorem anEval_snap (cfg : Config.Image) (c : Chan) : (anEval cfg c).snap = c.snap := rfl

theorem axesEval_snap (cfg : Config.Image) (strobe : Int) (c : Chan) : (axesEval cfg strobe c).snap = c.snap := rfl

theorem outsEval_snap (cfg : Config.Image) (c : Chan) : (outsEval cfg c).snap = c.snap := by
  unfold outsEval
  dsimp only
  generalize (_ && _ : Bool) = got
  cases got <;> rfl

/-- An evaluation reads its snapshot and does not write it (R20). -/
theorem evalChan_snap (cfg : Config.Image) (h : Shared) (q : TickView) (c : Chan) : (evalChan cfg h q c).snap = c.snap := by
  unfold evalChan
  dsimp only
  rw [outsEval_snap, axesEval_snap, anEval_snap, inputsEval_snap]

/-- An evaluated channel has nothing committed yet (R23). -/
theorem evalChan_marks (cfg : Config.Image) (h : Shared) (q : TickView) (c : Chan) :
    (evalChan cfg h q c).evaluated = true ∧ (evalChan cfg h q c).committed = false := ⟨rfl, rfl⟩

/-- Both channels and what they hold alike. -/
def chans (s : State) : Chan × Chan × Pair := (s.ridge, s.thatch, s.pair)

/-- A fault found leaves the channels as they are. -/
theorem chans_raiseFound (cfg : Config.Image) (f : FaultOf) (s : State) : chans (raiseFound cfg f s) = chans s := by
  unfold raiseFound chans
  dsimp only
  split <;> simp

/-- So does the fault table brought into line with what they find. -/
theorem chans_syncFaults (s : State) : chans (syncFaults s) = chans s := by
  have cleared (p : FaultEntry → Bool) (t : State) : chans (clearWhere p t) = chans t := by simp [chans]
  unfold syncFaults
  dsimp only
  rw [cleared]
  exact foldl_keeps chans _ (fun t f => chans_raiseFound _ f t) _ s

/-- So do the supply faults of a snapshot. -/
theorem chans_supplyFaults (c : Chan) (s : State) : chans (supplyFaults c s) = chans s := by
  refine foldl_keeps chans _ (fun t k => ?_) _ s
  unfold supplyFault chans
  dsimp only
  (repeat' split) <;> simp

/-- An evaluation in a mode that evaluates replaces its own channel by what it makes of the snapshot, and no other. -/
theorem chans_evaluate (lane : Lane) (s : State) (h : s.mode.evaluates = true) :
    chans (evaluate lane s) =
      chans (setChan lane (evalChan (evalCfg s) (sharedOf s) (tickView s) (chanOf lane s)) s) := by
  have found (l : List FaultOf) (t : State) : chans (l.foldl (fun v f => raise f.1 f.2 v) t) = chans t :=
    foldl_keeps chans _ (fun t f => by simp [chans]) l t
  have restarted (c : Chan) (t : State) : chans (restartTpos c t) = chans t := rfl
  have shown (c d : Chan) (t : State) : chans (anLostEvents c d t) = chans t := rfl
  unfold evaluate
  simp only [h, if_true, restarted, chans_syncFaults, chans_supplyFaults, found, shown]

/-! ## What arrives -/

/-- A sound frame with the due echo is taken (R16). -/
theorem exec_eaveInboundFrame_takes {s : State} {lane : Lane} {f : InFrame} (hf : (laneOf lane s).inTx = some f)
    (sends : (chanOf lane s).tx.ftype ≠ 0) (runs : (chanOf lane s).frozen = false) (first : (chanOf lane s).frameOk = false)
    (fresh : (chanOf lane s).evaluated = false) (sound : inSound lane f = true)
    (echo : ∀ e, (chanOf lane s).echoDue = some e → f.echo = e) :
    exec (.eaveInboundFrame lane .asSent) s = .next (takeFrame lane f s) := by
  rw [exec_eaveInboundFrame]
  unfold execEaveInboundFrame
  simp only [runs, first, fresh, arrived, hf, sound, Bool.or_false, decide_eq_true_eq, Bool.true_and]
  rw [if_neg sends]
  congr 1
  rw [if_pos]
  split
  · next e he => simpa using echo e he
  · rfl

/-- A frame without the mismatch flag is the snapshot, and starts an evaluation on the Ridge pair only. -/
theorem takeFrame_eq {s : State} {f : InFrame} (lane : Lane) (agree : f.header.getLsbD 10 = false) :
    takeFrame lane f s =
      (let t := setLane lane { laneOf lane s with echoOk := true, lastHdr := f.header }
        (setChan lane { chanOf lane s with snap := snapOf f, frameOk := true, passAt := s.tb.count } s)
       if lane = .p then evaluate .p t else t) := by
  unfold takeFrame
  simp only [agree, Bool.false_eq_true, if_false]

/-- A missing frame, and one that fails its checks, is a fault of the lane (R140). -/
theorem exec_eaveInboundFrame_fails {s : State} {lane : Lane} {rx : InRx} (sends : (chanOf lane s).tx.ftype ≠ 0)
    (runs : (chanOf lane s).frozen = false) (first : (chanOf lane s).frameOk = false) (fresh : (chanOf lane s).evaluated = false)
    (bad : ∀ f, arrived (laneOf lane s) rx = some f → inSound lane f = false) :
    exec (.eaveInboundFrame lane rx) s = .next (laneFault lane s) := by
  rw [exec_eaveInboundFrame]
  unfold execEaveInboundFrame
  simp only [runs, first, fresh, Bool.or_false, decide_eq_true_eq]
  rw [if_neg sends]
  split
  · rfl
  · next f hf => simp [bad f hf]

/-- A frame put in the place of the one sent arrives, if one was sent. -/
theorem arrived_other {l : LaneFc} {f g : InFrame} (h : arrived l (.other g) = some f) : f = g := by
  simp only [arrived, Option.map_eq_some_iff] at h
  obtain ⟨-, -, rfl⟩ := h
  rfl

/-- EAVE_LANE_FAULT of a lane is raised, and both channels stay as they are. -/
theorem laneFault_raises (lane : Lane) (s : State) (live : tableStill s = false) :
    hasFault (laneFault lane s) fcEaveLaneFault (if lane = .t then 1 else 0) = true ∧
      (laneFault lane s).ridge = s.ridge ∧ (laneFault lane s).thatch = s.thatch := by
  unfold laneFault
  refine ⟨?_, by simp, by simp⟩
  have still (l : LaneFc) : tableStill (setLane lane l s) = false := by cases lane <;> exact live
  rw [hasFault_raise _ _ _ _ _ (by decide), still]
  cases lane <;> simp

/-! ## The Thatch pass -/

/-- Before 2 048 cycles, and without a frame, no pass ends (R26). -/
theorem exec_thatchPassEnd_early {s : State} {cycles : Nat} (units : Nat) (ok : Bool) (h : s.thatch.frameOk = false ∨ cycles < 2048) :
    exec (.thatchPassEnd cycles units ok) s = .next s := by
  rw [exec_thatchPassEnd]
  unfold execThatchPassEnd
  rw [if_pos]
  rcases h with h | h <;> simp [h]

/-- A pass that ends with a good canary: evaluated at 2 048 cycles, an overrun beyond (R26, R28). -/
theorem exec_thatchPassEnd_ends {s : State} {cycles : Nat} (units : Nat) (took : s.thatch.frameOk = true) (runs : s.thatch.frozen = false)
    (fresh : s.thatch.evaluated = false) (h : 2048 ≤ cycles) :
    exec (.thatchPassEnd cycles units true) s =
      (let t := { s with pair := { s.pair with thatchPass := BitVec.ofNat 32 units } }
       .next (if 2048 < cycles then raise fcTickOverrunTh 0 t else evaluate .t t)) := by
  rw [exec_thatchPassEnd]
  unfold execThatchPassEnd
  rw [if_neg (by simp [took, runs, fresh, h])]
  simp

/-- Settles O40: what arrives is taken or is a fault of the lane; each evaluation replaces its own channel alone. -/
theorem inboundFramesAndEvaluation : Obligations.InboundFramesAndEvaluation := by
  unfold Obligations.InboundFramesAndEvaluation
  refine ⟨fun s f hf sends runs first fresh sound echo agree evaluates => ?_,
    fun s f hf sends runs first fresh sound echo agree => ?_, fun s lane g sends runs first fresh live unsound => ?_,
    fun s units took runs fresh evaluates => ?_, fun s cycles units took runs fresh live long => ?_,
    fun s cycles units ok early => exec_thatchPassEnd_early units ok early⟩
  · refine ⟨_, exec_eaveInboundFrame_takes (lane := .p) hf sends runs first fresh sound echo, ?_⟩
    rw [takeFrame_eq .p agree]
    dsimp only
    rw [if_pos rfl]
    generalize hu : setLane .p { laneOf .p s with echoOk := true, lastHdr := f.header } _ = u
    have e := chans_evaluate .p u (by rw [← hu]; exact evaluates)
    simp only [chans, Prod.mk.injEq] at e
    obtain ⟨ridge, thatch, -⟩ := e
    rw [thatch, ridge]
    subst hu
    exact ⟨rfl, evalChan_snap _ _ _ _, (evalChan_marks _ _ _ _).1, (evalChan_marks _ _ _ _).2, rfl⟩
  · rw [exec_eaveInboundFrame_takes (lane := .t) hf sends runs first fresh sound echo, takeFrame_eq .t agree]
    rfl
  · obtain ⟨raised, ridge, thatch⟩ := laneFault_raises lane s live
    exact ⟨_, _, exec_eaveInboundFrame_fails sends runs first fresh (fun f h => by cases h),
      exec_eaveInboundFrame_fails sends runs first fresh (fun f h => by rwa [arrived_other h]), raised, raised, ridge, thatch, ridge,
      thatch⟩
  · refine ⟨_, exec_thatchPassEnd_ends units took runs fresh (Nat.le_refl _), ?_⟩
    rw [if_neg (by decide)]
    generalize hu : ({ s with pair := _ } : State) = u
    have e := chans_evaluate .t u (by rw [← hu]; exact evaluates)
    simp only [chans, Prod.mk.injEq] at e
    obtain ⟨ridge, thatch, pair⟩ := e
    rw [ridge, thatch, pair]
    subst hu
    exact ⟨rfl, (evalChan_marks _ _ _ _).1, (evalChan_marks _ _ _ _).2, rfl, rfl⟩
  · refine ⟨_, exec_thatchPassEnd_ends units took runs fresh long.le, ?_⟩
    rw [if_pos long, hasFault_raise _ _ _ _ _ (by decide)]
    refine ⟨?_, by simp⟩
    have still : tableStill { s with pair := { s.pair with thatchPass := BitVec.ofNat 32 units } } = false := live
    simp [still]

end Sys2Proof.Proofs
end

section
/-! PROOF. What Weathering measures, and its re-plan, which cannot leave the bounds of the configuration (R13, R309, R325 to R331). -/

namespace Sys2Proof.Proofs

open Sys2Proof Sys2Proof.Machine Sys2Proof.Laws

theorem exec_thatchDeviationMeasure (n : Nat) (s : State) :
    exec (.thatchDeviationMeasure n) s = execThatchDeviationMeasure n s := rfl

theorem exec_equivalentHourUpdate (s : State) : exec .equivalentHourUpdate s = execEquivalentHourUpdate s := rfl

theorem exec_equivalentHourFlashCopy (s : State) : exec .equivalentHourFlashCopy s = execEquivalentHourFlashCopy s := rfl

theorem exec_weatheringDailyValue (s : State) : exec .weatheringDailyValue s = execWeatheringDailyValue s := rfl

theorem exec_slateRecheck (cells : Vector (BitVec 8192) 6) (temp : Int) (s : State) :
    exec (.slateRecheck cells temp) s = execSlateRecheck cells temp s := rfl

theorem exec_weatheringReplan (ron : List RonMeas) (f : Vector Nat 4) (wrong : List (Nat × Int)) (s : State) :
    exec (.weatheringReplan ron f wrong) s = execWeatheringReplan ron f wrong s := rfl

/-- A refresh of the summary writes the summary alone (R348). -/
theorem wthRefresh_keeps {β : Type} (p : State → β) (hp : ∀ t x, p { t with wth := { t.wth with sum := x } } = p t) (s : State) :
    p (wthRefresh s) = p s := by
  unfold wthRefresh
  split
  · exact hp s _
  · rfl

/-! ## Daily values (R331) -/

/-- Looking a number up where the values under one number have been changed. -/
theorem lookup_map_at {β : Type} (no n : Nat) (g : β → β) (l : List (Nat × β)) :
    (l.map (fun e => if e.1 = no then (no, g e.2) else e)).lookup n = if n = no then (l.lookup n).map g else l.lookup n := by
  induction l with
  | nil => simp
  | cons e l ih =>
    obtain ⟨k, d⟩ := e
    rw [List.map_cons]
    by_cases hk : k = no
    · subst hk
      rw [if_pos rfl, List.lookup_cons, List.lookup_cons, ih]
      by_cases hn : n = k
      · simp [hn]
      · simp [hn, beq_false_of_ne hn]
    · rw [if_neg hk, List.lookup_cons, List.lookup_cons, ih]
      by_cases hn : n = k
      · simp [hn, hk]
      · simp [beq_false_of_ne hn]

/-- The value of a day stands last among those kept under its number. -/
theorem lookup_addDay_self (day no : Nat) (v : Int) (l : List (Nat × List (Nat × Int))) :
    ∃ x, (addDay day no v l).lookup no = some (x ++ [(day, v)]) := by
  unfold addDay
  dsimp only
  split
  · next h =>
    obtain ⟨d, hd⟩ : ∃ d, l.lookup no = some d := by
      rw [← Option.isSome_iff_exists, List.lookup_isSome_iff]
      simpa [BEq.comm] using h
    rw [lookup_map_at no no (fun d => (d.filter (fun e => e.1 < day && day < e.1 + 64)) ++ [(day, v)]), if_pos rfl, hd]
    exact ⟨_, rfl⟩
  · next h =>
    have none : l.lookup no = none := by
      rw [List.lookup_eq_none_iff]
      intro p hp
      rw [bne_iff_ne]
      rintro rfl
      exact h (List.any_eq_true.2 ⟨p, hp, beq_self_eq_true _⟩)
    rw [List.lookup_append, none]
    exact ⟨[], by simp⟩

/-- What is kept under another number stays. -/
theorem lookup_addDay_other (day no : Nat) (v : Int) (l : List (Nat × List (Nat × Int))) {n : Nat} (h : n ≠ no) :
    (addDay day no v l).lookup n = l.lookup n := by
  unfold addDay
  dsimp only
  split
  · rw [lookup_map_at no n (fun d => (d.filter (fun e => e.1 < day && day < e.1 + 64)) ++ [(day, v)]), if_neg h]
  · rw [List.lookup_append]
    simp [List.lookup_cons, beq_false_of_ne h]

/-- Under a number stand values, the last of them that of the day. -/
def keptToday (day no : Nat) (l : List (Nat × List (Nat × Int))) : Prop :=
  ∃ d, l.lookup no = some d ∧ d.getLast?.map Prod.fst = some day

theorem keptToday_addDay_self (day no : Nat) (v : Int) (l : List (Nat × List (Nat × Int))) :
    keptToday day no (addDay day no v l) := by
  obtain ⟨x, h⟩ := lookup_addDay_self day no v l
  exact ⟨_, h, by simp⟩

theorem keptToday_addDay {day n : Nat} (no : Nat) (v : Int) {l : List (Nat × List (Nat × Int))} (h : keptToday day n l) :
    keptToday day n (addDay day no v l) := by
  by_cases e : n = no
  · exact e ▸ keptToday_addDay_self day no v l
  · rwa [keptToday, lookup_addDay_other day no v l e]

/-- Once the values of all margins of a day have joined, each of them stands last. -/
theorem keptToday_foldl_addDay (day : Nat) (ms : List Margin) (l : List (Nat × List (Nat × Int))) (n : Nat)
    (h : keptToday day n l ∨ ∃ m ∈ ms, n = marginNo m.kind m.obj) :
    keptToday day n (ms.foldl (fun l m => addDay day (marginNo m.kind m.obj) m.value l) l) := by
  induction ms generalizing l with
  | nil => simpa using h
  | cons a ms ih =>
    refine ih _ ?_
    rcases h with h | ⟨m, hm, e⟩
    · exact .inl (keptToday_addDay _ _ h)
    · rcases List.mem_cons.1 hm with rfl | hm
      · exact .inl (e ▸ keptToday_addDay_self _ _ _ _)
      · exact .inr ⟨m, hm, e⟩

/-! ## Proposals (R13, R327) -/

/-- An ignored proposal leaves the last value; an accepted one lies within its bounds (R13). -/
theorem accept_cases (lo hi v keep : Int) :
    accept lo hi v keep = keep ∨ (accept lo hi v keep = v ∧ lo ≤ v ∧ v ≤ hi) := by
  unfold accept
  split
  · next h => exact .inr ⟨rfl, by simpa using h⟩
  · exact .inl rfl

/-- A margin grows by at most one step (R327). -/
theorem stepTo_le (active need step count : Nat) : stepTo active need step count ≤ active + step := by
  unfold stepTo
  (repeat' split) <;> omega

/-- The proposals of another kind are not those looked for. -/
theorem find_otherKind {n a kind : Nat} (obj : Nat) (g : Nat → Int × Int × Int) (h : a ≠ kind) :
    ((List.range n).map (fun j => (a, j, g j))).find? (fun p => p.1 == kind && p.2.1 == obj) = none := by
  simp [List.find?_eq_none, h]

/-- Among the proposals of its kind an object's is found. -/
theorem find_sameKind {n obj : Nat} (kind : Nat) (g : Nat → Int × Int × Int) (h : obj < n) :
    ((List.range n).map (fun j => (kind, j, g j))).find? (fun p => p.1 == kind && p.2.1 == obj) = some (kind, obj, g obj) := by
  have e : (List.range n).find? ((fun p : Nat × Nat × Int × Int × Int => p.1 == kind && p.2.1 == obj) ∘ fun j => (kind, j, g j)) =
      some obj := by
    rw [List.find?_range_eq_some]
    refine ⟨by simp, by simpa using h, fun j hj => ?_⟩
    simp; omega
  rw [List.find?_map, e]
  rfl

/-- The width that the rule proposes for a TPO (R327). -/
def ruleWidth (back : List (Nat × Nat)) (s : State) (m : Nat) : Nat :=
  if cfgWth s.active.image then
    stepTo (vget s.wth.nextWidth m 0) (min (needWidth s.active.image s.wth m) (cfgWidthMax s.active.image m)) 50
      ((back.lookup (marginNo 4 m)).getD 0)
  else cfgWidth s.active.image m

/-- The dark-test time that the rule proposes for a switch (R327). -/
def ruleDt (back : List (Nat × Nat)) (s : State) (k : Nat) : Nat :=
  if cfgWth s.active.image then
    stepTo (vget s.wth.nextDt k 0) (min (needDt s.active.image s.wth k) (cfgDtMax s.active.image (k / 2))) 10
      ((back.lookup (marginNo 1 k)).getD 0)
  else cfgDtTime s.active.image (k / 2)

/-- The proposal for a TPO's width, with its bounds. -/
theorem find_widthProposal (wrong : List (Nat × Int)) (back : List (Nat × Nat)) (s : State) (m : Fin 16) :
    (proposals wrong back s).find? (fun p => p.1 == 4 && p.2.1 == m.val) =
      some (4, m.val, proposed wrong 4 m (ruleWidth back s m), (cfgWidth s.active.image m : Int),
        (cfgWidthMax s.active.image m : Int)) := by
  unfold proposals
  dsimp only
  rw [List.find?_append, List.find?_append, List.find?_append, find_otherKind _ _ (by decide), find_otherKind _ _ (by decide),
    find_sameKind 4 _ m.isLt]
  rfl

/-- The proposal for a switch's dark-test time, with its bounds. -/
theorem find_dtProposal (wrong : List (Nat × Int)) (back : List (Nat × Nat)) (s : State) (k : Fin 56) :
    (proposals wrong back s).find? (fun p => p.1 == 1 && p.2.1 == k.val) =
      some (1, k.val, proposed wrong 1 k (ruleDt back s k), (cfgDtTime s.active.image (k.val / 2) : Int),
        (cfgDtMax s.active.image (k.val / 2) : Int)) := by
  unfold proposals
  dsimp only
  rw [List.find?_append, List.find?_append, List.find?_append, find_sameKind 1 _ k.isLt]
  rfl

/-! ## The table taken (R13, R327) -/

/-- A width is taken where its proposal is accepted, and stays otherwise. -/
theorem takeProposal_width (wrong : List (Nat × Int)) (back : List (Nat × Nat)) (s : State) (m : Fin 16) (keep : Int) :
    takeProposal (proposals wrong back s) 4 m keep =
      accept (cfgWidth s.active.image m) (cfgWidthMax s.active.image m) (proposed wrong 4 m (ruleWidth back s m)) keep := by
  rw [takeProposal, find_widthProposal]

/-- The same for a dark-test time. -/
theorem takeProposal_dt (wrong : List (Nat × Int)) (back : List (Nat × Nat)) (s : State) (k : Fin 56) (keep : Int) :
    takeProposal (proposals wrong back s) 1 k keep =
      accept (cfgDtTime s.active.image (k.val / 2)) (cfgDtMax s.active.image (k.val / 2)) (proposed wrong 1 k (ruleDt back s k)) keep := by
  rw [takeProposal, find_dtProposal]

/-- The widths of the table taken. -/
theorem takeTable_nextWidth (wrong : List (Nat × Int)) (s : State) (m : Fin 16) :
    (takeTable wrong s).wth.nextWidth[m] =
      (accept (cfgWidth s.active.image m) (cfgWidthMax s.active.image m) (proposed wrong 4 m (ruleWidth (backCounts s) s m))
        s.wth.nextWidth[m]).toNat := by
  unfold takeTable
  simp only [setFault_frame]
  split <;> simp only [Fin.getElem_fin, getElem_vtab, vget_fin, takeProposal_width]

/-- The dark-test times of the table taken. -/
theorem takeTable_nextDt (wrong : List (Nat × Int)) (s : State) (k : Fin 56) :
    (takeTable wrong s).wth.nextDt[k] =
      (accept (cfgDtTime s.active.image (k.val / 2)) (cfgDtMax s.active.image (k.val / 2))
        (proposed wrong 1 k (ruleDt (backCounts s) s k)) s.wth.nextDt[k]).toNat := by
  unfold takeTable
  simp only [setFault_frame]
  split <;> simp only [Fin.getElem_fin, getElem_vtab, vget_fin, takeProposal_dt]

/-- Taking a table leaves the measurements and what is active now. -/
theorem takeTable_keeps (wrong : List (Nat × Int)) (s : State) :
    (takeTable wrong s).wth.planAt = s.wth.planAt ∧ (takeTable wrong s).wth.hist = s.wth.hist ∧
      (takeTable wrong s).wth.dt = s.wth.dt ∧ (takeTable wrong s).wth.width = s.wth.width ∧
      (takeTable wrong s).wth.interval = s.wth.interval ∧ (takeTable wrong s).tick = s.tick := by
  unfold takeTable
  simp only [setFault_frame]
  split <;> simp

/-- A proposal outside its bounds raises MARGIN_REJECTED (R13). -/
theorem takeTable_rejects {wrong : List (Nat × Int)} {s : State} {p : Nat × Nat × Int × Int × Int}
    (hp : p ∈ proposals wrong (backCounts s) s) (out : p.2.2.1 < p.2.2.2.1 ∨ p.2.2.2.2 < p.2.2.1) (live : tableStill s = false) :
    (takeTable wrong s).wth.rejected = true ∧ hasFault (takeTable wrong s) fcMarginRejected 0 = true := by
  have bad : (proposals wrong (backCounts s) s).any
      (fun p => !(decide (p.2.2.2.1 ≤ p.2.2.1) && decide (p.2.2.1 ≤ p.2.2.2.2))) = true :=
    List.any_eq_true.2 ⟨p, hp, by rcases out with h | h <;> simp [h]⟩
  unfold takeTable
  simp only [bad]
  refine ⟨by simp only [setFault_frame]; split <;> rfl, ?_⟩
  simp only [setFault, if_true]
  rw [hasFault_raise _ _ _ _ _ (by decide)]
  have still (x : Weather) (e : Events) : tableStill { s with wth := x, ev := e } = false := live
  split <;> simp [still]

/-- A proposed value that W hands over stands in the place of the rule's (R13). -/
theorem proposed_cons (rest : List (Nat × Int)) (kind obj : Nat) (v w : Int) :
    proposed ((marginNo kind obj, v) :: rest) kind obj w = v := by
  simp [proposed]

/-- With Weathering off the configured dark-test time is taken. -/
theorem takeTable_nextDt_off {s : State} (off : cfgWth s.active.image = false) (k : Fin 56)
    (order : cfgDtTime s.active.image (k.val / 2) ≤ cfgDtMax s.active.image (k.val / 2)) :
    (takeTable [] s).wth.nextDt[k] = cfgDtTime s.active.image (k.val / 2) := by
  have rule : ruleDt (backCounts s) s k = cfgDtTime s.active.image (k.val / 2) := by simp [ruleDt, off]
  rw [takeTable_nextDt, rule]
  simp [proposed, accept, order]

/-- A width that the rule proposes grows by at most one step, never beyond its bound, and does not leave its bounds (R13, R327). -/
theorem takeTable_nextWidth_bounds {s : State} (on : cfgWth s.active.image = true) (m : Fin 16) :
    (takeTable [] s).wth.nextWidth[m] ≤ max s.wth.nextWidth[m] (cfgWidthMax s.active.image m) ∧
      (takeTable [] s).wth.nextWidth[m] ≤ s.wth.nextWidth[m] + 50 ∧
      (cfgWidth s.active.image m ≤ s.wth.nextWidth[m] → s.wth.nextWidth[m] ≤ cfgWidthMax s.active.image m →
        cfgWidth s.active.image m ≤ (takeTable [] s).wth.nextWidth[m]) := by
  have step : ruleWidth (backCounts s) s m ≤ s.wth.nextWidth[m] + 50 := by
    rw [ruleWidth, if_pos on, vget_fin]
    exact stepTo_le _ _ _ _
  have rule : proposed [] 4 m (ruleWidth (backCounts s) s m) = ruleWidth (backCounts s) s m := rfl
  rw [takeTable_nextWidth, rule]
  rcases accept_cases (cfgWidth s.active.image m) (cfgWidthMax s.active.image m) (ruleWidth (backCounts s) s m) s.wth.nextWidth[m] with
    e | ⟨e, lo, hi⟩ <;> rw [e, Int.toNat_natCast] <;> omega

/-- A width handed over within its bounds is taken (R13). -/
theorem takeTable_nextWidth_in {s : State} (m : Fin 16) {v : Nat} (rest : List (Nat × Int)) (lo : cfgWidth s.active.image m ≤ v)
    (hi : v ≤ cfgWidthMax s.active.image m) : (takeTable ((marginNo 4 m, (v : Int)) :: rest) s).wth.nextWidth[m] = v := by
  rw [takeTable_nextWidth, proposed_cons]
  simp [accept, lo, hi]

/-- A width handed over outside its bounds is ignored, and rejected (R13). -/
theorem takeTable_nextWidth_out {s : State} (m : Fin 16) {v : Int} (rest : List (Nat × Int))
    (out : v < cfgWidth s.active.image m ∨ (cfgWidthMax s.active.image m : Int) < v) (live : tableStill s = false) :
    (takeTable ((marginNo 4 m, v) :: rest) s).wth.nextWidth[m] = s.wth.nextWidth[m] ∧
      (takeTable ((marginNo 4 m, v) :: rest) s).wth.rejected = true ∧
      hasFault (takeTable ((marginNo 4 m, v) :: rest) s) fcMarginRejected 0 = true := by
  refine ⟨?_, takeTable_rejects (List.mem_of_find?_eq_some (find_widthProposal _ _ s m)) ?_ live⟩
  · rw [takeTable_nextWidth, proposed_cons]
    rcases accept_cases (cfgWidth s.active.image m) (cfgWidthMax s.active.image m) v s.wth.nextWidth[m] with e | ⟨-, lo, hi⟩
    · rw [e, Int.toNat_natCast]
    · omega
  · simpa only [proposed_cons] using out

/-! ## Exhaustion (R330) -/

/-- What a re-plan decides of Weathering and of the tick: all but the exhausted margins and the summary. -/
def planned (s : State) : Weather × Tick := ({ s.wth with exhausted := [], sum := Vector.replicate 4 0 }, s.tick)

/-- MARGIN_EXHAUSTED of a margin leaves what is planned. -/
theorem planned_exhaust (m : Margin) (s : State) : planned (exhaust m s) = planned s := by
  unfold exhaust planned
  dsimp only
  (repeat' split) <;> simp

/-- A log entry concerns no fault. -/
theorem hasFault_logEvent (code : BitVec 16) (arg : List Byte) (s : State) (c : BitVec 16) (o : Nat) :
    hasFault (logEvent code arg s) c o = hasFault s c o := hasFault_congr (by simp) (by simp) c o

/-- It leaves every other fault as well; EVT_LOST may come with its event. -/
theorem hasFault_exhaust (m : Margin) (s : State) {c : BitVec 16} (o : Nat) (h : c ≠ fcEvtLost) (hm : c ≠ fcMarginExhausted) :
    hasFault (exhaust m s) c o = hasFault s c o := by
  unfold exhaust
  dsimp only
  split
  · split
    · rfl
    · change hasFault (logEvent _ _ (raiseW _ _ _ s)) c o = _
      rw [hasFault_logEvent, hasFault_raiseW _ _ _ _ _ _ h, beq_false_of_ne (Ne.symm hm)]
      simp
  · rw [hasFault_clearFault _ _ _ _ _ h, beq_false_of_ne (Ne.symm hm)]
    simp [hasFault]

/-! ## The re-plan (R325, R327) -/

/-- What a re-plan starts from: the peaks of the stretch taken, and its moment. -/
def replanStart (ron : List RonMeas) (f : Vector Nat 4) (s : State) : State :=
  { s with wth := { takePeaks ron f s.wth with planAt := s.tb.count }, ev := { s.ev with wth := setBit s.ev.wth 2 true } }

/-- A re-plan takes place ten minutes after the last one, outside LULL (R327, R350). -/
theorem replanDue_eq (s : State) (up : s.w.up = true) (valid : s.active.valid = true) (awake : s.mode ≠ .lull)
    (time : s.wth.planAt.toNat + 60000000000 ≤ s.tb.count.toNat) : replanDue s = true := by
  simp [replanDue, up, valid, awake, due]; exact time

theorem replanDue_early {s : State} (h : s.tb.count.toNat < s.wth.planAt.toNat + 60000000000) : replanDue s = false := by
  have early : due s (s.wth.planAt.toNat + 600 * tSec) = false := decide_eq_false (Nat.not_le.2 h)
  rw [replanDue, early, Bool.and_false]

/-- Before that it does nothing. -/
theorem exec_weatheringReplan_early (ron : List RonMeas) (f : Vector Nat 4) (wrong : List (Nat × Int)) {s : State}
    (h : replanDue s = false) : exec (.weatheringReplan ron f wrong) s = .next s := by
  simp [exec_weatheringReplan, execWeatheringReplan, h]

/-- A re-plan plans what the table taken says, and raises the faults of the table besides those of exhaustion. -/
theorem exec_weatheringReplan_plans (ron : List RonMeas) (f : Vector Nat 4) (wrong : List (Nat × Int)) {s : State}
    (h : replanDue s = true) :
    ∃ t, exec (.weatheringReplan ron f wrong) s = .next t ∧ planned t = planned (takeTable wrong (replanStart ron f s)) ∧
      ∀ c o, c ≠ fcEvtLost → c ≠ fcMarginExhausted → hasFault t c o = hasFault (takeTable wrong (replanStart ron f s)) c o := by
  rw [exec_weatheringReplan]
  unfold execWeatheringReplan
  rw [h]
  refine ⟨_, rfl, ?_, fun c o hc hm => ?_⟩
  · rw [wthRefresh_keeps planned (fun _ _ => rfl)]
    exact foldl_keeps planned _ (fun v m => planned_exhaust m v) _ _
  · rw [wthRefresh_keeps (fun v => hasFault v c o) (fun _ _ => rfl)]
    exact foldl_keeps (fun v => hasFault v c o) _ (fun v m => hasFault_exhaust m v o hc hm) _ _

/-- The peaks of ten minutes: flash bits add, on-resistances take the larger, turn-off times stay (R325, Table 14.6). -/
theorem takePeaks_hist (ron : List RonMeas) (f : Vector Nat 4) (w : Weather) :
    ∃ p, (takePeaks ron f w).hist = (p :: w.hist).take 144 ∧ (∀ a : Fin 4, p.flash[a] = w.cur.flash[a] + f[a]) ∧
      (∀ k : Fin 56, p.ron[k] = max w.cur.ron[k] (ronOf ron k)) ∧ p.off = w.cur.off := by
  refine ⟨_, rfl, fun a => by simp [Peaks.join], fun k => by simp [Peaks.join], ?_⟩
  ext i hi
  simp [Peaks.join, Peaks.none, vget, hi]

/-- No on-resistance is taken of a switch at less than 50 mA (Table 14.6). -/
theorem ronOf_low (l : List RonMeas) (k : Nat) (h : ∀ x ∈ l, x.sw.val = k → x.ua < 50000) : ronOf l k = 0 := by
  unfold ronOf
  induction l with
  | nil => rfl
  | cons x l ih =>
    have low := h x List.mem_cons_self
    have skip : (x.sw.val = k && 50000 ≤ x.ua : Bool) = false := by
      by_cases hk : x.sw.val = k
      · simp [low hk]
      · simp [hk]
    rw [List.foldl_cons, skip]
    exact ih (fun y hy => h y (List.mem_cons_of_mem _ hy))

/-! ## Values at their moment (Table 14.7) -/

/-- The tick window is taken at every boundary. -/
theorem applyMargins_tick (s : State) :
    (applyMargins s).tick.centre = s.wth.nextCentre ∧ (applyMargins s).tick.half = 500 - s.wth.nextCentre.natAbs := by
  unfold applyMargins
  dsimp only
  split
  · rw [wthRefresh_keeps State.tick (fun _ _ => rfl)]
    exact ⟨rfl, rfl⟩
  · rw [wthRefresh_keeps State.tick (fun _ _ => rfl)]
    exact ⟨rfl, rfl⟩

/-- A width is taken at a boundary, but not inside a pulse of its TPO. -/
theorem applyMargins_width (s : State) (m : Fin 16) (h : s.mode.evaluates = true) :
    (applyMargins s).wth.width[m] = if s.field.tpo[m].phase = 0 then s.wth.nextWidth[m] else s.wth.width[m] := by
  unfold applyMargins
  simp only [h, Bool.not_true, Bool.false_eq_true, if_false]
  refine (wthRefresh_keeps (fun t => t.wth.width[m]) (fun _ _ => rfl) _).trans ?_
  simp only [Fin.getElem_fin, getElem_vtab, vget_fin]
  by_cases idle : s.field.tpo[m.val].phase = 0
  · by_cases same : s.wth.nextWidth[m.val] = s.wth.width[m.val] <;> simp [idle, same]
  · simp [idle]

/-- Where the fault table does not stand still, the module is not in LULL (R350). -/
theorem awake_of_live {s : State} (live : tableStill s = false) : s.mode ≠ .lull := by
  rintro h
  simp [tableStill, h] at live

/-- Settles O58: every measurement joins its own field; a re-plan accepts within the bounds and ignores the rest. -/
theorem weatheringMeasuresAndReplans : Obligations.WeatheringMeasuresAndReplans := by
  unfold Obligations.WeatheringMeasuresAndReplans
  refine ⟨fun s n up on => ?_, fun s n down => ?_, fun s r f w early => ?_, fun s up on => ?_, fun s up opened => ?_, fun s shut => ?_,
    fun s up valid => ?_, fun s cells temp up read live same _ => ?_, fun s cells temp b up read live differs hb => ?_,
    fun s ron f up awake valid time => ?_, fun s ron f m v rest up valid live time out => ?_,
    fun s ron f m v rest up awake valid time lo hi => ?_, fun s m evaluates => ?_, applyMargins_tick, ronOf_low⟩
  · rw [exec_thatchDeviationMeasure, execThatchDeviationMeasure, if_pos (by simp only [up, on, Bool.and_self])]
    exact ⟨_, rfl, rfl, rfl⟩
  · refine ⟨?_, ?_, ?_, fun r f w => exec_weatheringReplan_early r f w (by simp [replanDue, down])⟩
    · simp [exec_thatchDeviationMeasure, execThatchDeviationMeasure, down]
    · simp [exec_equivalentHourUpdate, execEquivalentHourUpdate, down]
    · simp [exec_weatheringDailyValue, execWeatheringDailyValue, down]
  · exact exec_weatheringReplan_early r f w (replanDue_early early)
  · rw [exec_equivalentHourUpdate, execEquivalentHourUpdate, if_pos (by simp only [up, on, Bool.and_self])]
    refine ⟨_, rfl, ?_, ?_, ?_⟩
    · exact wthRefresh_keeps (fun t => t.wth.hours) (fun _ _ => rfl) _
    · exact wthRefresh_keeps (fun t => t.wth.nextDt) (fun _ _ => rfl) _
    · exact wthRefresh_keeps (fun t => { t with wth := s.wth }) (fun _ _ => rfl) _
  · rw [exec_equivalentHourFlashCopy, execEquivalentHourFlashCopy, if_pos (by simp [up, opened])]
    exact ⟨_, rfl, rfl, rfl⟩
  · rw [exec_equivalentHourFlashCopy, execEquivalentHourFlashCopy, if_neg (by rcases shut with h | h <;> simp [h])]
  · rw [exec_weatheringDailyValue, execWeatheringDailyValue, if_pos (by simp only [up, valid, Bool.and_self])]
    exact ⟨_, rfl, rfl, fun m hm => keptToday_foldl_addDay _ _ _ _ (.inr ⟨m, hm, rfl⟩)⟩
  · rw [exec_slateRecheck]
    unfold execSlateRecheck
    rw [if_neg (by simp [up, read]), same]
    refine ⟨_, rfl, by simp, ?_, by simp⟩
    have still : tableStill { s with slate := { s.slate with cells := cells } } = false := live
    have cleared : (faultClass fcSlateDrift == .h) = false := by decide
    rw [hasFault_clearFault _ _ _ _ _ (by decide), still, cleared]
    simp
  · rw [exec_slateRecheck]
    unfold execSlateRecheck
    rw [if_neg (by simp [up, read]), differs]
    refine ⟨_, rfl, by simp, ?_, ?_, by simp⟩
    · have still (x : Slate) (e : Events) : tableStill { s with slate := x, ev := e } = false := live
      rw [hasFault_raise _ _ _ _ _ (by decide), still]
      simp
    · simp only [raise_frame, BitVec.toNat_ofNat]
      omega
  · obtain ⟨t, he, hp, -⟩ := exec_weatheringReplan_plans ron f [] (replanDue_eq s up valid awake time)
    have part {β : Type} (q : Weather × Tick → β) : q (planned t) = q (planned (takeTable [] (replanStart ron f s))) := congrArg q hp
    obtain ⟨planAt, hist, dt, width, interval, tick⟩ := takeTable_keeps [] (replanStart ron f s)
    refine ⟨t, he, (part (fun p => p.1.planAt)).trans planAt, ?_, (part (fun p => p.1.dt)).trans dt,
      (part (fun p => p.1.width)).trans width, (part (fun p => p.1.interval)).trans interval, (part Prod.snd).trans tick,
      fun off k order => ?_, fun on m => ?_⟩
    · rw [show t.wth.hist = _ from (part (fun p => p.1.hist)).trans hist]
      exact takePeaks_hist ron f s.wth
    · rw [show t.wth.nextDt[k] = _ from part (fun p => p.1.nextDt[k])]
      exact takeTable_nextDt_off (s := replanStart ron f s) off k order
    · rw [show t.wth.nextWidth[m] = _ from part (fun p => p.1.nextWidth[m])]
      exact takeTable_nextWidth_bounds (s := replanStart ron f s) on m
  · obtain ⟨t, he, hp, hf⟩ := exec_weatheringReplan_plans ron f ((marginNo 4 m, v) :: rest)
      (replanDue_eq s up valid (awake_of_live live) time)
    obtain ⟨ignored, rejected, raised⟩ := takeTable_nextWidth_out (s := replanStart ron f s) m rest out live
    exact ⟨t, he, (congrArg (fun p => p.1.nextWidth[m]) hp).trans ignored, (congrArg (fun p => p.1.rejected) hp).trans rejected,
      (hf _ _ (by decide) (by decide)).trans raised⟩
  · obtain ⟨t, he, hp, -⟩ := exec_weatheringReplan_plans ron f ((marginNo 4 m, (v : Int)) :: rest)
      (replanDue_eq s up valid awake time)
    exact ⟨t, he, (congrArg (fun p => p.1.nextWidth[m]) hp).trans (takeTable_nextWidth_in (s := replanStart ron f s) m rest lo hi)⟩
  · rw [applyMargins_width s m evaluates]
    exact ⟨fun h => if_neg h, fun h => if_pos h⟩

end Sys2Proof.Proofs
end

section
/-! PROOF. The writers of the held registers: every one leaves them legal (R36 to R43, R229 to R238, R335 to R353). -/

namespace Sys2Proof.Proofs

open Sys2Proof Sys2Proof.Machine Sys2Proof.Safety Sys2Proof.Laws

/-! ## What is asked of each register -/

/-- A channel past the last one reads as an unused one, which is legal. -/
theorem tmuLegal_reset : tmuLegal TmuCh.reset = true := by decide

/-- The held registers are legal when each of them is. -/
theorem legal_iff (s : State) :
    legal (held s) = true ↔
      (s.host.irqEn &&& 0xFFFFFC00 = 0 ∧ s.host.indAddr.toNat % 4 = 0 ∧ trigLegal s.lull.trig = true) ∧
        ((∀ n, tmuLegal (tmuAt s n) = true) ∧ (tmuAt s 0).src ≠ 8) ∧ ∀ u, cvuLegal (cvuAt u s).ctrl = true := by
  have tmu : s.tmu.ch.toList.all tmuLegal = true ↔ ∀ n, tmuLegal (tmuAt s n) = true := by
    rw [List.all_eq_true]
    constructor
    · intro h n
      unfold tmuAt vget
      split
      · exact h _ (by simp)
      · exact tmuLegal_reset
    · intro h c hc
      obtain ⟨n, hn, rfl⟩ := List.getElem_of_mem hc
      have := h n
      simp only [Vector.length_toList] at hn
      simpa [tmuAt, vget, hn] using this
  have head : s.tmu.ch.toList.head?.all (fun c => fld c.ctrl 24 4 != 8) = true ↔ (tmuAt s 0).src ≠ 8 := by
    rw [List.head?_eq_getElem?]
    simp [tmuAt, vget, TmuCh.src]
  have cvu : (s.cvu.toList.map (fun c => c.ctrl)).all cvuLegal = true ↔ ∀ u, cvuLegal (cvuAt u s).ctrl = true := by
    simp only [List.all_map, List.all_eq_true, Function.comp]
    constructor
    · exact fun h u => h _ (by simp [cvuAt])
    · intro h c hc
      obtain ⟨n, hn, rfl⟩ := List.getElem_of_mem hc
      simp only [Vector.length_toList] at hn
      simpa [cvuAt] using h ⟨n, hn⟩
  rw [legal_held]
  simp only [Bool.and_eq_true, tmu, head, cvu, beq_iff_eq]
  tauto

/-- Either way. -/
@[simp] theorem legal_ite (c : Prop) [Decidable c] (a b : Held) :
    legal (if c then a else b) = if c then legal a else legal b := apply_ite legal c a b

/-! ## Timer channels -/

/-- A change of one channel that keeps it legal, and TMU0 unchained, keeps all of them legal. -/
theorem legal_tmuUpd (n : Nat) (f : TmuCh → TmuCh) (s : State) (h : legal (held s) = true)
    (hf : tmuLegal (tmuAt s n) = true → tmuLegal (f (tmuAt s n)) = true)
    (h0 : n = 0 → (tmuAt s 0).src ≠ 8 → (f (tmuAt s 0)).src ≠ 8) : legal (held (tmuUpd n f s)) = true := by
  rw [legal_iff] at h ⊢
  obtain ⟨plain, ⟨all, root⟩, units⟩ := h
  refine ⟨plain, ⟨fun m => ?_, ?_⟩, units⟩
  · by_cases hm : n = m
    · subst hm
      by_cases hn : n < 32
      · rw [tmuAt_upd_self _ _ _ hn]; exact hf (all n)
      · simp [hn, tmuAt, vget, tmuLegal_reset]
    · rw [tmuAt_upd_ne _ _ _ _ hm]; exact all m
  · by_cases hm : n = 0
    · subst hm
      rw [tmuAt_upd_self _ _ _ (by decide)]; exact h0 rfl root
    · rw [tmuAt_upd_ne _ _ _ _ hm]; exact root

/-- A change that keeps CTRL and PRESC of a channel keeps the registers as legal as they are. -/
theorem legal_tmuUpd_shape (n : Nat) (f : TmuCh → TmuCh) (s : State) (hf : ∀ c, (f c).ctrl = c.ctrl ∧ (f c).presc = c.presc) :
    legal (held (tmuUpd n f s)) = legal (held s) :=
  legal_congr rfl rfl rfl (tmuShape_upd n f s hf) rfl

@[simp] theorem legal_tmuFire (n : Nat) (s : State) : legal (held (tmuFire n s)) = legal (held s) :=
  legal_congr (by simp) (by simp) (by simp) (by simp) (by simp)

@[simp] theorem legal_tmuInput (n : Nat) (s : State) : legal (held (tmuInput n s)) = legal (held s) :=
  legal_congr (by simp) (by simp) (by simp) (by simp) (by simp)

@[simp] theorem legal_tmuOuter (n : Nat) (f : Bool) (s : State) : legal (held (tmuOuter n f s)) = legal (held s) := by
  unfold tmuOuter; dsimp only; split <;> simp

@[simp] theorem legal_tmuJudge (n : Nat) (v cnt : W32) (s : State) : legal (held (tmuJudge n v cnt s)) = legal (held s) :=
  legal_tmuUpd_shape n _ s (fun _ => ⟨rfl, rfl⟩)

@[simp] theorem legal_writeTmuCount (n : Nat) (v : W32) (s : State) : legal (held (writeTmuCount n v s)) = legal (held s) := by
  unfold writeTmuCount; dsimp only; split <;> simp [legal_tmuUpd_shape]

@[simp] theorem legal_writeTmuCmp (n : Nat) (v : W32) (s : State) : legal (held (writeTmuCmp n v s)) = legal (held s) := by
  simp [writeTmuCmp, legal_tmuUpd_shape]

@[simp] theorem legal_writeTmuAdv (n : Nat) (v : W32) (s : State) : legal (held (writeTmuAdv n v s)) = legal (held s) :=
  legal_tmuUpd_shape n _ s (fun _ => ⟨rfl, rfl⟩)

@[simp] theorem legal_clearTmuStat (n : Nat) (s : State) : legal (held (clearTmuStat n s)) = legal (held s) :=
  legal_tmuUpd_shape n _ s (fun _ => ⟨rfl, rfl⟩)

/-- A read of a count touches shadows and TORN only. -/
@[simp] theorem legal_readTmuCount (n : Nat) (s : State) : legal (held (readTmuCount n s).2) = legal (held s) := by
  have above (l : List Nat) (t : State) :
      legal (held (l.foldl (fun t k => tmuUpd k (fun x => { x with shadow := some x.count }) t) t)) = legal (held t) := by
    induction l generalizing t with
    | nil => rfl
    | cons k l ih => simp [ih, legal_tmuUpd_shape]
  unfold readTmuCount
  dsimp only
  split
  · split <;> simp [legal_tmuUpd_shape]
  · exact above _ s

/-! ## Fields of a control word -/

/-- A field of a word that is read bit by bit. -/
theorem fld_congr {n : Nat} (v w : BitVec n) (lo len : Nat) (h : ∀ i, i < len → v.getLsbD (lo + i) = w.getLsbD (lo + i)) :
    fld v lo len = fld w lo len := by
  apply Nat.eq_of_testBit_eq
  intro i
  simp only [fld, Nat.testBit_mod_two_pow, Nat.testBit_div_two_pow]
  by_cases hi : i < len
  · have := h i hi
    simp only [BitVec.getLsbD] at this
    simp [hi, Nat.add_comm, this]
  · simp [hi]

/-- A field with a bit set is not 0. -/
theorem fld_pos_of_bit {n : Nat} (v : BitVec n) (lo len i : Nat) (hi : i < len) (h : v.getLsbD (lo + i) = true) :
    1 ≤ fld v lo len := by
  have set : (fld v lo len).testBit i = true := by
    simp only [fld, Nat.testBit_mod_two_pow, Nat.testBit_div_two_pow, hi, decide_true, Bool.true_and]
    rw [Nat.add_comm]
    exact h
  rw [Nat.one_le_iff_ne_zero]
  intro z
  simp [z] at set

/-- The bits of CTRL that are kept, and those that must be 0. -/
theorem ctrl_keep_reserved (v : W32) : (v &&& 0x8FFC0000) &&& 0x7003FFFF = 0 := by
  rw [BitVec.and_assoc]
  exact BitVec.and_zero

/-- SRC is kept by a write of CTRL. -/
theorem fld_ctrl_keep (v : W32) : fld (v &&& 0x8FFC0000) 24 4 = fld v 24 4 := by
  refine fld_congr _ _ _ _ fun i hi => ?_
  have : i = 0 ∨ i = 1 ∨ i = 2 ∨ i = 3 := by omega
  rw [BitVec.getLsbD_and]
  rcases this with rfl | rfl | rfl | rfl <;> simp

/-- A write of CTRL is refused, or keeps a legal source (R38, Table 2.11). -/
theorem legal_writeTmuCtrl (n : Nat) (v : W32) (s : State) (h : legal (held s) = true) :
    legal (held (writeTmuCtrl n v s)) = true := by
  unfold writeTmuCtrl
  dsimp only
  split
  · simpa [legal_tmuUpd_shape] using h
  · next ok =>
    simp only [Bool.or_eq_true, decide_eq_true_eq, Bool.and_eq_true, beq_iff_eq, not_or, not_and, Nat.not_lt] at ok
    obtain ⟨le, root⟩ := ok
    refine legal_tmuUpd n _ s h (fun l => ?_) (fun hn _ => ?_)
    · simp only [tmuLegal, Bool.and_eq_true, beq_iff_eq, decide_eq_true_eq] at l ⊢
      exact ⟨⟨⟨ctrl_keep_reserved v, by rw [fld_ctrl_keep]; exact le⟩, l.1.2⟩, l.2⟩
    · subst hn
      simp only [TmuCh.src, fld_ctrl_keep]
      exact fun e => root e rfl

/-- PRESC keeps no reserved bit and N at least 1 (R37, Table 2.12). -/
theorem legal_writeTmuPresc (n : Nat) (v : W32) (s : State) (h : legal (held s) = true) :
    legal (held (writeTmuPresc n v s)) = true := by
  unfold writeTmuPresc
  dsimp only
  refine legal_tmuUpd n _ s h (fun l => ?_) (fun _ root => root)
  simp only [tmuLegal, Bool.and_eq_true, beq_iff_eq, decide_eq_true_eq] at l ⊢
  obtain ⟨⟨⟨res, src⟩, -⟩, -⟩ := l
  refine ⟨⟨⟨res, src⟩, ?_⟩, ?_⟩
  · split
    · rw [BitVec.and_or_distrib_right, BitVec.and_assoc]; simp
    · rw [BitVec.and_assoc]; simp
  · split
    · exact fld_pos_of_bit _ 16 16 0 (by decide) (by simp)
    · omega

end Sys2Proof.Proofs
end

section
/-! PROOF. Staggered groups, check-value units, BOOT, LULL and the voted words keep the held registers legal. -/

namespace Sys2Proof.Proofs

open Sys2Proof Sys2Proof.Machine Sys2Proof.Safety Sys2Proof.Laws

/-! ## Staggered groups -/

/-- The control word of a member of a group: its own but for SRC, which is that of the first channel, ADV_EN and EN. -/
def staggerCtrl (own base : W32) : W32 := setBit (setBit (own &&& 0xF0FFFFFF ||| (base &&& 0x0F000000)) 20 true) 31 true

theorem fld_staggerCtrl (own base : W32) : fld (staggerCtrl own base) 24 4 = fld base 24 4 := by
  refine fld_congr _ _ _ _ fun i hi => ?_
  have : i = 0 ∨ i = 1 ∨ i = 2 ∨ i = 3 := by omega
  rcases this with rfl | rfl | rfl | rfl <;> simp [staggerCtrl, setBit]

theorem staggerCtrl_reserved (own base : W32) (h : own &&& 0x7003FFFF = 0) : staggerCtrl own base &&& 0x7003FFFF = 0 := by
  have own0 : own &&& 0xF0FFFFFF &&& 0x7003FFFF = 0 := by
    rw [BitVec.and_assoc, BitVec.and_comm (0xF0FFFFFF : W32), ← BitVec.and_assoc, h]
    exact BitVec.zero_and
  simp only [staggerCtrl, setBit, if_true, BitVec.and_or_distrib_right, own0]
  rw [BitVec.and_assoc]
  simp

/-- One member of a group takes SRC and PRESC of a legal channel. -/
theorem legal_staggerOne (first n k : Nat) (base : TmuCh) (per lead : W32) (s : State) (h : legal (held s) = true)
    (hb : tmuLegal base = true) (h0 : first + k = 0 → base.src ≠ 8) : legal (held (staggerOne first n k base per lead s)) = true := by
  unfold staggerOne
  dsimp only
  rw [legal_tmuJudge]
  refine legal_tmuUpd _ _ s h (fun own => ?_) (fun z _ => ?_)
  · simp only [tmuLegal, Bool.and_eq_true, beq_iff_eq, decide_eq_true_eq] at own hb ⊢
    obtain ⟨⟨⟨res, -⟩, -⟩, -⟩ := own
    obtain ⟨⟨⟨-, src⟩, presc⟩, n1⟩ := hb
    exact ⟨⟨⟨staggerCtrl_reserved _ _ res, (fld_staggerCtrl _ _).trans_le src⟩, presc⟩, n1⟩
  · exact fun e => h0 z ((fld_staggerCtrl (tmuAt s (first + k)).ctrl base.ctrl).symm.trans e)

/-- A group that starts, or one refused (R43). -/
theorem legal_writeTmuStagger (v : W32) (s : State) (h : legal (held s) = true) : legal (held (writeTmuStagger v s)) = true := by
  obtain ⟨-, ⟨all, root⟩, -⟩ := (legal_iff s).1 h
  unfold writeTmuStagger
  dsimp only
  split
  · exact h
  split
  · simpa [legal_tmuUpd_shape] using h
  · refine legal_foldl _ (fun t k g => legal_staggerOne _ _ k _ _ _ t g (all _) fun z => ?_) _ s h
    rw [(Nat.add_eq_zero_iff.1 z).1]
    exact root

/-! ## Check-value units -/

/-- A change of a unit that keeps its control register keeps the registers legal. -/
theorem legal_cvuUpd_ctrl (u : Fin 4) (f : Cvu → Cvu) (s : State) (h : legal (held s) = true) (hf : ∀ c, (f c).ctrl = c.ctrl) :
    legal (held (cvuUpd u f s)) = true :=
  legal_cvuUpd u f s h (fun g => by rw [hf]; exact g)

theorem cvuStart_ctrl (c : Cvu) : (cvuStart c).ctrl = c.ctrl := by unfold cvuStart; dsimp only; split <;> rfl
theorem cvuData_ctrl (v : W32) (c : Cvu) : (cvuData v c).ctrl = c.ctrl := by unfold cvuData; dsimp only; split <;> rfl
theorem cvuResume_ctrl (c : Cvu) : (cvuResume c).ctrl = c.ctrl := by unfold cvuResume; split <;> rfl
theorem cvuRead_ctrl (reg : CvuRead) (c : Cvu) : (cvuRead reg c).ctrl = c.ctrl := by cases reg <;> rfl
theorem writeCvuParam_ctrl (reg : CvuReg) (v : W32) (c : Cvu) : (writeCvuParam reg v c).ctrl = c.ctrl := by
  obtain ⟨ctrl⟩ := c
  cases reg
  case length => unfold writeCvuParam; dsimp only; split <;> rfl
  all_goals rfl

/-- The fields of CVU_CTRL are kept by the write. -/
theorem fld_cvuCtrl_keep (v : W32) : fld (v &&& 0xFF00007F) 30 2 = fld v 30 2 ∧ fld (v &&& 0xFF00007F) 24 4 = fld v 24 4 ∧
    fld (v &&& 0xFF00007F) 0 7 = fld v 0 7 := by
  refine ⟨fld_congr _ _ _ _ fun i hi => ?_, fld_congr _ _ _ _ fun i hi => ?_, fld_congr _ _ _ _ fun i hi => ?_⟩ <;>
    rw [BitVec.getLsbD_and] <;> interval_cases i <;> simp

/-- A write of CVU_CTRL is refused, or keeps legal fields (R234). -/
theorem writeCvuCtrl_legal (v : W32) (c : Cvu) (h : cvuLegal c.ctrl = true) : cvuLegal (writeCvuCtrl v c).ctrl = true := by
  unfold writeCvuCtrl
  dsimp only
  split
  · exact h
  · next ok =>
    obtain ⟨mode, pre, width⟩ := fld_cvuCtrl_keep v
    have reserved : v &&& 0xFF00007F &&& 0x00FFFF80 = 0 := by rw [BitVec.and_assoc]; exact BitVec.and_zero
    simp only [Bool.or_eq_true, decide_eq_true_eq, not_or, Nat.not_lt] at ok
    obtain ⟨⟨⟨⟨mode3, width0⟩, width64⟩, pre8⟩, -⟩ := ok
    simp only [cvuLegal, reserved, mode, pre, width, Bool.and_eq_true, Bool.or_eq_true, bne_iff_ne, beq_iff_eq, decide_eq_true_eq]
    exact ⟨⟨⟨⟨trivial, mode3⟩, pre8⟩, width64⟩, .inl width0⟩

/-- The vectors of several units (R237). -/
theorem legal_cvuChecks (bad : BitVec 4) (units : List (Fin 4)) (s : State) (h : legal (held s) = true) :
    legal (held (cvuChecks bad units s)) = true :=
  legal_foldl _ (fun t u g => legal_cvuCheck u _ t g) _ s h

theorem legal_cvuOfEngine (e : Engine) (sound : Bool) (s : State) (h : legal (held s) = true) :
    legal (held (cvuOfEngine e sound s)) = true := by
  unfold cvuOfEngine; split <;> simp [h]

/-! ## BOOT -/

@[simp] theorem legal_bootStep5 (env : BootEnv) (old : SlateWord) (ab : Option W32) (fb : Bool) (s : State) (h : legal (held s) = true) :
    legal (held (bootStep5 env old ab fb s)) = true := by
  unfold bootStep5
  extract_lets was t0 _ _ _ t1 fw t2 settled t3 t4 t5 _ t6 t7 cause t8 t9 t10
  have h1 : held t1 = held s := by simp [t1, t0]
  have h2 : held t2 = held s := by simp only [t2]; split <;> simp [h1]
  have h3 : held t3 = held s := by simp only [t3]; split <;> simp [h2]
  have h4 : held t4 = held s := by simp only [t4]; split <;> simp [h3]
  have h5 : held t5 = held s := by simp [t5, h4]
  have h6 : held t6 = held s := by simp [t6, h5]
  have h8 : held t8 = held s := by simp [t8, t7, h6]
  have h9 : held t9 = held s := by simp only [t9]; split <;> simp [h8]
  have h10 : held t10 = held s := by simp only [t10]; split <;> simp [h9]
  rw [held_vbatCheck, held_backoffRestart]
  exact legal_cvuChecks _ _ _ (h10 ▸ h)

@[simp] theorem legal_bootGable (env : BootEnv) (old : SlateWord) (s : State) (h : legal (held s) = true) :
    legal (held (bootGable env old s)) = true := by
  unfold bootGable; dsimp only; (repeat' split) <;> simp [h]

@[simp] theorem legal_bootSteps (env : BootEnv) (s : State) (h : legal (held s) = true) : legal (held (bootSteps env s)) = true := by
  unfold bootSteps; dsimp only; (repeat' split) <;> simp [h]

@[simp] theorem legal_bootStep6 (env : BootEnv) (s : State) (h : legal (held s) = true) : legal (held (bootStep6 env s)) = true :=
  legal_cvuChecks _ _ _ (by simpa using h)

/-! ## LULL and the voted words -/

@[simp] theorem legal_clocks (n : Nat) (s : State) (h : legal (held s) = true) : legal (held (clocks n s)) = true := by
  induction n generalizing s with
  | zero => exact h
  | succ k ih => exact ih _ (legal_idle s h)

@[simp] theorem legal_lullEnter (cause : BitVec 2) (s : State) (h : legal (held s) = true) : legal (held (lullEnter cause s)) = true := by
  unfold lullEnter
  split
  · exact h
  · have g := legal_clocks tUs (lullLevel (lullLock s)) (by simpa using h)
    simpa using g

/-- The trigger register replaced by a legal one. -/
theorem legal_trig (s t : State) (h : legal (held s) = true) (same : held t = { held s with trig := t.lull.trig })
    (ht : trigLegal s.lull.trig = true → trigLegal t.lull.trig = true) : legal (held t) = true := by
  obtain ⟨⟨irq, ind, trig⟩, -, -⟩ := (legal_iff s).1 h
  rw [legal_held] at h
  rw [same]
  simp only [legal, held, Bool.and_eq_true] at h ⊢
  obtain ⟨⟨⟨⟨⟨irq, ind⟩, trig⟩, tmu⟩, root⟩, cvu⟩ := h
  exact ⟨⟨⟨⟨⟨irq, ind⟩, ht trig⟩, tmu⟩, root⟩, cvu⟩

theorem trigLegal_of (x : W32) (h : x &&& 0xFFFFFFFC = 0) : trigLegal (Voted.of x) = true := by
  simp only [trigLegal, Voted.of, h]; rfl

@[simp] theorem legal_writeTrig (reg : Nat) (v : W32) (s : State) (h : legal (held s) = true) :
    legal (held (writeTrig reg v s)) = true := by
  unfold writeTrig
  split
  · refine legal_trig s _ h rfl (fun _ => trigLegal_of _ ?_)
    rw [BitVec.and_assoc]; exact BitVec.and_zero
  · exact h
  · exact h

/-- Masking after a flip. -/
theorem xor_and_distrib {n : Nat} (x m k : BitVec n) : (x ^^^ m) &&& k = (x &&& k) ^^^ (m &&& k) := by
  ext i hi
  simp [Bool.and_xor_distrib_right]

/-- A flip of one of the two defined bits leaves the reserved ones. -/
theorem trigLegal_flip (k : Fin 3) (b : Nat) (hb : b < 2) (v : Voted 32) (h : trigLegal v = true) : trigLegal (v.flip k b) = true := by
  have one (x : W32) (hx : x &&& 0xFFFFFFFC = 0) : (x ^^^ BitVec.ofNat 32 (2 ^ b)) &&& 0xFFFFFFFC = 0 := by
    rw [xor_and_distrib, hx]
    interval_cases b <;> decide
  simp only [trigLegal, Bool.and_eq_true, beq_iff_eq] at h ⊢
  obtain ⟨⟨ha, hb⟩, hc⟩ := h
  unfold Voted.flip
  split
  · exact ⟨⟨one _ ha, hb⟩, hc⟩
  · exact ⟨⟨ha, one _ hb⟩, hc⟩
  · exact ⟨⟨ha, hb⟩, one _ hc⟩

/-- A voted value has no reserved bit that no copy has. -/
theorem trigLegal_scrubbed (v : Voted 32) (h : trigLegal v = true) : trigLegal v.scrubbed = true := by
  unfold Voted.scrubbed
  split
  · exact h
  · refine trigLegal_of _ ?_
    simp only [trigLegal, Bool.and_eq_true, beq_iff_eq] at h
    obtain ⟨⟨ha, hb⟩, hc⟩ := h
    have pair (x y : W32) (hx : y &&& 0xFFFFFFFC = 0) : x &&& y &&& 0xFFFFFFFC = 0 := by
      rw [BitVec.and_assoc, hx]; exact BitVec.and_zero
    rw [Voted.val, BitVec.and_or_distrib_right, BitVec.and_or_distrib_right, pair _ _ hb, pair _ _ hc, pair _ _ hc]
    rfl

theorem legal_tmrUpset (s : State) (u : TmrUpset) (h : legal (held s) = true) : legal (held (tmrUpset s u)) = true := by
  unfold tmrUpset
  split
  · split
    · next hb => exact legal_trig s _ h rfl (trigLegal_flip _ _ hb _)
    · exact h
  · exact h
  · exact h
  · exact h
  · exact h
  · split <;> exact h

theorem legal_tmrScrub (s : State) (h : legal (held s) = true) : legal (held (tmrScrub s)) = true :=
  legal_trig s _ h rfl (trigLegal_scrubbed _)

end Sys2Proof.Proofs
end

section
/-! PROOF. The host window and the SPI frames keep the held registers legal (R239 to R243, R334 to R353). -/

namespace Sys2Proof.Proofs

open Sys2Proof Sys2Proof.Machine Sys2Proof.Safety Sys2Proof.Laws

/-! ## The host window (R334 to R353) -/

/-- The host port's registers replaced by legal ones. -/
theorem legal_host (x : HostIf) (s : State) (h : legal (held s) = true) (irq : x.irqEn &&& 0xFFFFFC00 = 0)
    (ind : x.indAddr.toNat % 4 = 0) : legal (held { s with host := x }) = true := by
  rw [legal_iff] at h ⊢
  obtain ⟨⟨-, -, trig⟩, rest⟩ := h
  exact ⟨⟨irq, ind, trig⟩, rest⟩

/-- IND_ADDR advances by whole words. -/
@[simp] theorem legal_indNext (off : Bool) (s : State) (h : legal (held s) = true) : legal (held (indNext off s)) = true := by
  obtain ⟨⟨irq, -⟩, -⟩ := (legal_iff s).1 h
  refine legal_host _ s h irq ?_
  simp only [indAt, BitVec.toNat_ofNat]
  omega

@[simp] theorem legal_writeInd (a : Nat) (v : W32) (s : State) (h : legal (held s) = true) :
    legal (held (writeInd a v s)) = true := by
  unfold writeInd
  dsimp only
  split
  · exact legal_writeTrig 0 v s h
  · exact legal_writeTrig 1 v s h
  · exact legal_writeTrig 2 v s h
  · exact h
  · exact h
  · exact legal_writeTmuStagger v s h
  · split
    · split
      · exact legal_writeTmuCtrl _ v s h
      · exact legal_writeTmuPresc _ v s h
      · simpa using h
      · exact h
    · exact h

/-- What a read clears is none of the held registers. -/
@[simp] theorem legal_afterRead (a : Nat) (s : State) : legal (held (afterRead a s)) = legal (held s) := by
  unfold afterRead
  split
  · simp
  split
  · unfold afterAxis setPosShadow; split <;> simp
  split
  · unfold countDed; split <;> simp
  · unfold clearEvents; split <;> simp

@[simp] theorem legal_indAccess (op : WinOp) (s : State) (h : legal (held s) = true) : legal (held (indAccess op s).2) = true := by
  unfold indAccess
  dsimp only
  split
  · exact legal_indNext true s h
  · split <;> simp [readInd, h]

@[simp] theorem legal_readWin (o : Nat) (s : State) (h : legal (held s) = true) : legal (held (readWin o s).2) = true := by
  unfold readWin
  split
  · simpa using h
  split
  · exact h
  · exact legal_indAccess .read s h
  · exact h
  · unfold readTbHi; split <;> exact h
  · exact h
  · exact h

@[simp] theorem legal_writeUnlock (v : W32) (s : State) : legal (held (writeUnlock v s)) = legal (held s) := by
  unfold writeUnlock; split <;> rfl

@[simp] theorem legal_writeLullCtrl (v : W32) (s : State) (h : legal (held s) = true) : legal (held (writeLullCtrl v s).2) = true := by
  unfold writeLullCtrl
  dsimp only
  split
  · split
    · exact legal_lullEnter 2 _ h
    · exact h
  · exact h

/-- IRQ_ENABLE keeps its ten bits. -/
theorem legal_irqEnable (v : W32) (s : State) (h : legal (held s) = true) :
    legal (held { s with host := { s.host with irqEn := v &&& 0x3FF } }) = true := by
  obtain ⟨⟨-, ind, -⟩, -⟩ := (legal_iff s).1 h
  refine legal_host _ s h ?_ ind
  rw [BitVec.and_assoc]
  exact BitVec.and_zero

@[simp] theorem legal_writeWin (o : Nat) (v : W32) (s : State) (h : legal (held s) = true) : legal (held (writeWin o v s).2) = true := by
  unfold writeWin
  split
  · dsimp only; split <;> simp [h]
  split
  · dsimp only; split <;> simp [h]
  split
  · dsimp only; unfold writeMbx; split <;> exact h
  split
  · simp [writeDoorbell, h]
  · exact legal_irqEnable v s h
  · simpa using h
  · obtain ⟨⟨irq, -⟩, -⟩ := (legal_iff s).1 h
    refine legal_host _ s h irq ?_
    simp only [BitVec.toNat_ofNat]
    omega
  · exact legal_indAccess _ s h
  · exact legal_writeLullCtrl v s h
  · exact h

@[simp] theorem legal_aliasWin (op : WinOp) (o : Nat) (s : State) (h : legal (held s) = true) : legal (held (aliasWin op o s).2) = true := by
  unfold aliasWin; split <;> simp [h]

/-- A host read has the effect of what is read. -/
theorem legal_hostRead (f : State → W32 × State) (s : State) (h : legal (held s) = true)
    (hf : legal (held (f s).2) = true) : legal (held (hostRead f s)) = true := by
  unfold hostRead
  split
  · exact hf
  · exact h

theorem legal_whenPort (f : State → State) (s : State) (h : legal (held s) = true) (hf : legal (held (f s)) = true) :
    legal (held (whenPort f s)) = true := by
  unfold whenPort; split
  · exact hf
  · exact h

/-! ## SPI frames (R239 to R243) -/

/-- A fold of accesses, with what they return. -/
theorem legal_foldl_snd {α β : Type} (f : β × State → α → β × State)
    (hf : ∀ r a, legal (held r.2) = true → legal (held (f r a).2) = true) (l : List α) (r : β × State)
    (h : legal (held r.2) = true) : legal (held (l.foldl f r).2) = true := by
  induction l generalizing r with
  | nil => exact h
  | cons a l ih => exact ih _ (hf r a h)

theorem legal_hostWrite (a : Nat) (d : W32) (s : State) (h : legal (held s) = true) : legal (held (hostWrite a d s).2) = true := by
  unfold hostWrite; split
  · exact legal_aliasWin _ _ s h
  · exact h

theorem legal_hostWord (a : Nat) (s : State) (h : legal (held s) = true) : legal (held (hostWord a s).2) = true := by
  unfold hostWord; split
  · exact legal_readWin a s h
  · exact h

/-- A frame has the effect of its words. -/
theorem legal_spiFrame (f : List Byte) (zeros : Nat) (act : State → (Byte × List Byte) × State) (s : State) (h : legal (held s) = true)
    (hact : legal (held (act s).2) = true) : legal (held (spiFrame f zeros act s)) = true := by
  unfold spiFrame
  (repeat' split)
  · exact h
  · exact h
  · exact h
  · exact hact
  · exact hact

theorem legal_spiWriteAct (f : List Byte) (s : State) (h : legal (held s) = true) : legal (held (spiWriteAct f s).2) = true := by
  unfold spiWriteAct spiWrites; split
  · exact h
  · apply legal_foldl_snd
    · exact fun r w g => legal_hostWrite w.1 w.2 r.2 g
    · exact h

theorem legal_spiReadAct (f : List Byte) (s : State) (h : legal (held s) = true) : legal (held (spiReadAct f s).2) = true := by
  unfold spiReadAct spiReads; split
  · exact h
  · apply legal_foldl_snd
    · exact fun r a g => legal_hostWord a r.2 g
    · exact h

end Sys2Proof.Proofs
end

section
/-! PROOF. No command brings a held register into a reserved or refused value: the invariant of every step (R37, R38, R234, R335). -/

namespace Sys2Proof.Proofs

open Sys2Proof Sys2Proof.Machine Sys2Proof.Safety Sys2Proof.Laws

/-- The state that a command leaves has legal held registers. -/
def LegalNext (o : Host.Outcome State Fault Refusal) : Prop := ∀ t, o = .next t → legal (held t) = true

@[simp] theorem legalNext_next (t : State) : LegalNext (.next t) ↔ legal (held t) = true := by
  simp [LegalNext]

theorem LegalNext.next {t : State} (h : legal (held t) = true) : LegalNext (.next t) := (legalNext_next t).2 h

@[simp] theorem legalNext_ite (c : Prop) [Decidable c] (a b : Host.Outcome State Fault Refusal) :
    LegalNext (if c then a else b) ↔ if c then LegalNext a else LegalNext b := by split <;> rfl

theorem legal_either {c : Prop} [Decidable c] {s t : State} (ht : legal (held t) = true) (hs : legal (held s) = true) :
    legal (held (if c then t else s)) = true := by
  split
  · exact ht
  · exact hs

theorem legal_noPayload (r : Req) (body : State → State × Answer)
    (hb : ∀ t, legal (held t) = true → legal (held (body t).1) = true) (s : State) (h : legal (held s) = true) :
    legal (held (noPayload r body s).1) = true := by
  unfold noPayload; split
  · exact hb s h
  · exact h

theorem legal_armBody (r : Req) (s : State) (h : legal (held s) = true) : legal (held (armBody r s).1) = true := by
  unfold armBody; (repeat' split)
  · exact h
  · exact h
  · exact legal_writeTrig _ _ _ (legal_writeTrig _ _ _ (legal_writeTrig _ _ _ h))

theorem legal_tbRead (high : Bool) (who : TbReader) (s : State) (h : legal (held s) = true) : legal (held (tbRead high who s)) = true := by
  unfold tbRead
  split
  · unfold portRead; dsimp only; split <;> exact h
  · refine legal_hostRead _ s h ?_
    split
    · unfold readTbHi; split <;> exact h
    · exact h

section
variable {s : State} (h : legal (held s) = true)
include h

theorem legal_execCfgBegin (r : Req) : LegalNext (execCfgBegin r s) := by
  unfold execCfgBegin
  dsimp only
  refine .next (legal_serve _ _ _ _ (fun t g => ?_) h)
  split <;> simp [g]

theorem legal_execLogin (r : Req) : LegalNext (execLogin r s) := by
  refine .next (legal_serve _ _ _ _ (fun t g => ?_) h)
  split
  · unfold heldBody; dsimp only; (repeat' split) <;> simp [g]
  · exact legal_loginBody r t g

theorem legal_execClearLockout (r : Req) : LegalNext (execClearLockout r s) := by
  unfold execClearLockout
  refine .next (legal_either ?_ (legal_serve _ _ _ _ (fun t g => by simp [g]) h))
  simpa using h

theorem legal_execUsbRequest (msg : List Byte) (prevRead : Bool) : LegalNext (execUsbRequest msg prevRead s) := by
  simp [execUsbRequest, h]

theorem legal_execMailboxCommandTimeout : LegalNext (execMailboxCommandTimeout s) := by
  unfold execMailboxCommandTimeout; (repeat' split) <;> simp [h]

theorem legal_execVerifyRunEnd : LegalNext (execVerifyRunEnd s) := by
  unfold execVerifyRunEnd; (repeat' split) <;> simp [h]

theorem legal_execCommitRestart : LegalNext (execCommitRestart s) := by
  unfold execCommitRestart
  split
  · split
    · split
      · exact .next (legal_commitRestart s h)
      · exact .next (legal_bootStep1 _ _ s)
      · exact .next h
    · exact .next h
  · exact .next h

theorem legal_execLockoutAckRelease : LegalNext (execLockoutAckRelease s) := by
  unfold execLockoutAckRelease; (repeat' split) <;> simp [h]

theorem legal_execAckMissing : LegalNext (execAckMissing s) := by
  unfold execAckMissing; (repeat' split) <;> simp [h]

theorem legal_execLockoutRestart : LegalNext (execLockoutRestart s) := by
  unfold execLockoutRestart
  split
  · split
    · exact .next (legal_deliberateRestart _ h)
    · exact .next h
  · exact .next h

theorem legal_execSessionInactivityTimeout (port : Port) : LegalNext (execSessionInactivityTimeout port s) := by
  simp [execSessionInactivityTimeout, h]

theorem legal_execLoginBackoffEnd : LegalNext (execLoginBackoffEnd s) := by
  unfold execLoginBackoffEnd; (repeat' split) <;> simp [h]

theorem legal_execUsbDetach : LegalNext (execUsbDetach s) := by
  simp [execUsbDetach, h]

theorem legal_execTmuMatch (n : Fin 32) : LegalNext (execTmuMatch n s) := by
  simp [execTmuMatch, h]

theorem legal_execTmuOverflow (n : Fin 32) : LegalNext (execTmuOverflow n s) := by
  simp [execTmuOverflow, h]

theorem legal_execUnlockGuardTimeout : LegalNext (execUnlockGuardTimeout s) := by
  simp [execUnlockGuardTimeout, h]

theorem legal_execIndDataAccess (op : WinOp) : LegalNext (execIndDataAccess op s) := by
  unfold execIndDataAccess
  split
  · exact .next (legal_hostRead _ s h (legal_indAccess .read s h))
  · exact .next (legal_whenPort _ s h (legal_indAccess op s h))

theorem legal_execReadClearRegister (addr : BitVec 24) : LegalNext (execReadClearRegister addr s) := by
  refine .next (legal_hostRead _ s h ?_)
  split
  · exact legal_readWin _ s h
  · split
    · exact h
    · simpa [readInd] using h

theorem legal_execPositionLoRead (axis : Fin 8) (srcB : Bool) : LegalNext (execPositionLoRead axis srcB s) := by
  unfold execPositionLoRead
  dsimp only
  refine .next (legal_hostRead _ s h ?_)
  generalize 0x300004 + 64 * axis.val + (if srcB then 8 else 0) = a
  split
  · exact h
  · simpa [readInd] using h

theorem legal_execCvuSelfCheck (u : Fin 4) (sound : Bool) : LegalNext (execCvuSelfCheck u sound s) := by
  simp [execCvuSelfCheck, h]

theorem legal_execLplusPowerOn (env : BootEnv) : LegalNext (execLplusPowerOn env s) := by
  simp [execLplusPowerOn, h]

theorem legal_execBootComplete (env : BootEnv) : LegalNext (execBootComplete env s) := by
  simp [execBootComplete, h]

theorem legal_execSelftestEnd (fails : List TestFail) : LegalNext (execSelftestEnd fails s) := by
  unfold execSelftestEnd
  dsimp only
  have fails (l : List TestFail) : held (l.foldl (fun u f => raise f.code f.arg.toNat u) s) = held s :=
    held_foldl _ (fun _ _ => held_raise _ _ _) l s
  (repeat' split) <;> simp [fails, h]

theorem legal_execStartRun : LegalNext (execStartRun s) := by
  unfold execStartRun
  split
  · rw [← held_setMode .run s] at h
    refine .next ?_
    rw [← held_eta] at h
    exact h
  · exact .next h

theorem legal_execSquallStepDown (mv : Vector Nat 3) : LegalNext (execSquallStepDown mv s) := by
  simp [execSquallStepDown, h]

theorem legal_execSquallStepUp (mv : Nat) (least : Nat) : LegalNext (execSquallStepUp mv least s) := by
  unfold execSquallStepUp; (repeat' split) <;> simp [h]

theorem legal_execRideThroughStart (mv : Vector Nat 3) : LegalNext (execRideThroughStart mv s) := by
  simp [execRideThroughStart, h]

theorem legal_execRideThroughEnd (mv : Vector Nat 3) : LegalNext (execRideThroughEnd mv s) := by
  simp [execRideThroughEnd, h]

theorem legal_execOrderedShutdown (mv : Nat) (holdMv : Nat) : LegalNext (execOrderedShutdown mv holdMv s) := by
  unfold execOrderedShutdown
  split
  · split
    · exact .next (legal_shutdownStart _ _ s h)
    · exact .next h
  · exact .next h

theorem legal_execHoldPowerOnReset (holdMv : Nat) : LegalNext (execHoldPowerOnReset holdMv s) := by
  simp [execHoldPowerOnReset, h]

theorem legal_execVbatApplied (mv : Nat) : LegalNext (execVbatApplied mv s) := by
  simp [execVbatApplied, h]

theorem legal_execVbatMeasurement (mv : Nat) : LegalNext (execVbatMeasurement mv s) := by
  simp [execVbatMeasurement, h]

theorem legal_execResetNAssert (lowNs : Nat) : LegalNext (execResetNAssert lowNs s) := by
  unfold execResetNAssert
  dsimp only
  (repeat' split)
  · exact .next h
  · exact .next h
  · exact .next h
  · exact .next legal_reset

theorem legal_execResetNRelease (env : BootEnv) : LegalNext (execResetNRelease env s) := by
  simp [execResetNRelease, h]

theorem legal_execTamperNLow : LegalNext (execTamperNLow s) := by
  simp [execTamperNLow, h]

theorem legal_execTemperatureMeasurement (die fieldSide : Int) : LegalNext (execTemperatureMeasurement die fieldSide s) := by
  simp [execTemperatureMeasurement, h]

theorem legal_execRegulatorFault (dom : Fin 10) : LegalNext (execRegulatorFault dom s) := by
  unfold execRegulatorFault
  dsimp only
  (repeat' split) <;> simp [h]

theorem legal_execTickBoundary (cycles : Nat) : LegalNext (execTickBoundary s cycles) := by
  simp [execTickBoundary, h]

theorem legal_execEaveOutboundFrame (lane : Lane) (rx : OutRx) (det : Nat) : LegalNext (execEaveOutboundFrame lane rx s det) := by
  simp [execEaveOutboundFrame, h]

theorem legal_execEaveInboundFrame (lane : Lane) (rx : InRx) : LegalNext (execEaveInboundFrame lane rx s) := by
  unfold execEaveInboundFrame; (repeat' split) <;> simp [h]

theorem legal_execThatchPassEnd (cycles : Nat) (units : Nat) (canaryOk : Bool) : LegalNext (execThatchPassEnd cycles units canaryOk s) := by
  simp [execThatchPassEnd, h]

theorem legal_execCrossCompare (ridgeErr thatchErr : BitVec 256) (ridgeReqBad thatchReqBad : Bool) : LegalNext (execCrossCompare ridgeErr thatchErr ridgeReqBad thatchReqBad s) := by
  simp [execCrossCompare, h]

theorem legal_execPhase3Start : LegalNext (execPhase3Start s) := by
  simp [execPhase3Start, h]

theorem legal_execTickOverrunRg : LegalNext (execTickOverrunRg s) := by
  simp [execTickOverrunRg, h]

theorem legal_execTickOverrunTh : LegalNext (execTickOverrunTh s) := by
  simp [execTickOverrunTh, h]

theorem legal_execCrossResultMissing (lane : Lane) : LegalNext (execCrossResultMissing lane s) := by
  simp [execCrossResultMissing, h]

theorem legal_execThatchTickPulse (units : Nat) : LegalNext (execThatchTickPulse units s) := by
  simp [execThatchTickPulse, h]

theorem legal_execTickGenMismatch : LegalNext (execTickGenMismatch s) := by
  simp [execTickGenMismatch, h]

theorem legal_execRidgeBoundaryMissing : LegalNext (execRidgeBoundaryMissing s) := by
  simp [execRidgeBoundaryMissing, h]

theorem legal_execRidgeLockstepMismatch : LegalNext (execRidgeLockstepMismatch s) := by
  simp [execRidgeLockstepMismatch, h]

theorem legal_execRidgeEccCorrection (m : TcmId) (addr : Nat) (flip : Fin 8) : LegalNext (execRidgeEccCorrection s m addr flip) := by
  simp [execRidgeEccCorrection, h]

theorem legal_execRidgeEccDed (m : TcmId) (addr : Nat) (flips : Byte) : LegalNext (execRidgeEccDed s m addr flips) := by
  simp [execRidgeEccDed, h]

theorem legal_execRidgeFaultLine : LegalNext (execRidgeFaultLine s) := by
  simp [execRidgeFaultLine, h]

theorem legal_execRidgeDebugBreak (act : DebugAct) : LegalNext (execRidgeDebugBreak act s) := by
  simp [execRidgeDebugBreak, h]

theorem legal_execThatchCfgScrub (upset : BitVec 256) : LegalNext (execThatchCfgScrub upset s) := by
  simp [execThatchCfgScrub, h]

theorem legal_execFieldSample (x : FieldSample) : LegalNext (execFieldSample x s) := by
  simp [execFieldSample, h]

theorem legal_execFilterAccept (n : Fin 48) : LegalNext (execFilterAccept n s) := by
  simp [execFilterAccept, h]

theorem legal_execBandReport (n : Fin 48) : LegalNext (execBandReport n s) := by
  unfold execBandReport; (repeat' split) <;> simp [h]

theorem legal_execInputViewMismatch (n : Fin 48) : LegalNext (execInputViewMismatch n s) := by
  simp [execInputViewMismatch, h]

theorem legal_execInputMeasFault (n : Fin 48) : LegalNext (execInputMeasFault n s) := by
  simp [execInputMeasFault, h]

theorem legal_execSupplyViewMismatch (k : Fin 7) : LegalNext (execSupplyViewMismatch k s) := by
  simp [execSupplyViewMismatch, h]

theorem legal_execSupplyLost (k : Fin 7) : LegalNext (execSupplyLost k s) := by
  simp [execSupplyLost, h]

theorem legal_execSupplyRecovered (k : Fin 7) : LegalNext (execSupplyRecovered k s) := by
  simp [execSupplyRecovered, h]

theorem legal_execResetLevelRelease : LegalNext (execResetLevelRelease s) := by
  simp [execResetLevelRelease, h]

theorem legal_execLaneSilence (lane : Lane) : LegalNext (execLaneSilence lane s) := by
  simp [execLaneSilence, h]

theorem legal_execGustPulseStart (m : Fin 16) (on : BitVec 48) : LegalNext (execGustPulseStart m s on) := by
  unfold execGustPulseStart; (repeat' split) <;> simp [h]

theorem legal_execGustWindow1End (m : Fin 16) (offSeen : BitVec 48) (foreign : BitVec 48) (delays : Vector Nat 48) : LegalNext (execGustWindow1End m offSeen foreign delays s) := by
  simp [execGustWindow1End, h]

theorem legal_execGustWindow2End (m : Fin 16) (okP okT : BitVec 48) : LegalNext (execGustWindow2End m okP okT s) := by
  unfold execGustWindow2End
  dsimp only
  split
  · rw [legalNext_next, held_foldl _ (fun _ _ => held_raise _ _ _)]
    simp [h]
  · exact .next h

theorem legal_execTpoOverload (m : Fin 16) : LegalNext (execTpoOverload m s) := by
  simp [execTpoOverload, h]

theorem legal_execTpoOverloadClear (m : Fin 16) : LegalNext (execTpoOverloadClear m s) := by
  unfold execTpoOverloadClear; (repeat' split) <;> simp [h]

theorem legal_execDarkTestDue (lane : Lane) (o : Fin 28) : LegalNext (execDarkTestDue lane o s) := by
  simp [execDarkTestDue, h]

theorem legal_execDarkTestStart (lane : Lane) : LegalNext (execDarkTestStart lane s) := by
  unfold execDarkTestStart; dsimp only; (repeat' split) <;> simp [h]

theorem legal_execDarkTestEnd (lane : Lane) (sw : Bool) (landMv : Nat) (turnOff2us : Nat) : LegalNext (execDarkTestEnd lane sw landMv turnOff2us s) := by
  unfold execDarkTestEnd; dsimp only; (repeat' split) <;> simp [h]

theorem legal_execSwitchProtectionTrip (lane : Lane) (o : Fin 28) : LegalNext (execSwitchProtectionTrip lane o s) := by
  simp [execSwitchProtectionTrip, h]

theorem legal_execGroupOvercurrent (lane : Lane) (g : Fin 5) : LegalNext (execGroupOvercurrent lane g s) := by
  simp [execGroupOvercurrent, h]

theorem legal_execGroupOvercurrentClear (lane : Lane) (g : Fin 5) : LegalNext (execGroupOvercurrentClear lane g s) := by
  simp [execGroupOvercurrentClear, h]

theorem legal_execBrkOpenCoil (lane : Lane) (k : Fin 4) (ma : Nat) : LegalNext (execBrkOpenCoil lane k ma s) := by
  simp [execBrkOpenCoil, h]

theorem legal_execBrightDue (o : Fin 28) : LegalNext (execBrightDue o s) := by
  simp [execBrightDue, h]

theorem legal_execBrightOverdue (o : Fin 28) : LegalNext (execBrightOverdue o s) := by
  simp [execBrightOverdue, h]

theorem legal_execMotionStrobe (raws : Vector EncRaw 16) (pwrMv pwrMa : Vector Nat 8) : LegalNext (execMotionStrobe raws pwrMv pwrMa s) := by
  simp [execMotionStrobe, h]

theorem legal_execEncSupplyTrip (j : Fin 8) : LegalNext (execEncSupplyTrip j s) := by
  simp [execEncSupplyTrip, h]

theorem legal_execAxisCrossMismatch (ax : Fin 8) : LegalNext (execAxisCrossMismatch ax s) := by
  simp [execAxisCrossMismatch, h]

theorem legal_execConversionWindowEnd (ch : Fin 8) (sd : BitVec 24) (sar : BitVec 16) (stat : BitVec 3) (drvMv : Int) (burnMv : Nat) (leadSd : BitVec 24) (leadSar : BitVec 16) : LegalNext (execConversionWindowEnd ch sd sar stat drvMv s burnMv leadSd leadSar) := by
  simp [execConversionWindowEnd, h]

theorem legal_execCjSensorRead (sdTemps sarTemps : Vector Int 4) : LegalNext (execCjSensorRead sdTemps sarTemps s) := by
  simp [execCjSensorRead, h]

theorem legal_execAnStale (ch : Fin 8) : LegalNext (execAnStale ch s) := by
  simp [execAnStale, h]

theorem legal_execNetFrameReceive (port : NetPort) (frame : List Byte) (fcsOk : Bool) : LegalNext (execNetFrameReceive port frame fcsOk s) := by
  simp [execNetFrameReceive, h]

theorem legal_execTelegramCopyReceive (port : NetPort) (head body : List Byte) (rx : W64) : LegalNext (execTelegramCopyReceive port head body rx s) := by
  unfold execTelegramCopyReceive; dsimp only; (repeat' split) <;> simp [h]

theorem legal_execArpRequest (port : NetPort) (tpa : W32) (sha : BitVec 48) (spa : W32) : LegalNext (execArpRequest port tpa s sha spa) := by
  unfold execArpRequest; (repeat' split) <;> simp [h]

theorem legal_execLinkUp (port : NetPort) (fullDuplex : Bool) : LegalNext (execLinkUp port fullDuplex s) := by
  simp [execLinkUp, h]

theorem legal_execLinkDown (port : NetPort) : LegalNext (execLinkDown port s) := by
  simp [execLinkDown, h]

theorem legal_execPtpSyncReceive (port : NetPort) (master : W64) (t1 t2 : Int) : LegalNext (execPtpSyncReceive port master t1 t2 s) := by
  simp [execPtpSyncReceive, h]

theorem legal_execPtpSyncTimeout : LegalNext (execPtpSyncTimeout s) := by
  simp [execPtpSyncTimeout, h]

theorem legal_execPtpSyncSend : LegalNext (execPtpSyncSend s) := by
  simp [execPtpSyncSend, h]

theorem legal_execPtpAnnounceSend : LegalNext (execPtpAnnounceSend s) := by
  simp [execPtpAnnounceSend, h]

theorem legal_execPairingWindowExpiry (conn : Fin 128) : LegalNext (execPairingWindowExpiry conn s) := by
  simp [execPairingWindowExpiry, h]

theorem legal_execConnTimeout (conn : Fin 128) : LegalNext (execConnTimeout conn s) := by
  simp [execConnTimeout, h]

theorem legal_execConnLeeExpired (conn : Fin 128) : LegalNext (execConnLeeExpired conn s) := by
  simp [execConnLeeExpired, h]

theorem legal_execConnNotStarted (conn : Fin 128) : LegalNext (execConnNotStarted conn s) := by
  simp [execConnNotStarted, h]

theorem legal_execCsfWdg (conn : Fin 128) : LegalNext (execCsfWdg conn s) := by
  simp [execCsfWdg, h]

theorem legal_execCasHbSend : LegalNext (execCasHbSend s) := by
  simp [execCasHbSend, h]

theorem legal_execCasAgreeSend : LegalNext (execCasAgreeSend s) := by
  simp [execCasAgreeSend, h]

theorem legal_execCasMemberAbsent (m : Fin 8) : LegalNext (execCasMemberAbsent m s) := by
  simp [execCasMemberAbsent, h]

theorem legal_execEngineHeartbeatMiss (e : Engine) : LegalNext (execEngineHeartbeatMiss e s) := by
  simp [execEngineHeartbeatMiss, h]

theorem legal_execWeatheringReplan (ron : List RonMeas) (flashBits : Vector Nat 4) (wrong : List (Nat × Int)) : LegalNext (execWeatheringReplan ron flashBits wrong s) := by
  unfold execWeatheringReplan
  dsimp only
  split
  · exact .next h
  · rw [legalNext_next, held_wthRefresh, held_foldl _ (fun _ _ => held_exhaust _ _)]
    simp [h]

theorem legal_execThatchDeviationMeasure (cycles : Nat) : LegalNext (execThatchDeviationMeasure cycles s) := by
  simp [execThatchDeviationMeasure, h]

theorem legal_execSlateRecheck (cells : Vector (BitVec 8192) 6) (dieTemp : Int) : LegalNext (execSlateRecheck cells dieTemp s) := by
  unfold execSlateRecheck; (repeat' split) <;> simp [h]

theorem legal_execEquivalentHourUpdate : LegalNext (execEquivalentHourUpdate s) := by
  simp [execEquivalentHourUpdate, h]

theorem legal_execEquivalentHourFlashCopy : LegalNext (execEquivalentHourFlashCopy s) := by
  simp [execEquivalentHourFlashCopy, h]

theorem legal_execWeatheringDailyValue : LegalNext (execWeatheringDailyValue s) := by
  simp [execWeatheringDailyValue, h]

theorem legal_execLullNAssert (lowNs : Nat) : LegalNext (execLullNAssert lowNs s) := by
  simp [execLullNAssert, h]

theorem legal_execLullTriggerFire : LegalNext (execLullTriggerFire s) := by
  unfold execLullTriggerFire
  split
  · exact .next (legal_lullEnter 3 _ (legal_trig s _ h rfl fun _ => trigLegal_of 0 BitVec.zero_and))
  · exact .next h

theorem legal_execResetStuck (n : Fin 48) : LegalNext (execResetStuck n s) := by
  simp [execResetStuck, h]

theorem legal_execBrakeTestDue (xi : Nat) : LegalNext (execBrakeTestDue xi s) := by
  simp [execBrakeTestDue, h]

theorem legal_execBrakeTestOverdue (xi : Nat) : LegalNext (execBrakeTestOverdue xi s) := by
  simp [execBrakeTestOverdue, h]

theorem legal_execVbatRemoved (mv : Nat) : LegalNext (execVbatRemoved mv s) := by
  simp [execVbatRemoved, h]

theorem legal_execLossOfLock : LegalNext (execLossOfLock s) := by
  simp [execLossOfLock, h]

theorem legal_execEngineRestarted (e : Engine) (sound : Bool) : LegalNext (execEngineRestarted e sound s) := by
  unfold execEngineRestarted
  dsimp only
  split
  · exact .next h
  · have g (x : EngineSt) (ev : Events) : legal (held (cvuOfEngine e sound { setEngine e x s with ev := ev })) = true :=
      legal_cvuOfEngine e sound _ (by simpa using held_setEngine e x s ▸ h)
    split
    · split
      · exact .next (legal_restartSelftest _ (by simpa using g _ _))
      · exact .next (by simpa using g _ _)
    · exact .next (by simpa using g _ _)
    · exact .next (g _ _)

theorem legal_execUsbAttach : LegalNext (execUsbAttach s) := by
  simp [execUsbAttach, h]

theorem legal_execDelayRequestReceive (port : NetPort) (isRequest : Bool) (requester : W64) (t3 t4 : Int) (seq : BitVec 16) : LegalNext (execDelayRequestReceive port isRequest requester t3 t4 s seq) := by
  simp [execDelayRequestReceive, h]

theorem legal_execAnnounceReceive (port : NetPort) (a : Announce) : LegalNext (execAnnounceReceive port a s) := by
  unfold execAnnounceReceive; dsimp only; (repeat' split) <;> simp [h]

theorem legal_execHoldoverExpiry : LegalNext (execHoldoverExpiry s) := by
  simp [execHoldoverExpiry, h]

theorem legal_execGustPulseEnd (m : Fin 16) (landMv : Nat) (onInHold : BitVec 48) : LegalNext (execGustPulseEnd m landMv onInHold s) := by
  simp [execGustPulseEnd, h]

end

/-- Whatever the command, the held registers stay legal. -/
theorem legal_exec {s : State} (h : legal (held s) = true) (c : Instr) : LegalNext (exec c s) :=
  by cases c with
  | getStatus r => exact .next (legal_serve _ _ _ _ (fun t g => by simp [g]) h)
  | getFaults r => exact .next (legal_serve _ _ _ _ (fun t g => by simp [g]) h)
  | cfgBegin r => exact legal_execCfgBegin h r
  | cfgBlock r => exact .next (legal_serve _ _ _ _ (fun t g => by simp [g]) h)
  | cfgEnd r => exact .next (legal_serve _ _ _ _ (fun t g => by simp [g]) h)
  | cfgAcceptClamps r => exact .next (legal_serve _ _ _ _ (fun t g => by simp [g]) h)
  | verifyStart r => exact .next (legal_serve _ _ _ _ (fun t g => by simp [g]) h)
  | verifyReport r => exact .next (legal_serve _ _ _ _ (fun t g => by simp [g]) h)
  | commit r run => exact .next (legal_serve _ _ _ _ (fun t g => by simp [g]) h)
  | login r => exact legal_execLogin h r
  | logout r => exact .next (legal_serve _ _ _ _ (legal_noPayload _ _ fun t g => legal_lowerSession _ _ t g) h)
  | setPassword r flashOk => exact .next (legal_serve _ _ _ _ (fun t g => by simp [g]) h)
  | logRead r => exact .next (legal_serve _ _ _ _ (fun t g => by simp [g]) h)
  | clearLockout r => exact legal_execClearLockout h r
  | slateRead r => exact .next (legal_serve _ _ _ _ (fun t g => by simp [g]) h)
  | slateProgramBit r pulse => exact .next (legal_serve _ _ _ _ (fun t g => by simp [g]) h)
  | slateLock r pulse => exact .next (legal_serve _ _ _ _ (fun t g => by simp [g]) h)
  | ridgeSplit r crcEqual => exact .next (legal_serve _ _ _ _ (fun t g => by simp [g]) h)
  | ridgeJoin r crcEqual => exact .next (legal_serve _ _ _ _ (fun t g => by simp [g]) h)
  | weatherReport r => exact .next (legal_serve _ _ _ _ (fun t g => by simp [g]) h)
  | cascadeStatus r => exact .next (legal_serve _ _ _ _ (fun t g => by simp [g]) h)
  | fwUpdateBlock r flashOk => exact .next (legal_serve _ _ _ _ (fun t g => by simp [g]) h)
  | fwActivate r run => exact .next (legal_serve _ _ _ _ (fun t g => by simp [g]) h)
  | lullArm r => exact .next (legal_serve _ _ _ _ (legal_armBody r) h)
  | mbxRequest => exact .next (by simp [h])
  | mbxResponseAck => exact .next (by simp [h])
  | mbxEventAck n => exact .next (by simp [h])
  | usbRequest msg prevRead => exact legal_execUsbRequest h msg prevRead
  | mailboxCommandTimeout => exact legal_execMailboxCommandTimeout h
  | verifyRunEnd => exact legal_execVerifyRunEnd h
  | commitRestart => exact legal_execCommitRestart h
  | lockoutAckRelease => exact legal_execLockoutAckRelease h
  | ackMissing => exact legal_execAckMissing h
  | lockoutRestart => exact legal_execLockoutRestart h
  | sessionInactivityTimeout port => exact legal_execSessionInactivityTimeout h port
  | loginBackoffEnd => exact legal_execLoginBackoffEnd h
  | usbDetach => exact legal_execUsbDetach h
  | spiWriteFrame bytes => exact .next (legal_spiFrame _ _ _ s h (legal_spiWriteAct bytes s h))
  | spiReadFrame bytes => exact .next (legal_spiFrame _ _ _ s h (legal_spiReadAct bytes s h))
  | spiBadOpcodeFrame bytes => exact .next (legal_spiFrame _ _ _ s h h)
  | spiFrameDiscard => exact .next (by simp [h])
  | tbLoRead who => exact .next (legal_tbRead false who s h)
  | tbHiRead who => exact .next (legal_tbRead true who s h)
  | tmuCountRead n => exact .next (legal_hostRead _ s h (by simpa using h))
  | tmuCountWrite who n v => exact .next (by simp [h])
  | tmuCmpWrite who n v => exact .next (by simp [h])
  | tmuCtrlWrite who n v => exact .next (legal_either (legal_writeTmuCtrl n v s h) h)
  | tmuPrescWrite who n v => exact .next (legal_either (legal_writeTmuPresc n v s h) h)
  | tmuStagger v => exact .next (legal_either (legal_writeTmuStagger v s h) h)
  | tmuMatch n => exact legal_execTmuMatch h n
  | tmuOverflow n => exact legal_execTmuOverflow h n
  | unlockWrite v => exact .next (legal_whenPort _ s h (by simpa using h))
  | unlockGuardTimeout => exact legal_execUnlockGuardTimeout h
  | indDataAccess op => exact legal_execIndDataAccess h op
  | lullCtrlEnter v => exact .next (legal_whenPort _ s h (legal_writeLullCtrl v s h))
  | lullTrigWrite reg v => exact .next (legal_whenPort _ s h (legal_writeTrig _ v s h))
  | irqEnableWrite v => exact .next (legal_whenPort _ s h (legal_irqEnable v s h))
  | readClearRegister addr => exact legal_execReadClearRegister h addr
  | aliasSetWrite addr d => exact .next (legal_whenPort _ s h (legal_aliasWin _ _ s h))
  | aliasClearWrite addr d => exact .next (legal_whenPort _ s h (legal_aliasWin _ _ s h))
  | aliasToggleWrite addr d => exact .next (legal_whenPort _ s h (legal_aliasWin _ _ s h))
  | registerWrite addr d => exact .next (legal_whenPort _ s h (legal_writeWin _ d s h))
  | positionLoRead axis srcB => exact legal_execPositionLoRead h axis srcB
  | cvuCtrlWrite u v => exact .next (legal_either (legal_cvuUpd u _ s h (writeCvuCtrl_legal v _)) h)
  | cvuParamWrite u reg v => exact .next (legal_either (legal_cvuUpd_ctrl u _ s h (writeCvuParam_ctrl reg v)) h)
  | cvuDataWrite u v => exact .next (legal_either (legal_cvuUpd_ctrl u _ s h (cvuData_ctrl v)) h)
  | cvuStart u => exact .next (legal_either (legal_cvuUpd_ctrl u _ s h cvuStart_ctrl) h)
  | cvuResume u => exact .next (legal_either (legal_cvuUpd_ctrl u _ s h cvuResume_ctrl) h)
  | cvuAbort u => exact .next (legal_either (legal_cvuUpd_ctrl u _ s h fun _ => rfl) h)
  | cvuValueLoRead u reg => exact .next (legal_either (legal_cvuUpd_ctrl u _ s h (cvuRead_ctrl reg)) h)
  | cvuValueHiWrite u v => exact .next (legal_either (legal_cvuUpd_ctrl u _ s h fun _ => rfl) h)
  | cvuFrameDone u => exact .next (legal_either (legal_cvuUpd_ctrl u _ s h fun _ => rfl) h)
  | cvuSelfCheck u sound => exact legal_execCvuSelfCheck h u sound
  | lplusPowerOn env => exact legal_execLplusPowerOn h env
  | bootComplete env => exact legal_execBootComplete h env
  | selftestEnd fails => exact legal_execSelftestEnd h fails
  | startRun => exact legal_execStartRun h
  | squallStepDown mv => exact legal_execSquallStepDown h mv
  | squallStepUp mv least => exact legal_execSquallStepUp h mv least
  | rideThroughStart mv => exact legal_execRideThroughStart h mv
  | rideThroughEnd mv => exact legal_execRideThroughEnd h mv
  | orderedShutdown mv holdMv => exact legal_execOrderedShutdown h mv holdMv
  | holdPowerOnReset holdMv => exact legal_execHoldPowerOnReset h holdMv
  | vbatApplied mv => exact legal_execVbatApplied h mv
  | vbatMeasurement mv => exact legal_execVbatMeasurement h mv
  | resetNAssert lowNs => exact legal_execResetNAssert h lowNs
  | resetNRelease env => exact legal_execResetNRelease h env
  | tamperNLow => exact legal_execTamperNLow h
  | temperatureMeasurement die fieldSide => exact legal_execTemperatureMeasurement h die fieldSide
  | regulatorFault dom => exact legal_execRegulatorFault h dom
  | tickBoundary cycles => exact legal_execTickBoundary h cycles
  | eaveOutboundFrame lane rx det => exact legal_execEaveOutboundFrame h lane rx det
  | eaveInboundFrame lane rx => exact legal_execEaveInboundFrame h lane rx
  | thatchPassEnd cycles units canaryOk => exact legal_execThatchPassEnd h cycles units canaryOk
  | crossCompare ridgeErr thatchErr ridgeReqBad thatchReqBad => exact legal_execCrossCompare h ridgeErr thatchErr ridgeReqBad thatchReqBad
  | phase3Start => exact legal_execPhase3Start h
  | tickOverrunRg => exact legal_execTickOverrunRg h
  | tickOverrunTh => exact legal_execTickOverrunTh h
  | crossResultMissing lane => exact legal_execCrossResultMissing h lane
  | thatchTickPulse units => exact legal_execThatchTickPulse h units
  | tickGenMismatch => exact legal_execTickGenMismatch h
  | ridgeBoundaryMissing => exact legal_execRidgeBoundaryMissing h
  | ridgeLockstepMismatch => exact legal_execRidgeLockstepMismatch h
  | ridgeEccCorrection m addr flip => exact legal_execRidgeEccCorrection h m addr flip
  | ridgeEccDed m addr flips => exact legal_execRidgeEccDed h m addr flips
  | ridgeFaultLine => exact legal_execRidgeFaultLine h
  | ridgeDebugBreak act => exact legal_execRidgeDebugBreak h act
  | thatchCfgScrub upset => exact legal_execThatchCfgScrub h upset
  | fieldSample x => exact legal_execFieldSample h x
  | filterAccept n => exact legal_execFilterAccept h n
  | bandReport n => exact legal_execBandReport h n
  | inputViewMismatch n => exact legal_execInputViewMismatch h n
  | inputMeasFault n => exact legal_execInputMeasFault h n
  | supplyViewMismatch k => exact legal_execSupplyViewMismatch h k
  | supplyLost k => exact legal_execSupplyLost h k
  | supplyRecovered k => exact legal_execSupplyRecovered h k
  | resetLevelRelease => exact legal_execResetLevelRelease h
  | laneSilence lane => exact legal_execLaneSilence h lane
  | gustPulseStart m on => exact legal_execGustPulseStart h m on
  | gustWindow1End m offSeen foreign delays => exact legal_execGustWindow1End h m offSeen foreign delays
  | gustWindow2End m okP okT => exact legal_execGustWindow2End h m okP okT
  | tpoOverload m => exact legal_execTpoOverload h m
  | tpoOverloadClear m => exact legal_execTpoOverloadClear h m
  | darkTestDue lane o => exact legal_execDarkTestDue h lane o
  | darkTestStart lane => exact legal_execDarkTestStart h lane
  | darkTestEnd lane sw landMv turnOff2us => exact legal_execDarkTestEnd h lane sw landMv turnOff2us
  | switchProtectionTrip lane o => exact legal_execSwitchProtectionTrip h lane o
  | groupOvercurrent lane g => exact legal_execGroupOvercurrent h lane g
  | groupOvercurrentClear lane g => exact legal_execGroupOvercurrentClear h lane g
  | brkOpenCoil lane k ma => exact legal_execBrkOpenCoil h lane k ma
  | brightDue o => exact legal_execBrightDue h o
  | brightOverdue o => exact legal_execBrightOverdue h o
  | motionStrobe raws pwrMv pwrMa => exact legal_execMotionStrobe h raws pwrMv pwrMa
  | encSupplyTrip j => exact legal_execEncSupplyTrip h j
  | axisCrossMismatch ax => exact legal_execAxisCrossMismatch h ax
  | conversionWindowEnd ch sd sar stat drvMv burnMv leadSd leadSar => exact legal_execConversionWindowEnd h ch sd sar stat drvMv burnMv leadSd leadSar
  | cjSensorRead sdTemps sarTemps => exact legal_execCjSensorRead h sdTemps sarTemps
  | anStale ch => exact legal_execAnStale h ch
  | netFrameReceive port frame fcsOk => exact legal_execNetFrameReceive h port frame fcsOk
  | telegramCopyReceive port head body rx => exact legal_execTelegramCopyReceive h port head body rx
  | arpRequest port tpa sha spa => exact legal_execArpRequest h port tpa sha spa
  | linkUp port fullDuplex => exact legal_execLinkUp h port fullDuplex
  | linkDown port => exact legal_execLinkDown h port
  | ptpSyncReceive port master t1 t2 => exact legal_execPtpSyncReceive h port master t1 t2
  | ptpSyncTimeout => exact legal_execPtpSyncTimeout h
  | ptpSyncSend => exact legal_execPtpSyncSend h
  | ptpAnnounceSend => exact legal_execPtpAnnounceSend h
  | pairingWindowExpiry conn => exact legal_execPairingWindowExpiry h conn
  | connTimeout conn => exact legal_execConnTimeout h conn
  | connLeeExpired conn => exact legal_execConnLeeExpired h conn
  | connNotStarted conn => exact legal_execConnNotStarted h conn
  | csfWdg conn => exact legal_execCsfWdg h conn
  | casHbSend => exact legal_execCasHbSend h
  | casAgreeSend => exact legal_execCasAgreeSend h
  | casMemberAbsent m => exact legal_execCasMemberAbsent h m
  | engineHeartbeatMiss e => exact legal_execEngineHeartbeatMiss h e
  | weatheringReplan ron flashBits wrong => exact legal_execWeatheringReplan h ron flashBits wrong
  | thatchDeviationMeasure cycles => exact legal_execThatchDeviationMeasure h cycles
  | slateRecheck cells dieTemp => exact legal_execSlateRecheck h cells dieTemp
  | equivalentHourUpdate => exact legal_execEquivalentHourUpdate h
  | equivalentHourFlashCopy => exact legal_execEquivalentHourFlashCopy h
  | weatheringDailyValue => exact legal_execWeatheringDailyValue h
  | tmrScrub flips => exact .next (legal_either (legal_tmrScrub _ (legal_foldl _ legal_tmrUpset flips s h)) h)
  | lullNAssert lowNs => exact legal_execLullNAssert h lowNs
  | lullTriggerFire => exact legal_execLullTriggerFire h
  | pairDiscrepancy xi => exact .next (by simp [h])
  | resetStuck n => exact legal_execResetStuck h n
  | estopStopDelayEnd xi => exact .next (by simp [h])
  | unlockTimeout xi => exact .next (by simp [h])
  | lockTimeout xi => exact .next (by simp [h])
  | mutingSeqTimeout xi => exact .next (by simp [h])
  | mutingTime xi => exact .next (by simp [h])
  | twoHandSyncTimeout xi => exact .next (by simp [h])
  | enable3TMax xi => exact .next (by simp [h])
  | modeImplausible xi => exact .next (by simp [h])
  | edmFault xi => exact .next (by simp [h])
  | timerBlockExpiry xi => exact .next (by simp [h])
  | aThreshDelayEnd xi => exact .next (by simp [h])
  | ss1tStopTimeEnd xi => exact .next (by simp [h])
  | brakingEnd xi => exact .next (by simp [h])
  | sosDelayEnd xi => exact .next (by simp [h])
  | sbcReleaseDelayEnd xi => exact .next (by simp [h])
  | brakeTestEnd xi => exact .next (by simp [h])
  | brakeTestDue xi => exact legal_execBrakeTestDue h xi
  | brakeTestOverdue xi => exact legal_execBrakeTestOverdue h xi
  | vbatRemoved mv => exact legal_execVbatRemoved h mv
  | lossOfLock => exact legal_execLossOfLock h
  | engineRestarted e sound => exact legal_execEngineRestarted h e sound
  | usbAttach => exact legal_execUsbAttach h
  | delayRequestReceive port isRequest requester t3 t4 seq => exact legal_execDelayRequestReceive h port isRequest requester t3 t4 seq
  | announceReceive port a => exact legal_execAnnounceReceive h port a
  | holdoverExpiry => exact legal_execHoldoverExpiry h
  | tmuCountStep n falling => exact .next (by simp [h])
  | gustPulseEnd m landMv onInHold => exact legal_execGustPulseEnd h m landMv onInHold

/-- Settles O60: an idle clock and every command keep them legal. -/
theorem stepKeepsHeldRegistersLegal : Obligations.StepKeepsHeldRegistersLegal := by
  unfold Obligations.StepKeepsHeldRegistersLegal
  intro s t h e
  unfold step at e
  split at e
  · obtain rfl := Host.Outcome.next.inj e
    exact legal_idle s h
  · next c rest _ => exact legal_exec (s := { s with pending := rest }) h c t e

end Sys2Proof.Proofs
end

section
/-! PROOF. The timer unit channel by channel: what each operation of it does to the channel that it names, and which it leaves (R36 to R43). -/

namespace Sys2Proof.Proofs

open Sys2Proof Sys2Proof.Machine Sys2Proof.Safety Sys2Proof.Laws

/-! ## One channel -/

/-- What a match makes of its channel (R40, R42). -/
def fired (c : TmuCh) : TmuCh :=
  let again := c.ctrl.getLsbD 20 && c.adv != 0
  { c with cmpF := true, fire := false, armed := again, cmp := if again then c.cmp + c.adv else c.cmp }

/-- A channel whose counter moves to a value, and matches where it is an armed compare value. -/
def moved (w : W32) (c : TmuCh) : TmuCh :=
  if c.armed && w == c.cmp then fired { c with count := w } else { c with count := w }

/-- A channel at the start of its next prescaler step (R37). -/
def stepStarted (c : TmuCh) : TmuCh :=
  let a := c.acc + BitVec.ofNat 8 (fld c.presc 0 8)
  { c with inCnt := 0, acc := a, stepLen := prescLen c.presc a }

@[simp] theorem fired_cmpF (c : TmuCh) : (fired c).cmpF = true := rfl
@[simp] theorem fired_fire (c : TmuCh) : (fired c).fire = false := rfl
@[simp] theorem fired_count (c : TmuCh) : (fired c).count = c.count := rfl
@[simp] theorem fired_ctrl (c : TmuCh) : (fired c).ctrl = c.ctrl := rfl
@[simp] theorem fired_ovf (c : TmuCh) : (fired c).ovf = c.ovf := rfl
@[simp] theorem fired_inCnt (c : TmuCh) : (fired c).inCnt = c.inCnt := rfl
@[simp] theorem fired_armed (c : TmuCh) : (fired c).armed = (c.ctrl.getLsbD 20 && c.adv != 0) := rfl

/-- With an advance the match arms the next compare value. -/
theorem fired_again (c : TmuCh) (h : c.ctrl.getLsbD 20 = true) (ha : c.adv ≠ 0) :
    fired c = { c with cmpF := true, fire := false, armed := true, cmp := c.cmp + c.adv } := by
  simp only [fired, h, bne_iff_ne.2 ha, Bool.and_self, if_true]

/-- Without one it disarms. -/
theorem fired_once (c : TmuCh) (h : c.ctrl.getLsbD 20 = false ∨ c.adv = 0) :
    fired c = { c with cmpF := true, fire := false, armed := false } := by
  have off : (c.ctrl.getLsbD 20 && c.adv != 0) = false := by rcases h with h | h <;> simp only [h, bne_self_eq_false, Bool.and_false, Bool.false_and]
  simp only [fired, off, Bool.false_eq_true, if_false]

@[simp] theorem moved_count (w : W32) (c : TmuCh) : (moved w c).count = w := by unfold moved; split <;> simp
@[simp] theorem moved_ctrl (w : W32) (c : TmuCh) : (moved w c).ctrl = c.ctrl := by unfold moved; split <;> simp
@[simp] theorem moved_ovf (w : W32) (c : TmuCh) : (moved w c).ovf = c.ovf := by unfold moved; split <;> simp
@[simp] theorem moved_inCnt (w : W32) (c : TmuCh) : (moved w c).inCnt = c.inCnt := by unfold moved; split <;> simp

/-- Away from its compare value a channel counts only. -/
theorem moved_away (w : W32) (c : TmuCh) (h : c.armed = true → c.cmp ≠ w) : moved w c = { c with count := w } := by
  unfold moved
  rw [if_neg]
  simp only [Bool.and_eq_true, beq_iff_eq, not_and]
  exact fun a e => h a e.symm

/-- Onto its armed compare value it matches. -/
theorem moved_onto (w : W32) (c : TmuCh) (h : c.armed = true) (hw : c.cmp = w) : moved w c = fired { c with count := w } := by
  simp [moved, h, hw]

/-- A move keeps a channel without a late match without one. -/
theorem moved_fire (w : W32) (c : TmuCh) (h : c.fire = false) : (moved w c).fire = false := by unfold moved; split <;> simp [h]

@[simp] theorem stepStarted_count (c : TmuCh) : (stepStarted c).count = c.count := rfl
@[simp] theorem stepStarted_ctrl (c : TmuCh) : (stepStarted c).ctrl = c.ctrl := rfl
@[simp] theorem stepStarted_ovf (c : TmuCh) : (stepStarted c).ovf = c.ovf := rfl
@[simp] theorem stepStarted_inCnt (c : TmuCh) : (stepStarted c).inCnt = 0 := rfl
@[simp] theorem stepStarted_armed (c : TmuCh) : (stepStarted c).armed = c.armed := rfl
@[simp] theorem stepStarted_cmp (c : TmuCh) : (stepStarted c).cmp = c.cmp := rfl
@[simp] theorem stepStarted_adv (c : TmuCh) : (stepStarted c).adv = c.adv := rfl
@[simp] theorem stepStarted_fire (c : TmuCh) : (stepStarted c).fire = c.fire := rfl
@[simp] theorem stepStarted_cmpF (c : TmuCh) : (stepStarted c).cmpF = c.cmpF := rfl
@[simp] theorem stepStarted_sat (c : TmuCh) : (stepStarted c).sat = c.sat := rfl

/-! ## Channels by their control registers -/

/-- CTRL of every channel stays with the shape. -/
theorem ctrl_of_shape {s t : State} (h : tmuShape t = tmuShape s) (n : Nat) : (tmuAt t n).ctrl = (tmuAt s n).ctrl := by
  unfold tmuAt vget
  split
  · next hn =>
    have e := congrArg (fun l => l[n]?) h
    simp [tmuShape, hn] at e
    exact e.1
  · rfl

theorem en_of_shape {s t : State} (h : tmuShape t = tmuShape s) (n : Nat) : (tmuAt t n).en = (tmuAt s n).en := by
  simp only [TmuCh.en, ctrl_of_shape h]

theorem stick_of_shape {s t : State} (h : tmuShape t = tmuShape s) (n : Nat) : (tmuAt t n).stick = (tmuAt s n).stick := by
  simp only [TmuCh.stick, ctrl_of_shape h]

theorem chained_of_shape {s t : State} (h : tmuShape t = tmuShape s) (n : Nat) : (tmuAt t n).chained = (tmuAt s n).chained := by
  simp only [TmuCh.chained, TmuCh.src, ctrl_of_shape h]

theorem feeds_of_shape {s t : State} (h : tmuShape t = tmuShape s) (n : Nat) : feeds t n = feeds s n := by
  simp only [feeds, chained_of_shape h]

theorem sticks_of_shape {s t : State} (h : tmuShape t = tmuShape s) (n : Nat) : sticks t n = sticks s n := by
  simp only [sticks, stick_of_shape h, feeds_of_shape h]

theorem chainAbove_of_shape {s t : State} (h : tmuShape t = tmuShape s) (fuel n : Nat) : chainAbove fuel t n = chainAbove fuel s n := by
  induction fuel generalizing n with
  | zero => rfl
  | succ k ih => simp only [chainAbove, feeds_of_shape h, ih]

/-- The channel named by `n` counts the overflows of `m` through an unbroken chain, or is `m` itself. -/
def reaches (s : State) (m n : Nat) : Prop := m ≤ n ∧ ∀ i, m < i → i ≤ n → (tmuAt s i).chained = true

theorem reaches_of_shape {s t : State} (h : tmuShape t = tmuShape s) (m n : Nat) : reaches t m n ↔ reaches s m n := by
  simp only [reaches, chained_of_shape h]

/-- A channel without a chain is reached from itself alone. -/
theorem reaches_unchained {s : State} {m n : Nat} (h : (tmuAt s n).chained = false) (r : reaches s m n) : m = n := by
  obtain ⟨le, up⟩ := r
  rcases Nat.lt_or_eq_of_le le with lt | e
  · simp [up n lt (Nat.le_refl n)] at h
  · exact e

/-- A channel below an unchained one does not reach above it. -/
theorem not_reaches_past {s : State} {m n j : Nat} (h : (tmuAt s n).chained = false) (hm : m < n) (hj : n ≤ j) : ¬ reaches s m j :=
  fun r => by simpa [h] using r.2 n hm hj

theorem feeds_iff (s : State) (n : Nat) : feeds s n = true ↔ n < 31 ∧ (tmuAt s (n + 1)).chained = true := by
  simp [feeds]

/-- The channels of a chain lie above its foot, and each is reached from it. -/
theorem mem_chainAbove {s : State} {fuel n m : Nat} (h : m ∈ chainAbove fuel s n) : n < m ∧ m < 32 ∧ reaches s n m := by
  induction fuel generalizing n with
  | zero => simp [chainAbove] at h
  | succ k ih =>
    unfold chainAbove at h
    split at h
    · next f =>
      obtain ⟨hn, hc⟩ := (feeds_iff s n).1 f
      rcases List.mem_cons.1 h with rfl | h
      · refine ⟨by omega, by omega, by omega, fun i a b => ?_⟩
        obtain rfl : i = n + 1 := by omega
        exact hc
      · obtain ⟨lt, top, le, up⟩ := ih h
        refine ⟨by omega, top, by omega, fun i a b => ?_⟩
        by_cases hi : i = n + 1
        · exact hi ▸ hc
        · exact up i (by omega) b
    · simp at h

/-- The top of a chain is its foot or one of the channels above. -/
theorem chainTop_mem (s : State) (fuel n : Nat) : (chainAbove fuel s n).getLastD n ∈ n :: chainAbove fuel s n := by
  cases chainAbove fuel s n with
  | nil => simp
  | cons a l => simp [List.getLastD_eq_getLast?, List.getLast?_eq_some_getLast]

/-- So it is reached from the foot, too. -/
theorem reaches_chainTop (s : State) (fuel n : Nat) : reaches s n ((chainAbove fuel s n).getLastD n) := by
  rcases List.mem_cons.1 (chainTop_mem s fuel n) with e | h
  · rw [e]; exact ⟨Nat.le_refl n, fun i a b => by omega⟩
  · exact (mem_chainAbove h).2.2

/-! ## Changes of one channel -/

theorem tmuUpd_frame (n : Nat) (f : TmuCh → TmuCh) (s : State) : { tmuUpd n f s with tmu := s.tmu } = s := rfl

/-- A channel's change by what it makes of the channel alone. -/
theorem tmuUpd_congr {n : Nat} {f g : TmuCh → TmuCh} {s : State} (h : f (tmuAt s n) = g (tmuAt s n)) : tmuUpd n f s = tmuUpd n g s := by
  unfold tmuUpd vmod
  split
  · next hn => rw [show f s.tmu.ch[n] = g s.tmu.ch[n] by simpa [tmuAt, vget, hn] using h]
  · rfl

/-- An interrupt event leaves the channels. -/
@[simp] theorem tmuAt_irqSet (k n : Nat) (s : State) : tmuAt (irqSet k s) n = tmuAt s n := rfl

/-- An event sets its own bit of the interrupt register. -/
theorem irqSet_bit (s : State) : (irqSet 3 s).host.irq.getLsbD 3 = true := by simp [irqSet, setBit]

/-- A match, as a change of its channel and an interrupt where CMP_IE is 1. -/
theorem tmuFire_eq (n : Nat) (s : State) :
    tmuFire n s = if (tmuAt s n).ctrl.getLsbD 18 then irqSet 3 (tmuUpd n fired s) else tmuUpd n fired s := by
  have e := tmuUpd_congr (n := n) (s := s) (g := fired) (f := fun x => { x with
    cmpF := true, fire := false, armed := (tmuAt s n).ctrl.getLsbD 20 && (tmuAt s n).adv != 0,
    cmp := if (tmuAt s n).ctrl.getLsbD 20 && (tmuAt s n).adv != 0 then x.cmp + x.adv else x.cmp }) rfl
  unfold tmuFire
  dsimp only
  rw [e]

theorem tmuFire_quiet (n : Nat) (s : State) (h : (tmuAt s n).ctrl.getLsbD 18 = false) : tmuFire n s = tmuUpd n fired s := by
  rw [tmuFire_eq, h]; rfl

theorem tmuFire_loud (n : Nat) (s : State) (h : (tmuAt s n).ctrl.getLsbD 18 = true) : tmuFire n s = irqSet 3 (tmuUpd n fired s) := by
  rw [tmuFire_eq, h]; rfl

theorem tmuAt_fire_self (n : Nat) (s : State) (h : n < 32) : tmuAt (tmuFire n s) n = fired (tmuAt s n) := by
  rw [tmuFire_eq]; split <;> simp [tmuAt_upd_self _ _ _ h]

theorem tmuAt_fire_ne (n m : Nat) (s : State) (h : n ≠ m) : tmuAt (tmuFire n s) m = tmuAt s m := by
  rw [tmuFire_eq]; split <;> simp [tmuAt_upd_ne _ _ _ _ h]

/-- The prescaler starts its next step in one change of the channel. -/
theorem tmuPresc_eq (n : Nat) (s : State) : tmuPresc n (tmuUpd n (fun x => { x with inCnt := 0 }) s) = tmuUpd n stepStarted s := by
  unfold tmuPresc; rw [tmuUpd_upd]; rfl

theorem tmuShape_stepStarted (n : Nat) (s : State) : tmuShape (tmuUpd n stepStarted s) = tmuShape s :=
  tmuShape_upd n _ s (fun _ => ⟨rfl, rfl⟩)

theorem tmuShape_ovf (n : Nat) (s : State) : tmuShape (tmuUpd n (fun x => { x with ovf := true }) s) = tmuShape s :=
  tmuShape_upd n _ s (fun _ => ⟨rfl, rfl⟩)

theorem tmuAt_move_self (n : Nat) (w : W32) (s : State) (h : n < 32) : tmuAt (tmuMove n w s) n = moved w (tmuAt s n) := by
  unfold tmuMove moved
  dsimp only
  split
  · rw [tmuAt_fire_self _ _ h, tmuAt_upd_self _ _ _ h]
  · rw [tmuAt_upd_self _ _ _ h]

theorem tmuAt_move_ne (n m : Nat) (w : W32) (s : State) (h : n ≠ m) : tmuAt (tmuMove n w s) m = tmuAt s m := by
  unfold tmuMove
  dsimp only
  split
  · rw [tmuAt_fire_ne _ _ _ h, tmuAt_upd_ne _ _ _ _ h]
  · rw [tmuAt_upd_ne _ _ _ _ h]

/-- A move off the compare value is a write of the counter. -/
theorem tmuMove_away (n : Nat) (w : W32) (s : State) (h : (tmuAt s n).armed = true → (tmuAt s n).cmp ≠ w) :
    tmuMove n w s = tmuUpd n (fun x => { x with count := w }) s := by
  unfold tmuMove
  dsimp only
  rw [if_neg]
  simp only [Bool.and_eq_true, beq_iff_eq, not_and]
  exact fun a e => h a e.symm

/-- A move onto the armed compare value matches. -/
theorem tmuMove_onto (n : Nat) (w : W32) (s : State) (h : (tmuAt s n).armed = true) (hw : (tmuAt s n).cmp = w) :
    tmuMove n w s = tmuFire n (tmuUpd n (fun x => { x with count := w }) s) := by
  simp [tmuMove, h, hw]

/-! ## A step -/

section step
variable {k n : Nat} {s : State}

/-- Below the largest value a step counts. -/
theorem tmuStepBy_counts (h : (tmuAt s n).count ≠ 0xFFFFFFFF) : tmuStepBy (k + 1) n s = tmuMove n ((tmuAt s n).count + 1) s := by
  rw [tmuStepBy]; exact if_pos (bne_iff_ne.2 h)

/-- A chain that holds sets SAT of its top (R39). -/
theorem tmuStepBy_holds (h : (tmuAt s n).count = 0xFFFFFFFF) (hc : chainHolds s n = true) :
    tmuStepBy (k + 1) n s = tmuUpd ((chainAbove 32 s n).getLastD n) (fun x => { x with sat := true }) s := by
  simp [tmuStepBy, h, hc]

/-- The step that leaves a channel at 0. -/
def wrapped (n : Nat) (s : State) : State :=
  let t := tmuMove n 0 (tmuUpd n (fun x => { x with ovf := true }) s)
  if (tmuAt s n).ctrl.getLsbD 19 then irqSet 3 t else t

/-- Otherwise the largest value wraps, into the running channel above. -/
theorem tmuStepBy_wraps (h : (tmuAt s n).count = 0xFFFFFFFF) (hc : chainHolds s n = false) (hs : sticks s n = false) :
    tmuStepBy (k + 1) n s =
      if feeds s n && (tmuAt s (n + 1)).en then tmuStepBy k (n + 1) (wrapped n s) else wrapped n s := by
  simp [tmuStepBy, h, hc, hs, wrapped]

@[simp] theorem tmuShape_wrapped : tmuShape (wrapped n s) = tmuShape s := by
  unfold wrapped; dsimp only; split <;> simp [tmuShape_ovf]

theorem tmuAt_wrapped_self (h : n < 32) : tmuAt (wrapped n s) n = moved 0 { tmuAt s n with ovf := true } := by
  unfold wrapped; dsimp only; split <;> simp [tmuAt_move_self _ _ _ h, tmuAt_upd_self _ _ _ h]

theorem tmuAt_wrapped_ne {m : Nat} (h : n ≠ m) : tmuAt (wrapped n s) m = tmuAt s m := by
  unfold wrapped; dsimp only; split <;> simp [tmuAt_move_ne _ _ _ _ h, tmuAt_upd_ne _ _ _ _ h]

/-- The overflow interrupt. -/
theorem wrapped_irq (h : (tmuAt s n).ctrl.getLsbD 19 = true) : (wrapped n s).host.irq.getLsbD 3 = true := by
  simp only [wrapped, h, if_true]; exact irqSet_bit _

/-- A channel that feeds no chain is a chain of its own, and holds where it sticks. -/
theorem chainHolds_alone (h : (tmuAt s n).count = 0xFFFFFFFF) (hf : feeds s n = false) : chainHolds s n = (tmuAt s n).stick := by
  simp [chainHolds, chainAbove, hf, h]

end step

/-- A step changes no channel that it does not reach. -/
theorem tmuStepBy_unreached (fuel n j : Nat) (s : State) (h : ¬ reaches s n j) : tmuAt (tmuStepBy fuel n s) j = tmuAt s j := by
  induction fuel generalizing n s with
  | zero => rfl
  | succ k ih =>
    have hn : n ≠ j := by rintro rfl; exact h ⟨Nat.le_refl n, fun i a b => by omega⟩
    by_cases full : (tmuAt s n).count = 0xFFFFFFFF
    · cases hc : chainHolds s n with
      | true =>
        rw [tmuStepBy_holds full hc, tmuAt_upd_ne]
        rintro rfl
        exact h (reaches_chainTop s 32 n)
      | false =>
        cases hs : sticks s n with
        | true => simp [tmuStepBy, full, hc, hs, tmuAt_upd_ne _ _ _ _ hn]
        | false =>
          rw [tmuStepBy_wraps full hc hs]
          split
          · next up =>
            simp only [Bool.and_eq_true, feeds_iff] at up
            obtain ⟨⟨-, chain⟩, -⟩ := up
            rw [ih, tmuAt_wrapped_ne hn]
            rw [reaches_of_shape tmuShape_wrapped]
            rintro ⟨le, above⟩
            refine h ⟨by omega, fun i a b => ?_⟩
            by_cases hi : i = n + 1
            · exact hi ▸ chain
            · exact above i (by omega) b
          · exact tmuAt_wrapped_ne hn
    · rw [tmuStepBy_counts full, tmuAt_move_ne _ _ _ _ hn]

/-! ## The interrupt bit of the timer unit is set and stays -/

theorem tmuFire_irq_keeps (n : Nat) (s : State) (h : s.host.irq.getLsbD 3 = true) : (tmuFire n s).host.irq.getLsbD 3 = true := by
  rw [tmuFire_eq]; split
  · exact irqSet_bit _
  · exact h

theorem tmuMove_irq_keeps (n : Nat) (w : W32) (s : State) (h : s.host.irq.getLsbD 3 = true) :
    (tmuMove n w s).host.irq.getLsbD 3 = true := by
  unfold tmuMove; dsimp only; split
  · exact tmuFire_irq_keeps _ _ h
  · exact h

theorem wrapped_irq_keeps (n : Nat) (s : State) (h : s.host.irq.getLsbD 3 = true) : (wrapped n s).host.irq.getLsbD 3 = true := by
  unfold wrapped; dsimp only; split
  · exact irqSet_bit _
  · exact tmuMove_irq_keeps _ _ _ h

theorem tmuStepBy_irq_keeps (fuel n : Nat) (s : State) (h : s.host.irq.getLsbD 3 = true) :
    (tmuStepBy fuel n s).host.irq.getLsbD 3 = true := by
  induction fuel generalizing n s with
  | zero => exact h
  | succ k ih =>
    by_cases full : (tmuAt s n).count = 0xFFFFFFFF
    · cases hc : chainHolds s n with
      | true => rw [tmuStepBy_holds full hc]; exact h
      | false =>
        cases hs : sticks s n with
        | true => simpa [tmuStepBy, full, hc, hs] using h
        | false =>
          rw [tmuStepBy_wraps full hc hs]
          split
          · exact ih _ _ (wrapped_irq_keeps n s h)
          · exact wrapped_irq_keeps n s h
    · rw [tmuStepBy_counts full]; exact tmuMove_irq_keeps _ _ _ h

/-! ## What lies outside the timer unit -/

/-- The state without the timer channels and the interrupt register. -/
def outsideTimers (s : State) : State :=
  { s with tmu := { s.tmu with ch := Vector.replicate 32 TmuCh.reset }, host := { s.host with irq := 0 } }

/-- Two states that agree outside the timer unit and the interrupt register differ in these alone. -/
theorem eq_of_outsideTimers {s t : State} (h : outsideTimers t = outsideTimers s) :
    { t with tmu := s.tmu, host := { t.host with irq := s.host.irq } } = s :=
  congrArg (fun x : State => { x with tmu := s.tmu, host := { x.host with irq := s.host.irq } }) h

@[simp] theorem outside_tmuUpd (n : Nat) (f : TmuCh → TmuCh) (s : State) : outsideTimers (tmuUpd n f s) = outsideTimers s := rfl
@[simp] theorem outside_irqSet (k : Nat) (s : State) : outsideTimers (irqSet k s) = outsideTimers s := rfl

@[simp] theorem outside_tmuFire (n : Nat) (s : State) : outsideTimers (tmuFire n s) = outsideTimers s := by
  rw [tmuFire_eq]; split <;> simp

@[simp] theorem outside_tmuMove (n : Nat) (w : W32) (s : State) : outsideTimers (tmuMove n w s) = outsideTimers s := by
  unfold tmuMove; dsimp only; split <;> simp

@[simp] theorem outside_wrapped (n : Nat) (s : State) : outsideTimers (wrapped n s) = outsideTimers s := by
  unfold wrapped; dsimp only; split <;> simp

@[simp] theorem outside_tmuStepBy (fuel n : Nat) (s : State) : outsideTimers (tmuStepBy fuel n s) = outsideTimers s := by
  induction fuel generalizing n s with
  | zero => rfl
  | succ k ih => unfold tmuStepBy; dsimp only; (repeat' split) <;> simp [ih]

/-! ## An input cycle -/

/-- An input cycle within a prescaler step is counted (R37). -/
theorem tmuInput_within (n : Nat) (s : State) (on : s.pwr.aoOn = true) (en : (tmuAt s n).en = true)
    (root : (tmuAt s n).chained = false) (h : (tmuAt s n).inCnt + 1 < (tmuAt s n).stepLen) :
    tmuInput n s = tmuUpd n (fun c => { c with inCnt := c.inCnt + 1 }) s := by
  simp [tmuInput, on, en, root, show ¬ (tmuAt s n).stepLen ≤ (tmuAt s n).inCnt + 1 by omega]

/-- At its end the counter steps, and the next prescaler step begins. -/
theorem tmuInput_end (n : Nat) (s : State) (on : s.pwr.aoOn = true) (en : (tmuAt s n).en = true)
    (root : (tmuAt s n).chained = false) (h : (tmuAt s n).stepLen ≤ (tmuAt s n).inCnt + 1) :
    tmuInput n s = tmuStepBy 32 n (tmuUpd n stepStarted s) := by
  simp [tmuInput, on, en, root, h, tmuStep, tmuPresc_eq]

/-- A stopped channel takes no input cycle. -/
theorem tmuInput_stopped (n : Nat) (s : State) (h : (tmuAt s n).en = false) : tmuInput n s = s := by simp [tmuInput, h]

@[simp] theorem outside_tmuInput (n : Nat) (s : State) : outsideTimers (tmuInput n s) = outsideTimers s := by
  unfold tmuInput tmuStep; dsimp only; (repeat' split) <;> simp [tmuPresc_eq]

/-- An input cycle changes no channel that its channel does not reach. -/
theorem tmuInput_unreached (n j : Nat) (s : State) (h : ¬ reaches s n j) : tmuAt (tmuInput n s) j = tmuAt s j := by
  have hn : n ≠ j := by rintro rfl; exact h ⟨Nat.le_refl n, fun i a b => by omega⟩
  unfold tmuInput
  dsimp only
  split
  · rfl
  split
  · rw [tmuStep, tmuPresc_eq, tmuStepBy_unreached, tmuAt_upd_ne _ _ _ _ hn]
    rwa [reaches_of_shape (tmuShape_stepStarted n s)]
  · rw [tmuAt_upd_ne _ _ _ _ hn]

theorem tmuInput_irq_keeps (n : Nat) (s : State) (h : s.host.irq.getLsbD 3 = true) : (tmuInput n s).host.irq.getLsbD 3 = true := by
  unfold tmuInput tmuStep
  dsimp only
  split
  · exact h
  split
  · rw [tmuPresc_eq]; exact tmuStepBy_irq_keeps _ _ _ h
  · exact h

/-! ## A running channel at the end of its prescaler step -/

section stepEnd
variable {n : Nat} {s : State} (hn : n < 32) (on : s.pwr.aoOn = true) (en : (tmuAt s n).en = true)
  (root : (tmuAt s n).chained = false) (stop : (tmuAt s n).stepLen ≤ (tmuAt s n).inCnt + 1)
include hn on en root stop

/-- Below its largest value it counts, and matches where it comes onto its compare value. -/
theorem tmuInput_counts (h : (tmuAt s n).count ≠ 0xFFFFFFFF) :
    tmuInput n s = tmuMove n ((tmuAt s n).count + 1) (tmuUpd n stepStarted s) := by
  have self : tmuAt (tmuUpd n stepStarted s) n = stepStarted (tmuAt s n) := tmuAt_upd_self s n _ hn
  rw [tmuInput_end n s on en root stop, tmuStepBy_counts (by rw [self]; exact h), self, stepStarted_count]

/-- At its largest value it wraps, where it neither sticks nor belongs to a chain that holds. -/
theorem tmuInput_wraps (h : (tmuAt s n).count = 0xFFFFFFFF) (hc : chainHolds (tmuUpd n stepStarted s) n = false)
    (hs : sticks s n = false) :
    tmuInput n s =
      if feeds s n && (tmuAt s (n + 1)).en then tmuStepBy 31 (n + 1) (wrapped n (tmuUpd n stepStarted s))
      else wrapped n (tmuUpd n stepStarted s) := by
  have shape := tmuShape_stepStarted n s
  rw [tmuInput_end n s on en root stop,
    tmuStepBy_wraps (by rw [tmuAt_upd_self s n _ hn]; exact h) hc (by rw [sticks_of_shape shape]; exact hs),
    feeds_of_shape shape, en_of_shape shape]

/-- Alone and without STICK it wraps to 0. -/
theorem tmuInput_wraps_alone (h : (tmuAt s n).count = 0xFFFFFFFF) (hs : (tmuAt s n).stick = false) (hf : feeds s n = false) :
    tmuInput n s = wrapped n (tmuUpd n stepStarted s) := by
  have shape := tmuShape_stepStarted n s
  rw [tmuInput_wraps hn on en root stop h ?_ (by simp [sticks, hs]), hf]
  · simp
  · rw [chainHolds_alone (by rw [tmuAt_upd_self s n _ hn]; exact h) (by rw [feeds_of_shape shape]; exact hf), stick_of_shape shape]
    exact hs

/-- Alone and with STICK it holds, and sets SAT. -/
theorem tmuInput_sticks_alone (h : (tmuAt s n).count = 0xFFFFFFFF) (hs : (tmuAt s n).stick = true) (hf : feeds s n = false) :
    tmuInput n s = tmuUpd n (fun c => { stepStarted c with sat := true }) s := by
  have shape := tmuShape_stepStarted n s
  have full : (tmuAt (tmuUpd n stepStarted s) n).count = 0xFFFFFFFF := by rw [tmuAt_upd_self s n _ hn]; exact h
  rw [tmuInput_end n s on en root stop, tmuStepBy_holds full
    (by rw [chainHolds_alone full (by rw [feeds_of_shape shape]; exact hf), stick_of_shape shape]; exact hs),
    chainAbove_of_shape shape]
  simp [chainAbove, hf, tmuUpd_upd]

/-- At its largest value below a running channel that has room, it wraps, and that one counts (R38). -/
theorem tmuInput_carries (h : (tmuAt s n).count = 0xFFFFFFFF) (hf : feeds s n = true) (up : (tmuAt s (n + 1)).en = true)
    (room : (tmuAt s (n + 1)).count ≠ 0xFFFFFFFF) :
    tmuInput n s = tmuMove (n + 1) ((tmuAt s (n + 1)).count + 1) (wrapped n (tmuUpd n stepStarted s)) := by
  have shape := tmuShape_stepStarted n s
  have above : tmuAt (wrapped n (tmuUpd n stepStarted s)) (n + 1) = tmuAt s (n + 1) := by
    rw [tmuAt_wrapped_ne (by omega), tmuAt_upd_ne _ _ _ _ (by omega)]
  have open' : chainHolds (tmuUpd n stepStarted s) n = false := by
    have up : chainAbove 32 (tmuUpd n stepStarted s) n = (n + 1) :: chainAbove 31 s (n + 1) := by
      rw [chainAbove_of_shape shape, chainAbove, if_pos hf]
    have above' : tmuAt (tmuUpd n stepStarted s) (n + 1) = tmuAt s (n + 1) := tmuAt_upd_ne s n (n + 1) stepStarted (by omega)
    simp only [chainHolds, up, List.all_cons, above', beq_eq_false_iff_ne.2 room, Bool.false_and, Bool.and_false]
  rw [tmuInput_wraps hn on en root stop h open' (by simp [sticks, hf]), hf, up]
  simp only [Bool.and_self, if_true]
  rw [tmuStepBy_counts (by rw [above]; exact room), above]

end stepEnd

/-! ## The commands -/

theorem exec_tmuCountWrite (who : Agent) (n : Fin 32) (v : W32) (s : State) :
    exec (.tmuCountWrite who n v) s = .next (if tmuWritable who n s then writeTmuCount n v s else s) := rfl

theorem exec_tmuCmpWrite (who : Agent) (n : Fin 32) (v : W32) (s : State) :
    exec (.tmuCmpWrite who n v) s = .next (if tmuWritable who n s then writeTmuCmp n v s else s) := rfl

theorem exec_tmuCtrlWrite (who : Agent) (n : Fin 32) (v : W32) (s : State) :
    exec (.tmuCtrlWrite who n v) s = .next (if tmuWritable who n s then writeTmuCtrl n v s else s) := rfl

theorem exec_tmuPrescWrite (who : Agent) (n : Fin 32) (v : W32) (s : State) :
    exec (.tmuPrescWrite who n v) s = .next (if tmuWritable who n s then writeTmuPresc n v s else s) := rfl

theorem exec_tmuStagger (v : W32) (s : State) : exec (.tmuStagger v) s = .next (if portUp s then writeTmuStagger v s else s) := rfl

theorem exec_tmuCountRead (n : Fin 32) (s : State) : exec (.tmuCountRead n) s = .next (hostRead (readTmuCount n) s) := rfl

theorem exec_tbLoRead (who : TbReader) (s : State) : exec (.tbLoRead who) s = .next (tbRead false who s) := rfl

theorem exec_tbHiRead (who : TbReader) (s : State) : exec (.tbHiRead who) s = .next (tbRead true who s) := rfl

theorem exec_tmuCountStep (n : Fin 32) (f : Bool) (s : State) : exec (.tmuCountStep n f) s = .next (tmuOuter n f s) := rfl

theorem exec_tmuOverflow (n : Fin 32) (s : State) :
    exec (.tmuOverflow n) s =
      if (tmuAt s n).count = 0xFFFFFFFF then .next (tmuOuter n (tmuAt s n).falling s) else .next s := rfl

theorem exec_tmuMatch (n : Fin 32) (s : State) :
    exec (.tmuMatch n) s =
      if (tmuAt s n).fire && s.pwr.aoOn then .next (tmuFire n s)
      else if (tmuAt s n).armed && (tmuAt s n).count + 1 == (tmuAt s n).cmp then .next (tmuOuter n (tmuAt s n).falling s)
      else .next s := rfl

/-- A cycle from outside the timebase is an input cycle, for a land an edge of its direction. -/
theorem tmuOuter_counts (n : Nat) (f : Bool) (s : State) (h : (tmuAt s n).carried = false)
    (dir : (tmuAt s n).tin = true → (tmuAt s n).falling = f) : tmuOuter n f s = tmuInput n s := by
  unfold tmuOuter
  dsimp only
  rw [if_neg]
  simp only [h, Bool.false_or, Bool.and_eq_true, bne_iff_ne, ne_eq, not_and, not_not]
  exact dir

end Sys2Proof.Proofs
end

section
/-! PROOF. Accesses of the timer unit: its registers, its counts and shadows, its steps and matches, and the stagger (R35 to R43). -/

namespace Sys2Proof.Proofs

open Sys2Proof Sys2Proof.Machine Sys2Proof.Safety Sys2Proof.Laws

/-! ## CTRL and PRESC -/

/-- The host writes no channel of Gable's. -/
theorem host_not_writable (s : State) (n : Nat) (h : 28 ≤ n) : tmuWritable .host n s = false := by
  simp [tmuWritable, show ¬ n < 28 by omega]

theorem writeTmuCtrl_kept (n : Nat) (v : W32) (s : State) (h : fld v 24 4 ≤ 8) (root : fld v 24 4 = 8 → 0 < n) :
    writeTmuCtrl n v s = tmuUpd n (fun c => { c with ctrl := v &&& 0x8FFC0000 }) s := by
  unfold writeTmuCtrl
  dsimp only
  rw [if_neg]
  simp only [Bool.or_eq_true, decide_eq_true_eq, Bool.and_eq_true, beq_iff_eq, not_or, not_and]
  exact ⟨by omega, fun e => by have := root e; omega⟩

theorem writeTmuCtrl_refused (n : Nat) (v : W32) (s : State) (h : 8 < fld v 24 4 ∨ fld v 24 4 = 8 ∧ n = 0) :
    writeTmuCtrl n v s = tmuUpd n (fun c => { c with rej := true }) s := by
  unfold writeTmuCtrl
  dsimp only
  rw [if_pos]
  simpa using h

/-- The N of a PRESC write, before 0 is stored as 1. -/
theorem fld_presc_count (v : W32) : fld (v &&& 0xFFFF00FF) 16 16 = fld v 16 16 := by
  refine fld_congr _ _ _ _ fun i hi => ?_
  rw [BitVec.getLsbD_and]
  interval_cases i <;> simp

/-- The F of a PRESC write, with or without the bit that makes N = 1. -/
theorem fld_presc_fraction (v m : W32) (h : ∀ i, i < 8 → m.getLsbD i = false) : fld (v &&& 0xFFFF00FF ||| m) 0 8 = fld v 0 8 := by
  refine fld_congr _ _ _ _ fun i hi => ?_
  rw [BitVec.getLsbD_or, BitVec.getLsbD_and, Nat.zero_add, h i hi]
  interval_cases i <;> simp

/-- N = 0 is stored as 1. -/
theorem fld_presc_one (v : W32) (h : fld v 16 16 = 0) : fld (v ||| 0x00010000) 16 16 = 1 := by
  have clear : ∀ i, i < 16 → v.getLsbD (16 + i) = false := fun i hi => by
    by_contra set
    have := fld_pos_of_bit v 16 16 i hi (by simpa using set)
    omega
  rw [show (1 : Nat) = fld (0x00010000 : W32) 16 16 by decide]
  refine fld_congr _ _ _ _ fun i hi => ?_
  rw [BitVec.getLsbD_or, clear i hi, Bool.false_or]

/-- What a write of PRESC stores (R37). -/
def prescStored (v : W32) : W32 := if fld v 16 16 = 0 then v &&& 0xFFFF00FF ||| 0x00010000 else v &&& 0xFFFF00FF

theorem writeTmuPresc_eq (n : Nat) (v : W32) (s : State) :
    writeTmuPresc n v s =
      tmuUpd n (fun c => { c with presc := prescStored v, acc := 0, stepLen := fld (prescStored v) 16 16, inCnt := 0 }) s := by
  unfold writeTmuPresc prescStored
  simp only [fld_presc_count]

theorem prescStored_count (v : W32) : fld (prescStored v) 16 16 = max 1 (fld v 16 16) := by
  unfold prescStored
  split
  · next h => rw [fld_presc_one _ (by rw [fld_presc_count, h]), h]; rfl
  · rw [fld_presc_count]; omega

theorem prescStored_fraction (v : W32) : fld (prescStored v) 0 8 = fld v 0 8 := by
  unfold prescStored
  split
  · exact fld_presc_fraction v 0x00010000 fun i hi => by interval_cases i <;> rfl
  · simpa using fld_presc_fraction v 0 fun i _ => by simp

/-- Settles O5: the writers first, then what CTRL and PRESC store. -/
theorem timerControlWrites : Obligations.TimerControlWrites := by
  unfold Obligations.TimerControlWrites
  refine ⟨fun s n v h => ?_, fun s who n v w h root => ?_, fun s who n v w h => ?_, fun s who n v w => ?_⟩
  · simp [exec_tmuCountWrite, exec_tmuCmpWrite, exec_tmuCtrlWrite, exec_tmuPrescWrite, host_not_writable s n h]
  · rw [exec_tmuCtrlWrite, if_pos w, writeTmuCtrl_kept _ v s h root]
  · rw [exec_tmuCtrlWrite, if_pos w, writeTmuCtrl_refused _ v s h]
  · refine ⟨_, by rw [exec_tmuPrescWrite, if_pos w, writeTmuPresc_eq], tmuUpd_frame _ _ s, fun m hm => ?_, ?_⟩
    · exact tmuAt_upd_ne _ _ _ _ (by omega)
    · rw [tmuAt_upd_self _ _ _ n.isLt]
      exact ⟨prescStored_count v, prescStored_fraction v, rfl⟩

/-! ## Reads -/

/-- A host read while the port answers. -/
theorem hostRead_up (f : State → W32 × State) (s : State) (h : portUp s = true) : hostRead f s = setData (f s).1 (f s).2 := by
  simp [hostRead, h]

/-- The capture of the counts above the foot of a chain. -/
def captured (c : TmuCh) : TmuCh := { c with shadow := some c.count }

theorem readTmuCount_foot (n : Nat) (s : State) (h : (tmuAt s n).chained = false) :
    readTmuCount n s = ((tmuAt s n).count, (chainAbove 32 s n).foldl (fun t k => tmuUpd k captured t) s) := by
  simp [readTmuCount, h]; rfl

theorem readTmuCount_shadow (n : Nat) (s : State) (w : W32) (h : (tmuAt s n).chained = true) (hw : (tmuAt s n).shadow = some w) :
    readTmuCount n s = (w, tmuUpd n (fun c => { c with shadow := none }) s) := by
  simp [readTmuCount, h, hw]

theorem readTmuCount_live (n : Nat) (s : State) (h : (tmuAt s n).chained = true) (hw : (tmuAt s n).shadow = none) :
    readTmuCount n s = ((tmuAt s n).count, tmuUpd n (fun c => { c with torn := true }) s) := by
  simp [readTmuCount, h, hw]

/-- Captures leave every state outside the timer channels as it is. -/
theorem captures_frame (l : List Nat) (s : State) : { l.foldl (fun t k => tmuUpd k captured t) s with tmu := s.tmu } = s := by
  have keeps := foldl_keeps (fun t : State => { t with tmu := s.tmu }) (fun t k => tmuUpd k captured t) (fun _ _ => rfl) l s
  exact keeps

/-- A channel outside the list is not captured. -/
theorem captures_other (l : List Nat) (s : State) (m : Nat) (h : m ∉ l) : tmuAt (l.foldl (fun t k => tmuUpd k captured t) s) m = tmuAt s m := by
  induction l generalizing s with
  | nil => rfl
  | cons k l ih =>
    simp only [List.mem_cons, not_or] at h
    obtain ⟨hk, hl⟩ := h
    rw [List.foldl_cons, ih _ hl, tmuAt_upd_ne _ _ _ _ (Ne.symm hk)]

/-- A channel in the list is captured, however often it stands there. -/
theorem captures_self (l : List Nat) (s : State) (m : Nat) (h : m ∈ l) (hm : m < 32) :
    tmuAt (l.foldl (fun t k => tmuUpd k captured t) s) m = captured (tmuAt s m) := by
  induction l generalizing s with
  | nil => simp at h
  | cons k l ih =>
    rw [List.foldl_cons]
    by_cases hl : m ∈ l
    · rw [ih _ hl]
      by_cases hk : k = m
      · subst hk; rw [tmuAt_upd_self _ _ _ hm]; rfl
      · rw [tmuAt_upd_ne _ _ _ _ hk]
    · obtain rfl : m = k := by simpa [hl] using h
      rw [captures_other _ _ _ hl, tmuAt_upd_self _ _ _ hm]

/-- What a port holds after its engine's access. -/
def portAfter (high : Bool) (k : Fin 8) (s : State) : TbPort :=
  if high then { shadow := none, data := s.tb.ports[k].shadow.getD (tbHi s) } else { shadow := some (tbHi s), data := tbLo s }

/-- A port's access of the timebase replaces its own port alone. -/
theorem tbRead_port (high : Bool) (who : TbReader) (k : Fin 8) (s : State) (on : s.pwr.aoOn = true) (h : tbPortNo who = some k) :
    tbRead high who s = { s with tb := { s.tb with ports := s.tb.ports.set k.val (portAfter high k s) k.isLt } } := by
  simp [tbRead, portRead, h, on, portAfter]

/-- The SPI port is none of the engines'. -/
theorem tbRead_spi (high : Bool) (s : State) : tbRead high .spi s = hostRead (if high then readTbHi else readTbLo) s := rfl

/-- Settles O4: the timebase at the SPI port, at the ports of the engines, and the counts with their chains. -/
theorem timebaseAndTimerReads : Obligations.TimebaseAndTimerReads := by
  unfold Obligations.TimebaseAndTimerReads
  have other (s : State) (k j : Fin 8) (q : TbPort) (hj : j ≠ k) : (s.tb.ports.set k.val q k.isLt)[j] = s.tb.ports[j] := by
    simp [Fin.getElem_fin, Fin.val_ne_of_ne hj.symm]
  refine ⟨fun s up => ?_, fun s w up h => ?_, fun s up h => ?_, fun s who k on h => ⟨?_, ?_⟩, fun s n up root alone => ?_,
    fun s n up root feed => ?_, fun s n w up ch h => ?_, fun s n up ch h => ?_⟩
  · rw [exec_tbLoRead, tbRead_spi, hostRead_up _ _ up]; rfl
  · rw [exec_tbHiRead, tbRead_spi, hostRead_up _ _ up]; simp [readTbHi, h, setData]
  · rw [exec_tbHiRead, tbRead_spi, hostRead_up _ _ up]; simp [readTbHi, h, setData, tbHi]
  · rw [exec_tbLoRead, tbRead_port _ _ k s on h]
    exact ⟨_, rfl, rfl, Vector.getElem_set_self k.isLt, fun j hj => other s k j _ hj⟩
  · rw [exec_tbHiRead, tbRead_port _ _ k s on h]
    exact ⟨_, rfl, rfl, Vector.getElem_set_self k.isLt, fun j hj => other s k j _ hj⟩
  · rw [exec_tmuCountRead, hostRead_up _ _ up, readTmuCount_foot _ s root]
    simp [chainAbove, alone, setData]
  · rw [exec_tmuCountRead, hostRead_up _ _ up, readTmuCount_foot _ s root]
    refine ⟨_, rfl, rfl, ?_, fun m hm => captures_self _ s m hm (mem_chainAbove hm).2.1, fun m hm => captures_other _ s m hm⟩
    exact congrArg (fun t : State => { t with host := { t.host with data := s.host.data } }) (captures_frame (chainAbove 32 s n) s)
  · rw [exec_tmuCountRead, hostRead_up _ _ up, readTmuCount_shadow _ s w ch h]
  · rw [exec_tmuCountRead, hostRead_up _ _ up, readTmuCount_live _ s ch h]

/-! ## Compare values -/

/-- Is a compare value ahead of the count (R40)? -/
def judgedAhead (stk : Bool) (v cnt : W32) : Bool :=
  1 ≤ (v - cnt).toNat && (v - cnt).toNat < 2 ^ 31 && !(stk && decide (v.toNat < cnt.toNat))

theorem judgedAhead_iff (stk : Bool) (v cnt : W32) :
    judgedAhead stk v cnt = true ↔
      1 ≤ (v - cnt).toNat ∧ (v - cnt).toNat < 2 ^ 31 ∧ ¬ (stk = true ∧ v.toNat < cnt.toNat) := by
  simp only [judgedAhead, Bool.and_eq_true, decide_eq_true_eq, Bool.not_eq_true', Bool.and_eq_false_imp, decide_eq_false_iff_not,
    and_assoc, not_and]

/-- The judgement as a change of one channel. -/
theorem tmuJudge_eq (n : Nat) (v cnt : W32) (s : State) :
    tmuJudge n v cnt s =
      tmuUpd n (fun c => { c with
        armed := judgedAhead (sticks s n) v cnt || ((tmuAt s n).ctrl.getLsbD 21 && !sticks s n)
        fire := !judgedAhead (sticks s n) v cnt && !((tmuAt s n).ctrl.getLsbD 21 && !sticks s n)
        late := c.late || !judgedAhead (sticks s n) v cnt }) s := rfl

/-- A compare write, judged. -/
theorem writeTmuCmp_eq (n : Nat) (v : W32) (s : State) :
    writeTmuCmp n v s =
      tmuUpd n (fun c => { c with
        cmp := v
        armed := judgedAhead (sticks s n) v (tmuAt s n).count || ((tmuAt s n).ctrl.getLsbD 21 && !sticks s n)
        fire := !judgedAhead (sticks s n) v (tmuAt s n).count && !((tmuAt s n).ctrl.getLsbD 21 && !sticks s n)
        late := c.late || !judgedAhead (sticks s n) v (tmuAt s n).count }) s := by
  have shape : tmuShape (tmuUpd n (fun x => { x with cmp := v }) s) = tmuShape s := tmuShape_upd n _ s fun _ => ⟨rfl, rfl⟩
  rw [writeTmuCmp, tmuJudge_eq, tmuUpd_upd, sticks_of_shape shape, ctrl_of_shape shape]

/-- Settles O6: the three verdicts of a compare write, and a COUNT write on a disarmed and on an armed channel. -/
theorem timerCompareAndCountWrites : Obligations.TimerCompareAndCountWrites := by
  unfold Obligations.TimerCompareAndCountWrites
  refine ⟨fun s who n v w => ?_, fun s who n v w h => ?_, fun s who n v w h => ?_⟩
  · refine ⟨_, by rw [exec_tmuCmpWrite, if_pos w, writeTmuCmp_eq _ v s], tmuUpd_frame _ _ s, fun m hm => ?_, ?_⟩
    · exact tmuAt_upd_ne _ _ _ _ (by omega)
    · intro d ahead wrap
      have verdict : judgedAhead (sticks s n) v (tmuAt s n).count = true ↔ ahead := judgedAhead_iff _ _ _
      have policy : ((tmuAt s n).ctrl.getLsbD 21 && !sticks s n) = true ↔ wrap := by
        rw [Bool.and_eq_true, Bool.not_eq_true']
      rw [tmuAt_upd_self _ _ _ n.isLt]
      refine ⟨fun a => ?_, fun a p => ?_, fun a p => ?_⟩
      · simp [verdict.2 a]
      · simp only [Bool.eq_false_iff.2 (mt verdict.1 a), policy.2 p]; simp
      · simp only [Bool.eq_false_iff.2 (mt verdict.1 a), Bool.eq_false_iff.2 (mt policy.1 p)]; simp
  · rw [exec_tmuCountWrite, if_pos w]; simp [writeTmuCount, h]
  · rw [exec_tmuCountWrite, if_pos w]; simp [writeTmuCount, h]

/-! ## Matches -/

theorem exec_tmuMatch_late (n : Fin 32) (s : State) (on : s.pwr.aoOn = true) (h : (tmuAt s n).fire = true) :
    exec (.tmuMatch n) s = .next (tmuFire n s) := by simp [exec_tmuMatch, on, h]

/-- The input cycle that takes an armed counter to its compare value. -/
theorem exec_tmuMatch_step (n : Fin 32) (s : State) (carried : (tmuAt s n).carried = false) (late : (tmuAt s n).fire = false)
    (armed : (tmuAt s n).armed = true) (h : (tmuAt s n).cmp = (tmuAt s n).count + 1) :
    exec (.tmuMatch n) s = .next (tmuInput n s) := by
  rw [exec_tmuMatch, late, armed, h, tmuOuter_counts _ _ s carried (fun _ => rfl)]
  simp

/-- What an input cycle leaves that takes a counter onto its armed compare value. -/
theorem tmuInput_onto {n : Nat} {s : State} (hn : n < 32) (on : s.pwr.aoOn = true) (en : (tmuAt s n).en = true)
    (root : (tmuAt s n).chained = false) (stop : (tmuAt s n).stepLen ≤ (tmuAt s n).inCnt + 1)
    (full : (tmuAt s n).count ≠ 0xFFFFFFFF) (armed : (tmuAt s n).armed = true) (h : (tmuAt s n).cmp = (tmuAt s n).count + 1) :
    tmuInput n s = tmuFire n (tmuUpd n (fun c => { stepStarted c with count := (tmuAt s n).cmp }) s) := by
  have self : tmuAt (tmuUpd n stepStarted s) n = stepStarted (tmuAt s n) := tmuAt_upd_self s n _ hn
  rw [tmuInput_counts hn on en root stop full, tmuMove_onto _ _ _ (by rw [self]; exact armed) (by rw [self]; exact h), tmuUpd_upd, h]

/-- Settles O8: late matches first, then the one of an input cycle. -/
theorem timerMatchFires : Obligations.TimerMatchFires := by
  unfold Obligations.TimerMatchFires
  refine ⟨fun s n on late ie once => ?_, fun s n on late ie adv nz => ?_, fun s n on late ie => ?_,
    fun s n on en root carried stop late armed onto full => ?_⟩
  · rw [exec_tmuMatch_late n s on late, tmuFire_quiet _ s ie]
    exact congrArg _ (tmuUpd_congr (fired_once _ once))
  · rw [exec_tmuMatch_late n s on late, tmuFire_quiet _ s ie]
    exact congrArg _ (tmuUpd_congr (fired_again _ adv nz))
  · rw [exec_tmuMatch_late n s on late, tmuFire_loud _ s ie]
    refine ⟨_, rfl, rfl, ?_⟩
    rw [tmuAt_irqSet, tmuAt_upd_self _ _ _ n.isLt]; rfl
  · rw [exec_tmuMatch_step n s carried late armed onto, tmuInput_onto n.isLt on en root stop full armed onto]
    generalize hu : tmuUpd n (fun c => { stepStarted c with count := (tmuAt s n).cmp }) s = u
    have self : tmuAt u n = { stepStarted (tmuAt s n) with count := (tmuAt s n).cmp } := by
      rw [← hu, tmuAt_upd_self _ _ _ n.isLt]
    have out : outsideTimers u = outsideTimers s := by rw [← hu]; simp
    have irq : u.host.irq = s.host.irq := by rw [← hu]; rfl
    refine ⟨_, rfl, eq_of_outsideTimers (by simp [out]), fun m hm => ?_, ?_⟩
    · rw [tmuAt_fire_ne _ _ _ (by omega), ← hu, tmuAt_upd_ne _ _ _ _ (by omega)]
    · rw [tmuAt_fire_self _ _ n.isLt, self]
      refine ⟨rfl, rfl, rfl, fun ie => ?_, fun ie => ?_, fun adv => ?_, fun once => ?_⟩
      · rw [tmuFire_loud _ _ (by rw [self]; exact ie), ← irq]; rfl
      · rw [tmuFire_quiet _ _ (by rw [self]; exact ie), ← irq]; rfl
      · rw [fired_again _ (by exact adv.1) (by exact adv.2)]; exact ⟨rfl, rfl⟩
      · rw [fired_once _ (by exact once)]; exact ⟨rfl, rfl⟩

end Sys2Proof.Proofs
end

section
/-! PROOF. The steps of a timer channel and of a chain of them, and the stagger of a group (R37 to R39, R43). -/

namespace Sys2Proof.Proofs

open Sys2Proof Sys2Proof.Machine Sys2Proof.Safety Sys2Proof.Laws

/-! ## Steps -/

/-- A land's edge in the other direction is no input cycle (Table 2.11). -/
theorem tmuOuter_other_edge (n : Nat) (f : Bool) (s : State) (h : (tmuAt s n).tin = true) (hf : (tmuAt s n).falling ≠ f) :
    tmuOuter n f s = s := by simp [tmuOuter, h, hf]

/-- An overflow is the input cycle of a full counter. -/
theorem exec_tmuOverflow_full (n : Fin 32) (s : State) (h : (tmuAt s n).count = 0xFFFFFFFF) (carried : (tmuAt s n).carried = false) :
    exec (.tmuOverflow n) s = .next (tmuInput n s) := by
  rw [exec_tmuOverflow, if_pos h, tmuOuter_counts _ _ s carried fun _ => rfl]

/-- The accumulator at the start of a prescaler step. -/
theorem stepStarted_acc (c : TmuCh) : (stepStarted c).acc = BitVec.ofNat 8 (c.acc.toNat + fld c.presc 0 8) := by
  simp [stepStarted, BitVec.ofNat_add]

/-- The length of the step that starts (R37). -/
theorem stepStarted_stepLen (c : TmuCh) :
    (stepStarted c).stepLen = fld c.presc 16 16 + ((c.acc.toNat + fld c.presc 0 8) % 256 + fld c.presc 0 8) / 256 := by
  simp [stepStarted, prescLen]

/-- The start of a step changes neither the counts nor OVF and SAT. -/
theorem tmuAt_stepStarted (n m : Nat) (s : State) (hn : n < 32) :
    (tmuAt (tmuUpd n stepStarted s) m).count = (tmuAt s m).count ∧ (tmuAt (tmuUpd n stepStarted s) m).ovf = (tmuAt s m).ovf ∧
      (tmuAt (tmuUpd n stepStarted s) m).sat = (tmuAt s m).sat := by
  by_cases h : n = m
  · subst h; rw [tmuAt_upd_self _ _ _ hn]; exact ⟨rfl, rfl, rfl⟩
  · rw [tmuAt_upd_ne _ _ _ _ h]; exact ⟨rfl, rfl, rfl⟩

/-- A chain that is full under STICK of its top takes an input cycle of its foot with SAT of its top alone (R39). -/
theorem tmuInput_holds_chain {n top : Nat} {s : State} (hn : n < 32) (on : s.pwr.aoOn = true) (en : (tmuAt s n).en = true)
    (root : (tmuAt s n).chained = false) (stop : (tmuAt s n).stepLen ≤ (tmuAt s n).inCnt + 1)
    (full : ∀ m ∈ n :: chainAbove 32 s n, (tmuAt s m).count = 0xFFFFFFFF) (ht : (chainAbove 32 s n).getLast? = some top)
    (stick : (tmuAt s top).stick = true) :
    tmuInput n s = tmuUpd top (fun x => { x with sat := true }) (tmuUpd n stepStarted s) := by
  have shape := tmuShape_stepStarted n s
  have above := chainAbove_of_shape shape 32 n
  have last : (chainAbove 32 s n).getLastD n = top := by simp [List.getLastD_eq_getLast?, ht]
  have count (m : Nat) := (tmuAt_stepStarted n m s hn).1
  have holds : chainHolds (tmuUpd n stepStarted s) n = true := by
    simp only [chainHolds, above, last, stick_of_shape shape, stick, Bool.true_and, List.all_eq_true, beq_iff_eq]
    exact fun m hm => (count m).trans (full m hm)
  rw [tmuInput_end n s on en root stop, tmuStepBy_holds ((count n).trans (full n (by simp))) holds, above, last]

/-- Settles O7: the prescaler, the step of one channel, its two ends, and those of a chain. -/
theorem timerSteps : Obligations.TimerSteps := by
  unfold Obligations.TimerSteps
  refine ⟨fun s n f tin dir => ?_, fun s n f on en root carried dir within => ?_, fun s n f on en root carried dir stop room away => ?_,
    fun s n on en root carried stop full wrap alone => ?_, fun s n on en root carried stop full stick alone => ?_,
    fun s n hn on en root carried stop full chain up room _ => ?_, fun s n top on en root carried stop _ full last stick => ?_⟩
  · rw [exec_tmuCountStep, tmuOuter_other_edge _ f s tin dir]
  · rw [exec_tmuCountStep, tmuOuter_counts _ f s carried dir, tmuInput_within _ s on en root within]
  · have self : tmuAt (tmuUpd n stepStarted s) n = stepStarted (tmuAt s n) := tmuAt_upd_self s n _ n.isLt
    rw [exec_tmuCountStep, tmuOuter_counts _ f s carried dir, tmuInput_counts n.isLt on en root stop room,
      tmuMove_away _ _ _ (by rw [self]; exact away), tmuUpd_upd]
    refine ⟨_, rfl, tmuUpd_frame _ _ s, fun m hm => tmuAt_upd_ne _ _ _ _ (by omega), ?_⟩
    rw [tmuAt_upd_self _ _ _ n.isLt, ← stepStarted_acc, ← stepStarted_stepLen]
    rfl
  · rw [exec_tmuOverflow_full n s full carried, tmuInput_wraps_alone n.isLt on en root stop full wrap alone]
    have out : outsideTimers (wrapped n (tmuUpd n stepStarted s)) = outsideTimers s := by simp
    refine ⟨_, rfl, ?_, fun m hm => ?_, ?_, ?_, fun ie => wrapped_irq ?_⟩
    · exact congrArg (fun t : State => { t with host := s.host }) (eq_of_outsideTimers out)
    · rw [tmuAt_wrapped_ne (by omega), tmuAt_upd_ne _ _ _ _ (by omega)]
    · rw [tmuAt_wrapped_self n.isLt, moved_count]
    · rw [tmuAt_wrapped_self n.isLt, moved_ovf]
    · rw [tmuAt_upd_self _ _ _ n.isLt]; exact ie
  · rw [exec_tmuOverflow_full n s full carried, tmuInput_sticks_alone n.isLt on en root stop full stick alone]
    refine ⟨_, rfl, tmuUpd_frame _ _ s, ?_⟩
    rw [tmuAt_upd_self _ _ _ n.isLt]
    exact ⟨full, rfl⟩
  · have feed : feeds s n = true := (feeds_iff s n).2 ⟨by omega, chain⟩
    have self : (Fin.ofNat 32 n).val = n := Nat.mod_eq_of_lt (by omega)
    rw [exec_tmuOverflow_full _ s (by rw [self]; exact full) (by rw [self]; exact carried), self,
      tmuInput_carries (by omega) on en root stop full feed up room]
    refine ⟨_, rfl, ?_, ?_, ?_⟩
    · rw [tmuAt_move_ne _ _ _ _ (by omega), tmuAt_wrapped_self (by omega), moved_count]
    · rw [tmuAt_move_ne _ _ _ _ (by omega), tmuAt_wrapped_self (by omega), moved_ovf]
    · rw [tmuAt_move_self _ _ _ hn, moved_count]
  · rw [exec_tmuOverflow_full n s (full n (by simp)) carried,
      tmuInput_holds_chain n.isLt on en root stop full last stick]
    have member : top ∈ chainAbove 32 s n := List.mem_of_getLast? last
    have self (t : State) := tmuAt_upd_self t top (fun x => { x with sat := true }) (mem_chainAbove member).2.1
    refine ⟨_, rfl, rfl, by rw [self], fun m hm => ?_⟩
    obtain ⟨count, ovf, sat⟩ := tmuAt_stepStarted n m s n.isLt
    by_cases h : top = m
    · subst h
      rw [self]
      exact ⟨count.trans (full top hm), ovf, fun ne => absurd rfl ne⟩
    · rw [tmuAt_upd_ne _ _ _ _ h]
      exact ⟨count.trans (full m hm), ovf, fun _ => sat⟩

/-! ## The stagger -/

/-- What a started group makes of its channel `k` (R43). -/
def staggered (base : TmuCh) (per lead : W32) (n k : Nat) (c : TmuCh) : Prop :=
  c.count = base.count ∧ c.cmp = base.count + lead + BitVec.ofNat 32 (k * per.toNat / n) ∧ c.adv = per ∧ c.presc = base.presc ∧
    c.src = base.src ∧ c.en = true ∧ c.ctrl.getLsbD 20 = true

theorem staggerCtrl_en (own base : W32) : (staggerCtrl own base).getLsbD 31 = true := by simp [staggerCtrl, setBit]

theorem staggerCtrl_advEn (own base : W32) : (staggerCtrl own base).getLsbD 20 = true := by simp [staggerCtrl, setBit]

theorem staggerOne_frame (first n k : Nat) (base : TmuCh) (per lead : W32) (s : State) :
    { staggerOne first n k base per lead s with tmu := s.tmu } = s := rfl

theorem tmuAt_staggerOne_ne (first n k m : Nat) (base : TmuCh) (per lead : W32) (s : State) (h : first + k ≠ m) :
    tmuAt (staggerOne first n k base per lead s) m = tmuAt s m := by
  unfold staggerOne
  dsimp only
  rw [tmuJudge_eq, tmuAt_upd_ne _ _ _ _ h, tmuAt_upd_ne _ _ _ _ h]

theorem tmuAt_staggerOne_self (first n k : Nat) (base : TmuCh) (per lead : W32) (s : State) (h : first + k < 32) :
    staggered base per lead n k (tmuAt (staggerOne first n k base per lead s) (first + k)) := by
  unfold staggerOne
  dsimp only
  rw [tmuJudge_eq, tmuAt_upd_self _ _ _ h, tmuAt_upd_self _ _ _ h]
  exact ⟨rfl, rfl, rfl, rfl, fld_staggerCtrl _ _, staggerCtrl_en _ _, staggerCtrl_advEn _ _⟩

/-- The first `j` channels of a group: they are started, and nothing else is changed. -/
theorem staggerFold (first n : Nat) (base : TmuCh) (per lead : W32) (s : State) (j : Nat) (h : first + j ≤ 32) :
    let t := (List.range j).foldl (fun t k => staggerOne first n k base per lead t) s
    { t with tmu := s.tmu } = s ∧ (∀ k, k < j → staggered base per lead n k (tmuAt t (first + k))) ∧
      ∀ m, m < first ∨ first + j ≤ m → tmuAt t m = tmuAt s m := by
  induction j with
  | zero => exact ⟨rfl, fun k hk => absurd hk (Nat.not_lt_zero k), fun _ _ => rfl⟩
  | succ j ih =>
    obtain ⟨frame, done, others⟩ := ih (by omega)
    rw [List.range_succ, List.foldl_append, List.foldl_cons, List.foldl_nil]
    refine ⟨frame, fun k hk => ?_, fun m hm => ?_⟩
    · rcases Nat.lt_succ_iff_lt_or_eq.1 hk with lt | rfl
      · rw [tmuAt_staggerOne_ne _ _ _ _ _ _ _ _ (by omega)]; exact done k lt
      · exact tmuAt_staggerOne_self _ _ _ _ _ _ _ (by omega)
    · rw [tmuAt_staggerOne_ne _ _ _ _ _ _ _ _ (by omega)]; exact others m (by omega)

theorem writeTmuStagger_refused (v : W32) (s : State) (go : v.getLsbD 31 = true)
    (h : 28 < fld v 8 5 + (fld v 0 5 + 1) ∨ s.tmu.per.toNat < fld v 0 5 + 1) :
    writeTmuStagger v s = tmuUpd (fld v 8 5) (fun c => { c with rej := true }) s := by
  unfold writeTmuStagger
  dsimp only
  rw [if_neg (by rw [go]; decide), if_pos]
  simp only [Bool.or_eq_true, decide_eq_true_eq]
  omega

theorem writeTmuStagger_started (v : W32) (s : State) (go : v.getLsbD 31 = true) (h : fld v 8 5 + (fld v 0 5 + 1) ≤ 28)
    (hp : fld v 0 5 + 1 ≤ s.tmu.per.toNat) :
    writeTmuStagger v s = (List.range (fld v 0 5 + 1)).foldl
      (fun t k => staggerOne (fld v 8 5) (fld v 0 5 + 1) k (tmuAt s (fld v 8 5)) s.tmu.per s.tmu.lead t) s := by
  unfold writeTmuStagger
  dsimp only
  rw [if_neg (by rw [go]; decide), if_neg]
  simp only [Bool.or_eq_true, decide_eq_true_eq]
  omega

/-- Settles O9: channel by channel, by induction on the size of the group. -/
theorem timerStagger : Obligations.TimerStagger := by
  unfold Obligations.TimerStagger
  refine ⟨fun s v first n up go hf hn fits hp => ?_, fun s v up go h => ?_⟩
  · subst hf hn
    rw [exec_tmuStagger, if_pos up, writeTmuStagger_started v s go fits hp]
    exact ⟨_, rfl, staggerFold _ _ _ _ _ s _ (by omega)⟩
  · rw [exec_tmuStagger, if_pos up, writeTmuStagger_refused v s go h]

end Sys2Proof.Proofs
end

section
/-! PROOF. An idle clock: the timebase, and every channel of the timer unit by itself (R34, R37 to R42; log entry 1). -/

namespace Sys2Proof.Proofs

open Sys2Proof Sys2Proof.Machine Sys2Proof.Safety Sys2Proof.Laws

/-! ## The turn of one channel -/

/-- The turn of channel `n` in a clock of the timer unit: a late match, then a cycle of its source. -/
def clockOne (b : Bool) (t : State) (n : Nat) : State :=
  let u := if (tmuAt t n).fire then tmuFire n t else t
  if (tmuAt u n).en && srcTicks b u.tb.count.toNat (tmuAt u n) then tmuInput n u else u

/-- A clock of the timer unit is a turn of every channel, also where none of them has anything to do. -/
theorem tmuClock_eq (b : Bool) (s : State) : tmuClock b s = (List.range 32).foldl (clockOne b) s := by
  unfold tmuClock
  split
  · next idle =>
    have still (n : Nat) (hn : n < 32) : clockOne b s n = s := by
      have h := List.all_eq_true.1 idle (tmuAt s n) (by simp [tmuAt, vget, hn])
      simp only [Bool.and_eq_true, Bool.not_eq_true'] at h
      obtain ⟨en, fire⟩ := h
      simp [clockOne, en, fire]
    have fold (l : List Nat) (hl : ∀ n ∈ l, n < 32) : l.foldl (clockOne b) s = s := by
      induction l with
      | nil => rfl
      | cons n l ih => rw [List.foldl_cons, still n (hl n (by simp)), ih fun m hm => hl m (by simp [hm])]
    exact (fold _ fun n hn => by simpa using hn).symm
  · rfl

/-- A chained channel takes no cycle of its own. -/
theorem srcTicks_chained (b : Bool) (count : Nat) (c : TmuCh) (h : c.chained = true) : srcTicks b count c = false := by
  have src : c.src = 8 := by simpa [TmuCh.chained] using h
  simp [srcTicks, src]

/-- So a channel that takes one is not chained. -/
theorem unchained_of_srcTicks {b : Bool} {count : Nat} {c : TmuCh} (h : srcTicks b count c = true) : c.chained = false := by
  cases hc : c.chained with
  | false => rfl
  | true => rw [srcTicks_chained b count c hc] at h; cases h

section turn
variable {b : Bool} {t : State} {n : Nat}

/-- Without a late match and a cycle the turn changes nothing. -/
theorem clockOne_idle (fire : (tmuAt t n).fire = false) (h : (tmuAt t n).en = false ∨ srcTicks b t.tb.count.toNat (tmuAt t n) = false) :
    clockOne b t n = t := by
  rcases h with h | h <;> simp [clockOne, fire, h]

/-- The turn of a running channel with a cycle and without a late match is its input cycle. -/
theorem clockOne_cycle (fire : (tmuAt t n).fire = false) (en : (tmuAt t n).en = true)
    (h : srcTicks b t.tb.count.toNat (tmuAt t n) = true) : clockOne b t n = tmuInput n t := by simp [clockOne, fire, en, h]

/-- The turn of a stopped channel with a late match is the match. -/
theorem clockOne_late (hn : n < 32) (fire : (tmuAt t n).fire = true) (en : (tmuAt t n).en = false) : clockOne b t n = tmuFire n t := by
  have off : (tmuAt (tmuFire n t) n).en = false := by rw [tmuAt_fire_self n t hn]; exact en
  simp [clockOne, fire, off]

@[simp] theorem tmuShape_clockOne : tmuShape (clockOne b t n) = tmuShape t := by
  unfold clockOne; dsimp only; (repeat' split) <;> simp

@[simp] theorem outside_clockOne : outsideTimers (clockOne b t n) = outsideTimers t := by
  unfold clockOne; dsimp only; (repeat' split) <;> simp

theorem clockOne_irq_keeps (h : t.host.irq.getLsbD 3 = true) : (clockOne b t n).host.irq.getLsbD 3 = true := by
  unfold clockOne
  dsimp only
  (repeat' split)
  · exact tmuInput_irq_keeps _ _ (tmuFire_irq_keeps _ _ h)
  · exact tmuFire_irq_keeps _ _ h
  · exact tmuInput_irq_keeps _ _ h
  · exact h

/-- A turn changes no channel that its own does not reach. -/
theorem clockOne_unreached {j : Nat} (h : ¬ reaches t n j) : tmuAt (clockOne b t n) j = tmuAt t j := by
  have hn : n ≠ j := by rintro rfl; exact h ⟨Nat.le_refl n, fun i a b => by omega⟩
  have fire : tmuAt (tmuFire n t) j = tmuAt t j := tmuAt_fire_ne _ _ _ hn
  have shape : tmuShape (tmuFire n t) = tmuShape t := by simp
  unfold clockOne
  dsimp only
  (repeat' split)
  · rw [tmuInput_unreached _ _ _ (by rwa [reaches_of_shape shape]), fire]
  · exact fire
  · exact tmuInput_unreached _ _ _ h
  · rfl

end turn

/-! ## The turns of the other channels -/

/-- Turns of any channels keep the shape, what lies outside the timer unit, and the interrupt. -/
theorem turns_keep (b : Bool) (l : List Nat) (s : State) :
    tmuShape (l.foldl (clockOne b) s) = tmuShape s ∧ outsideTimers (l.foldl (clockOne b) s) = outsideTimers s ∧
      (s.host.irq.getLsbD 3 = true → (l.foldl (clockOne b) s).host.irq.getLsbD 3 = true) := by
  refine ⟨foldl_keeps tmuShape (clockOne b) (fun t n => tmuShape_clockOne) l s,
    foldl_keeps outsideTimers (clockOne b) (fun t n => outside_clockOne) l s, ?_⟩
  induction l generalizing s with
  | nil => exact id
  | cons n l ih => exact fun h => ih _ (clockOne_irq_keeps h)

/-- Turns of channels that do not reach a channel leave it. -/
theorem turns_unreached (b : Bool) (l : List Nat) (s : State) (j : Nat) (h : ∀ m ∈ l, ¬ reaches s m j) :
    tmuAt (l.foldl (clockOne b) s) j = tmuAt s j := by
  induction l generalizing s with
  | nil => rfl
  | cons n l ih =>
    rw [List.foldl_cons, ih, clockOne_unreached (h n (by simp))]
    intro m hm
    rw [reaches_of_shape tmuShape_clockOne]
    exact h m (by simp [hm])

/-- The turn of an unchained channel in a clock: it finds its channel and those above as they stand before the clock, and what it
makes of the channel, of a chained one next to it and of the interrupt stands after it. -/
structure TurnAt (b : Bool) (s : State) (n : Nat) (u : State) : Prop where
  found : ∀ k, n ≤ k → tmuAt u k = tmuAt s k
  shape : tmuShape u = tmuShape s
  outside : outsideTimers u = outsideTimers s
  left : tmuAt (tmuClock b s) n = tmuAt (clockOne b u n) n
  next : (tmuAt s (n + 1)).chained = true → n + 1 < 32 → (tmuAt (clockOne b u n) (n + 1)).fire = false →
    tmuAt (tmuClock b s) (n + 1) = tmuAt (clockOne b u n) (n + 1)
  irq : (clockOne b u n).host.irq.getLsbD 3 = true → (tmuClock b s).host.irq.getLsbD 3 = true

/-- What lies outside the timer unit, by parts. -/
theorem parts_of_outside {s t : State} (h : outsideTimers t = outsideTimers s) : t.tb = s.tb ∧ t.pwr = s.pwr ∧ t.bk = s.bk := by
  have tb := congrArg State.tb h
  have pwr := congrArg State.pwr h
  have bk := congrArg State.bk h
  exact ⟨tb, pwr, bk⟩

/-- Every unchained channel has its turn. -/
theorem turnAt (b : Bool) (s : State) (n : Nat) (hn : n < 32) (root : (tmuAt s n).chained = false) : ∃ u, TurnAt b s n u := by
  have split32 : List.range 32 = List.range n ++ n :: List.range' (n + 1) (31 - n) := by
    have join : List.range' 0 n ++ List.range' (0 + n) (31 - n + 1) = List.range' 0 (n + (31 - n + 1)) := List.range'_append_1
    rw [Nat.zero_add, show n + (31 - n + 1) = 32 by omega] at join
    rw [List.range_eq_range', List.range_eq_range', ← List.range'_succ, join]
  have clock : tmuClock b s =
      (List.range' (n + 1) (31 - n)).foldl (clockOne b) (clockOne b ((List.range n).foldl (clockOne b) s) n) := by
    rw [tmuClock_eq, split32, List.foldl_append, List.foldl_cons]
  obtain ⟨shape, out, -⟩ := turns_keep b (List.range n) s
  refine ⟨(List.range n).foldl (clockOne b) s, fun k hk => ?_, shape, out, ?_, fun chain top late => ?_, fun h => ?_⟩
  · exact turns_unreached b _ s k fun m hm => not_reaches_past root (List.mem_range.1 hm) hk
  · rw [clock]
    refine turns_unreached b _ _ n fun m hm r => ?_
    have := (List.mem_range'_1.1 hm).1
    have := r.1
    omega
  · have shape' : tmuShape (clockOne b ((List.range n).foldl (clockOne b) s) n) = tmuShape s := tmuShape_clockOne.trans shape
    generalize clockOne b ((List.range n).foldl (clockOne b) s) n = v at clock late shape' ⊢
    have idle : clockOne b v (n + 1) = v :=
      clockOne_idle late (.inr (srcTicks_chained _ _ _ (by rw [chained_of_shape shape']; exact chain)))
    rw [clock, show 31 - n = 30 - n + 1 by omega, List.range'_succ, List.foldl_cons, idle]
    refine turns_unreached b _ v _ fun m hm r => ?_
    have := (List.mem_range'_1.1 hm).1
    have := r.1
    omega
  · rw [clock]; exact (turns_keep b _ _).2.2 h

/-! ## What a clock makes of a channel -/

/-- Has the source of a channel a cycle in this clock (Table 2.11)? -/
def cycleNow (b : Bool) (s : State) (n : Nat) : Bool := srcTicks b s.tb.count.toNat (tmuAt s n)

section clock
variable {b : Bool} {s : State} {n : Nat} (hn : n < 32)

include hn in
/-- An unchained channel without a late match that is stopped or has no cycle keeps all it holds. -/
theorem tmuClock_idle (root : (tmuAt s n).chained = false) (fire : (tmuAt s n).fire = false)
    (h : (tmuAt s n).en = false ∨ cycleNow b s n = false) : tmuAt (tmuClock b s) n = tmuAt s n := by
  obtain ⟨u, found, -, out, left, -, -⟩ := turnAt b s n hn root
  have self := found n (Nat.le_refl n)
  have tb := (parts_of_outside out).1
  rw [left, clockOne_idle (by rw [self]; exact fire) (by rw [self, tb]; exact h), self]

include hn in
/-- The late match of a stopped channel. -/
theorem tmuClock_late (root : (tmuAt s n).chained = false) (fire : (tmuAt s n).fire = true) (en : (tmuAt s n).en = false) :
    tmuAt (tmuClock b s) n = fired (tmuAt s n) ∧
      ((tmuAt s n).ctrl.getLsbD 18 = true → (tmuClock b s).host.irq.getLsbD 3 = true) := by
  obtain ⟨u, found, -, -, left, -, irq⟩ := turnAt b s n hn root
  have self := found n (Nat.le_refl n)
  have turn : clockOne b u n = tmuFire n u := clockOne_late hn (by rw [self]; exact fire) (by rw [self]; exact en)
  refine ⟨by rw [left, turn, tmuAt_fire_self n u hn, self], fun ie => irq ?_⟩
  rw [turn, tmuFire_loud _ _ (by rw [self]; exact ie)]
  exact irqSet_bit _

variable (on : s.pwr.aoOn = true) (cycle : cycleNow b s n = true) (en : (tmuAt s n).en = true) (fire : (tmuAt s n).fire = false)
include hn on cycle en fire

/-- A running channel with a cycle and without a late match has its input cycle, in a state that agrees with the one before the clock on
it, on the channels above and outside the timer unit. -/
theorem tmuClock_input : ∃ u, TurnAt b s n u ∧ clockOne b u n = tmuInput n u ∧ u.pwr.aoOn = true ∧ tmuAt u n = tmuAt s n ∧
    (tmuAt u n).chained = false ∧ (tmuAt u n).en = true := by
  have root : (tmuAt s n).chained = false := unchained_of_srcTicks cycle
  obtain ⟨u, turn⟩ := turnAt b s n hn root
  have self := turn.found n (Nat.le_refl n)
  obtain ⟨tb, pwr, -⟩ := parts_of_outside turn.outside
  exact ⟨u, turn, clockOne_cycle (by rw [self]; exact fire) (by rw [self]; exact en) (by rw [self, tb]; exact cycle),
    by rw [pwr]; exact on, self, by rw [self]; exact root, by rw [self]; exact en⟩

/-- Within the prescaler's step the cycle is counted. -/
theorem tmuClock_within (within : (tmuAt s n).inCnt + 1 < (tmuAt s n).stepLen) :
    tmuAt (tmuClock b s) n = { tmuAt s n with inCnt := (tmuAt s n).inCnt + 1 } := by
  obtain ⟨u, turn, input, on, self, root, en⟩ := tmuClock_input hn on cycle en fire
  rw [turn.left, input, tmuInput_within n u on en root (by rw [self]; exact within), tmuAt_upd_self _ _ _ hn, self]

variable (stop : (tmuAt s n).stepLen ≤ (tmuAt s n).inCnt + 1)
include stop

/-- At its end the counter moves on by one. -/
theorem tmuClock_counts (room : (tmuAt s n).count ≠ 0xFFFFFFFF) :
    tmuAt (tmuClock b s) n = moved ((tmuAt s n).count + 1) (stepStarted (tmuAt s n)) := by
  obtain ⟨u, turn, input, on, self, root, en⟩ := tmuClock_input hn on cycle en fire
  rw [turn.left, input, tmuInput_counts hn on en root (by rw [self]; exact stop) (by rw [self]; exact room),
    tmuAt_move_self _ _ _ hn, tmuAt_upd_self _ _ _ hn, self]

/-- Onto its armed compare value it raises its interrupt. -/
theorem tmuClock_onto_irq (room : (tmuAt s n).count ≠ 0xFFFFFFFF) (armed : (tmuAt s n).armed = true)
    (onto : (tmuAt s n).cmp = (tmuAt s n).count + 1) (ie : (tmuAt s n).ctrl.getLsbD 18 = true) :
    (tmuClock b s).host.irq.getLsbD 3 = true := by
  obtain ⟨u, turn, input, on, self, root, en⟩ := tmuClock_input hn on cycle en fire
  refine turn.irq ?_
  rw [input, tmuInput_onto hn on en root (by rw [self]; exact stop) (by rw [self]; exact room) (by rw [self]; exact armed)
    (by rw [self]; exact onto), tmuFire_loud _ _ (by rw [tmuAt_upd_self _ _ _ hn, self]; exact ie)]
  exact irqSet_bit _

/-- The largest value wraps, alone and without STICK. -/
theorem tmuClock_wraps (full : (tmuAt s n).count = 0xFFFFFFFF) (wrap : (tmuAt s n).stick = false) (alone : feeds s n = false) :
    (tmuAt (tmuClock b s) n).count = 0 ∧ (tmuAt (tmuClock b s) n).ovf = true ∧
      ((tmuAt s n).ctrl.getLsbD 19 = true → (tmuClock b s).host.irq.getLsbD 3 = true) := by
  obtain ⟨u, turn, input, on, self, root, en⟩ := tmuClock_input hn on cycle en fire
  have step := tmuInput_wraps_alone hn on en root (by rw [self]; exact stop) (by rw [self]; exact full) (by rw [self]; exact wrap)
    (by rw [feeds_of_shape turn.shape]; exact alone)
  rw [turn.left, input, step, tmuAt_wrapped_self hn, moved_count, moved_ovf]
  refine ⟨rfl, rfl, fun ie => turn.irq ?_⟩
  rw [input, step]
  exact wrapped_irq (by rw [tmuAt_upd_self _ _ _ hn, self]; exact ie)

/-- It holds with SAT under STICK. -/
theorem tmuClock_sticks (full : (tmuAt s n).count = 0xFFFFFFFF) (stick : (tmuAt s n).stick = true) (alone : feeds s n = false) :
    tmuAt (tmuClock b s) n = { stepStarted (tmuAt s n) with sat := true } := by
  obtain ⟨u, turn, input, on, self, root, en⟩ := tmuClock_input hn on cycle en fire
  rw [turn.left, input, tmuInput_sticks_alone hn on en root (by rw [self]; exact stop) (by rw [self]; exact full)
    (by rw [self]; exact stick) (by rw [feeds_of_shape turn.shape]; exact alone), tmuAt_upd_self _ _ _ hn, self]

/-- It wraps below a running channel with room, which counts. -/
theorem tmuClock_carries (full : (tmuAt s n).count = 0xFFFFFFFF) (feed : feeds s n = true) (up : (tmuAt s (n + 1)).en = true)
    (upFire : (tmuAt s (n + 1)).fire = false) (room : (tmuAt s (n + 1)).count ≠ 0xFFFFFFFF) :
    (tmuAt (tmuClock b s) n).count = 0 ∧ (tmuAt (tmuClock b s) n).ovf = true ∧
      (tmuAt (tmuClock b s) (n + 1)).count = (tmuAt s (n + 1)).count + 1 := by
  obtain ⟨u, turn, input, on, self, root, en⟩ := tmuClock_input hn on cycle en fire
  obtain ⟨top, chain⟩ := (feeds_iff s n).1 feed
  have above : tmuAt u (n + 1) = tmuAt s (n + 1) := turn.found _ (Nat.le_succ n)
  have step := tmuInput_carries hn on en root (by rw [self]; exact stop) (by rw [self]; exact full)
    (by rw [feeds_of_shape turn.shape]; exact feed) (by rw [above]; exact up) (by rw [above]; exact room)
  have counted : tmuAt (clockOne b u n) (n + 1) = moved ((tmuAt s (n + 1)).count + 1) (tmuAt s (n + 1)) := by
    rw [input, step, tmuAt_move_self _ _ _ (by omega), tmuAt_wrapped_ne (by omega), tmuAt_upd_ne _ _ _ _ (by omega), above]
  rw [turn.left, turn.next chain (by omega) (by rw [counted]; exact moved_fire _ _ upFire), counted, input, step,
    tmuAt_move_ne _ _ _ _ (by omega), tmuAt_wrapped_self hn, moved_count, moved_ovf, moved_count]
  exact ⟨rfl, rfl, rfl⟩

end clock

/-! ## The idle step -/

/-- An empty queue, outside an ordered shutdown: a clock of the timebase. -/
theorem step_idle {s : State} (q : s.pending = []) (h : s.pwr.shutdown = none) : step s = .next (clockTick s) := by
  rw [step, q]; exact congrArg _ (idle_eq h)

/-- The clock while AO runs: timebase and RTC have moved on, and the timer unit takes it. -/
theorem clockTick_on {s : State} (on : s.pwr.aoOn = true) : ∃ b u, clockTick s = tmuClock b u ∧
    u = { s with tb := { s.tb with count := s.tb.count + 1 }, bk := rtcClock s.bk } ∧ ∀ n, cycleNow b u n = cycleNext s n :=
  ⟨_, _, by rw [clockTick]; exact if_pos on, rfl, fun _ => rfl⟩

/-- Nothing outside the timer unit moves with its clock. -/
theorem outside_tmuClock (b : Bool) (s : State) : outsideTimers (tmuClock b s) = outsideTimers s := by
  rw [tmuClock_eq]; exact (turns_keep b _ s).2.1

/-- The match of a channel that moves onto its armed compare value. -/
theorem moved_onto_arms (c : TmuCh) (w : W32) (armed : c.armed = true) (onto : c.cmp = w) :
    (moved w c).cmpF = true ∧
      (c.ctrl.getLsbD 20 = true ∧ c.adv ≠ 0 → (moved w c).armed = true ∧ (moved w c).cmp = c.cmp + c.adv) ∧
      (c.ctrl.getLsbD 20 = false ∨ c.adv = 0 → (moved w c).armed = false) := by
  rw [moved_onto w c armed onto]
  refine ⟨rfl, fun ⟨en, nz⟩ => ?_, fun once => ?_⟩
  · rw [fired_again { c with count := w } en nz]; exact ⟨rfl, rfl⟩
  · rw [fired_once { c with count := w } once]

/-- Settles O2: the clock with AO channel by channel, and the two without. -/
theorem idleStepMovesOnlyTime : Obligations.IdleStepMovesOnlyTime := by
  unfold Obligations.IdleStepMovesOnlyTime
  refine fun s q sd => ⟨fun ao => ?_, fun off bk => ?_, fun off bk => ?_⟩
  · obtain ⟨b, u, tick, hu, cycles⟩ := clockTick_on ao
    have on : u.pwr.aoOn = true := by rw [hu]; exact ao
    have at' (n : Nat) : tmuAt u n = tmuAt s n := by rw [hu]; rfl
    have feed (n : Nat) : feeds u n = feeds s n := by rw [hu]; rfl
    have out := outside_tmuClock b u
    obtain ⟨tb, -, bk⟩ := parts_of_outside out
    refine ⟨_, (step_idle q sd).trans (congrArg _ tick), ?_, ?_, ?_, fun n en fire root => ?_, fun n cycle fire root => ?_,
      fun n fire en root => ?_, fun n cycle en fire within => ?_, fun n cycle en fire stop => ?_⟩
    · rw [tb, hu]
    · rw [bk, hu]
    · have rest := congrArg (fun x : State => { x with
        tb := s.tb, bk := s.bk, tmu := s.tmu, host := { x.host with irq := s.host.irq } }) out
      subst hu
      exact rest
    all_goals simp only [← at', ← feed, ← cycles] at *
    · exact tmuClock_idle n.isLt root fire (.inl en)
    · exact tmuClock_idle n.isLt root fire (.inr cycle)
    · obtain ⟨self, irq⟩ := tmuClock_late (b := b) n.isLt root fire en
      rw [self]
      exact ⟨rfl, rfl, rfl, irq⟩
    · exact tmuClock_within n.isLt on cycle en fire within
    · refine ⟨fun room => ?_, tmuClock_wraps n.isLt on cycle en fire stop, fun full stick alone => ?_,
        tmuClock_carries n.isLt on cycle en fire stop⟩
      · rw [tmuClock_counts n.isLt on cycle en fire stop room]
        refine ⟨moved_count _ _, moved_inCnt _ _, moved_ovf _ _, fun armed onto => ?_, fun away => ?_⟩
        · obtain ⟨flag, again, once⟩ := moved_onto_arms (stepStarted (tmuAt u n)) _ armed onto
          exact ⟨flag, tmuClock_onto_irq n.isLt on cycle en fire stop room armed onto, again, once⟩
        · rw [moved_away _ (stepStarted (tmuAt u n)) fun armed => away.resolve_left (by rw [show (tmuAt u n).armed = true from armed]; decide)]
          exact ⟨rfl, rfl⟩
      · rw [tmuClock_sticks n.isLt on cycle en fire stop full stick alone]
        exact ⟨full, rfl, rfl⟩
  · rw [step_idle q sd]; simp only [clockTick, off, bk, Bool.false_eq_true, if_false, if_true]
  · rw [step_idle q sd]; simp only [clockTick, off, bk, Bool.false_eq_true, if_false]

end Sys2Proof.Proofs
end

section
/-! PROOF. Dark tests: the schedule, the start and the end of a test (R48, R132, R133). -/

namespace Sys2Proof.Proofs

open Sys2Proof Sys2Proof.Machine Sys2Proof.Safety Sys2Proof.Laws

/-! ## A bit of a word -/

/-- The bit that is set or cleared, and the others. -/
theorem getLsbD_setBit {n : Nat} (w : BitVec n) (k i : Nat) (b : Bool) (hi : i < n) :
    (setBit w k b).getLsbD i = if i = k then b else w.getLsbD i := by
  have one : (BitVec.ofNat n (2 ^ k)).getLsbD i = decide (i = k) := by
    rw [BitVec.getLsbD_ofNat, Nat.testBit_two_pow]
    simp [hi, eq_comm]
  cases b with
  | true => rw [setBit, if_pos rfl, BitVec.getLsbD_or, one]; by_cases h : i = k <;> simp [h]
  | false => rw [setBit, if_neg (by decide), BitVec.getLsbD_and, BitVec.getLsbD_not, one]; by_cases h : i = k <;> simp [h, hi]

theorem setBit_self {n : Nat} (w : BitVec n) (k : Nat) (b : Bool) (hk : k < n) : (setBit w k b).getLsbD k = b := by
  rw [getLsbD_setBit _ _ _ _ hk, if_pos rfl]

theorem setBit_other {n : Nat} (w : BitVec n) (k i : Nat) (b : Bool) (hi : i < n) (h : i ≠ k) :
    (setBit w k b).getLsbD i = w.getLsbD i := by
  rw [getLsbD_setBit _ _ _ _ hi, if_neg h]

/-! ## The schedule -/

theorem exec_darkTestDue (lane : Lane) (o : Fin 28) (s : State) :
    exec (.darkTestDue lane o) s = execDarkTestDue lane o s := rfl

/-- A due test in both channels' computations. -/
def darkNoted (lane : Lane) (o : Fin 28) (s : State) : State :=
  let c := chanOf lane s
  let d := chanOf (otherLane lane) s
  setChan (otherLane lane) { d with other := { d.other with due := setBit d.other.due o.val true } }
    (setChan lane { c with own := { c.own with due := setBit c.own.due o.val true } } s)

theorem chanOf_darkNoted_own (lane : Lane) (o : Fin 28) (s : State) :
    chanOf lane (darkNoted lane o s) =
      { chanOf lane s with own := { (chanOf lane s).own with due := setBit (chanOf lane s).own.due o.val true } } := by
  cases lane <;> rfl

theorem chanOf_darkNoted_other (lane : Lane) (o : Fin 28) (s : State) :
    chanOf (otherLane lane) (darkNoted lane o s) =
      { chanOf (otherLane lane) s with other :=
        { (chanOf (otherLane lane) s).other with due := setBit (chanOf (otherLane lane) s).other.due o.val true } } := by
  cases lane <;> rfl

theorem darkNoted_frame (lane : Lane) (o : Fin 28) (s : State) :
    { darkNoted lane o s with ridge := s.ridge, thatch := s.thatch } = s := by cases lane <;> rfl

/-! ## A test in the field controller -/

theorem exec_darkTestStart (lane : Lane) (s : State) : exec (.darkTestStart lane) s = execDarkTestStart lane s := rfl

theorem exec_darkTestEnd (lane : Lane) (sw : Bool) (landMv off : Nat) (s : State) :
    exec (.darkTestEnd lane sw landMv off) s = execDarkTestEnd lane sw landMv off s := rfl

/-- The lane while the tested switch is open. -/
def testOpened (now : W64) (d : DarkTest) (l : LaneFc) : LaneFc :=
  { l with
    dt := some { d with opened := true }
    sw := setBit l.sw d.out.val false
    dtHold := setBit l.dtHold d.out.val true
    dtUntil := now + BitVec.ofNat 64 ((fcDtTime l d.out.val + 50) * tUs) }

theorem execDarkTestStart_due (lane : Lane) (s : State) (d : DarkTest) (h : (laneOf lane s).dt = some d) (closed : d.opened = false)
    (takes : takesFrames (laneOf lane s) = true) (time : (laneOf lane s).det.toNat + 15000 ≤ s.tb.count.toNat) :
    execDarkTestStart lane s = .next (setLane lane (testOpened s.tb.count d (laneOf lane s)) s) := by
  have come : due s ((laneOf lane s).det.toNat + 150 * tUs) = true := decide_eq_true time
  simp only [execDarkTestStart, h, closed, takes, come, Bool.not_false, Bool.and_self, if_true, testOpened]

/-- While a test has its switch open, its read-back is held. -/
theorem swBits_testOpened (now : W64) (d : DarkTest) (l : LaneFc) : (swBits now (testOpened now d l)).getLsbD d.out.val = true := by
  rw [swBits, getLsbD_bitsOf _ d.out.isLt, dtHeld]
  simp [testOpened, setBit_self _ _ _ d.out.isLt]

/-- The lane after the test of an output. -/
def testEnded (now : W64) (lane : Lane) (o : Nat) (landMv : Nat) (l : LaneFc) : LaneFc :=
  { l with
    dt := none
    dtUntil := now + BitVec.ofNat 64 (50 * tUs)
    dtHdr := dtDoneHdr o false (landCrossed lane landMv)
    sw := setBit l.sw o (false || (cmdClosed l o && !(vget l.trip o none).isSome)) }

/-- The switch follows its command again, unless it has tripped. -/
theorem testEnded_sw (now : W64) (lane : Lane) (o : Fin 28) (landMv : Nat) (l : LaneFc) :
    (testEnded now lane o.val landMv l).sw.getLsbD o.val = (cmdClosed l o.val && (l.trip[o] == none)) := by
  have trip : vget l.trip o.val none = l.trip[o] := by simp [vget]
  rw [testEnded, setBit_self _ _ _ o.isLt, trip, Bool.false_or]
  cases l.trip[o] <;> rfl

theorem execDarkTestEnd_due (lane : Lane) (landMv off : Nat) (s : State) (d : DarkTest) (h : (laneOf lane s).dt = some d)
    (opened : d.opened = true) (time : (laneOf lane s).dtUntil.toNat - 5000 ≤ s.tb.count.toNat) :
    execDarkTestEnd lane false landMv off s =
      .next (turnOff lane d.out.val off (setLane lane (testEnded s.tb.count lane d.out.val landMv (laneOf lane s)) s)) := by
  have come : due s ((laneOf lane s).dtUntil.toNat - 50 * tUs) = true := decide_eq_true time
  simp only [execDarkTestEnd, h, opened, come, Bool.and_self, if_true, testEnded]

/-- The header of a test whose switch has opened. -/
theorem dtResult_done (o : Fin 28) (crossed : Bool) :
    dtResult (dtDoneHdr o.val false crossed) = { done := true, pass := crossed, out := o.val, skip := false, stuck := false } := by
  revert o crossed
  decide

/-- A turn-off time is a matter of the output's register and of Weathering. -/
theorem turnOff_keeps (lane l : Lane) (o t : Nat) (s : State) :
    laneOf l (turnOff lane o t s) = laneOf l s ∧ (turnOff lane o t s).ridge = s.ridge ∧ (turnOff lane o t s).thatch = s.thatch := by
  cases l <;> exact ⟨rfl, rfl, rfl⟩

/-- Each switch has its place in the tables of both lanes' switches. -/
theorem swIx_lt (lane : Lane) (o : Fin 28) : swIx lane o.val < 56 := by
  cases lane <;> simp [swIx] <;> omega

/-- Weathering keeps the longest turn-off time of a switch that opened under load (Table 14.6). -/
theorem turnOff_off (lane : Lane) (o : Fin 28) (t : Nat) (s : State) :
    vget (turnOff lane o.val t s).wth.cur.off (swIx lane o.val) 0 =
      if 50000 ≤ (if lane = .p then s.field.out[o].iP else s.field.out[o].iT) then
        max (vget s.wth.cur.off (swIx lane o.val) 0) (2 * t)
      else vget s.wth.cur.off (swIx lane o.val) 0 := by
  have at' : vget s.field.out o.val OutFc.reset = s.field.out[o] := by simp [vget]
  unfold turnOff
  dsimp only
  rw [at']
  by_cases load : 50000 ≤ (if lane = .p then s.field.out[o].iP else s.field.out[o].iT)
  · rw [if_pos load, if_pos load]
    exact vget_vmod_self _ _ _ _ (swIx_lt lane o)
  · rw [if_neg load, if_neg load]

/-- Settles O47: the schedule, then the start and the end of a test, and both without one. -/
theorem darkTests : Obligations.DarkTests := by
  unfold Obligations.DarkTests
  refine ⟨fun s lane o runs at' => ?_, fun s lane o at' => ?_, fun s lane d dt closed takes time => ?_,
    fun s lane d landMv off dt opened time => ?_, fun mv => ⟨rfl, rfl⟩, fun s lane sw landMv off dt => ?_⟩
  · refine ⟨darkNoted lane o s, ?_, ?_, ?_, fun k hk => ?_, ?_, ?_, ?_, ?_, darkNoted_frame lane o s⟩
    · simp only [exec_darkTestDue, execDarkTestDue, runs, at', Bool.and_self, if_true, darkNoted]
    · rw [chanOf_darkNoted_own]; exact setBit_self _ _ _ o.isLt
    · rw [chanOf_darkNoted_other]; exact setBit_self _ _ _ o.isLt
    · rw [chanOf_darkNoted_own, chanOf_darkNoted_other]
      exact ⟨setBit_other _ _ _ _ k.isLt (by omega), setBit_other _ _ _ _ k.isLt (by omega)⟩
    · rw [chanOf_darkNoted_own]
    · rw [chanOf_darkNoted_own]
    · rw [chanOf_darkNoted_own]
    · rw [chanOf_darkNoted_other]
  · simp only [exec_darkTestDue, execDarkTestDue, at', Bool.and_false, Bool.false_eq_true, if_false]
  · rw [exec_darkTestStart, execDarkTestStart_due lane s d dt closed takes time]
    have lanes := laneOf_setLane lane (testOpened s.tb.count d (laneOf lane s)) s
    refine ⟨_, rfl, ?_, ?_, ?_, fun k hk => ?_, laneOf_setLane_ne _ _ _ _ (ne_otherLane lane), ?_, ?_⟩
    · rw [lanes]; exact setBit_self _ _ _ d.out.isLt
    · rw [lanes]; rfl
    · rw [lanes]; exact swBits_testOpened _ _ _
    · rw [lanes]; exact setBit_other _ _ _ _ k.isLt (by omega)
    · cases lane <;> rfl
    · cases lane <;> rfl
  · rw [exec_darkTestEnd, execDarkTestEnd_due lane landMv off s d dt opened time]
    generalize hu : setLane lane (testEnded s.tb.count lane d.out.val landMv (laneOf lane s)) s = u
    have self : laneOf lane u = testEnded s.tb.count lane d.out.val landMv (laneOf lane s) := by rw [← hu, laneOf_setLane]
    have other : laneOf (otherLane lane) u = laneOf (otherLane lane) s := by
      rw [← hu]; exact laneOf_setLane_ne _ _ _ _ (ne_otherLane lane)
    obtain ⟨here, ridge, thatch⟩ := turnOff_keeps lane lane d.out.val off u
    obtain ⟨there, -, -⟩ := turnOff_keeps lane (otherLane lane) d.out.val off u
    refine ⟨_, rfl, ?_⟩
    rw [here, there, self, other, ridge, thatch, turnOff_off, ← hu]
    refine ⟨rfl, dtResult_done d.out _, ?_, ?_, rfl, ?_, ?_⟩
    · exact testEnded_sw _ _ _ _ _
    · cases lane <;> rfl
    · cases lane <;> rfl
    · cases lane <;> rfl
  · simp [exec_darkTestStart, exec_darkTestEnd, execDarkTestStart, execDarkTestEnd, dt]

end Sys2Proof.Proofs
end

section
/-! PROOF. What forces a lane open, and what a class H fault asks for (R24, R28 to R30, R53 to R58, R62, R64, R71, R282, R318). -/

namespace Sys2Proof.Proofs

open Sys2Proof Sys2Proof.Machine Sys2Proof.Safety Sys2Proof.Laws

/-! ## Memory -/

/-- Below its first address a memory in canonical form reads 0. -/
theorem memRead_below {lo a : Nat} (m : List Host.Cell) (w : Memory.wfFrom lo m = true) (h : a < lo) : memRead m a = 0 := by
  induction m generalizing lo with
  | nil => rfl
  | cons c t ih =>
    simp only [Memory.wfFrom, Bool.and_eq_true, decide_eq_true_eq] at w
    obtain ⟨⟨le, -⟩, rest⟩ := w
    rw [memRead, if_neg (by omega)]
    exact ih rest (by omega)

/-- A byte reads as it was written last, and no other one changes. -/
theorem memRead_memWriteFrom {lo : Nat} (m : List Host.Cell) (a x : Nat) (b : Byte) (w : Memory.wfFrom lo m = true) :
    memRead (memWrite m a b) x = if x = a then b else memRead m x := by
  induction m generalizing lo with
  | nil =>
    rw [memWrite]
    by_cases hb : b = 0
    · rw [if_pos hb, hb]; simp [memRead]
    · rw [if_neg hb]; simp [memRead, eq_comm]
  | cons c t ih =>
    simp only [Memory.wfFrom, Bool.and_eq_true, decide_eq_true_eq] at w
    obtain ⟨-, rest⟩ := w
    rw [memWrite]
    rcases Nat.lt_trichotomy c.1 a with lt | rfl | gt
    · rw [if_pos lt, memRead, memRead, ih rest]
      by_cases h : x = a
      · rw [if_pos h, if_pos h, if_neg (by omega)]
      · rw [if_neg h, if_neg h]
    · rw [if_neg (Nat.lt_irrefl _), if_pos rfl]
      by_cases h : x = c.1
      · rw [if_pos h]
        by_cases hb : b = 0
        · rw [if_pos hb, memRead_below t rest (by omega), hb]
        · rw [if_neg hb, memRead, if_pos h.symm]
      · have skip : memRead (c :: t) x = memRead t x := by rw [memRead, if_neg (Ne.symm h)]
        rw [if_neg h, skip]
        by_cases hb : b = 0
        · rw [if_pos hb]
        · rw [if_neg hb, memRead, if_neg (Ne.symm h)]
    · rw [if_neg (by omega), if_neg (by omega)]
      by_cases h : x = a
      · have above : memRead (c :: t) a = 0 := by rw [memRead, if_neg (by omega), memRead_below t rest (by omega)]
        rw [if_pos h, h]
        by_cases hb : b = 0
        · rw [if_pos hb, above, hb]
        · rw [if_neg hb, memRead, if_pos rfl]
      · rw [if_neg h]
        by_cases hb : b = 0
        · rw [if_pos hb]
        · rw [if_neg hb, memRead, if_neg (Ne.symm h)]

theorem memRead_memWrite (m : List Host.Cell) (a x : Nat) (b : Byte) (w : Memory.wf m = true) :
    memRead (memWrite m a b) x = if x = a then b else memRead m x := memRead_memWriteFrom m a x b w

/-! ## The tightly coupled memories -/

@[simp] theorem tcmOf_setTcm (m : TcmId) (l : List Host.Cell) (s : State) : tcmOf m (setTcm m l s) = l := by cases m <;> rfl

theorem setTcm_frame (m : TcmId) (l : List Host.Cell) (s : State) : { setTcm m l s with tcm := s.tcm } = s := by cases m <;> rfl

theorem tcmOf_tcmUpset (m : TcmId) (addr : Nat) (flips : Byte) (s : State) :
    tcmOf m (tcmUpset m addr flips s) = memWrite (tcmOf m s) addr (memRead (tcmOf m s) addr ^^^ flips) := tcmOf_setTcm m _ s

/-- An upset flips bits of its byte, and of no other. -/
theorem memRead_tcmUpset (m : TcmId) (addr a : Nat) (flips : Byte) (s : State) (w : Memory.wf (tcmOf m s) = true) :
    memRead (tcmOf m (tcmUpset m addr flips s)) a =
      if a = addr then memRead (tcmOf m s) a ^^^ flips else memRead (tcmOf m s) a := by
  rw [tcmOf_tcmUpset, memRead_memWrite _ _ _ _ w]
  split
  · next h => rw [h]
  · rfl

/-- The same upset twice is none. -/
theorem memRead_tcmUpset_twice (m : TcmId) (addr a : Nat) (flips : Byte) (s : State) (w : Memory.wf (tcmOf m s) = true) :
    memRead (tcmOf m (tcmUpset m addr flips (tcmUpset m addr flips s))) a = memRead (tcmOf m s) a := by
  have w' : Memory.wf (tcmOf m (tcmUpset m addr flips s)) = true := by rw [tcmOf_tcmUpset]; exact memWrite_wf _ _ _ w
  rw [memRead_tcmUpset _ _ _ _ _ w', memRead_tcmUpset _ _ _ _ _ w]
  split
  · rw [BitVec.xor_assoc, BitVec.xor_self, BitVec.xor_zero]
  · rfl

/-- The list of double-bit errors is no memory. -/
theorem tcmOf_tcmDed (m k : TcmId) (addr : Nat) (s : State) : tcmOf k (tcmDed m addr s) = tcmOf k s := by
  unfold tcmDed; dsimp only; split
  · rfl
  · cases k <;> rfl

theorem tcmOf_congr {s t : State} (m : TcmId) (h : t.tcm = s.tcm) : tcmOf m t = tcmOf m s := by cases m <;> simp [tcmOf, h]

theorem tcmUpset_frame (m : TcmId) (addr : Nat) (flips : Byte) (s : State) : { tcmUpset m addr flips s with tcm := s.tcm } = s :=
  setTcm_frame m _ s

theorem tcmDed_frame (m : TcmId) (addr : Nat) (s : State) : { tcmDed m addr s with tcm := s.tcm } = s := by
  unfold tcmDed; dsimp only; split <;> rfl

/-! ## A class H fault -/

/-- Outside reset, LULL and the states without power ticks run while the tick generator does. -/
theorem ticksRun_of_live {s : State} (run : s.tick.running = true) (h : tableStill s = false) : ticksRun s = true := by
  simp only [tableStill, Bool.or_eq_false_iff, decide_eq_false_iff_not, List.mem_cons, not_or] at h
  obtain ⟨-, -, -, lull, -⟩ := h
  simp [ticksRun, run, lull]

theorem ticksRun_of_mode {s : State} (run : s.tick.running = true) (h : s.mode ≠ .lull) : ticksRun s = true := by
  simp [ticksRun, run, h]

/-- A fault that is raised while the table moves is present. -/
theorem hasFault_raise_self (code : BitVec 16) (s : State) (h : code ≠ fcEvtLost) (live : tableStill s = false) :
    hasFault (raise code 0 s) code 0 = true := by
  rw [hasFault_raise _ _ _ _ _ h]; simp [live]

/-- A lane forced open carries no close command. -/
@[simp] theorem openLane_cmds (s : State) (c : Chan) : (openLane s c).latch.cmds = 0 := rfl

theorem openLane_late (s : State) (c : Chan) : (openLane s c).late = if tooLate s then some (c.late.getD c.latch) else c.late := rfl

/-- Event entries leave Gable serving as it was. -/
theorem postEvent_up (kind : Nat) (code : BitVec 16) (arg : W32) (s : State) : (postEvent kind code arg s).gable.up = s.gable.up := by
  have write (t : State) (c : BitVec 16) (k : Nat) (a : W32) : (writeEvent k c a t).gable.up = t.gable.up := by simp [writeEvent]
  have drop (t : State) : (dropEvent t).gable.up = t.gable.up := by
    unfold dropEvent; dsimp only; split <;> simp
  have flush (t : State) : (flushLost t).gable.up = t.gable.up := by
    unfold flushLost; split
    · rfl
    · simp [write]
  unfold postEvent
  split
  · rfl
  · dsimp only
    (repeat' split) <;> simp [write, drop, flush]

/-- What a new class H fault does before its reaction changes neither the mode nor what the reaction looks at. -/
theorem raise_classH (code : BitVec 16) (s : State) (live : tableStill s = false) (cls : faultClass code = .h)
    (new : hasFault s code 0 = false) :
    ∃ u, raise code 0 s = classH code 0 u ∧ u.bk = s.bk ∧ u.hPend = s.hPend ∧ u.pwr = s.pwr ∧ u.mode = s.mode ∧ u.tb = s.tb ∧
      u.gable.up = s.gable.up := by
  unfold raise raiseW
  rw [if_neg (by simp [live]), if_neg (by simpa using new)]
  dsimp only
  rw [if_pos cls]
  refine ⟨_, rfl, ?_⟩
  cases chFlagOf code <;> simp [postEvent_up]

/-- A word just written in three copies votes to itself. -/
@[simp] theorem voted_of_val {n : Nat} (x : BitVec n) : (Voted.of x).val = x := by simp [Voted.of, Voted.val]

/-- The reaction outside an ordered shutdown: LOCKOUT is asked for, and the episode has its cause and its record (R64, R282). -/
theorem classH_asks (code : BitVec 16) (arg : W32) (s : State) (sd : s.pwr.shutdown = none) (lock : s.mode ≠ .lockout)
    (pend : s.hPend = none) :
    (classH code arg s).hPend = some (s.tb.count.toNat + tUs) ∧
      (s.bk.lockCause.val = 0 → (classH code arg s).bk.lockCause.val = code) ∧
      (s.gable.up = true → (classH code arg s).bk.nextCount = s.bk.nextCount + 1) := by
  have cause (x : List Byte) : (logEvent 0xE002 x s).bk.lockCause = s.bk.lockCause := by
    unfold logEvent logWrite; (repeat' split) <;> rfl
  have count (x : List Byte) (up : s.gable.up = true) : (logEvent 0xE002 x s).bk.nextCount = s.bk.nextCount + 1 := by
    have open' : flashClosed s = false := by simp [flashClosed, sd]
    simp only [logEvent, up, logWrite, open', Bool.false_eq_true, if_false, if_true, logNext, logAppend]
    exact BitVec.eq_of_toNat_eq (by simp)
  generalize hx : be 2 code.toNat ++ be 4 arg.toNat = x at *
  unfold classH
  rw [if_neg (by simp [sd]), hx]
  dsimp only
  split
  · rw [if_neg (by simp [setLockFlag, lock, pend])]
    exact ⟨by simp [setLockFlag], fun _ => voted_of_val code, fun up => count x up⟩
  · next set =>
    rw [if_neg (by simp [setLockFlag, lock, pend])]
    exact ⟨by simp [setLockFlag], fun zero => absurd ((congrArg Voted.val (cause x)).trans zero) set, fun up => count x up⟩

/-- After the start of an ordered shutdown a fault asks for nothing (R318). -/
theorem raise_in_shutdown (code : BitVec 16) (s : State) (sd : s.pwr.shutdown ≠ none) :
    (raise code 0 s).hPend = s.hPend ∧ (raise code 0 s).bk = s.bk := by
  have isSome : s.pwr.shutdown.isSome = true := Option.isSome_iff_ne_none.2 sd
  have isNone : s.pwr.shutdown.isNone = false := Option.isNone_eq_false_iff.2 isSome
  unfold raise raiseW
  split
  · exact ⟨rfl, rfl⟩
  split
  · simp [foundAgain, isNone]
  · dsimp only
    cases chFlagOf code <;> split <;> simp [classH, isSome]

end Sys2Proof.Proofs
end

section
/-! PROOF. The supervision of both channels, event by event (R24, R28 to R30, R53 to R58, R62, R64, R71, R282, R318). -/

namespace Sys2Proof.Proofs

open Sys2Proof Sys2Proof.Machine Sys2Proof.Safety Sys2Proof.Laws

/-! ## Overruns, missing results and the tick generators -/

section supervised
variable {s : State} (run : s.tick.running = true) (live : tableStill s = false)
include run live

/-- An overrun of the Ridge pair opens lane P (R28). -/
theorem exec_tickOverrunRg_opens (h : overrunRg s = true) :
    exec .tickOverrunRg s = .next (raise fcTickOverrunRg 0 { s with ridge := openLane s s.ridge }) := by
  show execTickOverrunRg s = _
  simp [execTickOverrunRg, ticksRun_of_live run live, h]

/-- An overrun of the Thatch pass opens lane T. -/
theorem exec_tickOverrunTh_opens (took : s.thatch.frameOk = true) (open' : s.thatch.evaluated = false)
    (h : s.thatch.passAt.toNat + 6210 ≤ s.tb.count.toNat) :
    exec .tickOverrunTh s = .next (raise fcTickOverrunTh 0 { s with thatch := openLane s s.thatch }) := by
  have come : due s (s.thatch.passAt.toNat + passUnits) = true := decide_eq_true h
  show execTickOverrunTh s = _
  simp [execTickOverrunTh, ticksRun_of_live run live, took, open', come]

/-- A record that is missing as phase 3 begins opens the lane that lacks it. -/
theorem exec_crossResultMissing_opens (lane : Lane) (mode : s.mode.evaluates = true) (runs : (chanOf lane s).frozen = false)
    (missing : (chanOf (otherLane lane) s).evaluated = false) (h : phase3At lane s ≤ s.tb.count.toNat) :
    exec (.crossResultMissing lane) s =
      .next (raise fcCrossResultMissing 0 (setChan lane (openLane s (chanOf lane s)) s)) := by
  have come : due s (phase3At lane s) = true := decide_eq_true h
  show execCrossResultMissing lane s = _
  simp [execCrossResultMissing, ticksRun_of_live run live, mode, runs, missing, come]

theorem exec_tickGenMismatch_raises (speaks : s.tick.silentT = false) (h : genMissing s = true) :
    exec .tickGenMismatch s = .next (raise fcTickGenMismatch 0 s) := by
  show execTickGenMismatch s = _
  simp [execTickGenMismatch, ticksRun_of_live run live, speaks, h]

/-- The one lane T frame that the Thatch fabric starts without a boundary (R30). -/
def lastFrame (s : State) : OutFrame :=
  outSeal { OutFrame.blank .t with
    ftype := 1, tickSel := s.tick.sel, seq := s.thatch.txSeq + 1, entries := [noEntry]
    setpt := alarmSetpts s.active.image }

theorem exec_ridgeBoundaryMissing_opens (speaks : s.tick.silentT = false) (h : boundaryLate s = true) :
    exec .ridgeBoundaryMissing s = .next (raise fcTickGenMismatch 0 { s with
      tick := { s.tick with silentT := true }
      laneP := { s.laneP with accepted := false }
      laneT := { s.laneT with inTx := none, accepted := false }
      thatch := { openLane s s.thatch with txSeq := s.thatch.txSeq + 1, tx := lastFrame s, txAt := s.tb.count } }) := by
  show execRidgeBoundaryMissing s = _
  rw [execRidgeBoundaryMissing, if_neg (by simp [ticksRun_of_live run live, speaks, h])]
  rfl

/-- A pulse outside the range. -/
theorem exec_thatchTickPulse_raises (units : Nat) (speaks : s.tick.silentT = false) (h : pulseInside s units = false) :
    ∃ t, exec (.thatchTickPulse units) s = .next t ∧ hasFault t fcTickGenMismatch 0 = true := by
  show ∃ t, execThatchTickPulse units s = .next t ∧ _
  rw [execThatchTickPulse, if_neg (by simp [ticksRun_of_live run live, speaks])]
  dsimp only
  rw [if_neg (by simp [h])]
  exact ⟨_, rfl, hasFault_raise_self _ _ (by decide) live⟩

end supervised

/-- A pulse inside it closes the measurement of its tick. -/
theorem exec_thatchTickPulse_notes {s : State} (units : Nat) (run : ticksRun s = true) (speaks : s.tick.silentT = false)
    (h : pulseInside s units = true) :
    exec (.thatchTickPulse units) s = .next { s with tick := { s.tick with
      pulse := s.tick.pulse || !pulseLate s units, pulsePrev := s.tick.pulsePrev || pulseLate s units
      dev := BitVec.ofInt 16 (satInt 16 (units - tickUnits s.tick.sel.toNat)) } } := by
  show execThatchTickPulse units s = _
  rw [execThatchTickPulse, if_neg (by simp [run, speaks])]
  dsimp only
  rw [if_pos h]

/-! ## The Ridge pair -/

section ridge
variable {s : State} (runs : ridgeRuns s = true)
include runs

theorem exec_ridgeLockstepMismatch_freezes (joined : s.pair.split = false) (open' : s.pair.firewall = false)
    (whole : s.pair.diverged = false) :
    exec .ridgeLockstepMismatch s =
      .next (raise (if s.pair.joinedAt = some s.tick.boundary then fcJoinCompareFail else fcRidgeLockstepMismatch) 0 (freezeRidge s)) := by
  show execRidgeLockstepMismatch s = _
  simp [execRidgeLockstepMismatch, runs, joined, open', whole]

theorem exec_ridgeEccDed_freezes (m : TcmId) (addr : Nat) (flips : Byte) :
    exec (.ridgeEccDed m addr flips) s =
      .next (raise fcRidgeEccDed 0 (freezeRidge (tcmDed m addr (tcmUpset m addr flips s)))) := by
  show execRidgeEccDed s m addr flips = _
  rw [execRidgeEccDed, if_pos runs]

theorem exec_ridgeEccCorrection_corrects (m : TcmId) (addr : Nat) (flip : Fin 8) :
    exec (.ridgeEccCorrection m addr flip) s =
      .next { tcmUpset m addr (BitVec.ofNat 8 (2 ^ flip.val)) (tcmUpset m addr (BitVec.ofNat 8 (2 ^ flip.val)) s) with
        pair := { s.pair with eccCorr := BitVec.ofNat 32 (min max32 (s.pair.eccCorr.toNat + 1)) }
        ev := { s.ev with chFlags := setBit s.ev.chFlags 0 true } } := by
  show execRidgeEccCorrection s m addr flip = _
  rw [execRidgeEccCorrection, if_pos runs]

end ridge

theorem exec_ridgeFaultLine_forces {s : State} (line : s.pair.faultLine = true) (run : ticksRun s = true) (live : s.thatch.frozen = false) :
    exec .ridgeFaultLine s = .next { s with thatch := forceSafe s s.thatch } := by
  show execRidgeFaultLine s = _
  simp [execRidgeFaultLine, line, run, live]

/-- Debug access that breaks the lock-step (R71). -/
theorem exec_ridgeDebugBreak_breaks {s : State} (act : DebugAct) (h : act ≠ .read) (may : debugAllowed s = true)
    (whole : s.pair.diverged = false) :
    exec (.ridgeDebugBreak act) s = .next (logEvent 0xE00A [] (raise fcRidgeDebugDiverged 0 { s with
      pair := { s.pair with diverged := true, faultLine := true }
      ridge := if s.ridge.frozen then s.ridge else forceLatch s { s.ridge.latch with gust := noGust } s.ridge
      thatch := forceLatch s { s.thatch.latch with cmds := 0, dark := 0, gust := noGust } s.thatch })) := by
  show execRidgeDebugBreak act s = _
  rw [execRidgeDebugBreak, if_neg (by simp [h, may, whole])]

/-- The reaction of R53 is none of reset, LULL and power. -/
theorem tableStill_freeze (m : TcmId) (addr : Nat) (flips : Byte) (s : State) :
    tableStill (freezeRidge (tcmDed m addr (tcmUpset m addr flips s))) = tableStill s := by
  unfold tcmDed
  dsimp only
  split <;> cases m <;> rfl

/-- A Thatch pass of more than 2 048 cycles (R28). -/
theorem exec_thatchPassEnd_overruns {s : State} {cycles : Nat} (took : s.thatch.frameOk = true) (runs : s.thatch.frozen = false)
    (open' : s.thatch.evaluated = false) (h : 2048 < cycles) :
    exec (.thatchPassEnd cycles 0 true) s = .next (raise fcTickOverrunTh 0 { s with pair := { s.pair with thatchPass := 0 } }) := by
  rw [exec_thatchPassEnd, execThatchPassEnd, if_neg (by simp [took, runs, open']; omega)]
  simp only [if_pos h, if_true]
  rfl

/-! ## The rows of the Thatch fabric -/

/-- A row with its upset stands at its place. -/
theorem rowUpset_getElem (upset : BitVec 256) (k : Nat) (l : List Config.ThatchRow) (r : Config.ThatchRow) (h : l[k]? = some r) :
    (rowUpset upset k l)[k]? = some { r with bits := r.bits ^^^ upset } := by
  simp [rowUpset, List.getElem?_zipIdx, h]

/-- A scrub step: the row read next, and the fault of a bad one (R58). -/
theorem exec_thatchCfgScrub_reads {s : State} (upset : BitVec 256) (r : Config.ThatchRow) (run : ticksRun s = true)
    (power : s.pwr.domains.getLsbD 6 = true) (h : s.thatchMem.rows[s.thatchMem.scan % s.thatchMem.rows.length]? = some r) :
    exec (.thatchCfgScrub upset) s =
      let k := s.thatchMem.scan % s.thatchMem.rows.length
      let t := { s with thatchMem := { rows := rowUpset upset k s.thatchMem.rows, scan := (k + 1) % s.thatchMem.rows.length } }
      .next (if rowOk { r with bits := r.bits ^^^ upset } then t else raise fcThatchCfgUpset 0 t) := by
  have rows : s.thatchMem.rows.length ≠ 0 := by
    intro none
    rw [List.length_eq_zero_iff.1 none] at h
    simp at h
  show execThatchCfgScrub upset s = _
  rw [execThatchCfgScrub]
  dsimp only
  rw [if_neg (by simp [rows, run]; exact power), rowUpset_getElem _ _ _ r h]
  rfl

/-! ## The statement -/

/-- Settles O42: event by event, in the order of the statement. -/
theorem channelSupervision : Obligations.ChannelSupervision := by
  unfold Obligations.ChannelSupervision
  refine ⟨fun s run live => ⟨fun h => ?_, fun took open' h => ?_, fun speaks h => ?_, fun speaks h => ?_, fun upset r power h => ?_⟩,
    fun s => ⟨fun h => ?_, fun h => ?_, fun h => ?_⟩, fun s lane run live mode runs missing h => ?_,
    fun s runs live => ⟨fun joined open' whole => ?_, fun m addr flips w => ?_, fun m addr flip w => ?_⟩,
    fun s line run lull live => ?_, fun s units run lull speaks h => ?_, fun s units run live speaks h => ?_,
    fun s act read may live whole => ?_, fun s => rfl,
    fun s cycles took runs open' live sd lock pend new longer => ?_, fun s run live sd h => ?_⟩
  · rw [exec_tickOverrunRg_opens run live h]
    exact ⟨_, rfl, hasFault_raise_self _ _ (by decide) live, by simp, by simp [openLane_late], by simp⟩
  · rw [exec_tickOverrunTh_opens run live took open' h]
    exact ⟨_, rfl, hasFault_raise_self _ _ (by decide) live, by simp, by simp⟩
  · rw [exec_ridgeBoundaryMissing_opens run live speaks h]
    exact ⟨_, rfl, hasFault_raise_self _ _ (by decide) live, by simp, by simp [lastFrame, outSeal, OutFrame.blank],
      by simp [lastFrame, outSeal], by simp, by simp⟩
  · rw [exec_tickGenMismatch_raises run live speaks h]
    exact ⟨_, rfl, hasFault_raise_self _ _ (by decide) live, by simp, by simp⟩
  · rw [exec_thatchCfgScrub_reads upset r (ticksRun_of_live run live) power h]
    dsimp only
    cases ok : rowOk { r with bits := r.bits ^^^ upset } with
    | true => exact ⟨_, rfl, rfl, fun e => (by simp at e), fun _ => rfl, rfl, rfl⟩
    | false => exact ⟨_, rfl, by simp, fun _ => hasFault_raise_self _ _ (by decide) live, fun e => (by simp at e), by simp, by simp⟩
  · show execTickOverrunRg s = _
    simp [execTickOverrunRg, h]
  · show execTickGenMismatch s = _
    simp [execTickGenMismatch, h]
  · show execRidgeBoundaryMissing s = _
    simp [execRidgeBoundaryMissing, h]
  · rw [exec_crossResultMissing_opens run live lane mode runs missing h]
    have keeps (l : Lane) (t : State) : chanOf l (raise fcCrossResultMissing 0 t) = chanOf l t := by cases l <;> simp [chanOf]
    refine ⟨_, rfl, hasFault_raise_self _ _ (by decide) ?_, ?_, ?_⟩
    · rw [← live]; cases lane <;> rfl
    · rw [keeps, chanOf_setChan]; rfl
    · rw [keeps, chanOf_setChan_ne _ _ _ _ (ne_otherLane lane)]
  · rw [exec_ridgeLockstepMismatch_freezes runs joined open' whole]
    refine ⟨_, rfl, hasFault_raise_self _ _ (by split <;> decide) live, ?_⟩
    simp [freezeRidge, forceSafe, forceLatch, safeLatch, Latch.safe]
  · rw [exec_ridgeEccDed_freezes runs]
    have memory (a : Nat) : memRead (tcmOf m (raise fcRidgeEccDed 0 (freezeRidge (tcmDed m addr (tcmUpset m addr flips s))))) a =
        if a = addr then memRead (tcmOf m s) a ^^^ flips else memRead (tcmOf m s) a := by
      rw [tcmOf_congr m (t := raise _ _ _) (s := tcmDed m addr (tcmUpset m addr flips s)) (by simp [freezeRidge]), tcmOf_tcmDed,
        memRead_tcmUpset _ _ _ _ _ w]
    refine ⟨_, rfl, hasFault_raise_self _ _ (by decide) ?_, ?_, ?_, ?_, ?_, fun a ha => ?_⟩
    · rw [← live]; exact tableStill_freeze m addr flips s
    · simp [freezeRidge]
    · simp [freezeRidge, forceSafe, forceLatch, safeLatch, Latch.safe]
    · simp [freezeRidge]
    · rw [memory, if_pos rfl]
    · rw [memory, if_neg ha]
  · rw [exec_ridgeEccCorrection_corrects runs]
    refine ⟨_, rfl, ?_, ?_, fun a => ?_, ?_⟩
    · exact Nat.mod_eq_of_lt (by simp [max32])
    · exact setBit_self _ _ _ (by decide)
    · exact memRead_tcmUpset_twice m addr a _ s w
    · cases m <;> rfl
  · rw [exec_ridgeFaultLine_forces line (ticksRun_of_mode run lull) live]
    exact ⟨_, rfl, rfl, rfl, rfl, rfl⟩
  · rw [exec_thatchTickPulse_notes units (ticksRun_of_mode run lull) speaks h]
    exact ⟨_, rfl, fun old => by simp [old], fun old => by simp [old], rfl⟩
  · exact exec_thatchTickPulse_raises run live units speaks h
  · rw [exec_ridgeDebugBreak_breaks act read may whole]
    refine ⟨_, rfl, ?_, by simp, by simp, by simp [forceLatch]⟩
    rw [hasFault_logEvent]
    exact hasFault_raise_self _ _ (by decide) live
  · rw [exec_thatchPassEnd_overruns took runs open' longer]
    obtain ⟨u, reaction, bk, hPend, pwr, mode, tb, up⟩ := raise_classH fcTickOverrunTh
      { s with pair := { s.pair with thatchPass := 0 } } live (by decide) new
    obtain ⟨asks, cause, count⟩ := classH_asks fcTickOverrunTh 0 u (by rw [pwr]; exact sd) (by rw [mode]; exact lock)
      (by rw [hPend]; exact pend)
    refine ⟨_, rfl, ?_, by simp, fun zero => ?_, fun serves => ?_⟩
    · rw [reaction, asks, tb]
    · rw [reaction]; exact cause (by rw [bk]; exact zero)
    · rw [reaction, count (by rw [up]; exact serves), bk]
  · rw [exec_tickOverrunRg_opens run live h]
    exact ⟨_, rfl, raise_in_shutdown _ { s with ridge := openLane s s.ridge } sd⟩

end Sys2Proof.Proofs
end

section
/-! PROOF. Ports and received copies: links, the MAC, ARP and the telegrams of accepted frames (R201, R202, R208, R211, R217). -/

namespace Sys2Proof.Proofs

open Sys2Proof Sys2Proof.Machine Sys2Proof.Safety Sys2Proof.Laws

/-! ## Received copies -/

/-- A received copy in both channels' buffers. -/
def copyTaken (x : Copy) (s : State) : State :=
  { s with ridge := { s.ridge with buf := s.ridge.buf ++ [x] }, thatch := { s.thatch with buf := s.thatch.buf ++ [x] } }

/-- A frame dropped at a port. -/
def frameDropped (p : NetPort) (s : State) : State := setPort p { portOf p s with dropCnt := count32 (portOf p s).dropCnt } s

theorem setPort_frame (p : NetPort) (x : PortSt) (s : State) : { setPort p x s with portA := s.portA, portB := s.portB } = s := by
  cases p <;> rfl

theorem setPort_chans (p : NetPort) (x : PortSt) (s : State) : (setPort p x s).ridge = s.ridge ∧ (setPort p x s).thatch = s.thatch := by
  cases p <;> exact ⟨rfl, rfl⟩

section copy
variable {s : State} {p : NetPort} {h f : List Byte} (rx : W64)

/-- A frame that the port does not receive, the MAC does not accept, or that carries no telegram. -/
theorem exec_copyReceive_none (no : canReceive p s = false ∨ s.tick.running = false ∨ macAccepts p (h ++ f) true s = false ∨
    telegramOf p (h ++ f) s = none) : exec (.telegramCopyReceive p h f rx) s = .next s := by
  show execTelegramCopyReceive p h f rx s = _
  unfold execTelegramCopyReceive
  rcases no with no | no | no | no <;> simp [no]

variable {b : List Byte} {proto : Proto} (rcv : canReceive p s = true) (run : s.tick.running = true)
  (mac : macAccepts p (h ++ f) true s = true) (tg : telegramOf p (h ++ f) s = some (proto, b))
include rcv run mac tg

theorem exec_copyReceive_taken (crc : preCheck1 (evalCfg s) s.active.image p proto b = true) (room : bufRoom p s = true) :
    exec (.telegramCopyReceive p h f rx) s =
      .next (copyTaken { port := p, bytes := b, src := BitVec.ofNat 48 (beAt (h ++ f) 6 6), rx := rx } s) := by
  show execTelegramCopyReceive p h f rx s = _
  simp only [execTelegramCopyReceive, rcv, run, mac, tg, crc, room, copyTaken, Bool.not_true, Bool.or_false, Bool.or_true,
    Bool.false_eq_true, if_false, Bool.and_self, if_true]

theorem exec_copyReceive_dropped (no : bufRoom p s = false ∨ preCheckOff p s = false ∧ preCheck1 (evalCfg s) s.active.image p proto b = false) :
    exec (.telegramCopyReceive p h f rx) s = .next (frameDropped p s) := by
  have refused : ((preCheckOff p s || preCheck1 (evalCfg s) s.active.image p proto b) && bufRoom p s) = false := by
    rcases no with no | ⟨off, crc⟩
    · rw [no, Bool.and_false]
    · rw [off, crc]; rfl
  show execTelegramCopyReceive p h f rx s = _
  simp only [execTelegramCopyReceive, rcv, run, mac, tg, refused, frameDropped, Bool.not_true, Bool.or_self, Bool.false_eq_true, if_false]

end copy

/-- The share of a port in the buffers. -/
theorem bufRoom_iff (p : NetPort) (s : State) :
    bufRoom p s = true ↔ ((chanOf (viewLane s) s).buf.filter (fun x => x.port == p)).length < 256 := decide_eq_true_iff

/-! ## Frames at the MAC -/

theorem macAccepts_bad (p : NetPort) (f : List Byte) (s : State) : macAccepts p f false s = false := by simp [macAccepts]

theorem exec_netFrameReceive_off {s : State} {p : NetPort} (f : List Byte) (good : Bool) (h : canReceive p s = false) :
    exec (.netFrameReceive p f good) s = .next s := by
  show execNetFrameReceive p f good s = _
  simp [execNetFrameReceive, h]

theorem exec_netFrameReceive_on {s : State} {p : NetPort} (f : List Byte) (good : Bool) (h : canReceive p s = true) :
    exec (.netFrameReceive p f good) s =
      .next (setPort p (if macAccepts p f good s then { portOf p s with rxCnt := count32 (portOf p s).rxCnt }
        else { portOf p s with dropCnt := count32 (portOf p s).dropCnt }) s) := by
  show execNetFrameReceive p f good s = _
  simp only [execNetFrameReceive, h, Bool.not_true, Bool.false_eq_true, if_false]

/-! ## Links -/

/-- A port's link as it is reported, with its event. -/
def linkSet (p : NetPort) (link duplex : Bool) (s : State) : State :=
  netEvent p 2 (setPort p { portOf p s with link := link, duplex := duplex } s)

theorem exec_linkUp_off {s : State} {p : NetPort} (d : Bool) (h : portPowered p s = false) : exec (.linkUp p d) s = .next s := by
  show execLinkUp p d s = _
  simp [execLinkUp, h]

theorem exec_linkDown_off {s : State} {p : NetPort} (h : portPowered p s = false) : exec (.linkDown p) s = .next s := by
  show execLinkDown p s = _
  simp [execLinkDown, h]

/-- A full-duplex link: both faults clear. -/
theorem exec_linkUp_full {s : State} {p : NetPort} (h : portPowered p s = true) :
    exec (.linkUp p true) s = .next (clearFault (fcDuplex p) 0 (clearFault (fcDown p) 0 (linkSet p true false s))) := by
  show execLinkUp p true s = _
  simp [execLinkUp, h, linkSet]

/-- A half-duplex one: LINK_DUPLEX stands, at most with its event beside. -/
theorem exec_linkUp_half {s : State} {p : NetPort} (h : portPowered p s = true) :
    ∃ t, exec (.linkUp p false) s = .next t ∧ (t = raise (fcDuplex p) 0 (clearFault (fcDown p) 0 (linkSet p false true s)) ∨
      t = netEvent p 1 (raise (fcDuplex p) 0 (clearFault (fcDown p) 0 (linkSet p false true s)))) := by
  show ∃ t, execLinkUp p false s = _ ∧ _
  rw [execLinkUp, if_neg (by simp [h])]
  refine ⟨_, rfl, ?_⟩
  dsimp only
  rw [if_neg (by decide)]
  split
  · exact .inl rfl
  · exact .inr rfl

theorem exec_linkDown_on {s : State} {p : NetPort} (h : portPowered p s = true) :
    exec (.linkDown p) s = .next (raise (fcDown p) 0 (linkSet p false false s)) := by
  show execLinkDown p s = _
  simp [execLinkDown, h, linkSet]

/-- Faults come and go beside the ports. -/
@[simp] theorem portOf_raise (p : NetPort) (code : BitVec 16) (n : Nat) (s : State) : portOf p (raise code n s) = portOf p s := by
  cases p <;> simp [portOf]

@[simp] theorem portOf_clearFault (p : NetPort) (code : BitVec 16) (n : Nat) (s : State) :
    portOf p (clearFault code n s) = portOf p s := by cases p <;> simp [portOf]

@[simp] theorem portOf_netEvent (p q : NetPort) (k : Nat) (s : State) : portOf q (netEvent p k s) = portOf q s := by
  cases p <;> cases q <;> rfl

@[simp] theorem hasFault_netEvent (p : NetPort) (k : Nat) (s : State) (c : BitVec 16) (o : Nat) :
    hasFault (netEvent p k s) c o = hasFault s c o := by cases p <;> rfl

@[simp] theorem netEvent_pwr (p : NetPort) (k : Nat) (s : State) : (netEvent p k s).pwr = s.pwr := by cases p <;> rfl

@[simp] theorem tableStill_linkSet (p : NetPort) (l d : Bool) (s : State) : tableStill (linkSet p l d s) = tableStill s := by
  cases p <;> rfl

@[simp] theorem tableStill_clearFault (code : BitVec 16) (n : Nat) (s : State) : tableStill (clearFault code n s) = tableStill s := by
  simp [tableStill]

@[simp] theorem portOf_linkSet (p : NetPort) (l d : Bool) (s : State) :
    portOf p (linkSet p l d s) = { portOf p s with link := l, duplex := d } := by cases p <;> rfl

theorem linkSet_other (p : NetPort) (l d : Bool) (s : State) :
    (p = .a → (linkSet p l d s).portB = s.portB) ∧ (p = .b → (linkSet p l d s).portA = s.portA) := by
  cases p <;> exact ⟨fun h => by cases h <;> rfl, fun h => by cases h <;> rfl⟩

@[simp] theorem linkSet_pwr (p : NetPort) (l d : Bool) (s : State) : (linkSet p l d s).pwr = s.pwr := by cases p <;> rfl

theorem linkSet_chans (p : NetPort) (l d : Bool) (s : State) :
    (linkSet p l d s).mode = s.mode ∧ (linkSet p l d s).ridge = s.ridge ∧ (linkSet p l d s).thatch = s.thatch := by
  cases p <;> exact ⟨rfl, rfl, rfl⟩

/-- Without a link a port neither sends, nor receives without a half-duplex one. -/
theorem canSend_down (p : NetPort) (s : State) (h : (portOf p s).link = false) : canSend p s = false := by simp [canSend, h]

theorem canReceive_down (p : NetPort) (s : State) (h : (portOf p s).link = false) (hd : (portOf p s).duplex = false) :
    canReceive p s = false := by simp [canReceive, h, hd]

theorem fcDuplex_ne (p : NetPort) : fcDuplex p ≠ fcEvtLost := by cases p <;> decide
theorem fcDown_ne (p : NetPort) : fcDown p ≠ fcEvtLost := by cases p <;> decide

/-- A cleared fault of the ports, which are no class H, is gone. -/
theorem hasFault_clear_self (code : BitVec 16) (s : State) (h : code ≠ fcEvtLost) (cls : faultClass code ≠ .h)
    (live : tableStill s = false) : hasFault (clearFault code 0 s) code 0 = false := by
  rw [hasFault_clearFault _ _ _ _ _ h]; simp [live, cls]

/-- It stays gone as another one clears. -/
theorem hasFault_clear_other (code c : BitVec 16) (s : State) (h : c ≠ fcEvtLost) (none : hasFault s c 0 = false) :
    hasFault (clearFault code 0 s) c 0 = false := by
  rw [hasFault_clearFault _ _ _ _ _ h, none, Bool.false_and]

/-! ## ARP -/

/-- A number that stands between others. -/
theorem beAt_of {m pre post : List Byte} {k n v : Nat} (h : m = pre ++ be n v ++ post) (hk : pre.length = k) :
    beAt m k n = v % 256 ^ n := by
  subst h hk; exact beAt_be pre post n v

/-- Bytes that stand between others. -/
theorem take_drop_of {m pre x post : List Byte} {k n : Nat} (h : m = pre ++ x ++ post) (hk : pre.length = k) (hn : x.length = n) :
    (m.drop k).take n = x := by
  subst h hk hn
  rw [List.append_assoc, List.drop_left, List.take_left]

@[simp] theorem macOf_length (p : NetPort) (s : State) : (macOf p s).length = 6 := by cases p <;> simp [macOf, slateBytes]

/-- The answer to an ARP request. -/
def arpAnswer (p : NetPort) (sha : BitVec 48) (spa ip : W32) (s : State) : List Byte :=
  ethFrame p sha.toNat 0x0806 (be 2 1 ++ be 2 0x0800 ++ be 1 6 ++ be 1 4 ++ be 2 2 ++ macOf p s ++ be 4 ip.toNat ++ be 6 sha.toNat
    ++ be 4 spa.toNat) s

/-- The first 20 bytes of the answer: the Ethernet header and the kinds and lengths of the addresses. -/
def arpHead (p : NetPort) (sha : BitVec 48) (s : State) : List Byte :=
  be 6 sha.toNat ++ macOf p s ++ be 2 0x0806 ++ (be 2 1 ++ be 2 0x0800 ++ be 1 6 ++ be 1 4)

theorem arpHead_length (p : NetPort) (sha : BitVec 48) (s : State) : (arpHead p sha s).length = 20 := by simp [arpHead]

/-- The operation and the four addresses follow it. -/
theorem arpAnswer_eq (p : NetPort) (sha : BitVec 48) (spa ip : W32) (s : State) :
    arpAnswer p sha spa ip s =
      arpHead p sha s ++ be 2 2 ++ macOf p s ++ be 4 ip.toNat ++ be 6 sha.toNat ++ be 4 spa.toNat := by
  simp only [arpAnswer, arpHead, ethFrame, List.append_assoc]

/-- The fields of the answer. -/
theorem arpAnswer_fields (p : NetPort) (sha : BitVec 48) (spa ip : W32) (s : State) :
    let m := arpAnswer p sha spa ip s
    m.length = 42 ∧ beAt m 0 6 = sha.toNat ∧ (m.drop 6).take 6 = macOf p s ∧ beAt m 12 2 = 0x0806 ∧ beAt m 20 2 = 2 ∧
      (m.drop 22).take 6 = macOf p s ∧ beAt m 28 4 = ip.toNat ∧ beAt m 32 6 = sha.toNat ∧ beAt m 38 4 = spa.toNat := by
  intro m
  have asker : sha.toNat % 256 ^ 6 = sha.toNat := Nat.mod_eq_of_lt sha.isLt
  have own : ip.toNat % 256 ^ 4 = ip.toNat := Nat.mod_eq_of_lt ip.isLt
  have theirs : spa.toNat % 256 ^ 4 = spa.toNat := Nat.mod_eq_of_lt spa.isLt
  have e : m = arpHead p sha s ++ be 2 2 ++ macOf p s ++ be 4 ip.toNat ++ be 6 sha.toNat ++ be 4 spa.toNat := arpAnswer_eq p sha spa ip s
  obtain ⟨data, start⟩ : ∃ data, m = be 6 sha.toNat ++ macOf p s ++ be 2 0x0806 ++ data := ⟨_, rfl⟩
  refine ⟨by simp [e, arpHead_length], ?_, ?_, ?_, ?_, ?_, ?_, ?_, ?_⟩
  · exact (beAt_of (pre := []) (by simpa using start) rfl).trans asker
  · exact take_drop_of (post := be 2 0x0806 ++ data) (by simpa using start) (be_length _ _) (macOf_length p s)
  · exact beAt_of start (by simp)
  · exact beAt_of (pre := arpHead p sha s) (post := macOf p s ++ (be 4 ip.toNat ++ (be 6 sha.toNat ++ be 4 spa.toNat))) (by simpa using e) (arpHead_length p sha s)
  · exact take_drop_of (pre := arpHead p sha s ++ be 2 2) (post := be 4 ip.toNat ++ (be 6 sha.toNat ++ be 4 spa.toNat)) (by simpa using e) (by simp [arpHead_length])
      (macOf_length p s)
  · exact (beAt_of (pre := arpHead p sha s ++ be 2 2 ++ macOf p s) (post := be 6 sha.toNat ++ be 4 spa.toNat) (by simpa using e) (by simp [arpHead_length])).trans own
  · exact (beAt_of e (by simp [arpHead_length])).trans asker
  · exact (beAt_of (pre := arpHead p sha s ++ be 2 2 ++ macOf p s ++ be 4 ip.toNat ++ be 6 sha.toNat) (post := []) (by simpa using e) (by simp [arpHead_length])).trans theirs

theorem exec_arpRequest_own {s : State} {p : NetPort} (sha : BitVec 48) (spa ip : W32) (can : canSend p s = true)
    (h : ipOf s.active.image p = some ip.toNat) :
    exec (.arpRequest p ip sha spa) s =
      .next (setPort p { portOf p s with sent := (portOf p s).sent ++ [arpAnswer p sha spa ip s] } s) := by
  show execArpRequest p ip s sha spa = _
  simp [execArpRequest, h, can, sendOn, arpAnswer]

theorem exec_arpRequest_other {s : State} {p : NetPort} (sha : BitVec 48) (spa ip : W32) (h : ipOf s.active.image p ≠ some ip.toNat) :
    exec (.arpRequest p ip sha spa) s = .next s := by
  show execArpRequest p ip s sha spa = _
  unfold execArpRequest
  split
  · next a ha =>
    have other : (a == ip.toNat) = false := beq_eq_false_iff_ne.2 fun e => h (by rw [ha, e])
    simp [other]
  · rfl

end Sys2Proof.Proofs
end

section
/-! PROOF. Phase 3 and the network statement (R23, R201, R202, R208, R210, R211, R217). -/

namespace Sys2Proof.Proofs

open Sys2Proof Sys2Proof.Machine Sys2Proof.Safety Sys2Proof.Laws

/-! ## What the ends of a phase 3 leave -/

/-- What the faults, the cascade, Gable's refresh and the split leave of a state: time and mode, the field side, the ports and the Ridge
channel. -/
def phase3View (s : State) : (Tick × Mode) × (LaneFc × LaneFc × FieldSt) × (PortSt × PortSt) × Chan :=
  ((s.tick, s.mode), (s.laneP, s.laneT, s.field), (s.portA, s.portB), s.ridge)

@[simp] theorem phase3View_raise (code : BitVec 16) (n : Nat) (s : State) : phase3View (raise code n s) = phase3View s := by
  simp [phase3View]

@[simp] theorem phase3View_clearFault (code : BitVec 16) (n : Nat) (s : State) : phase3View (clearFault code n s) = phase3View s := by
  simp [phase3View]

@[simp] theorem phase3View_setFault (b : Bool) (code : BitVec 16) (n : Nat) (s : State) : phase3View (setFault b code n s) = phase3View s := by
  unfold setFault; split <;> simp

@[simp] theorem phase3View_logEvent (code : BitVec 16) (l : List Byte) (s : State) : phase3View (logEvent code l s) = phase3View s := by
  simp [phase3View]

@[simp] theorem phase3View_finish (code : BitVec 16) (r : Req) (level : BitVec 2) (a : Answer) (s : State) :
    phase3View (finish code r level a s) = phase3View s := by simp [phase3View]

@[simp] theorem phase3View_connClears (k : Nat) (n : Conn) (s : State) : phase3View (connClears k n s) = phase3View s := by
  unfold connClears; dsimp only; (repeat' split) <;> simp

@[simp] theorem phase3View_connSync (k : Nat) (r : Conn × List (BitVec 16)) (s : State) : phase3View (connSync k r s) = phase3View s := by
  unfold connSync
  rw [foldl_keeps phase3View (fun t f => raise f k t) fun t f => phase3View_raise f k t]
  exact phase3View_connClears k r.1 s

@[simp] theorem phase3View_phase3Faults (cfg : Config.Image) (q : Phase3) (s : State) :
    phase3View (phase3Faults cfg q s) = phase3View s := by
  unfold phase3Faults
  dsimp only
  split
  · rfl
  · apply foldl_keeps phase3View
    exact fun t k => phase3View_connSync _ _ t

@[simp] theorem phase3View_casFaults (m : Nat) (s : State) : phase3View (casFaults m s) = phase3View s := by
  have agree (x : Member) (run : Nat) (code : BitVec 16) (t : State) : phase3View (agreeFault x run code m t) = phase3View t := by
    unfold agreeFault; split <;> simp
  unfold casFaults
  split
  · rfl
  · dsimp only
    split <;> simp [agree]

@[simp] theorem phase3View_casLead (m : Fin 8) (s : State) : phase3View (casLead m s) = phase3View s := by
  have time (t : State) : phase3View (timeFaults t) = phase3View t := by
    unfold timeFaults; (repeat' split) <;> simp
  have start (l : List Byte) : phase3View (logEvent 0xE00C l { s with cas := { s.cas with leader := some m } }) = phase3View s :=
    (phase3View_logEvent _ _ _).trans rfl
  unfold casLead
  split
  · rfl
  · dsimp only
    split
    · rw [time, phase3View_clearFault]; exact start _
    · exact start _

@[simp] theorem phase3View_casStep (s : State) : phase3View (casStep s) = phase3View s := by
  have elect (t : State) : phase3View (casElect t) = phase3View t := by unfold casElect; split <;> simp
  have block (t : State) : phase3View (casBlock t) = phase3View t := by
    unfold casBlock
    generalize casBlocked t = b
    split <;> rfl
  unfold casStep
  split
  · rfl
  · rw [block, elect]
    exact foldl_keeps phase3View (fun u m => casFaults m u) (fun t m => phase3View_casFaults m t) _ s

@[simp] theorem phase3View_gableRefresh (s : State) : phase3View (gableRefresh s) = phase3View s := by
  have refreshed (h : HostIf) (m : Mirror) : phase3View { s with host := h, mirror := m } = phase3View s := rfl
  unfold gableRefresh
  split
  · rfl
  · generalize modStatFields s = w
    dsimp only
    split
    · exact refreshed _ _
    · exact refreshed _ _

@[simp] theorem phase3View_splitEnd (s : State) : phase3View (splitEnd s) = phase3View s := by
  have answered (a : Answer) (t : State) : phase3View (splitAnswer a t) = phase3View t := by
    unfold splitAnswer; split
    · dsimp only; split
      · rw [phase3View_finish]; rfl
      · rfl
    · rfl
  have load (t : State) : phase3View (splitLoad t) = phase3View t := by unfold splitLoad; rw [answered]; rfl
  have data (t : State) : phase3View (joinData t) = phase3View t := by
    unfold joinData; dsimp only; split
    · rw [phase3View_raise]; rfl
    · rfl
  unfold splitEnd
  split
  · rfl
  · dsimp only
    (repeat' split)
    · exact load s
    · rfl
    · rfl
    · rfl
    · exact data s
    · rfl

/-! ## The hand-over -/

/-- What a port sends of a hand-over. -/
theorem produce_sent (cfg : Config.Image) (s : State) :
    (produce cfg s).portA.sent = (if canSend .a s then handOver cfg .a s s.ridge else []) ∧
      (produce cfg s).portB.sent = (if canSend .b s then handOver cfg .b s s.thatch else []) := ⟨rfl, rfl⟩

/-- The hand-over is a matter of the ports and of the sequence numbers. -/
theorem produce_keeps (cfg : Config.Image) (s : State) :
    (produce cfg s).tick = s.tick ∧ (produce cfg s).mode = s.mode ∧ (produce cfg s).laneP = s.laneP ∧
      (produce cfg s).laneT = s.laneT ∧ (produce cfg s).field = s.field ∧ (produce cfg s).ridge = seqUp cfg s s.ridge := by
  simp [produce, setPort]

theorem seqUp_frozen (cfg : Config.Image) (s : State) (c : Chan) : (seqUp cfg s c).frozen = c.frozen := by
  unfold seqUp; split <;> rfl

/-- Outside a cascade no copy is held. -/
theorem casHeld_none (cfg : Config.Image) (q : Phase3) (c : Chan) (h : member cfg = false) : casHeld cfg q c = [] := by
  simp [casHeld, casOther, h]

/-- A running channel outside a cascade leaves no copy in its buffer. -/
theorem phase3Chan_buf (cfg cas : Config.Image) (q : Phase3) (s : State) (c : Chan) (live : c.frozen = false) (h : member cas = false) :
    (phase3Chan cfg cas q s c).buf = [] := by
  unfold phase3Chan
  rw [if_neg (by simp [live])]
  exact casHeld_none cas q c h

/-- The state as phase 3 starts. -/
def phase3Begun (s : State) : State :=
  { s with tick := { s.tick with phase3 := true }, ridge := atPhase3 s.ridge, thatch := atPhase3 s.thatch }

/-- The state with the telegrams handed over and taken, before the cascade. -/
def phase3Taken (s : State) : State :=
  let u := phase3Faults (evalCfg s) (phase3Of s) (produce (evalCfg s) (phase3Begun s))
  { u with
    ridge := phase3Chan (evalCfg s) s.active.image (phase3Of s) u u.ridge
    thatch := phase3Chan (evalCfg s) s.active.image (phase3Of s) u u.thatch }

theorem exec_phase3Start_due {s : State} (h : phase3Due s = true) :
    exec .phase3Start s = .next (splitEnd (gableRefresh (casStep (phase3Taken s)))) := by
  show execPhase3Start s = _
  rw [execPhase3Start, if_neg (by simp [h])]
  rfl

theorem exec_phase3Start_early {s : State} (h : phase3Due s = false) : exec .phase3Start s = .next s := by
  show execPhase3Start s = _
  simp [execPhase3Start, h]

/-- What stands after a phase 3. -/
theorem phase3_result (s : State) :
    let t := splitEnd (gableRefresh (casStep (phase3Taken s)))
    let u := phase3Faults (evalCfg s) (phase3Of s) (produce (evalCfg s) (phase3Begun s))
    phase3View t = ((({ s.tick with phase3 := true } : Tick), s.mode), (s.laneP, s.laneT, s.field),
      ((produce (evalCfg s) (phase3Begun s)).portA, (produce (evalCfg s) (phase3Begun s)).portB),
      phase3Chan (evalCfg s) s.active.image (phase3Of s) u (seqUp (evalCfg s) (phase3Begun s) (atPhase3 s.ridge))) := by
  intro t u
  have faults : phase3View u = phase3View (produce (evalCfg s) (phase3Begun s)) := phase3View_phase3Faults _ _ _
  obtain ⟨tick, mode, laneP, laneT, field, ridge⟩ := produce_keeps (evalCfg s) (phase3Begun s)
  simp only [phase3View, Prod.mk.injEq, tick, mode, laneP, laneT, field, ridge] at faults
  obtain ⟨⟨tick, mode⟩, ⟨laneP, laneT, field⟩, ⟨portA, portB⟩, ridge⟩ := faults
  have taken : phase3View t = phase3View (phase3Taken s) := by simp [t]
  rw [taken]
  show ((u.tick, u.mode), (u.laneP, u.laneT, u.field), (u.portA, u.portB), phase3Chan _ _ _ u u.ridge) = _
  rw [tick, mode, laneP, laneT, field, portA, portB, ridge]
  rfl

/-! ## A link that has come -/

/-- Of the faults and events beside it a link's own port and power stand as they were set. -/
theorem exec_linkUp_set {s : State} {p : NetPort} (d : Bool) (on : portPowered p s = true) :
    ∃ t, exec (.linkUp p d) s = .next t ∧ portOf p t = { portOf p s with link := d, duplex := !d } ∧ t.pwr = s.pwr ∧
      (p = .a → t.portB = (linkSet p d (!d) s).portB) ∧ (p = .b → t.portA = (linkSet p d (!d) s).portA) := by
  cases d with
  | true =>
    rw [exec_linkUp_full on]
    exact ⟨_, rfl, by simp, by simp, fun _ => by simp, fun _ => by simp⟩
  | false =>
    obtain ⟨t, up, rfl | rfl⟩ := exec_linkUp_half on
    · exact ⟨_, up, by simp, by simp, fun _ => by simp, fun _ => by simp⟩
    · refine ⟨_, up, by simp, by simp, fun h => ?_, fun h => ?_⟩
      · subst h; simp [netEvent]
      · subst h; simp [netEvent]

/-- A half-duplex one raises LINK_DUPLEX. -/
theorem exec_linkUp_half_fault {s : State} {p : NetPort} (on : portPowered p s = true) (live : tableStill s = false) :
    ∃ t, exec (.linkUp p false) s = .next t ∧ hasFault t (fcDuplex p) 0 = true := by
  have raised := hasFault_raise_self (fcDuplex p) (clearFault (fcDown p) 0 (linkSet p false true s)) (fcDuplex_ne p) (by simpa using live)
  obtain ⟨t, up, rfl | rfl⟩ := exec_linkUp_half on
  · exact ⟨_, up, raised⟩
  · exact ⟨_, up, (hasFault_netEvent _ _ _ _ _).trans raised⟩

/-! ## The statement -/

/-- Settles O51: phase 3, then received copies, the MAC, the links and ARP. -/
theorem networkPortsAndPhase3 : Obligations.NetworkPortsAndPhase3 := by
  unfold Obligations.NetworkPortsAndPhase3
  refine ⟨fun s due => ?_, fun s early => exec_phase3Start_early early, fun s p h f b proto rx rcv run mac tg crc room => ?_,
    fun s p h f b proto rx rcv run mac tg no => ?_, fun s p h f rx no => exec_copyReceive_none rx no, fun s p f good rcv => ?_,
    fun s p f => macAccepts_bad p f s, fun s p f good off => exec_netFrameReceive_off f good off, fun s p on live _ => ?_,
    fun s p d on => ?_, fun s p on live => ?_, fun s p off => ⟨exec_linkUp_off true off, exec_linkUp_off false off, exec_linkDown_off off⟩,
    fun s p sha spa ip can own => ?_, fun s p sha spa ip other => exec_arpRequest_other sha spa ip other⟩
  · rw [exec_phase3Start_due due]
    have result := phase3_result s
    dsimp only at result
    generalize splitEnd (gableRefresh (casStep (phase3Taken s))) = t at result
    simp only [phase3View, Prod.mk.injEq] at result
    obtain ⟨⟨tick, mode⟩, ⟨laneP, laneT, field⟩, ⟨portA, portB⟩, ridge⟩ := result
    obtain ⟨sentA, sentB⟩ := produce_sent (evalCfg s) (phase3Begun s)
    have begun : ({ s with tick := t.tick, ridge := atPhase3 s.ridge, thatch := atPhase3 s.thatch } : State) = phase3Begun s := by
      rw [tick]; rfl
    refine ⟨t, rfl, by rw [tick], by rw [tick], by rw [tick], mode, laneP, laneT, field, fun runs alone => ?_, fun can _ => ?_,
      fun can _ => ?_, fun no => ?_, fun no => ?_⟩
    · rw [ridge]
      exact phase3Chan_buf _ _ _ _ _ (by rw [seqUp_frozen]; exact runs) alone
    · rw [begun, portA, sentA]; exact if_pos can
    · rw [begun, portB, sentB]; exact if_pos can
    · rw [portA, sentA]; exact if_neg (by rw [show canSend .a (phase3Begun s) = canSend .a s from rfl, no]; decide)
    · rw [portB, sentB]; exact if_neg (by rw [show canSend .b (phase3Begun s) = canSend .b s from rfl, no]; decide)
  · rw [exec_copyReceive_taken rx rcv run mac tg crc ((bufRoom_iff p s).2 room)]
    exact ⟨_, rfl, rfl, rfl, rfl⟩
  · have full : bufRoom p s = false ∨ preCheckOff p s = false ∧ preCheck1 (evalCfg s) s.active.image p proto b = false :=
      no.imp_left fun many => Bool.eq_false_iff.2 fun room => absurd ((bufRoom_iff p s).1 room) (by omega)
    rw [exec_copyReceive_dropped rx rcv run mac tg full]
    obtain ⟨ridge, thatch⟩ := setPort_chans p { portOf p s with dropCnt := count32 (portOf p s).dropCnt } s
    exact ⟨_, rfl, by rw [frameDropped, portOf_setPort], ridge, thatch, setPort_frame _ _ s⟩
  · rw [exec_netFrameReceive_on f good rcv]
    refine ⟨_, rfl, ?_, ?_, setPort_frame _ _ s⟩
    · rw [portOf_setPort]; split <;> rfl
    · rw [portOf_setPort]; split <;> rfl
  · rw [exec_linkUp_full on]
    obtain ⟨mode, ridge, thatch⟩ := linkSet_chans p true false s
    have down : hasFault (clearFault (fcDown p) 0 (linkSet p true false s)) (fcDown p) 0 = false :=
      hasFault_clear_self _ _ (fcDown_ne p) (by cases p <;> decide) (by simpa using live)
    refine ⟨_, rfl, by simp, by simp, hasFault_clear_other _ _ _ (fcDown_ne p) down,
      hasFault_clear_self _ _ (fcDuplex_ne p) (by cases p <;> decide) (by simpa using live), by simp, ?_, ?_, ?_⟩
    · simp [mode]
    · simp [ridge]
    · simp [thatch]
  · obtain ⟨otherB, otherA⟩ := linkSet_other p d (!d) s
    obtain ⟨downB, downA⟩ := linkSet_other p false false s
    obtain ⟨t, up, port, pwr, portB, portA⟩ := exec_linkUp_set d on
    rw [exec_linkDown_on on]
    refine ⟨t, _, up, rfl, ?_, ?_, by simp, by simp, pwr, by simp, fun h => ⟨(portB h).trans (otherB h), ?_⟩,
      fun h => ⟨(portA h).trans (otherA h), ?_⟩⟩
    · rw [port]
    · rw [port]
    · simpa using downB h
    · simpa using downA h
  · obtain ⟨t, up, port, -, -, -⟩ := exec_linkUp_set false on
    obtain ⟨t', up', fault⟩ := exec_linkUp_half_fault on live
    obtain rfl : t = t' := Host.Outcome.next.inj (up.symm.trans up')
    rw [exec_linkDown_on on]
    exact ⟨t, _, up, rfl, fault, canSend_down p t (by rw [port]), hasFault_raise_self _ _ (fcDown_ne p) (by simpa using live),
      canSend_down p _ (by simp), canReceive_down p _ (by simp) (by simp)⟩
  · rw [exec_arpRequest_own sha spa ip can own]
    exact ⟨_, rfl, ⟨_, by rw [portOf_setPort], arpAnswer_fields p sha spa ip s⟩, setPort_frame _ _ s⟩

end Sys2Proof.Proofs
end

section
/-! PROOF. The tick boundary statement (R22 to R24, R275) is refuted by a state that holds a fault under a class not its own. -/

namespace Sys2Proof.Proofs

open Sys2Proof Sys2Proof.Machine Sys2Proof.Safety Sys2Proof.Laws

/-- CONFIGURE under an Integrate session of USB, one tick before a boundary at which the clock steps down to 300 MHz; the fault table
lists TICK_GEN_MISMATCH already, but as class P and not as the class H that it has. -/
def shedInConfigure : State :=
  { State.reset with
    mode := .configure
    tb := { State.reset.tb with count := 100000000000 }
    tick := { State.reset.tick with sel := 2, running := true, began := true, boundary := 99999900000, pendClk := some .c300 }
    gable := { State.reset.gable with up := true, usbAttached := true, usb := { State.reset.gable.usb with level := 2 } }
    gableE := { State.reset.gableE with up := true }
    pwr := { State.reset.pwr with aoOn := true, domains := 0x3FF, vbatNow := 3000, lplus := 24000 }
    faults := [{ code := fcTickGenMismatch, arg := 0, cls := .p, warning := false, time := 0 }] }

/-- Is TICK_GEN_MISMATCH present once an instruction has taken effect? -/
def mismatchAfter (o : Host.Outcome State Fault Refusal) : Bool :=
  match o with
  | .next t => hasFault t fcTickGenMismatch 0
  | _ => false

/-- The boundary of `shedInConfigure`, 30 000 Thatch cycles after the last one, is one that the statement's second clause speaks of. -/
theorem shedInConfigure_outside :
    boundaryDue shedInConfigure = true ∧ shedInConfigure.pwr.domains.getLsbD 6 = true ∧ tableStill shedInConfigure = false ∧
      cyclesInside shedInConfigure 30000 = false := by decide +kernel

/-- The step down sheds USB, whose session owns CONFIGURE: the restart that follows drops what is listed as class P. -/
theorem shedInConfigure_mismatch : mismatchAfter (exec (.tickBoundary 30000) shedInConfigure) = false := by decide +kernel

/-- Refutes O38: a TICK_GEN_MISMATCH that a state lists as class P is not raised again by the measurement of the boundary, and goes with
the restart into SELFTEST that the shedding of USB at the same boundary brings about (R256, R280, R315). -/
theorem not_tickBoundaries : ¬ Obligations.TickBoundaries := by
  unfold Obligations.TickBoundaries
  rintro ⟨-, mismatch, -⟩
  obtain ⟨due, thatchOn, live, outside⟩ := shedInConfigure_outside
  obtain ⟨t, ht, present⟩ := mismatch shedInConfigure 30000 due rfl rfl rfl thatchOn live outside
  have absent := shedInConfigure_mismatch
  rw [ht] at absent
  exact Bool.false_ne_true (absent.symm.trans present)

end Sys2Proof.Proofs
end

section
/-! PROOF. Squall throttling and the ride-through (R27, R315 to R317). -/

namespace Sys2Proof.Proofs

open Sys2Proof Sys2Proof.Machine Sys2Proof.Safety Sys2Proof.Laws

/-! ## The monitors and their readings -/

/-- The monitors act: AO runs out of reset, no shutdown has started, and the fault table moves. -/
theorem parts_of_squallActs {s : State} (h : squallActs s = true) :
    s.pwr.aoOn = true ∧ s.pwr.shutdown = none ∧ tableStill s = false := by
  simp only [squallActs, Bool.and_eq_true, Bool.not_eq_true', Option.isNone_iff_eq_none] at h
  obtain ⟨⟨⟨on, held⟩, sd⟩, mode⟩ := h
  exact ⟨on, sd, by simp [tableStill, held]; simpa using mode⟩

theorem lplusSeen_on (mv : Nat) {s : State} (on : s.pwr.aoOn = true) : lplusSeen mv s = lplusAt mv s := if_pos on

/-- A reading outside a ride-through and a shutdown: HOLD follows it down to 16.0 V. -/
theorem lplusAt_calm (mv : Nat) {s : State} (ride : s.pwr.ride = none) (sd : s.pwr.shutdown = none) :
    lplusAt mv s = { s with pwr := { s.pwr with
      lplus := mv, hold := if mv < 16000 then max s.pwr.hold (mv - 400) else mv - 400 } } := by
  simp [lplusAt, ride, sd]

theorem lplusSeen_calm (mv : Nat) {s : State} (acts : squallActs s = true) (ride : s.pwr.ride = none) :
    lplusSeen mv s = { s with pwr := { s.pwr with
      lplus := mv, hold := if mv < 16000 then max s.pwr.hold (mv - 400) else mv - 400 } } := by
  obtain ⟨on, sd, -⟩ := parts_of_squallActs acts
  rw [lplusSeen_on mv on, lplusAt_calm mv ride sd]

/-- A reading at or above 16.0 V. -/
theorem lplusSeen_high {mv : Nat} {s : State} (acts : squallActs s = true) (ride : s.pwr.ride = none) (high : 16000 ≤ mv) :
    lplusSeen mv s = { s with pwr := { s.pwr with lplus := mv, hold := mv - 400 } } := by
  rw [lplusSeen_calm mv acts ride, if_neg (Nat.not_lt.2 high)]

/-! ## Shedding USB -/

/-- May USB be shed without a restart into SELFTEST: its session does not own the mode, or a shutdown has started and no change of mode is
wished for? -/
def shedsAlone (s : State) : Prop := ownsMode s = false ∨ s.want = none ∧ s.pwr.shutdown ≠ none

theorem lowerSession_alone (p : Port) (level : BitVec 2) {s : State} (h : shedsAlone s) :
    lowerSession p level s = setSession p { sessionOf p s with level := level, service := false, unsetOnly := false } s := by
  have same (x : Session) : (setSession p x s).pwr = s.pwr ∧ (setSession p x s).mode = s.mode := by cases p <;> exact ⟨rfl, rfl⟩
  unfold lowerSession
  dsimp only
  split
  · next owns =>
    simp only [Bool.and_eq_true] at owns
    obtain ⟨-, owns⟩ := owns
    rcases h with none | ⟨want, sd⟩
    · exact absurd (owns.symm.trans none) (by decide)
    · have own : s.mode ∈ [Mode.configure, .verify, .service] := by simpa [ownsMode, want] using owns
      rw [if_pos own, restartSelftest, (same _).1, if_pos (by simp [Option.isSome_iff_ne_none.2 sd])]
  · rfl

/-- The end of a request leaves the attachment of USB. -/
theorem settleMbx_usbAttached (p : Port) (s : State) : (settleMbx p s).gable.usbAttached = s.gable.usbAttached := by
  have post (p : Port) (m : List Byte) (st : Byte) (t : State) : (postRsp p m st t).gable.usbAttached = t.gable.usbAttached := by
    cases p <;> rfl
  have keep (p : Port) (k : Kept) (t : State) : (keepRsp p k t).gable.usbAttached = t.gable.usbAttached := by cases p <;> rfl
  have one (code : BitVec 16) (r : Req) (l : BitVec 2) (a : Answer) (t : State) :
      (finishOne code r l a t).gable.usbAttached = t.gable.usbAttached := by
    simp only [finishOne, keep, post, dequeue]
    split <;> simp
  unfold settleMbx
  split
  · split
    · unfold takeNow
      dsimp only
      (repeat' split) <;> simp [replyOnly, post, one]
    · rfl
  · rfl

/-- What shedding USB leaves as it is. -/
theorem usbOff_frame {s : State} (h : shedsAlone s) :
    (usbOff s).gable.usbAttached = false ∧ (usbOff s).mode = s.mode ∧ (usbOff s).tb = s.tb ∧ (usbOff s).tick = s.tick ∧
      (usbOff s).pwr = s.pwr ∧ (usbOff s).ev = s.ev ∧ (usbOff s).ridge = s.ridge ∧ (usbOff s).thatch = s.thatch ∧
      (usbOff s).faults = s.faults ∧ (usbOff s).unlisted = s.unlisted ∧ (usbOff s).active = s.active ∧ (usbOff s).want = s.want ∧
      (usbOff s).restart = s.restart ∧ (usbOff s).pair = s.pair := by
  rw [usbOff, lowerSession_alone .usb 0 h]
  simp [settleMbx_usbAttached, setSession]

theorem hasFault_usbOff {s : State} (h : shedsAlone s) (code : BitVec 16) (o : Nat) : hasFault (usbOff s) code o = hasFault s code o := by
  obtain ⟨-, -, -, -, -, -, -, -, faults, unlisted, -⟩ := usbOff_frame h
  exact hasFault_congr faults unlisted code o

/-! ## The clock steps -/

/-- While ticks run, a clock step waits for phase 0. -/
theorem setStep_running (c : ClkStep) {s : State} (run : s.tick.running = true) :
    setStep c s = { s with tick := { s.tick with pendClk := some c } } := if_pos run

theorem setStep_stopped (c : ClkStep) {s : State} (stop : s.tick.running = false) : setStep c s = clkTo c s := by simp [setStep, stop]

/-- The floor lies below 18.5 V (Table 14.2). -/
theorem stepOf_floor (mv : Nat) : (stepOf mv == .c200) = decide (mv < 18500) := by
  unfold stepOf
  split
  · exact (decide_eq_false (by omega)).symm
  · split
    · exact (decide_eq_false (by omega)).symm
    · exact (decide_eq_true (by omega)).symm

/-- LPLUS_LOW is raised and USB gone before the other services are shed. -/
theorem shedDown_parts (c : ClkStep) {s : State} (own : ownsMode s = false) (live : tableStill s = false) :
    ∃ u, shedDown c s = { u with pwr := shedFor c u.pwr, ev := { u.ev with pwr := setBit u.ev.pwr 3 true } } ∧
      hasFault u fcLplusLow 0 = true ∧ u.gable.usbAttached = false ∧ u.pwr = s.pwr ∧ u.tick = s.tick ∧ u.mode = s.mode ∧
      u.tb = s.tb ∧ u.ridge = s.ridge ∧ u.thatch = s.thatch := by
  have raised := hasFault_raise_self fcLplusLow s (by decide) live
  have alone : shedsAlone (raise fcLplusLow 0 s) := .inl (by simpa [ownsMode] using own)
  refine ⟨_, rfl, ?_⟩
  split
  · obtain ⟨usb, mode, tb, tick, pwr, -, ridge, thatch, -⟩ := usbOff_frame alone
    rw [hasFault_usbOff alone, mode, tb, tick, pwr, ridge, thatch]
    exact ⟨raised, usb, by simp⟩
  · next off => exact ⟨raised, by simpa using off, by simp⟩

/-- The services shed at a lower clock step: USB with its port, LPLUS_LOW, the event mailbox, and mirror and W reports as the step
says. -/
theorem shedDown_frame (c : ClkStep) {s : State} (own : ownsMode s = false) (live : tableStill s = false) :
    hasFault (shedDown c s) fcLplusLow 0 = true ∧ (shedDown c s).gable.usbAttached = false ∧
      (shedDown c s).ev.pwr.getLsbD 3 = true ∧ (shedDown c s).pwr = shedFor c s.pwr ∧ (shedDown c s).tick = s.tick ∧
      (shedDown c s).mode = s.mode ∧ (shedDown c s).tb = s.tb ∧ (shedDown c s).ridge = s.ridge ∧ (shedDown c s).thatch = s.thatch := by
  obtain ⟨u, eq, fault, usb, pwr, rest⟩ := shedDown_parts c own live
  rw [eq, ← pwr]
  exact ⟨fault, usb, setBit_self _ 3 true (by decide), rfl, rest⟩

/-- A step down sheds the services. -/
theorem clkTo_sheds {c : ClkStep} {s : State} (down : s.tick.clk.num < c.num) (own : ownsMode s = false) (live : tableStill s = false) :
    hasFault (clkTo c s) fcLplusLow 0 = true ∧ (clkTo c s).gable.usbAttached = false ∧
      (clkTo c s).ev.pwr.getLsbD 3 = true ∧ (clkTo c s).pwr = shedFor c s.pwr ∧
      (clkTo c s).tick = { s.tick with clk := c, pendClk := none } ∧
      (clkTo c s).mode = s.mode ∧ (clkTo c s).tb = s.tb ∧ (clkTo c s).ridge = s.ridge ∧ (clkTo c s).thatch = s.thatch := by
  have shed : clkTo c s = shedDown c { s with tick := { s.tick with clk := c, pendClk := none } } := if_pos down
  rw [shed]
  exact shedDown_frame c own live

/-- The floor, taken or asked for. -/
theorem setStep_floor {s : State} (own : ownsMode s = false) (live : tableStill s = false) :
    nowStep (setStep .c200 s) = .c200 ∧ (setStep .c200 s).mode = s.mode ∧ (setStep .c200 s).tb = s.tb ∧
      (setStep .c200 s).ridge = s.ridge ∧ (setStep .c200 s).thatch = s.thatch ∧ (setStep .c200 s).pwr.ride = s.pwr.ride ∧
      (setStep .c200 s).pwr.lplus = s.pwr.lplus ∧ (setStep .c200 s).pwr.hold = s.pwr.hold := by
  cases run : s.tick.running with
  | true => rw [setStep_running _ run]; exact ⟨rfl, rfl, rfl, rfl, rfl, rfl, rfl, rfl⟩
  | false =>
    rw [setStep_stopped _ run]
    by_cases down : s.tick.clk.num < ClkStep.c200.num
    · obtain ⟨-, -, -, pwr, tick, mode, tb, ridge, thatch⟩ := clkTo_sheds down own live
      rw [nowStep, tick, pwr, mode, tb, ridge, thatch]
      exact ⟨rfl, rfl, rfl, rfl, rfl, rfl, rfl, rfl⟩
    · have lowest : ¬ ClkStep.c200.num < s.tick.clk.num := by cases s.tick.clk <;> decide
      rw [clkTo, if_neg down, if_neg lowest]
      exact ⟨rfl, rfl, rfl, rfl, rfl, rfl, rfl, rfl⟩

/-! ## Steps down and up -/

/-- Three samples below the threshold of a lower step ask for it. -/
theorem execSquallStepDown_asks (mv : Vector Nat 3) {s : State} (acts : squallActs s = true)
    (lower : (nowStep s).num < (stepOf (max mv[0] (max mv[1] mv[2]))).num) :
    exec (.squallStepDown mv) s = .next (setStep (stepOf (max mv[0] (max mv[1] mv[2])))
      { lplusSeen mv[2] s with pwr := { (lplusSeen mv[2] s).pwr with lowAt := some s.tb.count } }) :=
  if_pos (by simp [acts, most3, lower])

theorem after100ms_of {x : Option W64} {s : State}
    (h : x = none ∨ ∃ t, x = some t ∧ t.toNat + 10000000 ≤ s.tb.count.toNat) : after100ms x s = true := by
  rcases h with rfl | ⟨t, rfl, late⟩
  · rfl
  · exact decide_eq_true late

/-- A step up is asked for once 100 ms have passed at its level. -/
theorem execSquallStepUp_asks {mv least level : Nat} {c : ClkStep} {s : State} (acts : squallActs s = true) (ride : s.pwr.ride = none)
    (above : stepAbove (nowStep s) = some (c, level)) (enough : level ≤ min mv least) (up : after100ms s.pwr.lastUp s = true)
    (low : after100ms s.pwr.lowAt s = true) :
    exec (.squallStepUp mv least) s = .next (setStep c
      { lplusSeen mv s with pwr := { (lplusSeen mv s).pwr with lastUp := some s.tb.count } }) := by
  change (match stepAbove (nowStep s) with | some x => _ | none => _) = _
  rw [above]
  exact if_pos (by simp only [acts, ride, up, low, decide_eq_true enough]; rfl)

/-- Too low a level, or a step less than 100 ms ago: the reading alone is taken. -/
theorem execSquallStepUp_waits (mv least : Nat) (s : State)
    (h : nowStep s = .c200 ∧ min mv least < 19000 ∨ nowStep s = .c300 ∧ min mv least < 20500 ∨
      ∃ x, s.pwr.lastUp = some x ∧ s.tb.count.toNat < x.toNat + 10000000) :
    exec (.squallStepUp mv least) s = .next (lplusSeen mv s) := by
  change execSquallStepUp mv least s = _
  unfold execSquallStepUp
  rcases h with ⟨now, low⟩ | ⟨now, low⟩ | ⟨x, last, early⟩
  · rw [now]; exact if_neg (by simp [Nat.not_le.2 low])
  · rw [now]; exact if_neg (by simp [Nat.not_le.2 low])
  · have not100 : after100ms s.pwr.lastUp s = false := by rw [last]; exact decide_eq_false (Nat.not_le.2 early)
    dsimp only
    split
    · exact if_neg (by simp [not100])
    · rfl

/-! ## The ride-through -/

/-- Three samples below 16.0 V: the module runs from HOLD at the floor. -/
theorem execRideThroughStart_low (mv : Vector Nat 3) {s : State} (acts : squallActs s = true) (own : ownsMode s = false)
    (low0 : mv[0] < 16000) (low1 : mv[1] < 16000) (low2 : mv[2] < 16000) (ride : s.pwr.ride = none) :
    ∃ t, exec (.rideThroughStart mv) s = .next t ∧ t.pwr.ride = some s.tb.count ∧ t.pwr.lplus = mv[2] ∧
      t.pwr.hold = max s.pwr.hold (mv[2] - 400) ∧ nowStep t = .c200 ∧
      t.mode = s.mode ∧ t.tb = s.tb ∧ t.ridge = s.ridge ∧ t.thatch = s.thatch := by
  obtain ⟨-, -, live⟩ := parts_of_squallActs acts
  refine ⟨_, if_pos (by simp [acts, most3, low0, low1, low2, ride]), ?_⟩
  rw [lplusSeen_calm mv[2] acts ride, if_pos low2]
  split
  · next floor => exact ⟨rfl, rfl, rfl, floor, rfl, rfl, rfl, rfl⟩
  · obtain ⟨now, mode, tb, ridge, thatch, since, lplus, hold⟩ := setStep_floor
      (s := { s with pwr := { s.pwr with
        lplus := mv[2], hold := max s.pwr.hold (mv[2] - 400), ride := some s.tb.count, lowAt := some s.tb.count } }) own live
    exact ⟨since, lplus, hold, now, mode, tb, ridge, thatch⟩

/-- Three samples at or above 16.5 V end it, and leave clock and services. -/
theorem execRideThroughEnd_high (mv : Vector Nat 3) {s : State} {x : W64} (acts : squallActs s = true) (high0 : 16500 ≤ mv[0])
    (high1 : 16500 ≤ mv[1]) (high2 : 16500 ≤ mv[2]) (ride : s.pwr.ride = some x) :
    exec (.rideThroughEnd mv) s = .next { s with
      pwr := { s.pwr with lplus := mv[2], hold := mv[2] - 400, ride := none, lastUp := some s.tb.count }
      ev := { s.ev with pwr := s.ev.pwr ||| 2 } } := by
  obtain ⟨-, sd, -⟩ := parts_of_squallActs acts
  change execRideThroughEnd mv s = _
  rw [execRideThroughEnd, if_pos (by simp [acts, least3, high0, high1, high2, ride]), lplusAt_calm mv[2] (by rfl) (by exact sd),
    if_neg (by omega)]
  rfl

/-- A step down at once, while no tick runs. -/
theorem execSquallStepDown_stopped (mv : Vector Nat 3) {s : State} (acts : squallActs s = true) (stop : s.tick.running = false)
    (pend : s.tick.pendClk = none) (own : ownsMode s = false)
    (lower : s.tick.clk.num < (stepOf (max mv[0] (max mv[1] mv[2]))).num) :
    ∃ t, exec (.squallStepDown mv) s = .next t ∧ t.tick.clk = stepOf (max mv[0] (max mv[1] mv[2])) ∧ t.tick.pendClk = none ∧
      hasFault t fcLplusLow 0 = true ∧ t.pwr.lplus = mv[2] ∧ t.pwr.shedUsb = true ∧ t.pwr.shedEvt = true ∧
      t.pwr.shedMirror = decide (max mv[0] (max mv[1] mv[2]) < 18500) ∧
      t.pwr.shedWrep = decide (max mv[0] (max mv[1] mv[2]) < 18500) ∧ t.gable.usbAttached = false ∧ t.ev.pwr.getLsbD 3 = true ∧
      t.mode = s.mode ∧ t.tb = s.tb ∧ t.ridge = s.ridge ∧ t.thatch = s.thatch := by
  obtain ⟨on, -, live⟩ := parts_of_squallActs acts
  have now : nowStep s = s.tick.clk := by rw [nowStep, pend]; rfl
  have shed := stepOf_floor (max mv[0] (max mv[1] mv[2]))
  refine ⟨_, execSquallStepDown_asks mv acts (by rw [now]; exact lower), ?_⟩
  rw [lplusSeen_on mv[2] on]
  generalize stepOf (max mv[0] (max mv[1] mv[2])) = c at *
  have not400 : (c != .c400) = true := bne_iff_ne.2 fun top => Nat.not_lt_zero _ (top ▸ lower)
  rw [setStep_stopped c (by exact stop)]
  obtain ⟨fault, usb, ev, pwr, tick, mode, tb, ridge, thatch⟩ := clkTo_sheds
    (s := { lplusAt mv[2] s with pwr := { (lplusAt mv[2] s).pwr with lowAt := some s.tb.count } }) lower own live
  rw [pwr, tick, mode, tb, ridge, thatch]
  exact ⟨rfl, rfl, fault, rfl, not400, not400, shed, shed, usb, ev, rfl, rfl, rfl, rfl⟩

end Sys2Proof.Proofs
end

section
/-! PROOF. The ordered shutdown, the power-on reset behind it, and the statement of the supply (R317, R318, Table 14.3). -/

namespace Sys2Proof.Proofs

open Sys2Proof Sys2Proof.Machine Sys2Proof.Safety Sys2Proof.Laws

/-! ## The start of the shutdown -/

/-- The shutdown starts in a ride-through, at 13.0 V or after 50 ms. -/
theorem execOrderedShutdown_starts {mv hold : Nat} {s : State} {x : W64} (acts : squallActs s = true) (ride : s.pwr.ride = some x)
    (h : hold ≤ 13000 ∧ mv < 16000 ∨ x.toNat + 5000000 ≤ s.tb.count.toNat) :
    exec (.orderedShutdown mv hold) s = .next (shutdownStart mv hold s) := by
  change execOrderedShutdown mv hold s = _
  simp only [execOrderedShutdown, ride]
  refine if_pos ?_
  rw [acts, Bool.true_and, Bool.or_eq_true, Bool.and_eq_true, decide_eq_true_iff, decide_eq_true_iff]
  exact h.imp_right decide_eq_true

/-- LPLUS_SHUTDOWN is raised and USB gone before the latches are forced. -/
theorem shutdownStart_parts (mv hold : Nat) {s : State} (live : tableStill s = false) :
    ∃ u, shutdownStart mv hold s = { u with
        lockWin := none
        ridge := forceOpen u u.ridge
        thatch := forceOpen u u.thatch
        pair := { u.pair with splitReq := none }
        gable := { u.gable with queue := [], parked := none, reqBusy := false, held := none }
        pwr := { shedFor .c200 u.pwr with
          lplus := mv, hold := hold, lplusS := mv, b1 := if u.tick.running then none else some u.tb.count } } ∧
      hasFault u fcLplusShutdown 0 = true ∧ u.pwr.shutdown = some s.tb.count ∧ u.active = s.active ∧ u.restart = none ∧
      u.want = none ∧ u.mode = s.mode ∧ u.tb = s.tb := by
  have raised := hasFault_raise_self fcLplusShutdown s (by decide) live
  refine ⟨_, rfl, ?_⟩
  generalize ht : irqSet 8 (raise fcLplusShutdown 0 s) = t
  have fault : hasFault t fcLplusShutdown 0 = true := by rw [← ht]; exact raised
  have kept : t.active = s.active ∧ t.mode = s.mode ∧ t.tb = s.tb := by rw [← ht]; simp
  obtain ⟨active, mode, tb⟩ := kept
  have alone : shedsAlone { t with restart := none, want := none, pwr := { t.pwr with shutdown := some t.tb.count } } :=
    .inr ⟨rfl, nofun⟩
  obtain ⟨-, mode', tb', -, pwr', -, -, -, -, -, active', want', restart', -⟩ := usbOff_frame alone
  rw [hasFault_usbOff alone, mode', tb', pwr', active', want', restart']
  exact ⟨fault, by rw [← tb], active, rfl, rfl, mode, tb⟩

/-- Every set-point of a forced latch is the alarm code of its channel. -/
theorem forceOpen_setpt (s : State) (c : Chan) (n : Fin 8) :
    (forceOpen s c).latch.setpt[n] = alarmCode (lookN s.active.image .uacMode n 0 0) := by
  simp [forceOpen, forceLatch, alarmSetpts]

/-- Instant s of an ordered shutdown. -/
theorem shutdownStart_forces (mv hold : Nat) {s : State} (live : tableStill s = false) :
    let t := shutdownStart mv hold s
    t.pwr.shutdown = some s.tb.count ∧ t.pwr.lplus = mv ∧ t.pwr.hold = hold ∧
      hasFault t fcLplusShutdown 0 = true ∧ t.ridge.latch.cmds = 0 ∧ t.thatch.latch.cmds = 0 ∧
      (∀ n : Fin 8, t.ridge.latch.setpt[n] = alarmCode (lookN s.active.image .uacMode n 0 0) ∧
        t.thatch.latch.setpt[n] = alarmCode (lookN s.active.image .uacMode n 0 0)) ∧
      t.ridge.forced = true ∧ t.thatch.forced = true ∧ t.restart = none ∧ t.want = none ∧ t.gable.reqBusy = false ∧
      t.gable.queue = [] ∧ t.pwr.shedUsb = true ∧ t.pwr.shedEvt = true ∧ t.pwr.shedMirror = true ∧ t.pwr.shedWrep = true ∧
      t.mode = s.mode ∧ t.tb = s.tb := by
  dsimp only
  obtain ⟨u, eq, fault, start, active, restart, want, mode, tb⟩ := shutdownStart_parts mv hold live
  rw [eq, ← active]
  exact ⟨start, rfl, rfl, fault, rfl, rfl, fun n => ⟨forceOpen_setpt u _ n, forceOpen_setpt u _ n⟩, rfl, rfl, restart, want, rfl,
    rfl, rfl, rfl, rfl, rfl, mode, tb⟩

/-! ## The instants of Table 14.3 -/

/-- A clock of the shutdown: the clock of the timebase, then the step that falls on it. -/
theorem step_shutdown {s : State} (q : s.pending = []) : step s = .next (shutdownClock (clockTick s)) := by rw [step, q]; rfl

/-- What the shutdown looks at after the clock of the timebase. -/
theorem clockTick_supply {s : State} (on : s.pwr.aoOn = true) :
    (clockTick s).pwr = s.pwr ∧ (clockTick s).tb.count = s.tb.count + 1 ∧ (clockTick s).bk = rtcClock s.bk := by
  obtain ⟨b, u, eq, rfl, -⟩ := clockTick_on on
  rw [eq]
  simp

/-- Before its end the shutdown follows its instants after b1 and after s. -/
theorem shutdownClock_running {t : State} {x : W64} (sd : t.pwr.shutdown = some x) (done : t.pwr.doneAt = none) :
    shutdownClock t =
      if standsAt t t.pwr.b1 (100 * tUs) then fieldOff t
      else if standsAt t t.pwr.b1 (150 * tUs) then channelsOff t
      else if standsAt t t.pwr.b1 (200 * tUs) then networksOff t
      else if standsAt t t.pwr.b1 (6 * tMs) then shutdownLog t
      else if standsAt t t.pwr.shutdown (10 * tMs) then shutdownDone t
      else t := by
  simp [shutdownClock, sd, lplusBack, done]

theorem standsAt_b1 {t : State} {b : W64} (b1 : t.pwr.b1 = some b) {k : Nat} (now : t.tb.count.toNat = b.toNat + k) (n : Nat) :
    standsAt t t.pwr.b1 n = decide (k = n) := by
  rw [b1]
  exact (congrArg (· == b.toNat + n) now).trans (decide_eq_decide.2 Nat.add_left_cancel_iff)

section b1

variable {t : State} {x b : W64} (sd : t.pwr.shutdown = some x) (done : t.pwr.doneAt = none) (b1 : t.pwr.b1 = some b)
include sd done b1

theorem shutdownClock_fieldOff (now : t.tb.count.toNat = b.toNat + 10000) : shutdownClock t = fieldOff t := by
  simp only [shutdownClock_running sd done, standsAt_b1 b1 now]; rfl

theorem shutdownClock_channelsOff (now : t.tb.count.toNat = b.toNat + 15000) : shutdownClock t = channelsOff t := by
  simp only [shutdownClock_running sd done, standsAt_b1 b1 now]; rfl

theorem shutdownClock_networksOff (now : t.tb.count.toNat = b.toNat + 20000) : shutdownClock t = networksOff t := by
  simp only [shutdownClock_running sd done, standsAt_b1 b1 now]; rfl

theorem shutdownClock_log (now : t.tb.count.toNat = b.toNat + 600000) : shutdownClock t = shutdownLog t := by
  simp only [shutdownClock_running sd done, standsAt_b1 b1 now]; rfl

end b1

/-- 10 ms after s, where no instant after b1 falls on the same clock. -/
theorem shutdownClock_done {t : State} {x : W64} (sd : t.pwr.shutdown = some x) (done : t.pwr.doneAt = none)
    (other : ∀ b, t.pwr.b1 = some b → t.tb.count.toNat ∉ [b.toNat + 10000, b.toNat + 15000, b.toNat + 20000, b.toNat + 600000])
    (now : t.tb.count.toNat = x.toNat + 1000000) : shutdownClock t = shutdownDone t := by
  have last : standsAt t t.pwr.shutdown (10 * tMs) = true := by rw [sd]; exact beq_iff_eq.2 now
  have apart (n : Nat) (hn : n ∈ [10000, 15000, 20000, 600000]) : standsAt t t.pwr.b1 n = false := by
    cases h : t.pwr.b1 with
    | none => rfl
    | some b =>
      refine beq_eq_false_iff_ne.2 fun same => other b h ?_
      rw [same]
      simpa using hn
  rw [shutdownClock_running sd done, apart _ (by decide), apart _ (by decide), apart _ (by decide), apart _ (by decide), last]
  rfl

/-! ## What each instant does -/

theorem networksOff_dark (s : State) : (networksOff s).n0.up = false ∧ (networksOff s).n1.up = false ∧
    (networksOff s).portA.link = false ∧ (networksOff s).portB.link = false ∧
    (networksOff s).pwr.domains = s.pwr.domains &&& 0x3E7 := ⟨rfl, rfl, rfl, rfl, rfl⟩

/-- The log entry raises NEXT_COUNT, and the snapshot stands in BK. -/
theorem shutdownLog_snapshot {s : State} (up : s.gable.up = true) (w : s.w.up = true) :
    (shutdownLog s).bk.nextCount = s.bk.nextCount + 1 ∧ (shutdownLog s).bk.hasSnap = true ∧
      (shutdownLog s).bk.snapDt = s.wth.dt ∧ (shutdownLog s).bk.snapGen = s.active.gen := by
  have log : shutdownLog s = { logNext (evFields 0xE004 (be 2 (s.pwr.lplusS / 50))) s with
      bk := snapshotBk (logNext (evFields 0xE004 (be 2 (s.pwr.lplusS / 50))) s) } := by
    unfold shutdownLog; dsimp only; rw [if_pos up]; exact if_pos w
  rw [log]
  refine ⟨?_, rfl, rfl, rfl⟩
  exact BitVec.eq_of_toNat_eq (by simp [snapshotBk, logNext, logAppend])

/-- Gable, once stopped, does not serve. -/
theorem setGableUp_false (s : State) : (setGableUp false s).gable.up = false := by
  unfold setGableUp; split
  · assumption
  · rfl

/-- The mode is the one that was set. -/
theorem setMode_mode (m : Mode) (s : State) : (setMode m s).mode = m := by
  unfold setMode
  split
  · assumption
  · dsimp only
    split <;> simp [setLockFlag]

/-- A change of mode lets Gable serve as before. -/
theorem setMode_up (m : Mode) (s : State) : (setMode m s).gable.up = s.gable.up := by
  unfold setMode
  split
  · rfl
  · dsimp only
    split <;> simp [setLockFlag, postEvent_up]

/-- The end of the shutdown: the module at rest. -/
theorem shutdownDone_rests (s : State) :
    (shutdownDone s).mode = (if 1800 ≤ s.pwr.vbatNow then .backup else .off) ∧ (shutdownDone s).gable.up = false ∧
      (shutdownDone s).w.up = false ∧ (shutdownDone s).pwr.domains = 0x300 ∧ (shutdownDone s).pwr.doneAt = some s.tb.count := by
  have stop (t : State) : (setGableUp false t).pwr = t.pwr ∧ (setGableUp false t).w = t.w ∧ (setGableUp false t).tb = t.tb := by
    unfold setGableUp; split <;> exact ⟨rfl, rfl, rfl⟩
  unfold shutdownDone
  generalize hg : setGableUp false { s with gableE := { s.gableE with up := false }, w := { s.w with up := false } } = g
  obtain ⟨pwr, w, tb⟩ : g.pwr = s.pwr ∧ g.w.up = false ∧ g.tb = s.tb := by
    obtain ⟨pwr, w, tb⟩ := stop { s with gableE := { s.gableE with up := false }, w := { s.w with up := false } }
    rw [← hg, pwr, w, tb]; exact ⟨rfl, rfl, rfl⟩
  have down : g.gable.up = false := by rw [← hg]; exact setGableUp_false _
  dsimp only
  rw [setMode_mode, setMode_up, restMode, pwr]
  exact ⟨rfl, down, by simp [w], rfl, by simp [tb]⟩

/-! ## AO in reset -/

/-- L+ returned after the end: AO holds itself in reset for 10 ms. -/
theorem shutdownClock_aoReset {t : State} {x d : W64} (sd : t.pwr.shutdown = some x) (done : t.pwr.doneAt = some d)
    (on : t.pwr.aoOn = true) (back : 16500 ≤ t.pwr.lplus) : shutdownClock t = aoReset t := by
  simp [shutdownClock, sd, lplusBack, done, on, back]

theorem aoReset_boot (s : State) : (aoReset s).pwr.aoOn = false ∧ (aoReset s).mode = .boot ∧ (aoReset s).bootStep = 1 ∧
    (aoReset s).pwr.aoHold = 1000000 ∧ (aoReset s).pwr.lplus = s.pwr.lplus ∧ (aoReset s).laneP.resetLevel = true ∧
    (aoReset s).laneT.resetLevel = true ∧ (aoReset s).flash = s.flash ∧ (aoReset s).bk = s.bk :=
  ⟨rfl, rfl, rfl, rfl, rfl, rfl, rfl, rfl, rfl⟩

/-- What a power-on reset without L+ leaves. -/
theorem powerOff_rests (s : State) : (powerOff false s).mode = restMode s ∧ (powerOff false s).pwr.aoOn = false ∧
    (powerOff false s).laneP.resetLevel = true ∧ (powerOff false s).laneT.resetLevel = true ∧
    (powerOff false s).gable.up = false ∧ (powerOff false s).faults = [] ∧ (powerOff false s).flash = s.flash ∧
    (powerOff false s).slate.cells = s.slate.cells ∧
    (powerOff false s).bk = if 1800 ≤ s.pwr.vbatNow then s.bk else { s.bk with valid := false } := by
  refine ⟨rfl, rfl, rfl, rfl, rfl, rfl, rfl, rfl, ?_⟩
  by_cases h : 1800 ≤ s.pwr.vbatNow <;> simp [powerOff, h]

/-- HOLD falls to 9.0 V: the reserve of the shutdown is stored, and BK is kept while VBAT holds. -/
theorem execHoldPowerOnReset_falls {hold : Nat} {s : State} (on : s.pwr.aoOn = true) (low : hold ≤ 9000) :
    ∃ t, exec (.holdPowerOnReset hold) s = .next t ∧ t.mode = (if 1800 ≤ s.pwr.vbatNow then .backup else .off) ∧
      t.pwr.aoOn = false ∧ t.laneP.resetLevel = true ∧ t.laneT.resetLevel = true ∧ t.gable.up = false ∧ t.faults = [] ∧
      t.flash = s.flash ∧ t.slate.cells = s.slate.cells ∧
      (1800 ≤ s.pwr.vbatNow → { t.bk with reserve := s.bk.reserve, hasReserve := s.bk.hasReserve } = s.bk) ∧
      (∀ x, s.pwr.shutdown = some x → t.bk.hasReserve = true ∧
        t.bk.reserve = BitVec.ofNat 16 (min 65535 ((s.tb.count.toNat - x.toNat) / 10000))) ∧
      (s.pwr.vbatNow < 1800 → t.bk.valid = false) := by
  refine ⟨_, if_pos (by simp [on, low]), ?_⟩
  obtain ⟨mode, ao, laneP, laneT, up, faults, flash, cells, bk⟩ := powerOff_rests
    { s with bk := { s.bk with reserve := reserveOf s, hasReserve := s.bk.hasReserve || s.pwr.shutdown.isSome } }
  refine ⟨mode, ao, laneP, laneT, up, faults, flash, cells, fun kept => ?_, fun x sd => ?_, fun gone => ?_⟩
  · rw [bk, if_pos (by exact kept)]
  · rw [bk]
    have reserve : reserveOf s = BitVec.ofNat 16 (min 65535 ((s.tb.count.toNat - x.toNat) / 10000)) := by
      rw [reserveOf, sd]; rfl
    split <;> exact ⟨by simp [sd], reserve⟩
  · rw [bk, if_neg (by exact Nat.not_le.2 gone)]

/-! ## The statement -/

/-- Settles O33: throttling and ride-through by what a clock step sheds, the shutdown clock by clock along Table 14.3. -/
theorem supplySteps : Obligations.SupplySteps := by
  unfold Obligations.SupplySteps
  refine ⟨fun s mv acts run ride lower => ?_,
    fun s mv acts stop pend own lower => execSquallStepDown_stopped mv acts stop pend own lower,
    fun s mv least acts ride run up low => ⟨fun now enough => ?_, fun now enough => ?_⟩,
    fun s mv least acts ride h => ?_,
    fun s mv acts own low0 low1 low2 ride => execRideThroughStart_low mv acts own low0 low1 low2 ride,
    fun s mv x acts high0 high1 high2 ride => execRideThroughEnd_high mv acts high0 high1 high2 ride,
    fun s mv hold x acts ride h => ?_,
    fun s x b q on sd b1 done => ?_,
    fun s x q on sd done other now => ?_,
    fun s x d q on sd done back => ?_,
    fun s hold on low => execHoldPowerOnReset_falls on low,
    fun s hold high => if_neg (by simp [Nat.not_le.2 high])⟩
  · rw [execSquallStepDown_asks mv acts lower, lplusSeen_calm mv[2] acts ride, setStep_running _ (by exact run)]
  · have above : stepAbove (nowStep s) = some (.c300, 19000) := by rw [now]; rfl
    rw [execSquallStepUp_asks acts ride above enough (after100ms_of up) (after100ms_of low),
      lplusSeen_high acts ride (by omega), setStep_running _ (by exact run)]
  · have above : stepAbove (nowStep s) = some (.c400, 20500) := by rw [now]; rfl
    rw [execSquallStepUp_asks acts ride above enough (after100ms_of up) (after100ms_of low),
      lplusSeen_high acts ride (by omega), setStep_running _ (by exact run)]
  · rw [execSquallStepUp_waits mv least s h, lplusSeen_calm mv acts ride]
  · obtain ⟨-, -, live⟩ := parts_of_squallActs acts
    exact ⟨_, execOrderedShutdown_starts acts ride h, shutdownStart_forces mv hold live⟩
  · obtain ⟨pwr, count, bk⟩ := clockTick_supply on
    rw [← pwr] at sd b1 done
    rw [← count, step_shutdown q]
    refine ⟨fun now => ⟨_, rfl, ?_⟩, fun now => ⟨_, rfl, ?_⟩, fun now => ⟨_, rfl, ?_⟩, fun now up w => ⟨_, rfl, ?_⟩⟩
    · rw [shutdownClock_fieldOff sd done b1 now, ← pwr]; exact ⟨rfl, rfl, rfl⟩
    · rw [shutdownClock_channelsOff sd done b1 now, ← pwr]; exact ⟨rfl, rfl⟩
    · rw [shutdownClock_networksOff sd done b1 now, ← pwr]; exact networksOff_dark _
    · rw [shutdownClock_log sd done b1 now]
      obtain ⟨next, has, dt, gen⟩ := shutdownLog_snapshot (s := clockTick s) (by simpa using up) (by simpa using w)
      have same : (rtcClock s.bk).nextCount = s.bk.nextCount := by unfold rtcClock; split <;> rfl
      exact ⟨by rw [next, bk, same], has, by simpa using dt, by simpa using gen⟩
  · obtain ⟨pwr, count, -⟩ := clockTick_supply on
    rw [← pwr] at sd done other ⊢
    rw [← count] at other now ⊢
    refine ⟨_, step_shutdown q, ?_⟩
    rw [shutdownClock_done sd done other now]
    exact shutdownDone_rests _
  · obtain ⟨pwr, -, bk⟩ := clockTick_supply on
    rw [← pwr] at sd done on back ⊢
    refine ⟨_, step_shutdown q, ?_⟩
    rw [shutdownClock_aoReset sd done on back, ← bk]
    obtain ⟨ao, mode, boot, held, lplus, laneP, laneT, flash, kept⟩ := aoReset_boot (clockTick s)
    exact ⟨ao, mode, boot, held, lplus, laneP, laneT, by simpa using flash, kept⟩

end Sys2Proof.Proofs
end

section
/-! PROOF. Filters, bands and field supplies: what stands on their counts (R60, R75, R77, R79, R136). -/

namespace Sys2Proof.Proofs

open Sys2Proof Sys2Proof.Machine Sys2Proof.Laws

/-! ## One element of a vector -/

theorem getElem_vmod_self {α : Type} {n : Nat} (v : Vector α n) (i : Fin n) (f : α → α) : (vmod v i.val f)[i] = f v[i] := by
  simp [vmod]

theorem getElem_vmod_ne {α : Type} {n : Nat} (v : Vector α n) (i j : Fin n) (f : α → α) (h : j ≠ i) : (vmod v i.val f)[j] = v[j] := by
  simp [vmod, Fin.val_ne_of_ne h.symm]

/-- A fault raised at an object while the table moves is present there. -/
theorem hasFault_raise_at {code : BitVec 16} {n : Nat} {s : State} (h : code ≠ fcEvtLost) (live : tableStill s = false)
    (fits : n < 65536) : hasFault (raise code n s) code n = true := by
  simp [hasFault_raise _ _ _ _ _ h, live, Nat.mod_eq_of_lt fits]

/-! ## The commands -/

theorem exec_filterAccept (n : Fin 48) (s : State) : exec (.filterAccept n) s =
    .next (if s.field.inp[n].cand != s.field.inp[n].filt && filterTicks s.laneP n.val < s.field.inp[n].cnt then
      inpUpd n.val (fun y => { y with filt := y.cand, cnt := 0 }) s else s) :=
  (apply_ite Host.Outcome.next ..).symm

/-- A band that is due is reported. -/
theorem exec_bandReport_due {n : Fin 48} {s : State} {b : BitVec 2} (h : bandDue s.laneP n.val s.field.inp[n] = some b) :
    exec (.bandReport n) s = .next (inpUpd n.val (fun y => { y with band := some b }) s) := by
  change execBandReport n s = _
  unfold execBandReport
  split <;> simp_all

theorem exec_inputViewMismatch (n : Fin 48) (s : State) : exec (.inputViewMismatch n) s =
    .next (if 80 ≤ s.field.inp[n].disagree then raise fcInputViewMismatch n.val s else s) :=
  (apply_ite Host.Outcome.next ..).symm

theorem exec_inputMeasFault (n : Fin 48) (s : State) : exec (.inputMeasFault n) s =
    .next (if bandTicks s.laneP n.val + 1 < s.field.inp[n].onBreak then raise fcInputMeasFault n.val s else s) :=
  (apply_ite Host.Outcome.next ..).symm

theorem exec_supplyViewMismatch (k : Fin 7) (s : State) : exec (.supplyViewMismatch k) s =
    .next (if 80 ≤ s.field.sup[k].diff then raise fcSupplyViewMismatch k.val s else s) :=
  (apply_ite Host.Outcome.next ..).symm

theorem exec_supplyLost (k : Fin 7) (s : State) : exec (.supplyLost k) s =
    .next (if s.field.sup[k].st = 2 && 34 ≤ s.field.sup[k].dip then
      supUpd k.val (fun x => { x with st := 3, dip := 0, good := 0 }) s else s) :=
  (apply_ite Host.Outcome.next ..).symm

theorem exec_supplyRecovered (k : Fin 7) (s : State) : exec (.supplyRecovered k) s =
    .next (if s.field.sup[k].st = 3 && 1601 ≤ s.field.sup[k].good then
      supUpd k.val (fun x => { x with st := 0, good := 0 }) s else s) :=
  (apply_ite Host.Outcome.next ..).symm

/-! ## Bands -/

/-- A band candidate that has stood for longer than the band time is due, unless OFF in CLOSED has run (R77). -/
theorem bandDue_candidate {l : LaneFc} {n : Nat} {x : InFc} {b : BitVec 2} (cand : x.bandCand = some b) (calm : x.offClosed = 0)
    (long : bandTicks l n < x.bandCnt) : bandDue l n x = some b := by
  simp [bandDue, cand, calm, long]

/-- OFF in CLOSED for longer than the band time is INDETERMINATE (R79). -/
theorem bandDue_offClosed {l : LaneFc} {n : Nat} {x : InFc} (long : bandTicks l n + 1 < x.offClosed) : bandDue l n x = some 3 := by
  simp [bandDue, long]

/-! ## One input, one supply -/

theorem inpUpd_self (n : Fin 48) (g : InFc → InFc) (s : State) : (inpUpd n.val g s).field.inp[n] = g s.field.inp[n] :=
  getElem_vmod_self ..

theorem inpUpd_frame (n : Fin 48) (g : InFc → InFc) (s : State) :
    (∀ m : Fin 48, m ≠ n → (inpUpd n.val g s).field.inp[m] = s.field.inp[m]) ∧
      { inpUpd n.val g s with field := { (inpUpd n.val g s).field with inp := s.field.inp } } = s :=
  ⟨fun m h => getElem_vmod_ne _ n m g h, rfl⟩

theorem supUpd_self (k : Fin 7) (g : Supply → Supply) (s : State) : (supUpd k.val g s).field.sup[k] = g s.field.sup[k] :=
  getElem_vmod_self ..

theorem supUpd_frame (k : Fin 7) (g : Supply → Supply) (s : State) :
    (∀ j : Fin 7, j ≠ k → (supUpd k.val g s).field.sup[j] = s.field.sup[j]) ∧
      { supUpd k.val g s with field := { (supUpd k.val g s).field with sup := s.field.sup } } = s :=
  ⟨fun j h => getElem_vmod_ne _ k j g h, rfl⟩

/-- Settles O44: each command by the count that it waits for, reached or not. -/
theorem filtersBandsAndSupplies : Obligations.FiltersBandsAndSupplies := by
  unfold Obligations.FiltersBandsAndSupplies
  refine ⟨fun s n new long => ?_, fun s n short => ?_, fun s n b cand calm long => ?_, fun s n long => ?_, fun s n long live => ?_,
    fun s n long live => ?_, fun s n short => ?_, fun s k dip long => ?_, fun s k lost long => ?_, fun s k long live => ?_,
    fun s k short => ?_, fun s k short => ?_⟩
  · have acts : (s.field.inp[n].cand != s.field.inp[n].filt && decide (filterTicks s.laneP n.val < s.field.inp[n].cnt)) = true := by
      rw [Bool.and_eq_true, decide_eq_true_eq, bne_iff_ne]; exact ⟨new, long⟩
    obtain ⟨others, frame⟩ := inpUpd_frame n (fun y => { y with filt := y.cand, cnt := 0 }) s
    refine ⟨_, (exec_filterAccept n s).trans (by rw [if_pos acts]), ?_, ?_, others, frame⟩ <;> rw [inpUpd_self]
  · have early : ¬ filterTicks s.laneP n.val < s.field.inp[n].cnt := Nat.not_lt.2 short
    rw [exec_filterAccept, decide_eq_false early, Bool.and_false, if_neg Bool.false_ne_true]
  · obtain ⟨others, frame⟩ := inpUpd_frame n (fun y => { y with band := some b }) s
    refine ⟨_, exec_bandReport_due (bandDue_candidate cand calm long), ?_, others, frame⟩
    rw [inpUpd_self]
  · refine ⟨_, exec_bandReport_due (bandDue_offClosed long), ?_⟩
    rw [inpUpd_self]
  · exact ⟨_, (exec_inputViewMismatch n s).trans (by rw [if_pos long]), hasFault_raise_at (by decide) live (by omega), by simp⟩
  · exact ⟨_, (exec_inputMeasFault n s).trans (by rw [if_pos (by exact long)]), hasFault_raise_at (by decide) live (by omega), by simp⟩
  · rw [exec_inputViewMismatch, if_neg (by omega)]
  · obtain ⟨others, frame⟩ := supUpd_frame k (fun x => { x with st := 3, dip := 0, good := 0 }) s
    refine ⟨_, (exec_supplyLost k s).trans (by rw [if_pos (by simpa using ⟨dip, long⟩)]), ?_, others, frame⟩
    rw [supUpd_self]
  · obtain ⟨others, frame⟩ := supUpd_frame k (fun x => { x with st := 0, good := 0 }) s
    refine ⟨_, (exec_supplyRecovered k s).trans (by rw [if_pos (by simpa using ⟨lost, long⟩)]), ?_, others, frame⟩
    rw [supUpd_self]
  · exact ⟨_, (exec_supplyViewMismatch k s).trans (by rw [if_pos long]), hasFault_raise_at (by decide) live (by omega)⟩
  · rw [exec_supplyLost, if_neg (by simpa using fun _ => short)]
  · rw [exec_supplyRecovered, if_neg (by simpa using fun _ => short)]

end Sys2Proof.Proofs
end

section
/-! PROOF. One 16 kHz sample of the field side: comparators, filter counts, sense cells and supplies (R60, R73 to R77, R95, R130). -/

namespace Sys2Proof.Proofs

open Sys2Proof Sys2Proof.Machine Sys2Proof.Laws

/-! ## One input -/

/-- What a filter sees of an input: its comparators, the state that is being counted, the settled state and the reported band. -/
def filterView (x : InFc) : (Bool × Bool) × (Bool × Nat) × (Bool × Option (BitVec 2)) :=
  ((x.cmpP, x.cmpT), (x.cand, x.cnt), (x.filt, x.band))

@[simp] theorem filterView_disagreeStep (agree : Bool) (x : InFc) : filterView (disagreeStep agree x) = filterView x := by
  unfold disagreeStep; (repeat' split) <;> rfl

@[simp] theorem filterView_bandStep (mode : Nat) (agree raw : Bool) (b : Option (BitVec 2)) (x : InFc) :
    filterView (bandStep mode agree raw b x) = filterView x := rfl

/-- The filter count moves the candidate and its count, by what it sees of the input alone (R75, R76). -/
theorem filterView_filterStep (counts raw : Bool) (x : InFc) : filterView (filterStep counts raw x) =
    ((x.cmpP, x.cmpT), (if counts then (raw, if raw = x.filt then 0 else x.cnt + 1) else (x.cand, x.cnt)), (x.filt, x.band)) := by
  unfold filterStep; (repeat' split) <;> simp_all [filterView]

theorem filterView_congr {x y : InFc} (h : filterView x = filterView y) (counts raw : Bool) :
    filterView (filterStep counts raw x) = filterView (filterStep counts raw y) := by
  simp only [filterView, Prod.mk.injEq] at h
  simp [filterView_filterStep, h]

/-- The comparators of an input at a sample (R73). -/
def comparatorsAt (q : FieldSample) (n : Nat) (x : InFc) : Bool × Bool :=
  (comparator x.cmpP (vget q.landP n 0), comparator x.cmpT (vget q.landT n 0))

theorem comparator_on {was : Bool} {mv : Nat} (h : 10000 ≤ mv) : comparator was mv = true := by simp [comparator, h]

theorem comparator_off {was : Bool} {mv : Nat} (h : mv ≤ 7000) : comparator was mv = false := by
  simp [comparator, Nat.not_lt.2 h, show ¬ 10000 ≤ mv by omega]

section input
variable (l : LaneFc) (tpo : Vector TpoFc 16) (q : FieldSample) (n : Nat) (x : InFc)

/-- Does the filter count this sample: an input in use, whose comparators agree outside the windows of its own TPO (R74 to R76)? -/
def filterCounts : Bool :=
  fcInMode l n != 0 && (comparatorsAt q n x).1 == (comparatorsAt q n x).2 && !inOwnWindow l tpo n

variable {l tpo q n x} in
theorem filterCounts_iff {p t : Bool} (pair : (p, t) = comparatorsAt q n x) :
    filterCounts l tpo q n x = true ↔ fcInMode l n ≠ 0 ∧ p = t ∧ inOwnWindow l tpo n = false := by
  simp [filterCounts, ← pair, and_assoc]

/-- An input at a sample, as its filter sees it. -/
theorem filterView_inputStep : filterView (inputStep l tpo q n x) =
    (comparatorsAt q n x,
      (if filterCounts l tpo q n x then
        ((comparatorsAt q n x).1, if (comparatorsAt q n x).1 = x.filt then 0 else x.cnt + 1) else (x.cand, x.cnt)),
      (x.filt, x.band)) := by
  unfold inputStep filterCounts
  dsimp only
  by_cases mode : fcInMode l n = 0
  · simp [mode, filterView, comparatorsAt]
  · have used : (fcInMode l n != 0) = true := by simpa using mode
    rw [if_neg mode, used, Bool.true_and]
    split <;>
      simp only [filterView_bandStep, filterView_congr (filterView_disagreeStep _ _)] <;>
      rw [filterView_filterStep] <;> rfl

end input

/-! ## The sample -/

/-- The state after a sample, with the field side on. -/
def sampled (q : FieldSample) (s : State) : State :=
  let f := s.field
  { s with
    field := { f with
      inp := if s.laneP.resetLevel || s.laneT.resetLevel then f.inp
        else vtab 48 (fun n => inputStep s.laneP f.tpo q n (vget f.inp n InFc.reset))
      tpo := vtab 16 (fun m => { vget f.tpo m TpoFc.reset with current := vget q.tpoMa m 0, mv := vget q.tpoMv m 0 })
      sup := vtab 7 (fun k => supplyStep (vget q.supP k 0) (vget q.supT k 0) (vget f.sup k Supply.reset))
      out := vtab 28 (fun o => outStep s.tb.count s.laneP s.laneT q o (vget f.out o OutFc.reset)) }
    laneP := laneSample q.senseP q.swP s.laneP
    laneT := laneSample q.senseT q.swT s.laneT }

theorem exec_fieldSample_on {s : State} (q : FieldSample) (on : s.pwr.domains.getLsbD 1 = true) :
    exec (.fieldSample q) s = .next (sampled q s) := if_neg (by rw [on]; decide)

theorem exec_fieldSample_off {s : State} (q : FieldSample) (off : s.pwr.domains.getLsbD 1 = false) :
    exec (.fieldSample q) s = .next s := if_pos (by rw [off]; rfl)

/-- Under the reset level of either lane the inputs stay. -/
theorem sampled_inp_reset {s : State} (q : FieldSample) (level : s.laneP.resetLevel = true ∨ s.laneT.resetLevel = true) :
    (sampled q s).field.inp = s.field.inp := if_pos (by simpa using level)

/-- Released, each input takes its step. -/
theorem sampled_inp {s : State} (q : FieldSample) (p : s.laneP.resetLevel = false) (t : s.laneT.resetLevel = false) (n : Fin 48) :
    (sampled q s).field.inp[n] = inputStep s.laneP s.field.tpo q n s.field.inp[n] := by
  have free : ¬ (s.laneP.resetLevel || s.laneT.resetLevel) = true := by simp [p, t]
  change (if _ then _ else _ : Vector InFc 48)[n] = _
  rw [if_neg free]
  simp

theorem sampled_sup (q : FieldSample) (s : State) (k : Fin 7) :
    (sampled q s).field.sup[k] = supplyStep q.supP[k] q.supT[k] s.field.sup[k] := by
  simp [sampled]

/-- A lane under the reset level takes no sample. -/
theorem laneSample_reset {l : LaneFc} (sense : Vector (BitVec 28) 2) (sw : Vector Nat 28) (h : l.resetLevel = true) :
    laneSample sense sw l = l := if_pos h

theorem laneSample_sw (sense : Vector (BitVec 28) 2) (sw : Vector Nat 28) (l : LaneFc) : (laneSample sense sw l).sw = l.sw := by
  unfold laneSample; split <;> rfl

/-- Released, a sense bit follows its two cells where they agree (R130). -/
theorem laneSample_sense {l : LaneFc} (sense : Vector (BitVec 28) 2) (sw : Vector Nat 28) (h : l.resetLevel = false) (o : Fin 28) :
    (laneSample sense sw l).sense.getLsbD o =
      if sense[0].getLsbD o = sense[1].getLsbD o then sense[0].getLsbD o else l.sense.getLsbD o := by
  unfold laneSample
  rw [if_neg (by simp [h]), getLsbD_bitsOf _ o.isLt]
  simp only [beq_iff_eq]

/-- The settled state and the reported band of an input are not the sample's to change (R75, R77; log entry 26). -/
theorem sampled_settled (q : FieldSample) (s : State) (n : Fin 48) :
    (sampled q s).field.inp[n].filt = s.field.inp[n].filt ∧ (sampled q s).field.inp[n].band = s.field.inp[n].band := by
  by_cases level : s.laneP.resetLevel = true ∨ s.laneT.resetLevel = true
  · rw [sampled_inp_reset q level]; exact ⟨rfl, rfl⟩
  · simp only [not_or, Bool.not_eq_true] at level
    have view := filterView_inputStep s.laneP s.field.tpo q n s.field.inp[n]
    simp only [filterView, Prod.mk.injEq] at view
    rw [sampled_inp q level.1 level.2]
    exact view.2.2

/-- Settles O43: the sample's own parts, then each input by what its filter sees. -/
theorem fieldSamples : Obligations.FieldSamples := by
  unfold Obligations.FieldSamples
  refine ⟨fun s q on => ⟨_, exec_fieldSample_on q on, rfl, sampled_inp_reset q, laneSample_reset _ _, laneSample_reset _ _,
    laneSample_sw .., laneSample_sw .., fun p => laneSample_sense _ _ p, sampled_settled q s, fun p t n => ?_, sampled_sup q s⟩,
    fun s q => exec_fieldSample_off q⟩
  have view := filterView_inputStep s.laneP s.field.tpo q n s.field.inp[n]
  rw [← sampled_inp q p t] at view
  generalize (sampled q s).field.inp[n] = y at view
  simp only [filterView, Prod.mk.injEq] at view
  obtain ⟨pair, count, -⟩ := view
  have cmp := pair
  simp only [comparatorsAt, vget_fin, Prod.mk.injEq] at cmp
  obtain ⟨cmpP, cmpT⟩ := cmp
  have stays (no : ¬ filterCounts s.laneP s.field.tpo q n s.field.inp[n] = true) : y.cnt = s.field.inp[n].cnt := by
    rw [if_neg no, Prod.mk.injEq] at count
    exact count.2
  rw [filterCounts_iff pair] at stays
  refine ⟨fun h => cmpP.trans (comparator_on h), fun h => cmpP.trans (comparator_off h), fun h => cmpT.trans (comparator_on h),
    fun h => cmpT.trans (comparator_off h), fun unused => stays fun c => c.1 unused, fun used => ⟨fun no => stays fun c => ?_, fun agree out => ?_⟩⟩
  · obtain ⟨-, agree, out⟩ := c
    exact no.elim (fun apart => apart agree) (fun window => by simp [window] at out)
  · rw [if_pos ((filterCounts_iff pair).2 ⟨used, agree, out⟩), Prod.mk.injEq, ← pair] at count
    exact ⟨count.2, count.1⟩

end Sys2Proof.Proofs
end

section
/-! PROOF. The cross-compare: what each channel sees of the other's record, and what it commits for it (R62, R144). -/

namespace Sys2Proof.Proofs

open Sys2Proof Sys2Proof.Machine Sys2Proof.Laws

/-! ## Records -/

/-- A record read without bit errors is the record. -/
theorem word_readRecord_clean (r : Vector W32 8) (k : Nat) (h : k < 8) : word (readRecord r 0) k = word r k := by
  simp only [readRecord]
  rw [word, vget_vtab _ _ h]
  simp

theorem recordOk_readRecord_clean (r : Vector W32 8) : recordOk (readRecord r 0) = recordOk r := by
  unfold recordOk
  rw [word_readRecord_clean r 7 (by decide)]
  congr 2
  exact List.flatMap_congr fun k hk => by rw [word_readRecord_clean r k (Nat.lt_succ_of_lt (List.mem_range.1 hk))]

/-- A channel sees no difference exactly where words 0 to 6 are equal, the RCRC verifies and the latch request is good (R62). -/
theorem fieldsOf_eq_zero_iff (own got : Vector W32 8) (bad : Bool) :
    fieldsOf own got bad = 0 ↔ (∀ k, k < 7 → word own k = word got k) ∧ recordOk got = true ∧ bad = false := by
  have bits (k : Nat) (h : k < 8) : (fieldsOf own got bad).getLsbD k =
      if k = 7 then !recordOk got || bad else word own k != word got k := getLsbD_bitsOf _ h
  constructor
  · intro zero
    rw [zero] at bits
    refine ⟨fun k hk => ?_, ?_⟩
    · have same := bits k (by omega)
      simpa [show k ≠ 7 by omega] using same
    · have good := bits 7 (by decide)
      simpa using good
  · rintro ⟨same, ok, good⟩
    refine BitVec.eq_of_getLsbD_eq fun k hk => ?_
    rw [bits k hk]
    split
    · simp [ok, good]
    · simp [same k (by omega)]

/-- A word that differs, a bad RCRC or a bad latch request is a difference. -/
theorem fieldsOf_ne_zero {own got : Vector W32 8} {bad : Bool}
    (h : (∃ k, k < 7 ∧ word own k ≠ word got k) ∨ recordOk got = false ∨ bad = true) : fieldsOf own got bad ≠ 0 := by
  rw [Ne, fieldsOf_eq_zero_iff]
  rintro ⟨same, ok, good⟩
  rcases h with ⟨k, hk, differ⟩ | crc | req
  · exact differ (same k hk)
  · simp [ok] at crc
  · simp [good] at req

/-! ## A commit -/

@[simp] theorem planMissed_latched (s : State) (cmds : BitVec 28) (c : Chan) : (planMissed s cmds c).latched = c.latched := by
  unfold planMissed; split <;> rfl

@[simp] theorem darkSent_latched (lane : Lane) (s : State) (dark : Option (Fin 28)) (c : Chan) :
    (darkSent lane s dark c).latched = c.latched := by
  cases dark <;> rfl

/-- A channel that is not forced commits its record's switches less those that its output latch holds (R144). -/
theorem commitChan_cmds {lane : Lane} {s : State} (dark : Option (Fin 28)) {c : Chan} (free : c.forced = false)
    (whole : lane = .t → s.pair.diverged = false) (o : Fin 28) :
    (commitChan lane s dark c).latch.cmds.getLsbD o =
      ((word c.record 1).getLsbD o && !(commitChan lane s dark c).latched.getLsbD o) := by
  have cmds : (commitChan lane s dark c).latch.cmds = commitCmds lane s c := by simp [commitChan, free]
  have latched : (commitChan lane s dark c).latched = c.latched := by simp [commitChan]
  have own : ¬ (lane = .t && s.pair.diverged) = true := by simpa using whole
  rw [cmds, latched, commitCmds, if_neg own]
  simp

/-! ## The exchange -/

section compare
variable (errP errT : BitVec 256) (badP badT : Bool) (s : State)

/-- The differences that the channel of a lane sees in the record and the latch request of the other (R62). -/
def seenBy (lane : Lane) : BitVec 8 :=
  match lane with
  | .p => fieldsOf s.ridge.record (readRecord s.thatch.record errT) badT
  | .t => fieldsOf s.thatch.record (readRecord s.ridge.record errP) badP

/-- Events of blocks and drop-out times aside, an evaluation leaves the state as the exchange made it (R119). -/
theorem nonSafe_keeps {β : Type} (p : State → β) (hp : ∀ t x, p { t with wth := x } = p t)
    (hv : ∀ t code, p (postEvent 3 code 0 t) = p t) : p (nonSafe s) = p s := by
  unfold nonSafe
  refine (hp _ _).trans (foldl_keeps p _ (fun t r => ?_) _ s)
  split
  · exact hv t _
  · rfl

@[simp] theorem nonSafe_chans : (nonSafe s).ridge = s.ridge ∧ (nonSafe s).thatch = s.thatch ∧ (nonSafe s).pair = s.pair ∧
    (nonSafe s).mode = s.mode := by
  have keeps := nonSafe_keeps s (fun t => (t.ridge, t.thatch, t.pair, t.mode)) (fun _ _ => rfl) (by simp)
  simpa using keeps

theorem hasFault_nonSafe (code : BitVec 16) (o : Nat) (h : code ≠ fcEvtLost) : hasFault (nonSafe s) code o = hasFault s code o :=
  nonSafe_keeps s (fun t => hasFault t code o) (fun _ _ => rfl)
    (fun t c => anyFault_postEvent 3 c 0 t _ (isFault_of_ne o h))

@[simp] theorem captureMis_chans (fp ft : BitVec 8) (p t : Vector W32 8) :
    (captureMis fp ft p t s).ridge = s.ridge ∧ (captureMis fp ft p t s).thatch = s.thatch ∧ (captureMis fp ft p t s).mode = s.mode := by
  unfold captureMis; split <;> simp

/-- The channel of a lane after the exchange: where it sees no difference, its output latch has taken the other's request (R144). -/
def exchanged (lane : Lane) : Chan :=
  if seenBy errP errT badP badT s lane = 0 then latchStep (chanOf (otherLane lane) s).latchReq (chanOf lane s) else chanOf lane s

/-- Each channel after the compare, by what it has seen itself. -/
theorem chanOf_compareStep (lane : Lane) : chanOf lane (compareStep errP errT badP badT s) =
    settle lane (seenBy errP errT badP badT s lane == 0) (darkNext lane s (exchanged errP errT badP badT s lane)) s
      (exchanged errP errT badP badT s lane) := by
  cases lane <;> simp only [chanOf, compareStep, nonSafe_chans, captureMis_chans] <;> rfl

variable {s} in
/-- The compare commits both channels. -/
theorem compareStep_committed (lane : Lane) : (chanOf lane (compareStep errP errT badP badT s)).committed = true := by
  rw [chanOf_compareStep, settle]
  split <;> rfl

variable {errP errT badP badT s}

/-- A channel that sees a difference opens its lane. -/
theorem compareStep_opens {lane : Lane} (sees : seenBy errP errT badP badT s lane ≠ 0) :
    (chanOf lane (compareStep errP errT badP badT s)).latch.cmds = 0 ∧ (chanOf lane (compareStep errP errT badP badT s)).latch.dark = 0 := by
  rw [chanOf_compareStep, settle, if_neg (by simpa using sees)]
  exact ⟨rfl, rfl⟩

/-- A channel that sees none commits its own record's switches less its output latch. -/
theorem compareStep_commits {lane : Lane} (none : seenBy errP errT badP badT s lane = 0) (free : (chanOf lane s).forced = false)
    (whole : lane = .t → s.pair.diverged = false) (o : Fin 28) :
    (chanOf lane (compareStep errP errT badP badT s)).latch.cmds.getLsbD o =
      ((word (chanOf lane s).record 1).getLsbD o && !(chanOf lane (compareStep errP errT badP badT s)).latched.getLsbD o) := by
  have taken : exchanged errP errT badP badT s lane = latchStep (chanOf (otherLane lane) s).latchReq (chanOf lane s) := if_pos none
  rw [chanOf_compareStep, settle, none, beq_self_eq_true, if_pos rfl, taken]
  exact commitChan_cmds _ (by exact free) whole o

/-- A difference that either channel sees is CROSS_MISMATCH, with both records captured as they were read (log entry 185). -/
theorem compareStep_captures {lane : Lane} (sees : seenBy errP errT badP badT s lane ≠ 0) (live : tableStill s = false) :
    hasFault (compareStep errP errT badP badT s) fcCrossMismatch 0 = true ∧
      (compareStep errP errT badP badT s).pair.xcmpTick = s.tick.count ∧
      (compareStep errP errT badP badT s).pair.xcmpP = readRecord s.ridge.record errP ∧
      (compareStep errP errT badP badT s).pair.xcmpT = readRecord s.thatch.record errT := by
  have either : ¬ (seenBy errP errT badP badT s .p ||| seenBy errP errT badP badT s .t) = 0 := by
    intro none
    obtain ⟨p, t⟩ := BitVec.or_eq_zero_iff.1 none
    cases lane
    · exact sees p
    · exact sees t
  unfold compareStep
  dsimp only
  rw [hasFault_nonSafe _ _ _ (by decide)]
  unfold captureMis
  rw [if_neg (by exact either)]
  refine ⟨hasFault_raise_self _ _ (by decide) live, ?_⟩
  simp [exchange]

/-- Where neither sees one, the mode and CROSS_MISMATCH stay. -/
theorem compareStep_agrees (p : seenBy errP errT badP badT s .p = 0) (t : seenBy errP errT badP badT s .t = 0) :
    hasFault (compareStep errP errT badP badT s) fcCrossMismatch 0 = hasFault s fcCrossMismatch 0 ∧
      (compareStep errP errT badP badT s).mode = s.mode := by
  have none : seenBy errP errT badP badT s .p ||| seenBy errP errT badP badT s .t = 0 := by rw [p, t]; rfl
  unfold compareStep
  dsimp only
  rw [hasFault_nonSafe _ _ _ (by decide)]
  unfold captureMis
  rw [if_pos (by exact none)]
  exact ⟨rfl, by simp [exchange]⟩

end compare

/-! ## The command -/

theorem exec_crossCompare_compares {errP errT : BitVec 256} {badP badT : Bool} {s : State} (ready : bothReady s = true)
    (mode : s.mode.evaluates = true) (early : phase2Open s = true) :
    exec (.crossCompare errP errT badP badT) s = .next (compareStep errP errT badP badT s) := by
  have notSelftest : s.mode ≠ .selftest := by intro h; rw [h] at mode; exact absurd mode (by decide)
  change execCrossCompare errP errT badP badT s = _
  simp [execCrossCompare, notSelftest, ready, mode, early]

/-- Before both have evaluated, or inside phase 3, nothing is committed. -/
theorem exec_crossCompare_waits {errP errT : BitVec 256} {badP badT : Bool} {s : State} (mode : s.mode ≠ .selftest)
    (h : bothReady s = false ∨ phase2Open s = false) : exec (.crossCompare errP errT badP badT) s = .next s := by
  change execCrossCompare errP errT badP badT s = _
  unfold execCrossCompare
  rw [if_neg (by simp [mode]), if_neg (by rcases h with h | h <;> simp [h])]

/-- Settles O41: each lane by what its channel sees, then both. -/
theorem crossCompareCommitsOnlyAgreement : Obligations.CrossCompareCommitsOnlyAgreement := by
  unfold Obligations.CrossCompareCommitsOnlyAgreement
  refine ⟨fun s errP errT badP badT ready mode early live => ⟨_, exec_crossCompare_compares ready mode early,
    compareStep_committed _ _ _ _ .p, compareStep_committed _ _ _ _ .t, fun differ => ?_, fun differ => ?_,
    fun same crc req free => compareStep_commits (lane := .p) ((fieldsOf_eq_zero_iff ..).2 ⟨same, crc, req⟩) free (by simp),
    fun same crc req free whole => compareStep_commits (lane := .t) ((fieldsOf_eq_zero_iff ..).2 ⟨same, crc, req⟩) free (fun _ => whole),
    fun same crcP crcT reqP reqT clean cleanT => ?_⟩, fun s errP errT badP badT => exec_crossCompare_waits⟩
  · have sees : seenBy errP errT badP badT s .p ≠ 0 := fieldsOf_ne_zero differ
    exact ⟨(compareStep_opens sees).1, (compareStep_opens sees).2, compareStep_captures sees live⟩
  · have sees : seenBy errP errT badP badT s .t ≠ 0 := fieldsOf_ne_zero differ
    exact ⟨(compareStep_opens sees).1, (compareStep_opens sees).2, compareStep_captures sees live⟩
  · subst clean cleanT
    refine compareStep_agrees ((fieldsOf_eq_zero_iff ..).2 ⟨fun k hk => ?_, ?_, reqT⟩) ((fieldsOf_eq_zero_iff ..).2 ⟨fun k hk => ?_, ?_, reqP⟩)
    · rw [word_readRecord_clean _ k (by omega)]; exact same k hk
    · rw [recordOk_readRecord_clean]; exact crcT
    · rw [word_readRecord_clean _ k (by omega)]; exact (same k hk).symm
    · rw [recordOk_readRecord_clean]; exact crcP

end Sys2Proof.Proofs
end

section
/-! PROOF. The statement of SELFTEST and the start of RUN (R276, R279) is refuted by a start of RUN whose event finds the event mailbox
full (R250). -/

namespace Sys2Proof.Proofs

open Sys2Proof Sys2Proof.Machine Sys2Proof.Laws

/-- SAFE_HOLD at a tick boundary with every start condition of Table 12.3, and no fault; the host has acknowledged none of the 64 events in
the event mailbox. -/
def safeHoldUnderFullMailbox : State :=
  { State.reset with
    mode := .safeHold
    tick := { State.reset.tick with began := true }
    pair := { State.reset.pair with vecOk := true }
    active := { State.reset.active with valid := true }
    gable := { State.reset.gable with up := true, evtPending := 64 } }

/-- The faults that the table lists once a command has taken effect. -/
def faultsAfter (o : Host.Outcome State Fault Refusal) : List FaultEntry :=
  match o with
  | .next t => t.faults
  | _ => []

theorem safeHoldUnderFullMailbox_starts : startConditions safeHoldUnderFullMailbox = true := by decide +kernel

/-- The event of the change of mode is dropped, and its loss is listed as EVT_LOST (R250). -/
theorem safeHoldUnderFullMailbox_loses : faultsAfter (exec .startRun safeHoldUnderFullMailbox) =
    [{ code := fcEvtLost, arg := 0, cls := .c, warning := true, time := 0 }] := by decide +kernel

/-- Refutes O36: the start of RUN does change the fault table where the event mailbox is full, by the EVT_LOST of its own event. -/
theorem not_selftestAndStart : ¬ Obligations.SelftestAndStart := by
  unfold Obligations.SelftestAndStart
  rintro ⟨-, -, -, -, starts, -⟩
  obtain ⟨t, ht, -, -, -, -, -, faults, -⟩ :=
    starts safeHoldUnderFullMailbox rfl rfl rfl rfl rfl safeHoldUnderFullMailbox_starts
  have lost := safeHoldUnderFullMailbox_loses
  rw [ht] at lost
  exact List.cons_ne_nil _ _ (lost.symm.trans faults)

end Sys2Proof.Proofs
end

section
/-! PROOF. What the mailbox service leaves of Gable, of BK and flash, and of the rest of the module, when it answers a request (R246,
R248, R250). -/

namespace Sys2Proof.Proofs

open Sys2Proof Sys2Proof.Machine Sys2Proof.Safety Sys2Proof.Laws

/-! ## What the arrival of a message can do -/

/-- A command that Table 11.6 does not list is not logged. -/
theorem isLogged_unknown {code : BitVec 16} (r : Req) (h : knownCommand code = false) : isLogged code r = false := by
  have loggedKnown : [ccCfgBegin, ccCfgAcceptClamps, ccVerifyStart, ccCommit, ccLogin, ccLogout, ccSetPassword, ccClearLockout,
      ccSlateProgramBit, ccSlateLock, ccRidgeSplit, ccRidgeJoin, ccFwActivate, ccLullArm].all knownCommand = true := by decide
  unfold isLogged
  split
  · next update =>
    simp only [Bool.or_eq_true, decide_eq_true_eq] at update
    rcases update with rfl | rfl <;> exact absurd h (by decide)
  · rw [decide_eq_false_iff_not]
    exact fun member => Bool.false_ne_true (h.symm.trans (List.all_eq_true.1 loggedKnown code member))

/-- A message taken is answered without an execution, waits for Gable, or is refused as unknown, which is not logged (R245, R248, R251). -/
theorem takeNow_cases (p : Port) (m : List Byte) (s : State) :
    (∃ x st, takeNow p m s = postRsp p x st s) ∨
      (∃ q w, takeNow p m s = { s with gable := { s.gable with queue := q, started := w } }) ∨
      ∃ code r level a, isLogged code r = false ∧ takeNow p m s = finishOne code r level a s := by
  unfold takeNow
  dsimp only
  split
  · exact .inl ⟨_, _, rfl⟩
  split
  · exact .inl ⟨_, _, rfl⟩
  split
  · exact .inl ⟨_, _, rfl⟩
  split
  · split <;> exact .inl ⟨_, _, rfl⟩
  split
  · exact .inr (.inl ⟨_, _, rfl⟩)
  · next unknown => exact .inr (.inr ⟨_, _, _, _, isLogged_unknown _ (by simpa using unknown), rfl⟩)

/-! ## Gable -/

/-- Gable but for what moves with requests, responses and events: the sessions, the candidate and its run, a held request, the
passwords and the firmware. -/
def gableCore (s : State) : Gable :=
  { s.gable with
    reqBusy := false, rspReady := false, lastStatus := 0, queue := [], parked := none, started := 0, keptSpi := [], keptUsb := []
    usbRsp := [], evtLost := false, evtPending := 0, usbEvents := [], evtSeq := 0, usbSeq := 0, evtDropped := 0 }

section core
variable (s : State)

@[simp] theorem gableCore_postRsp (p : Port) (m : List Byte) (st : Byte) : gableCore (postRsp p m st s) = gableCore s := by
  cases p <;> rfl

@[simp] theorem gableCore_keepRsp (p : Port) (k : Kept) : gableCore (keepRsp p k s) = gableCore s := by cases p <;> rfl

@[simp] theorem gableCore_dequeue (code : BitVec 16) (r : Req) : gableCore (dequeue code r s) = gableCore s := rfl

@[simp] theorem gableCore_finishOne (code : BitVec 16) (r : Req) (level : BitVec 2) (a : Answer) :
    gableCore (finishOne code r level a s) = gableCore s := by
  unfold finishOne
  simp only [gableCore_keepRsp, gableCore_postRsp, gableCore_dequeue]
  split
  · simp [gableCore]
  · rfl

@[simp] theorem gableCore_takeNow (p : Port) (m : List Byte) : gableCore (takeNow p m s) = gableCore s := by
  rcases takeNow_cases p m s with ⟨_, _, h⟩ | ⟨_, _, h⟩ | ⟨_, _, _, _, -, h⟩ <;> rw [h]
  · exact gableCore_postRsp ..
  · rfl
  · exact gableCore_finishOne ..

@[simp] theorem gableCore_settleMbx (p : Port) : gableCore (settleMbx p s) = gableCore s := by
  unfold settleMbx
  split
  · split
    · exact gableCore_takeNow _ _ _
    · rfl
  · rfl

/-- The end of a request leaves Gable's core. -/
@[simp] theorem gableCore_finish (code : BitVec 16) (r : Req) (level : BitVec 2) (a : Answer) :
    gableCore (finish code r level a s) = gableCore s := by simp [finish]

@[simp] theorem gableCore_writeEvent (kind : Nat) (code : BitVec 16) (arg : W32) : gableCore (writeEvent kind code arg s) = gableCore s := rfl

@[simp] theorem gableCore_dropEvent : gableCore (dropEvent s) = gableCore s := by
  unfold dropEvent
  dsimp only
  split
  · rfl
  · simp [gableCore]

@[simp] theorem gableCore_flushLost : gableCore (flushLost s) = gableCore s := by unfold flushLost; split <;> rfl

@[simp] theorem gableCore_postEvent (kind : Nat) (code : BitVec 16) (arg : W32) : gableCore (postEvent kind code arg s) = gableCore s := by
  unfold postEvent
  dsimp only
  (repeat' split) <;> simp <;> rfl

/-- A change of mode leaves Gable's core. -/
@[simp] theorem gableCore_setMode (m : Mode) : gableCore (setMode m s) = gableCore s := by
  unfold setMode
  split
  · rfl
  · have told (t : State) : gableCore (logEvent 0xE001 (be 1 s.mode.code ++ be 1 m.code) t) = gableCore t := by simp [gableCore]
    dsimp only
    split
    · exact (told _).trans (gableCore_postEvent ..)
    · exact (told _).trans (gableCore_postEvent ..)

end core

/-- The fields of Gable's core. -/
theorem gable_of_core {s t : State} (h : gableCore t = gableCore s) :
    t.gable.up = s.gable.up ∧ t.gable.held = s.gable.held ∧ t.gable.cand = s.gable.cand ∧ t.gable.verify = s.gable.verify :=
  ⟨(congrArg Gable.up h :), (congrArg Gable.held h :), (congrArg Gable.cand h :), (congrArg Gable.verify h :)⟩

/-! ## Flash and BK -/

/-- Flash but for the log, and BK but for the count of its entries. -/
def storesOf (s : State) : Flash × Backup := ({ s.flash with log := [] }, { s.bk with nextCount := 0 })

section stores
variable (s : State)

@[simp] theorem storesOf_logWrite (f : LogFields) : storesOf (logWrite f s) = storesOf s := by unfold logWrite; split <;> rfl

@[simp] theorem storesOf_finishOne (code : BitVec 16) (r : Req) (level : BitVec 2) (a : Answer) :
    storesOf (finishOne code r level a s) = storesOf s := by
  have post (t : State) (m : List Byte) : storesOf (postRsp r.port m a.st t) = storesOf t := by cases r.port <;> rfl
  have keep (t : State) (k : Kept) : storesOf (keepRsp r.port k t) = storesOf t := by cases r.port <;> rfl
  have leave (t : State) : storesOf (dequeue code r t) = storesOf t := rfl
  unfold finishOne
  simp only [keep, post, leave]
  split
  · exact storesOf_logWrite _ _
  · rfl

@[simp] theorem storesOf_takeNow (p : Port) (m : List Byte) : storesOf (takeNow p m s) = storesOf s := by
  have post (x : List Byte) (st : Byte) : storesOf (postRsp p x st s) = storesOf s := by cases p <;> rfl
  rcases takeNow_cases p m s with ⟨_, _, h⟩ | ⟨_, _, h⟩ | ⟨_, _, _, _, -, h⟩ <;> rw [h]
  · exact post _ _
  · rfl
  · exact storesOf_finishOne ..

/-- The end of a request writes no more of flash and BK than an entry of the log. -/
@[simp] theorem storesOf_finish (code : BitVec 16) (r : Req) (level : BitVec 2) (a : Answer) :
    storesOf (finish code r level a s) = storesOf s := by
  unfold finish settleMbx
  split
  · split
    · exact (storesOf_takeNow _ _ _).trans (storesOf_finishOne ..)
    · exact storesOf_finishOne ..
  · exact storesOf_finishOne ..

end stores

/-! ## The rest of the module -/

/-- The module without the mailbox service: Gable, the mailbox memory, the interrupt events. -/
def offService (s : State) : State := { s with gable := Gable.reset, mbx := [], host := { s.host with irq := 0 } }

theorem quiet_iff (s t : State) : quiet s t ↔ offService t = offService s := by
  unfold quiet
  constructor
  · intro h
    exact (congrArg offService h :)
  · intro h
    exact (congrArg (fun u : State => { u with gable := s.gable, mbx := s.mbx, host := { u.host with irq := s.host.irq } }) h :)

section rest
variable (s : State)

@[simp] theorem offService_postRsp (p : Port) (m : List Byte) (st : Byte) : offService (postRsp p m st s) = offService s := by
  cases p <;> rfl

@[simp] theorem offService_touch (p : Port) : offService (touch p s) = offService s := by
  unfold touch; dsimp only; split <;> cases p <;> rfl

/-- An answer that is not logged concerns the service alone. -/
theorem offService_finishOne {code : BitVec 16} {r : Req} (level : BitVec 2) (a : Answer) (h : isLogged code r = false) :
    offService (finishOne code r level a s) = offService s := by
  have keep (t : State) (k : Kept) : offService (keepRsp r.port k t) = offService t := by cases r.port <;> rfl
  simp only [finishOne, keep, offService_postRsp, h, Bool.false_and, Bool.false_eq_true, if_false]
  rfl

@[simp] theorem offService_takeNow (p : Port) (m : List Byte) : offService (takeNow p m s) = offService s := by
  rcases takeNow_cases p m s with ⟨_, _, h⟩ | ⟨_, _, h⟩ | ⟨_, _, _, _, quiet, h⟩ <;> rw [h]
  · exact offService_postRsp ..
  · rfl
  · exact offService_finishOne _ _ _ quiet

/-- The end of a request that is not logged concerns the service alone. -/
theorem offService_finish {code : BitVec 16} {r : Req} (level : BitVec 2) (a : Answer) (h : isLogged code r = false) :
    offService (finish code r level a s) = offService s := by
  unfold finish settleMbx
  split
  · split
    · exact (offService_takeNow _ _ _).trans (offService_finishOne _ level a h)
    · exact offService_finishOne _ level a h
  · exact offService_finishOne _ level a h

end rest

end Sys2Proof.Proofs
end

section
/-! PROOF. A verification run: the request held for its boundary, the entry into VERIFY, the end and the report (R49, R50, R262, R275). -/

namespace Sys2Proof.Proofs

open Sys2Proof Sys2Proof.Machine Sys2Proof.Safety Sys2Proof.Laws

/-! ## A request in its turn -/

/-- What the arrival of a request leaves of the service: the queue, the kept requests, what waits, the levels and Gable's work. -/
theorem touch_gable (p : Port) (s : State) :
    (touch p s).gable.queue = s.gable.queue ∧ (touch p s).gable.usbRsp = s.gable.usbRsp ∧ (touch p s).gable.parked = s.gable.parked ∧
      (touch p s).gable.cand = s.gable.cand ∧ (touch p s).gable.verify = s.gable.verify ∧ (touch p s).gable.owner = s.gable.owner ∧
      (∀ q, keptOf q (touch p s) = keptOf q s) ∧ ∀ q, (sessionOf q (touch p s)).level = (sessionOf q s).level := by
  unfold touch
  dsimp only
  split <;> cases p <;> refine ⟨rfl, rfl, rfl, rfl, rfl, rfl, fun q => ?_, fun q => ?_⟩ <;> cases q <;> rfl

/-- The request next in turn stands first among those that wait, if any wait (R246). -/
theorem queue_of_inTurn {code : BitVec 16} {r : Req} {s : State} (h : inTurn code r s = true) :
    s.gable.queue = [] ∨ s.gable.queue.head? = some (code, r) := by
  simp only [inTurn, Bool.and_eq_true] at h
  obtain ⟨-, turn⟩ := h
  cases q : s.gable.queue with
  | nil => exact .inl rfl
  | cons x rest =>
    rw [q] at turn
    exact .inr (congrArg some (beq_iff_eq.1 turn))

theorem inTurn_of_admits {code : BitVec 16} {r : Req} {s : State} (h : admits code r s = true) : inTurn code r s = true := by
  simp only [admits, Bool.and_eq_true] at h
  exact h.1.1.2

/-- A request that stays in execution stands first among those that wait; nothing else of Gable's moves but the mark of a busy port. -/
theorem occupy_gable {code : BitVec 16} {r : Req} {s : State} (turn : inTurn code r s = true) :
    (occupy code r (touch r.port s)).gable.queue.head? = some (code, r) ∧
      (occupy code r (touch r.port s)).gable.cand = s.gable.cand ∧ (occupy code r (touch r.port s)).gable.verify = s.gable.verify ∧
      (∀ q, keptOf q (occupy code r (touch r.port s)) = keptOf q s) ∧
      (∀ q, (sessionOf q (occupy code r (touch r.port s))).level = (sessionOf q s).level) ∧
      ∃ g, occupy code r (touch r.port s) = { s with gable := g } := by
  obtain ⟨queue, -, -, cand, verify, -, kept, level⟩ := touch_gable r.port s
  have outside : touch r.port s = { s with gable := (touch r.port s).gable } := by
    unfold touch; dsimp only; split <;> cases r.port <;> rfl
  unfold occupy
  rw [queue]
  rcases queue_of_inTurn turn with empty | first
  · rw [empty]
    exact ⟨rfl, cand, verify, fun q => (by cases q <;> rfl : _ = keptOf q (touch r.port s)).trans (kept q),
      fun q => (by cases q <;> rfl : _ = (sessionOf q (touch r.port s)).level).trans (level q), _, by rw [outside]; rfl⟩
  · have waits : s.gable.queue.isEmpty = false := by
      cases q : s.gable.queue with
      | nil => rw [q] at first; cases first
      | cons => rfl
    rw [waits]
    exact ⟨queue ▸ first, cand, verify, kept, level, _, outside⟩

/-- A request whose response follows later has its own effect only. -/
theorem serve_later {code : BitVec 16} {r : Req} {body : State → State × Answer} {s t : State} {a : Answer} (h : admits code r s = true)
    (b : body (touch r.port s) = (t, a)) (later : a.later = true) : serve code r body s = t := by
  rw [serve_admits h, b]
  exact if_pos later

/-- A request that is answered has its own effect and its end. -/
theorem serve_answered {code : BitVec 16} {r : Req} {body : State → State × Answer} {s t : State} {a : Answer} (h : admits code r s = true)
    (b : body (touch r.port s) = (t, a)) (now : a.later = false) :
    serve code r body s = finish code r (sessionOf r.port (touch r.port s)).level a t := by
  rw [serve_admits h, b]
  exact if_neg (by simp [now])

/-! ## A request held for the boundary -/

/-- The state that holds a request for the boundary, with nothing of its effect yet. -/
def heldFor (code : BitVec 16) (r : Req) (s : State) : State :=
  { occupy code r s with gable := { (occupy code r s).gable with held := some (code, r) } }

theorem heldBody_ok {code : BitVec 16} {r : Req} {body : State → State × Answer} {s : State} (h : (body s).2.st = stOk) :
    heldBody code r body s = (heldFor code r s, answerLater) := if_pos h

theorem holds_heldFor {code : BitVec 16} {r : Req} {s : State} (turn : inTurn code r s = true) :
    holds code r s (heldFor code r (touch r.port s)) := by
  obtain ⟨first, cand, verify, kept, level, g, outside⟩ := occupy_gable turn
  refine ⟨?_, rfl, first, cand, verify, ?_, ?_⟩
  · unfold heldFor; rw [outside]
  · exact (by cases r.port <;> rfl : _ = (sessionOf r.port (occupy code r (touch r.port s))).level).trans (level _)
  · exact (by cases r.port <;> rfl : _ = keptOf r.port (occupy code r (touch r.port s))).trans (kept _)

/-- The state at the boundary once the held request has been taken up. -/
def unheld (s : State) : State := { s with gable := { s.gable with held := none } }

theorem preCheck_unheld (code : BitVec 16) (r : Req) (s : State) : preCheck code r (unheld s) = preCheck code r s := by
  cases p : r.port <;> simp only [preCheck, sessionOf, p] <;> rfl

theorem overtaken_unheld (s : State) : overtaken (unheld s) = overtaken s := rfl

theorem heldEnd_overtaken (code : BitVec 16) (r : Req) (body : State → State × Answer) {s : State} (h : overtaken s = true) :
    heldEnd code r body s = finish code r (sessionOf r.port (unheld s)).level (answer stWrongMode) (unheld s) := if_pos h

theorem heldEnd_acts {code : BitVec 16} {r : Req} {body : State → State × Answer} {s : State} (h : overtaken s = false)
    (checks : preCheck code r s = none) :
    heldEnd code r body s = finish code r (sessionOf r.port (unheld s)).level (body (unheld s)).2 (body (unheld s)).1 := by
  have pass : preCheck code r { s with gable := { s.gable with held := none } } = none := (preCheck_unheld code r s).trans checks
  unfold heldEnd
  dsimp only
  rw [if_neg (by rw [show overtaken { s with gable := { s.gable with held := none } } = false from h]; decide), pass]
  rfl

/-! ## VERIFY_START -/

theorem exec_verifyStart (r : Req) (s : State) : exec (.verifyStart r) s =
    .next (serve ccVerifyStart r (heldBody ccVerifyStart r (owned r (verifyStartBody r))) s) := rfl

theorem heldStep_verifyStart {r : Req} {s : State} (held : s.gable.held = some (ccVerifyStart, r)) (up : s.gable.up = true) :
    heldStep s = heldEnd ccVerifyStart r (owned r (verifyStartBody r)) s := by
  unfold heldStep
  rw [held]
  simp [up]

/-- The run that a VERIFY_START asks for, before it begins (R262). -/
def askedRun (r : Req) (c : Candidate) (s : State) : VerifyRun :=
  { state := 0, afterAccept := c.accepted, lost := false, vectors := 0, startTick := s.tick.count, ticks := 0
    dur := BitVec.ofNat 64 (r.num 0 4 * tMs), ends := 0, entries := [] }

section start
variable {r : Req} {s : State} {c : Candidate} (cand : s.gable.cand = some c) (owner : c.owner = r.port) (ended : c.ended = true)
  (len : r.payload.length = 4) (least : 1000 ≤ r.num 0 4) (most : r.num 0 4 ≤ 600000) (idle : verifyBusy s = false)
include cand owner ended len least most idle

/-- On an ended candidate of its own port VERIFY_START asks for VERIFY, unless a higher event of R275 has come. -/
theorem verifyStart_owned : owned r (verifyStartBody r) s =
    if overtaken s then (s, answer stWrongMode)
    else ({ s with gable := { s.gable with verify := some (askedRun r c s) }, want := some .verify }, answer stOk) := by
  have own : ownedBy r.port s = true := by simp [ownedBy, cand, owner]
  rw [owned, if_pos own]
  simp [verifyStartBody, len, Nat.not_lt.2 least, Nat.not_lt.2 most, idle, cand, ended, askedRun]

/-- Admitted, it is held for the boundary. -/
theorem exec_verifyStart_holds (ok : admits ccVerifyStart r s = true) (free : overtaken s = false) :
    exec (.verifyStart r) s = .next (heldFor ccVerifyStart r (touch r.port s)) := by
  obtain ⟨-, -, -, touchCand, touchVerify, -⟩ := touch_gable r.port s
  have busy : verifyBusy (touch r.port s) = false := by simpa [verifyBusy, touchVerify] using idle
  have free' : overtaken (touch r.port s) = false := by
    have same : overtaken (touch r.port s) = overtaken s := by simp [overtaken, holdCond]
    exact same.trans free
  have body := verifyStart_owned (touchCand.trans cand) owner ended len least most busy
  rw [exec_verifyStart, serve_later ok (heldBody_ok (by rw [body, free']; rfl)) rfl]

end start

/-! ## The entry into VERIFY -/

/-- Without a class H fault the boundary enters the mode that has been asked for. -/
theorem modeStep_asked {s : State} {m : Mode} (calm : s.hPend = none) (sd : s.pwr.shutdown = none) (runs : s.mode.runs = false)
    (want : s.want = some m) : modeStep s = enterMode m s := by
  have late : hLate s = false := by simp [hLate, calm]
  simp [modeStep, sd, calm, late, runs, want]

/-- The checks of R49 and R50 on a candidate: equal digests, and reference vectors, all of which pass. -/
def candidateSound (cfg : Config.Image) : Bool :=
  cfg.ridgeDigest == cfg.thatchDigest && !cfg.vectors.isEmpty && vectorsPassed cfg == cfg.vectors.length

theorem candidateSound_iff (cfg : Config.Image) : candidateSound cfg = true ↔
    cfg.ridgeDigest = cfg.thatchDigest ∧ cfg.vectors ≠ [] ∧ vectorsPassed cfg = cfg.vectors.length := by
  simp [candidateSound, and_assoc]

/-- The run as the entry into VERIFY begins it, or ends it at once. -/
def begunRun (cfg : Config.Image) (v : VerifyRun) (s : State) : VerifyRun :=
  { v with
    state := if candidateSound cfg then 0 else 2, vectors := BitVec.ofNat 16 (vectorsPassed cfg), startTick := s.tick.count
    ends := s.tb.count + v.dur }

theorem verifyLoad_begins {s : State} {c : Candidate} {v : VerifyRun} (mode : s.mode = .verify) (cand : s.gable.cand = some c)
    (run : s.gable.verify = some v) : verifyLoad s =
      { s with gable := { s.gable with verify := some (begunRun (cfgOf c.data) v s) }
               want := if candidateSound (cfgOf c.data) then none else some .configure } := by
  have cfg : evalCfg s = cfgOf c.data := by simp [evalCfg, mode, cand]
  unfold verifyLoad
  rw [run, cfg]
  rfl

/-- Entering VERIFY loads the candidate and begins its run (R262). -/
theorem modeStep_verify {s : State} {c : Candidate} {v : VerifyRun} (mode : s.mode = .configure) (calm : s.hPend = none)
    (sd : s.pwr.shutdown = none) (want : s.want = some .verify) (cand : s.gable.cand = some c) (run : s.gable.verify = some v) :
    (modeStep s).mode = .verify ∧ (modeStep s).gable.verify = some (begunRun (cfgOf c.data) v s) ∧
      (modeStep s).want = if candidateSound (cfgOf c.data) then none else some .configure := by
  obtain ⟨-, -, keepCand, keepRun⟩ := gable_of_core (gableCore_setMode { s with want := none } .verify)
  have entered : (loadBoth (setMode .verify { s with want := none })).mode = .verify := setMode_mode ..
  rw [modeStep_asked calm sd (by rw [mode]; rfl) want]
  unfold enterMode
  dsimp only
  rw [if_pos rfl, verifyLoad_begins entered (keepCand.trans cand) (keepRun.trans run)]
  refine ⟨entered, ?_, rfl⟩
  simp [begunRun, loadBoth]

/-! ## The report -/

theorem exec_verifyReport (r : Req) (s : State) : exec (.verifyReport r) s =
    .next (serve ccVerifyReport r (owned r (verifyReportBody r)) s) := rfl

/-- VERIFY_REPORT without a report answers STATE 3 (Table 11.7). -/
theorem verifyReport_owned {r : Req} {s : State} (own : ownedBy r.port s = true) (len : r.payload.length = 4) (page : r.num 0 4 = 0)
    (none : s.gable.verify = none) : owned r (verifyReportBody r) s = (s, answerOk (be 1 3 ++ List.replicate 47 0)) := by
  rw [owned, if_pos own]
  simp [verifyReportBody, len, page, none]

/-- Settles O27: the request to its boundary, the entry, the end, the report. -/
theorem verifyRuns : Obligations.VerifyRuns := by
  unfold Obligations.VerifyRuns
  refine ⟨fun r s c ok cand owner ended len least most idle free =>
      ⟨_, exec_verifyStart_holds cand owner ended len least most idle ok free, holds_heldFor (inTurn_of_admits ok)⟩,
    fun r s c now cand owner ended len least most idle => ?_, fun s c v mode calm sd want cand run => ?_,
    fun s v mode run state late => ?_, fun r s ok own len page none => ?_⟩
  · simp only [heldNow, Bool.and_eq_true, beq_iff_eq, Option.isNone_iff_eq_none] at now
    obtain ⟨⟨held, up⟩, checks⟩ := now
    rw [heldStep_verifyStart held up]
    cases late : overtaken s with
    | true =>
      rw [heldEnd_overtaken _ _ _ late]
      obtain ⟨-, unheldNow, keepCand, keepRun⟩ := gable_of_core
        (gableCore_finish (unheld s) ccVerifyStart r (sessionOf r.port (unheld s)).level (answer stWrongMode))
      exact ⟨unheldNow, keepCand.trans cand, by simp [unheld], by simp,
        fun _ => ⟨answered_finish .., by simp [unheld], keepRun⟩⟩
    | false =>
      rw [heldEnd_acts late checks,
        verifyStart_owned (s := unheld s) cand owner ended len least most idle, overtaken_unheld, late, if_neg Bool.false_ne_true]
      obtain ⟨-, unheldNow, keepCand, keepRun⟩ := gable_of_core
        (gableCore_finish { unheld s with gable := { (unheld s).gable with verify := some (askedRun r c (unheld s)) }, want := some .verify }
          ccVerifyStart r (sessionOf r.port (unheld s)).level (answer stOk))
      exact ⟨unheldNow, keepCand.trans cand, by simp [unheld],
        fun _ => ⟨answered_finish .., by simp, _, keepRun, rfl, rfl, rfl, rfl⟩, by simp⟩
  · obtain ⟨entered, begun, asks⟩ := modeStep_verify mode calm sd want cand run
    dsimp only
    rw [← candidateSound_iff]
    refine ⟨_, entered, begun, rfl, rfl, fun sound => ?_, fun unsound => ?_⟩
    · rw [asks, begunRun, sound]; exact ⟨rfl, rfl⟩
    · rw [asks, begunRun, Bool.eq_false_iff.2 unsound]; exact ⟨rfl, rfl⟩
  · change execVerifyRunEnd s = _
    simp [execVerifyRunEnd, run, mode, state, due, late]
  · obtain ⟨-, -, -, touchCand, touchRun, touchOwner, -⟩ := touch_gable r.port s
    have mine : ownedBy r.port (touch r.port s) = true := by simpa [ownedBy, touchCand, touchOwner] using own
    have body := verifyReport_owned mine len page (touchRun.trans none)
    refine ⟨_, (exec_verifyReport r s).trans (congrArg _ (serve_answered ok body rfl)), ?_, answered_finish ..⟩
    rw [quiet_iff, offService_finish _ _ _ (by rfl), offService_touch]

end Sys2Proof.Proofs
end

section
/-! PROOF. The deliberate reset and the restart behind it (R278, R283; log entry 119). -/

namespace Sys2Proof.Proofs

open Sys2Proof Sys2Proof.Machine Sys2Proof.Safety Sys2Proof.Laws

/-! ## CLEAR_LOCKOUT as it comes -/

/-- The arrival of a request does not decide whether it is turned away. -/
theorem turnedAway_touch (code : BitVec 16) (r : Req) (s : State) :
    (turnedAway code r (touch r.port s)).isNone = (turnedAway code r s).isNone := by
  obtain ⟨queue, usbRsp, -, -, -, -, kept, -⟩ := touch_gable r.port s
  simp only [turnedAway, queue, usbRsp, kept]
  (repeat' split) <;> rfl

/-- Nor whether it passes the checks of R251. -/
theorem preCheck_touch (code : BitVec 16) (r : Req) (s : State) : preCheck code r (touch r.port s) = preCheck code r s := by
  have session : sessionOf r.port (touch r.port s) = { sessionOf r.port s with lastReq := s.tb.count } := by simp [touch]
  have integrate : (touch r.port s).gable.integrate = s.gable.integrate := by
    unfold touch; dsimp only; split <;> cases r.port <;> rfl
  simp only [preCheck, session, integrate, romServes, touch_frame]
  rfl

/-- CLEAR_LOCKOUT admitted without a payload opens its window (R283). -/
theorem exec_clearLockout_opens {r : Req} {s : State} (ok : admits ccClearLockout r s = true) (empty : r.payload = []) :
    exec (.clearLockout r) s = .next (clearLockoutOpen r s) := by
  simp only [admits, turnedAway_touch, preCheck_touch] at ok
  exact congrArg _ (if_pos (by rw [ok, empty]; rfl))

/-- The open window, with the request in execution; no cause, flag, mode or kept request has changed. -/
theorem clearLockoutOpen_window {r : Req} {s : State} (turn : inTurn ccClearLockout r s = true) :
    (clearLockoutOpen r s).lockWin = some { req := r, opened := s.tb.count, ends := s.tb.count + 1000000000 } ∧
      (clearLockoutOpen r s).bk = s.bk ∧ (clearLockoutOpen r s).mode = s.mode ∧
      keptOf r.port (clearLockoutOpen r s) = keptOf r.port s := by
  obtain ⟨-, -, -, kept, -, g, outside⟩ := occupy_gable turn
  have same : keptOf r.port (clearLockoutOpen r s) = keptOf r.port (occupy ccClearLockout r (touch r.port s)) := by
    cases p : r.port <;> simp only [keptOf, clearLockoutOpen, p]
  exact ⟨rfl, (congrArg State.bk outside :), (congrArg State.mode outside :), same.trans (kept _)⟩

/-! ## The end of the window -/

/-- The flag and the cause in BK are not an answer's to change. -/
theorem lockout_of_stores {s t : State} (h : storesOf t = storesOf s) :
    t.bk.lockFlag = s.bk.lockFlag ∧ t.bk.lockCause = s.bk.lockCause :=
  ⟨(congrArg (fun x : Flash × Backup => x.2.lockFlag) h :), (congrArg (fun x : Flash × Backup => x.2.lockCause) h :)⟩

section window
variable {s : State} {w : LockWindow} (win : s.lockWin = some w) (up : s.gable.up = true)
include win up

/-- A valid press inside the window ends the lock-out (R283). -/
theorem exec_lockoutAckRelease_clears (press : s.pair.ackPress = true) (inside : s.tb.count.toNat < w.ends.toNat) :
    exec .lockoutAckRelease s = .next { endClearLockout w stOk s with
      lockWin := none
      bk := { (endClearLockout w stOk s).bk with lockFlag := Voted.of 0, lockCause := Voted.of 0 }
      restart := some { kind := .lockout, port := w.req.port, due := (endClearLockout w stOk s).tb.count + BitVec.ofNat 64 tSec } } := by
  change execLockoutAckRelease s = _
  simp [execLockoutAckRelease, win, up, press, due, inside]

/-- A window that ends without one is answered ACK_MISSING. -/
theorem exec_ackMissing_ends (past : w.ends.toNat ≤ s.tb.count.toNat) :
    exec .ackMissing s = .next { endClearLockout w stAckMissing s with lockWin := none } := by
  change execAckMissing s = _
  simp [execAckMissing, win, up, due, past]

end window

/-! ## The restart into SELFTEST -/

/-- The mode, and the restart that is due. -/
def restartView (s : State) : Mode × Option RestartDue := (s.mode, s.restart)

section restart
variable (s : State)

@[simp] theorem restartView_raise (code : BitVec 16) (n : Nat) : restartView (raise code n s) = restartView s := by simp [restartView]

@[simp] theorem restartView_clearFault (code : BitVec 16) (n : Nat) : restartView (clearFault code n s) = restartView s := by
  simp [restartView]

@[simp] theorem restartView_domainStops (dom : Nat) : restartView (domainStops dom s) = restartView s := by
  unfold domainStops
  split <;> rfl

@[simp] theorem restartView_domainOff (dom : Nat) : restartView (domainOff s dom) = restartView s := restartView_domainStops s dom

@[simp] theorem restartView_regulatorAct (dom : Nat) : restartView (regulatorAct dom s) = restartView s := by
  have stops : restartView (domainStops dom (regulatorEvt s)) = restartView s := restartView_domainStops _ _
  unfold regulatorAct
  dsimp only
  split <;> rw [restartView_raise] <;> exact stops

/-- The regulators of a restart change neither. -/
@[simp] theorem restartView_bootRegulators (bad : BitVec 10) : restartView (bootRegulators bad s) = restartView s := by
  unfold bootRegulators
  split
  · rfl
  · rw [restartView_regulatorAct]
    exact foldl_keeps restartView domainOff (fun t dom => restartView_domainOff t dom) _ s

@[simp] theorem restartView_cvuCheck (u : Fin 4) (sound : Bool) : restartView (cvuCheck u sound s) = restartView s := by
  simp [restartView, cvuCheck, cvuUpd]

@[simp] theorem restartView_slateHard : restartView (slateHard s) = restartView s := by
  have step (c : Prop) [Decidable c] (n : Nat) (t : State) :
      restartView (if c then raise fcSlateFault n t else t) = restartView t := by split <;> simp
  simp only [slateHard, step]

@[simp] theorem restartView_gableBack : restartView (gableBack s) = restartView s := by
  unfold gableBack
  split
  · rfl
  · refine (foldl_keeps restartView _ (fun t e => by simp [restartView]) _ _).trans ?_
    unfold setGableUp
    split <;> rfl

theorem timeStart_restart : (timeStart s).restart = s.restart := by
  unfold timeStart timeFaults
  (repeat' split) <;> simp

/-- SELFTEST is entered, and no restart is due any more (R280). -/
theorem restartView_startSelftest : restartView (startSelftest s) = (.selftest, none) := by
  simp only [startSelftest, restartView_slateHard, restartView_gableBack]
  simp [restartView, setMode_mode, timeStart_restart]

theorem restartView_selftestAgain : restartView (selftestAgain s) = (.selftest, none) := by
  unfold selftestAgain
  dsimp only
  rw [foldl_keeps restartView _ (fun t k => restartView_cvuCheck t k _), restartView_bootRegulators, restartView_startSelftest]

end restart

/-- The restart that CLEAR_LOCKOUT asked for enters SELFTEST out of LOCKOUT (R283). -/
theorem exec_lockoutRestart_restarts {s : State} {x : RestartDue} (res : s.restart = some x) (kind : x.kind = .lockout)
    (time : x.due.toNat ≤ s.tb.count.toNat) (sd : s.pwr.shutdown = none) (free : s.resetHeld = false) (mode : s.mode = .lockout) :
    ∃ t, exec .lockoutRestart s = .next t ∧ t.mode = .selftest ∧ t.restart = none := by
  have live : tableStill s = false := by simp [tableStill, free, mode]
  have acts : exec .lockoutRestart s = .next (deliberateRestart { s with restart := none }) := by
    change execLockoutRestart s = _
    simp [execLockoutRestart, res, kind, due, time, sd, live]
  have again (t : State) (h : t.resetHeld = false ∧ t.pwr.shutdown = none ∧ t.mode = .lockout) :
      restartView (restartSelftest t) = (.selftest, none) := by
    obtain ⟨held, run, lock⟩ := h
    rw [restartSelftest, if_neg (by simp [held, run, lock])]
    exact restartView_selftestAgain t
  have view := again (clearWhere (fun e => e.cls == .h) { s with restart := none }) (by simp [free, sd, mode])
  exact ⟨_, acts, congrArg Prod.fst view, congrArg Prod.snd view⟩

end Sys2Proof.Proofs
end

section
/-! PROOF. Ridge split and join from the request to their ends, LULL_ARM, and the statement (R65, R66, R69, R283, R290, R352; log entry
116). -/

namespace Sys2Proof.Proofs

open Sys2Proof Sys2Proof.Machine Sys2Proof.Safety Sys2Proof.Laws

/-! ## The requests -/

theorem exec_ridgeSplit (r : Req) (equal : Bool) (s : State) :
    exec (.ridgeSplit r equal) s = .next (serve ccRidgeSplit r (splitBody r equal) s) := rfl

theorem exec_ridgeJoin (r : Req) (equal : Bool) (s : State) :
    exec (.ridgeJoin r equal) s = .next (serve ccRidgeJoin r (joinBody r equal) s) := rfl

/-- A split or join that has been accepted: its request in execution, the pair waiting for its boundaries. -/
def underWay (code : BitVec 16) (r : Req) (p : Pair) (s : State) : State := { occupy code r (touch r.port s) with pair := p }

/-- Accepting it answers nothing and moves neither channel. -/
theorem underWay_frame {code : BitVec 16} {r : Req} {s : State} (p : Pair) (turn : inTurn code r s = true) :
    keptOf r.port (underWay code r p s) = keptOf r.port s ∧ (underWay code r p s).mbx = s.mbx ∧
      (underWay code r p s).ridge = s.ridge ∧ (underWay code r p s).thatch = s.thatch := by
  obtain ⟨-, -, -, kept, -, g, outside⟩ := occupy_gable turn
  have same : keptOf r.port (underWay code r p s) = keptOf r.port (occupy code r (touch r.port s)) := by
    cases q : r.port <;> simp only [keptOf, underWay, q]
  refine ⟨same.trans (kept _), ?_, ?_, ?_⟩ <;> simp [underWay, outside]

theorem occupy_pair (code : BitVec 16) (r : Req) (s : State) : (occupy code r s).pair = s.pair := by unfold occupy; split <;> rfl

/-- A permitted split with equal CRCs comes at the next boundary (R66). -/
theorem exec_ridgeSplit_begins {r : Req} {s : State} (ok : admits ccRidgeSplit r s = true) (empty : r.payload = [])
    (permitted : lookB s.active.image .splitPermitted 0 false = true) (image : s.active.image.split = true)
    (joined : s.pair.split = false) (free : s.pair.splitAt = none) (whole : s.pair.diverged = false) :
    exec (.ridgeSplit r true) s = .next (underWay ccRidgeSplit r
      { s.pair with splitBusy := true, splitAt := some (s.tick.count + 1), splitReq := some (ccRidgeSplit, r) } s) := by
  have passes : splitRefusal r (touch r.port s) = none := by simp [splitRefusal, empty, permitted, image, joined, free, whole]
  have body : splitBody r true (touch r.port s) = (underWay ccRidgeSplit r
      { s.pair with splitBusy := true, splitAt := some (s.tick.count + 1), splitReq := some (ccRidgeSplit, r) } s, answerLater) := by
    simp [splitBody, passes, underWay, occupy_pair]
  rw [exec_ridgeSplit, serve_later ok body rfl]

/-- A join comes three boundaries on (R69). -/
theorem exec_ridgeJoin_begins {r : Req} {s : State} (ok : admits ccRidgeJoin r s = true) (empty : r.payload = [])
    (split : s.pair.split = true) (free : s.pair.splitAt = none) :
    exec (.ridgeJoin r true) s = .next (underWay ccRidgeJoin r
      { s.pair with splitAt := some (s.tick.count + 3), joinBad := false, splitReq := some (ccRidgeJoin, r) } s) := by
  have passes : joinRefusal r (touch r.port s) = none := by simp [joinRefusal, empty, split, free]
  have body : joinBody r true (touch r.port s) = (underWay ccRidgeJoin r
      { s.pair with splitAt := some (s.tick.count + 3), joinBad := false, splitReq := some (ccRidgeJoin, r) } s, answerLater) := by
    simp [joinBody, passes, underWay, occupy_pair]
  rw [exec_ridgeJoin, serve_later ok body rfl]

/-! ## Their boundaries and ends -/

/-- A split or join that has ended is answered while Gable serves (log entry 116). -/
theorem splitAnswer_finishes {code : BitVec 16} {r : Req} {s : State} (a : Answer) (req : s.pair.splitReq = some (code, r))
    (up : s.gable.up = true) : ∃ level, splitAnswer a s = finish code r level a { s with pair := { s.pair with splitReq := none } } := by
  refine ⟨(sessionOf r.port { s with pair := { s.pair with splitReq := none } }).level, ?_⟩
  unfold splitAnswer
  rw [req]
  exact if_pos up

/-- Step 2 of a split puts up the firewall and resets Ridge B behind it (R66). -/
theorem splitBoundary_firewall {s : State} (now : s.pair.splitAt = some s.tick.count) (busy : s.pair.splitBusy = true) :
    splitBoundary s = { s with
      pair := { s.pair with firewall := true, msgArea := [] }, ridgeB := { s.ridgeB with up := false } } := by
  simp [splitBoundary, now, busy]

/-- The end of tick k + 1 loads the split image (R66). -/
theorem splitEnd_loads {s : State} (now : s.pair.splitAt = some s.tick.count) (busy : s.pair.splitBusy = true)
    (wall : s.pair.firewall = true) (joined : s.pair.split = false) : splitEnd s = splitLoad s := by
  simp [splitEnd, now, busy, wall, joined]

/-- At the last boundary of a join the pair runs in lock-step again (R69). -/
theorem splitBoundary_joins {s : State} (now : s.pair.splitAt = some s.tick.count) (busy : s.pair.splitBusy = false) :
    splitBoundary s = splitAnswer (answerOk (be 4 s.tick.count.toNat)) { s with pair := { s.pair with
      joinBusy := false, splitAt := none, split := false, firewall := false, msgArea := [], joinedAt := some s.tick.boundary } } := by
  simp [splitBoundary, now, busy]

/-! ## LULL_ARM -/

theorem exec_lullArm (r : Req) (s : State) : exec (.lullArm r) s = .next (serve ccLullArm r (armBody r) s) := rfl

/-- The trigger registers as LULL_ARM writes them (R352). -/
def armed (r : Req) (s : State) : State :=
  writeTrig 0 (BitVec.ofNat 32 (r.num 0 1)) (writeTrig 1 (BitVec.ofNat 32 (r.num 8 4)) (writeTrig 2 (BitVec.ofNat 32 (r.num 4 4)) s))

theorem armBody_arms {r : Req} (s : State) (len : r.payload.length = 12) (kind : r.num 0 1 ≤ 3) (zero : r.num 1 3 = 0) :
    armBody r s = (armed r s, answer stOk) := by
  simp [armBody, len, zero, Nat.not_lt.2 kind, armed]

theorem trig_fits : ∀ n ≤ 3, BitVec.ofNat 32 n &&& 3#32 = BitVec.ofNat 32 n := by decide

/-! ## The statement -/

/-- Settles O31: the window, its two ends and the restart; a split and a join step by step; the trigger. -/
theorem lockoutClearanceSplitAndArm : Obligations.LockoutClearanceSplitAndArm := by
  unfold Obligations.LockoutClearanceSplitAndArm
  refine ⟨fun r s ok empty => ⟨_, exec_clearLockout_opens ok empty, clearLockoutOpen_window (inTurn_of_admits ok)⟩,
    fun s w win up press inside => ⟨_, exec_lockoutAckRelease_clears win up press inside, rfl, voted_of_val _, voted_of_val _, ?_, ?_,
      answered_finish ..⟩,
    fun s w win up past => ?_,
    fun s x => exec_lockoutRestart_restarts,
    fun r s ok empty permitted image joined free whole => ?_,
    fun s now busy => ?_,
    fun r s req now busy wall joined up => ?_,
    fun r s ok empty split free => ?_,
    fun r s req now busy up => ?_,
    fun r s ok len kind zero => ?_⟩
  · simp [endClearLockout]
  · simp [endClearLockout]
  · obtain ⟨flag, cause⟩ := lockout_of_stores (storesOf_finish s ccClearLockout w.req (sessionOf w.req.port s).level
      { answer stAckMissing with payload := be 2 (lockCauseOf s), arg := be 2 (lockCauseOf s) })
    refine ⟨_, exec_ackMissing_ends win up past, rfl, flag, cause, ?_, ?_, answered_finish ..⟩ <;> simp [endClearLockout]
  · obtain ⟨kept, mbx, ridge, thatch⟩ := underWay_frame { s.pair with
      splitBusy := true, splitAt := some (s.tick.count + 1), splitReq := some (ccRidgeSplit, r) } (inTurn_of_admits ok)
    exact ⟨_, exec_ridgeSplit_begins ok empty permitted image joined free whole, rfl, rfl, rfl, kept, mbx, joined, ridge, thatch⟩
  · rw [splitBoundary_firewall now busy]
    exact ⟨rfl, rfl, rfl, rfl, rfl⟩
  · obtain ⟨level, ends⟩ := splitAnswer_finishes (answerOk (be 4 s.tick.count.toNat)) (s := { s with
      pair := { s.pair with split := true }
      ridgeB := { s.ridgeB with up := !s.ridgeB.down }
      tcm := { s.tcm with
        instrB := memWriteBytes [] 0 s.active.image.splitCode, dataB := []
        ded := s.tcm.ded.filter (fun a => decide (a < 0x780000)) } }) req up
    rw [splitEnd_loads now busy wall joined, splitLoad, ends]
    refine ⟨?_, ?_, ?_, ?_, ?_, answered_finish ..⟩ <;> simp
  · obtain ⟨kept, mbx, ridge, thatch⟩ := underWay_frame { s.pair with
      splitAt := some (s.tick.count + 3), joinBad := false, splitReq := some (ccRidgeJoin, r) } (inTurn_of_admits ok)
    exact ⟨_, exec_ridgeJoin_begins ok empty split free, rfl, rfl, rfl, kept, mbx, split, ridge, thatch⟩
  · obtain ⟨level, ends⟩ := splitAnswer_finishes (answerOk (be 4 s.tick.count.toNat)) (s := { s with pair := { s.pair with
      joinBusy := false, splitAt := none, split := false, firewall := false, msgArea := [], joinedAt := some s.tick.boundary } }) req up
    rw [splitBoundary_joins now busy, ends]
    refine ⟨?_, ?_, ?_, ?_, answered_finish ..⟩ <;> simp
  · have body := armBody_arms (touch r.port s) len kind zero
    refine ⟨_, (exec_lullArm r s).trans (congrArg _ (serve_answered ok body rfl)), ?_, ?_, ?_, ?_, ?_, answered_finish ..⟩ <;>
      simp [armed, writeTrig, trig_fits _ kind]

end Sys2Proof.Proofs
end

section
/-! PROOF. Requests that are not executed: duplicates, conflicts, BUSY, what waits in the queue, and the timeout of what is in execution
(R70, R244 to R248). -/

namespace Sys2Proof.Proofs

open Sys2Proof Sys2Proof.Machine Sys2Proof.Safety Sys2Proof.Laws

/-! ## A good message on USB -/

section message
variable {m : List Byte} (fits : beAt m 4 2 ≤ 1012) (quads : beAt m 4 2 % 4 = 0)
  (whole : m.length = 12 + beAt m 4 2) (crc : beAt m (8 + beAt m 4 2) 4 = (crc32 (m.take (8 + beAt m 4 2))).toNat)
  (flags : beAt m 6 2 ≤ 1)
include fits quads whole crc flags

/-- What becomes of a good message is decided by its TAG alone, and for a TAG that is not kept by its CODE (R245, R248). -/
theorem takeNow_good (s : State) : takeNow .usb m s =
    match s.gable.keptUsb.find? (fun k => k.tag == BitVec.ofNat 16 (beAt m 0 2)) with
    | some k =>
      if k.body == m.drop 2 then postRsp .usb (dupMsg k.rsp) (k.rsp.getD 7 0) s
      else replyOnly .usb (BitVec.ofNat 16 (beAt m 0 2)) (BitVec.ofNat 16 (beAt m 2 2)) stTagConflict s
    | none =>
      let r : Req := { port := .usb, tag := BitVec.ofNat 16 (beAt m 0 2), flags := BitVec.ofNat 16 (beAt m 6 2)
                       payload := (m.drop 8).take (beAt m 4 2) }
      if knownCommand (BitVec.ofNat 16 (beAt m 2 2)) then
        { s with gable := { s.gable with
            queue := s.gable.queue ++ [(BitVec.ofNat 16 (beAt m 2 2), r)]
            started := if s.gable.queue.isEmpty then s.tb.count else s.gable.started } }
      else finishOne (BitVec.ofNat 16 (beAt m 2 2)) r (sessionOf .usb s).level (answer stUnknownCommand) s := by
  have length : (m.length < 12 || 1012 < beAt m 4 2 || beAt m 4 2 % 4 != 0 || m.length < 12 + beAt m 4 2 ||
      (Port.usb == .usb && m.length != 12 + beAt m 4 2)) = false := by
    simp [quads, whole, fits]
  have sum : (beAt m (8 + beAt m 4 2) 4 != (crc32 (m.take (8 + beAt m 4 2))).toNat) = false := by rw [crc, bne_self_eq_false]
  have reserved : ((BitVec.ofNat 16 (beAt m 6 2)).toNat / 2 != 0) = false := by
    rw [bne_eq_false_iff_eq, BitVec.toNat_ofNat]; omega
  have body : (m.take (12 + beAt m 4 2)).drop 2 = m.drop 2 := by rw [← whole, List.take_length]
  unfold takeNow
  dsimp only
  rw [length, if_neg Bool.false_ne_true, sum, if_neg Bool.false_ne_true, reserved, if_neg Bool.false_ne_true, body]
  rfl

omit fits quads whole crc flags in
/-- The reply to a TAG that is kept: the kept response as a duplicate, or TAG_CONFLICT (R248). -/
def keptReply (m : List Byte) (k : Kept) : List Byte :=
  if k.body = m.drop 2 then dupMsg k.rsp
  else rspMsg (BitVec.ofNat 16 (beAt m 0 2)) (BitVec.ofNat 16 (beAt m 2 2)) 0 stTagConflict []

/-- A good message whose TAG is kept has this reply, and no other effect. -/
theorem takeNow_replies {s : State} {k : Kept} (kept : s.gable.keptUsb.find? (fun q => q.tag == BitVec.ofNat 16 (beAt m 0 2)) = some k) :
    takeNow .usb m s = { s with gable := { s.gable with usbRsp := s.gable.usbRsp ++ [keptReply m k] } } := by
  rw [takeNow_good fits quads whole crc flags, kept]
  dsimp only
  unfold keptReply
  by_cases same : k.body = m.drop 2
  · rw [if_pos (beq_iff_eq.2 same), if_pos same]; rfl
  · rw [if_neg (mt beq_iff_eq.1 same), if_neg same]; rfl

/-- A good message with a new TAG and a CODE of Table 11.6 waits for Gable (R246). -/
theorem takeNow_queues {s : State} (fresh : ∀ k ∈ s.gable.keptUsb, k.tag ≠ BitVec.ofNat 16 (beAt m 0 2))
    (known : knownCommand (BitVec.ofNat 16 (beAt m 2 2)) = true) :
    ∃ w, takeNow .usb m s = { s with gable := { s.gable with
      queue := s.gable.queue ++ [(BitVec.ofNat 16 (beAt m 2 2),
        { port := .usb, tag := BitVec.ofNat 16 (beAt m 0 2), flags := BitVec.ofNat 16 (beAt m 6 2)
          payload := (m.drop 8).take (beAt m 4 2) })]
      started := w } } := by
  have none : s.gable.keptUsb.find? (fun k => k.tag == BitVec.ofNat 16 (beAt m 0 2)) = none := by simpa using fresh
  rw [takeNow_good fits quads whole crc flags, none]
  dsimp only
  rw [if_pos known]
  exact ⟨_, rfl⟩

end message

/-! ## Its turn -/

/-- A message that comes with nothing before it, or that waits for Gable, is taken as it comes. -/
theorem takeRequest_now {p : Port} {m : List Byte} {s : State}
    (h : s.gable.queue = [] ∨ s.gable.queue.length < (takeNow p m s).gable.queue.length) : takeRequest p m s = takeNow p m s := by
  exact if_pos (by rcases h with h | h <;> simp [h])

/-- One that is not to be executed waits for its turn behind an earlier request (R246). -/
theorem takeRequest_parks {p : Port} {m : List Byte} {s : State} (first : s.gable.queue ≠ [])
    (same : (takeNow p m s).gable.queue = s.gable.queue) :
    takeRequest p m s = { s with gable := { s.gable with parked := some (p, m) } } := by
  exact if_neg (by simp [first, same])

/-- The state in which a message on USB is looked at, once the host has read what has been answered. -/
def usbTouched (s : State) : State := touch .usb { s with gable := { s.gable with usbRsp := [] } }

theorem exec_usbRequest_takes {m : List Byte} {s : State} (attached : s.gable.usbAttached = true) (up : s.gable.up = true)
    (free : usbWaits s = false) : exec (.usbRequest m true) s = .next (takeRequest .usb m (usbTouched s)) := by
  have waits : usbWaits (usbTouched s) = false := free
  change execUsbRequest m true s = _
  unfold execUsbRequest
  rw [if_neg (by simp [attached, up])]
  exact if_pos (by rw [Bool.and_eq_true, Bool.not_eq_true']; exact ⟨rfl, waits⟩)

/-- A good message whose TAG is kept is answered as it comes where nothing is before it (R248). -/
theorem exec_usbRequest_replies {m : List Byte} {s : State} {reply : List Byte} (attached : s.gable.usbAttached = true)
    (up : s.gable.up = true) (free : usbWaits s = false) (first : s.gable.queue = [])
    (taken : takeNow .usb m (usbTouched s) =
      { usbTouched s with gable := { (usbTouched s).gable with usbRsp := (usbTouched s).gable.usbRsp ++ [reply] } }) :
    exec (.usbRequest m true) s = .next { usbTouched s with gable := { (usbTouched s).gable with usbRsp := [reply] } } := by
  rw [exec_usbRequest_takes attached up free, takeRequest_now (s := usbTouched s) (.inl first), taken]
  rfl

/-- Behind an earlier request, such a message waits for its turn (R246). -/
theorem exec_usbRequest_parks {m : List Byte} {s : State} {reply : List Byte} (attached : s.gable.usbAttached = true)
    (up : s.gable.up = true) (free : usbWaits s = false) (first : s.gable.queue ≠ [])
    (taken : takeNow .usb m (usbTouched s) =
      { usbTouched s with gable := { (usbTouched s).gable with usbRsp := (usbTouched s).gable.usbRsp ++ [reply] } }) :
    exec (.usbRequest m true) s = .next { usbTouched s with gable := { (usbTouched s).gable with parked := some (.usb, m) } } := by
  rw [exec_usbRequest_takes attached up free, takeRequest_parks (s := usbTouched s) first (by rw [taken])]

/-- Before the earlier response is there or read, a request on USB is answered BUSY (R244). -/
theorem exec_usbRequest_busy {m : List Byte} {s : State} (attached : s.gable.usbAttached = true) (up : s.gable.up = true)
    (busy : s.gable.usbRsp ≠ [] ∨ usbWaits s = true) : exec (.usbRequest m false) s =
      .next (replyOnly .usb (BitVec.ofNat 16 (beAt m 0 2)) (BitVec.ofNat 16 (beAt m 2 2)) stBusy (touch .usb s)) := by
  have no : (s.gable.usbRsp.isEmpty && !usbWaits s) = false := by
    rcases busy with rsp | waits
    · simp [rsp]
    · simp [waits]
  change execUsbRequest m false s = _
  unfold execUsbRequest
  rw [if_neg (by simp [attached, up])]
  exact if_neg (fun h => Bool.false_ne_true (no.symm.trans h))

/-! ## The end of a request -/

/-- A request that ends leaves the queue, and what waits behind it; one of SPI leaves what USB has been answered. -/
theorem finishOne_gable (code : BitVec 16) (r : Req) (level : BitVec 2) (a : Answer) (s : State) :
    (finishOne code r level a s).gable.queue = s.gable.queue.erase (code, r) ∧
      (finishOne code r level a s).gable.parked = s.gable.parked ∧
      (r.port = .spi → (finishOne code r level a s).gable.usbRsp = s.gable.usbRsp ∧
        (finishOne code r level a s).gable.keptUsb = s.gable.keptUsb) := by
  have logged (c : Prop) [Decidable c] : (if c then logCommand code r level a s else s).gable = s.gable := by split <;> simp
  unfold finishOne
  cases p : r.port <;> simp [keepRsp, postRsp, dequeue, logged]

/-- With nothing before it, a message of the other port has its turn. -/
theorem settleMbx_takes {p : Port} {m : List Byte} {s : State} (parked : s.gable.parked = some (otherPort p, m)) (empty : s.gable.queue = []) :
    settleMbx p s = takeNow (otherPort p) m { s with gable := { s.gable with parked := none } } := by
  unfold settleMbx
  rw [parked]
  exact if_pos (by simp [empty])

/-- A repeated request on USB whose turn comes has its reply then (R246, R248). -/
theorem settleMbx_replies {m : List Byte} {k : Kept} {s : State} (fits : beAt m 4 2 ≤ 1012) (quads : beAt m 4 2 % 4 = 0)
    (whole : m.length = 12 + beAt m 4 2) (crc : beAt m (8 + beAt m 4 2) 4 = (crc32 (m.take (8 + beAt m 4 2))).toNat)
    (flags : beAt m 6 2 ≤ 1) (parked : s.gable.parked = some (.usb, m)) (empty : s.gable.queue = [])
    (kept : s.gable.keptUsb.find? (fun q => q.tag == BitVec.ofNat 16 (beAt m 0 2)) = some k) :
    settleMbx .spi s = { s with gable := { s.gable with parked := none, usbRsp := s.gable.usbRsp ++ [keptReply m k] } } :=
  (settleMbx_takes (p := .spi) parked empty).trans (takeNow_replies fits quads whole crc flags kept)

theorem settleMbx_idle {p : Port} {s : State} (parked : s.gable.parked = none) : settleMbx p s = s := by
  unfold settleMbx
  rw [parked]

/-! ## The timeout -/

/-- The state in which a request that has run out of time is given up: no window of CLEAR_LOCKOUT, no held request. -/
def givenUp (s : State) : State := { s with lockWin := none, gable := { s.gable with held := none } }

/-- The request in execution is answered TIMEOUT (R247). -/
theorem exec_mailboxCommandTimeout_ends {s : State} {code : BitVec 16} {r : Req} {rest : List (BitVec 16 × Req)} (up : s.gable.up = true)
    (req : s.pair.splitReq = none) (queue : s.gable.queue = (code, r) :: rest)
    (late : s.gable.started.toNat + timeoutOf s code ≤ s.tb.count.toNat) :
    exec .mailboxCommandTimeout s = .next (finish code r (sessionOf r.port s).level (answer stTimeout) (givenUp s)) := by
  change execMailboxCommandTimeout s = _
  unfold execMailboxCommandTimeout
  rw [req, queue]
  exact if_pos (by simp [up, due, late])

/-- A split or join before its step 2 is given up and answered TIMEOUT (R70). -/
theorem exec_mailboxCommandTimeout_aborts {s : State} {code : BitVec 16} {r : Req} (up : s.gable.up = true)
    (req : s.pair.splitReq = some (code, r)) (early : beforeStep2 s = true)
    (late : s.gable.started.toNat + timeoutOf s code ≤ s.tb.count.toNat) :
    exec .mailboxCommandTimeout s =
      .next (finish code r (sessionOf r.port s).level (answer stTimeout) { s with pair := splitAbort s.pair }) := by
  change execMailboxCommandTimeout s = _
  unfold execMailboxCommandTimeout
  rw [req]
  exact if_pos (by simp [up, due, late, early])

/-- From step 2 on it runs to its end. -/
theorem exec_mailboxCommandTimeout_runs {s : State} {q : BitVec 16 × Req} (req : s.pair.splitReq = some q) (after : beforeStep2 s = false) :
    exec .mailboxCommandTimeout s = .next s := by
  change execMailboxCommandTimeout s = _
  unfold execMailboxCommandTimeout
  rw [req]
  exact if_neg (by simp [after])

/-! ## The statement -/

/-- Settles O23: the message by its TAG and its turn, then the timeout of what stands first and of a split or join. -/
theorem repeatsQueueAndTimeout : Obligations.RepeatsQueueAndTimeout := by
  unfold Obligations.RepeatsQueueAndTimeout
  refine ⟨fun s m k attached up free long fits quads whole crc flags kept => ?_,
    fun s m k code r up req queue spi parked late long fits quads whole crc flags kept same => ?_,
    fun s m attached up busy => ⟨_, exec_usbRequest_busy attached up busy, rfl, rfl, rfl⟩,
    fun s m attached up free long fits quads whole crc flags fresh known => ?_,
    fun s code r rest up req queue parked late => ?_,
    fun s code r up req before late => ?_,
    fun s q x req now reached walled => ?_⟩
  · have reply := takeNow_replies fits quads whole crc flags (s := usbTouched s) kept
    by_cases first : s.gable.queue = []
    · refine ⟨_, exec_usbRequest_replies attached up free first reply, rfl, rfl, rfl, rfl, fun _ body => ?_, fun _ other => ?_,
        fun waits => absurd first waits⟩
      · rw [keptReply, if_pos body]
      · rw [keptReply, if_neg other]
    · exact ⟨_, exec_usbRequest_parks attached up free first reply, rfl, rfl, rfl, rfl, fun empty => absurd empty first,
        fun empty => absurd empty first, fun _ => ⟨rfl, rfl⟩⟩
  · obtain ⟨erased, waiting, usb⟩ := finishOne_gable code r (sessionOf r.port s).level (answer stTimeout) (givenUp s)
    obtain ⟨usbRsp, keptUsb⟩ := usb spi
    have empty : (finishOne code r (sessionOf r.port s).level (answer stTimeout) (givenUp s)).gable.queue = [] := by
      rw [erased, givenUp, queue]; simp
    have ends : finish code r (sessionOf r.port s).level (answer stTimeout) (givenUp s) = _ :=
      (congrArg (fun p => settleMbx p _) spi).trans
        (settleMbx_replies fits quads whole crc flags (waiting.trans parked) empty ((congrArg _ keptUsb).trans kept))
    refine ⟨_, exec_mailboxCommandTimeout_ends up req queue late, ?_, ?_, answered_finish .., ?_, ?_⟩
    · rw [ends]; exact empty
    · rw [ends]
    · rw [ends, keptReply, if_pos same, usbRsp]; rfl
    · rw [ends]; exact keptUsb
  · obtain ⟨w, taken⟩ := takeNow_queues fits quads whole crc flags (s := usbTouched s) fresh known
    have longer := takeRequest_now (p := .usb) (m := m) (s := usbTouched s) (.inr (by rw [taken]; simp))
    exact ⟨_, (exec_usbRequest_takes attached up free).trans (congrArg _ (longer.trans taken)), rfl, rfl, rfl⟩
  · obtain ⟨erased, waiting, -⟩ := finishOne_gable code r (sessionOf r.port s).level (answer stTimeout) (givenUp s)
    obtain ⟨-, held, cand, -⟩ := gable_of_core (gableCore_finish (givenUp s) code r (sessionOf r.port s).level (answer stTimeout))
    refine ⟨_, exec_mailboxCommandTimeout_ends up req queue late, ?_, answered_finish .., ?_, held, ?_, ?_, ?_, ?_, cand⟩
    · rw [finish, settleMbx_idle (waiting.trans parked), erased, givenUp, queue]
      simp
    all_goals simp [givenUp]
  · have early : beforeStep2 s = true := by
      unfold beforeStep2
      cases at_ : s.pair.splitAt with
      | none => rfl
      | some x => simpa using before x at_
    refine ⟨_, exec_mailboxCommandTimeout_aborts up req early late, ?_, ?_, ?_, ?_, ?_, answered_finish ..⟩ <;> simp [splitAbort]
  · have after : beforeStep2 s = false := by
      unfold beforeStep2
      rw [now]
      simpa [reached] using walled
    exact exec_mailboxCommandTimeout_runs req after

end Sys2Proof.Proofs
end

section
/-! PROOF. Times of the safety functions that run out (R91, R93, R110 to R119): what an expiry does to its block, what it leaves, and
the fault that it raises. -/

namespace Sys2Proof.Proofs

open Sys2Proof Sys2Proof.Machine Sys2Proof.Laws Sys2Proof.Safety

/-! ## Faults found -/

/-- What no fault found by a channel touches: the channels, the lanes, the field side and the mode. -/
def plantView (s : State) : (Chan × Chan) × (LaneFc × LaneFc) × FieldSt × Mode :=
  ((s.ridge, s.thatch), (s.laneP, s.laneT), s.field, s.mode)

@[simp] theorem plantView_raise (code : BitVec 16) (arg : Nat) (s : State) : plantView (raise code arg s) = plantView s := by
  simp [plantView]

@[simp] theorem plantView_raiseFound (cfg : Config.Image) (f : FaultOf) (s : State) : plantView (raiseFound cfg f s) = plantView s := by
  rw [← plantView_raise f.1 f.2 s]
  unfold raiseFound
  dsimp only
  split <;> rfl

@[simp] theorem tableStill_raiseFound (cfg : Config.Image) (f : FaultOf) (s : State) : tableStill (raiseFound cfg f s) = tableStill s := by
  unfold raiseFound tableStill
  dsimp only
  split <;> simp

/-- A fault found is raised; beyond that, only the events of its pair are shown (R98). -/
theorem hasFault_raiseFound (cfg : Config.Image) (f : FaultOf) (s : State) (c : BitVec 16) (o : Nat) :
    hasFault (raiseFound cfg f s) c o = hasFault (raise f.1 f.2 s) c o := by
  unfold raiseFound
  dsimp only
  split <;> rfl

/-- Of the faults found one after another, each is present at the end. -/
theorem hasFault_foldl_raiseFound (cfg : Config.Image) {l : List FaultOf} {s : State} {f : FaultOf} (live : tableStill s = false)
    (other : f.1 ≠ fcEvtLost) (found : f ∈ l ∨ hasFault s f.1 (f.2 % 65536) = true) :
    hasFault (l.foldl (fun u f => raiseFound cfg f u) s) f.1 (f.2 % 65536) = true := by
  induction l generalizing s with
  | nil => exact found.resolve_left List.not_mem_nil
  | cons g l ih =>
    refine ih (by rwa [tableStill_raiseFound]) ?_
    rw [hasFault_raiseFound, hasFault_raise _ _ _ _ _ other]
    rcases found with mem | stood
    · rcases List.mem_cons.1 mem with rfl | later
      · exact .inr (by simp [live])
      · exact .inl later
    · exact .inr (by simp [stood])

/-! ## An expiry in one channel and in both -/

section
variable {g : Expiry} {s : State} {k : Nat} {y : Config.Inst}

/-- A block whose time runs out in a running channel that has not evaluated yet; the block as it stood is kept (R106). -/
theorem expireIn_acts {c : Chan} {b d : Blk} (runs : c.frozen = false) (before : c.evaluated = false) (once : ∀ q ∈ c.early, q.1 ≠ k)
    (stood : c.blk[k]? = some b)
    (falls : g { x := blkCtx (evalCfg s) (sharedOf s) c, k := k, y := y, blk := c.blk } b = some d) :
    expireIn g s k y c = { c with blk := c.blk.set k d, early := c.early ++ [(k, b)] } := by
  have fresh : c.early.any (fun q => q.1 == k) = false := by simpa using once
  simp [expireIn, runs, before, fresh, stood, falls]

/-- An expiry writes the channels and the fault table only. -/
theorem plantView_expire {typs : List Nat} (evaluates : s.mode.evaluates = true) (inst : (evalCfg s).insts[k]? = some y)
    (typ : typs.contains y.typ = true) : plantView (expire typs g k s) =
      ((expireIn g s k y s.ridge, expireIn g s k y s.thatch), (s.laneP, s.laneT), s.field, s.mode) := by
  simp only [expire, evaluates, inst, typ, Bool.not_true, Bool.false_eq_true, if_false]
  exact foldl_keeps plantView _ (fun t f => plantView_raiseFound _ f t) _ _

/-- A fault that an expiry brings to a block of either channel is present. -/
theorem hasFault_expire {typs : List Nat} {l : Lane} {f : FaultOf} (evaluates : s.mode.evaluates = true)
    (live : tableStill s = false) (inst : (evalCfg s).insts[k]? = some y) (typ : typs.contains y.typ = true) (other : f.1 ≠ fcEvtLost)
    (found : f ∈ newBlkFault k (chanOf l s) (expireIn g s k y (chanOf l s))) :
    hasFault (expire typs g k s) f.1 (f.2 % 65536) = true := by
  simp only [expire, evaluates, inst, typ, Bool.not_true, Bool.false_eq_true, if_false]
  refine hasFault_foldl_raiseFound _ live other (.inl (List.mem_append.2 ?_))
  cases l
  · exact .inl found
  · exact .inr found

/-- The fault of a block that had none. -/
theorem mem_newBlkFault {old c : Chan} {b d : Blk} (stood : old.blk[k]? = some b) (is : c.blk[k]? = some d) (clean : b.fault = 0)
    (faulty : d.fault ≠ 0) : (d.fault, k + d.detail * 65536) ∈ newBlkFault k old c := by
  rw [newBlkFault, stood, is]
  simpa [on, clean] using ⟨Ne.symm faulty, faulty⟩

end

section
variable {l : Lane} {c : Instr} {s : State} {k typ : Nat} {b d : Blk} {typs : List Nat} {g : Expiry}

/-- The row of a block as its expiry reads it: the configuration, its number and its entry. -/
def rowIs (s : State) (k : Nat) (q : RowCtx) : Prop := q.x.cfg = evalCfg s ∧ q.k = k ∧ (evalCfg s).insts[k]? = some q.y

/-- A time that an expiry reads is the time of the configuration in ticks. -/
theorem ticksFor_row {q : RowCtx} (row : rowIs s k q) (p : Config.Param) (dflt : Nat) : ticksFor q.x p q.k dflt = ticksAt s p k dflt := by
  obtain ⟨cfg, no, -⟩ := row
  rw [ticksFor, ticksAt, cfg, no]

/-- A block whose time runs out: it is the one that the expiry makes, and everything around it stays. -/
theorem expire_block (inst : instAt l s k typ b) (mem : typs.contains typ = true) (falls : ∀ q, rowIs s k q → g q b = some d) :
    (chanOf l (expire typs g k s)).blk[k]? = some d ∧
      (∀ j, j ≠ k → (chanOf l (expire typs g k s)).blk[j]? = (chanOf l s).blk[j]?) ∧
      (expire typs g k s).laneP = s.laneP ∧ (expire typs g k s).laneT = s.laneT ∧ (expire typs g k s).field = s.field ∧
      (expire typs g k s).mode = s.mode ∧
      (d.fault ≠ 0 → d.fault ≠ fcEvtLost → hasFault (expire typs g k s) d.fault k = true) := by
  obtain ⟨evaluates, live, runs, before, once, fits, clean, stood, y, entry, rfl⟩ := inst
  have view := plantView_expire (g := g) evaluates entry mem
  simp only [plantView, Prod.mk.injEq] at view
  obtain ⟨⟨ridge, thatch⟩, ⟨laneP, laneT⟩, field, mode⟩ := view
  have acts := expireIn_acts runs before once stood (falls _ ⟨rfl, rfl, entry⟩)
  have chan : chanOf l (expire typs g k s) = expireIn g s k y (chanOf l s) := by cases l <;> assumption
  have long : k < (chanOf l s).blk.length := (List.getElem?_eq_some_iff.1 stood).1
  have is : (expireIn g s k y (chanOf l s)).blk[k]? = some d := by simp [acts, long]
  refine ⟨chan ▸ is, fun j other => ?_, laneP, laneT, field, mode, fun faulty other => ?_⟩
  · rw [chan, acts]
    exact List.getElem?_set_ne (Ne.symm other)
  · have found := mem_newBlkFault stood is clean faulty
    simpa [Nat.mod_eq_of_lt fits] using hasFault_expire evaluates live entry mem other found

theorem expiresTo_of {p : Blk → Prop} (inst : instAt l s k typ b) (run : exec c s = .next (expire typs g k s))
    (mem : typs.contains typ = true) (falls : ∀ q, rowIs s k q → g q b = some d) (holds : p d) : expiresTo l c s k p := by
  obtain ⟨is, others, laneP, laneT, field, mode, -⟩ := expire_block inst mem falls
  exact ⟨_, d, run, is, holds, others, laneP, laneT, field, mode⟩

theorem faultsTo_of {code : BitVec 16} (inst : instAt l s k typ b) (run : exec c s = .next (expire typs g k s))
    (mem : typs.contains typ = true) (falls : ∀ q, rowIs s k q → g q b = some d) (ends : d.st = 4 ∧ d.out = 0 ∧ d.fault = code)
    (listed : code ≠ 0 ∧ code ≠ fcEvtLost) : faultsTo l c s k code := by
  obtain ⟨st, out, rfl⟩ := ends
  obtain ⟨is, others, laneP, laneT, -, mode, raised⟩ := expire_block inst mem falls
  exact ⟨_, d, run, is, st, out, rfl, raised listed.1 listed.2, others, laneP, laneT, mode⟩

end

/-! ## A block in a new state -/

@[simp] theorem enter_st (b : Blk) (st : Nat) : (enter b st).st = st := by
  unfold enter
  split
  · exact Eq.symm ‹_›
  · rfl

theorem enter_cnt {b : Blk} {st : Nat} (leaves : b.st ≠ st) : (enter b st).cnt = 0 := by
  rw [enter, if_neg leaves.symm]

/-! ## The rows of the tables -/

section
variable {s : State} {k : Nat} {q : RowCtx} {b : Blk}

theorem pairExpiry_falls {y : Config.Inst} {m n : Nat} (row : rowIs s k q) (entry : (evalCfg s).insts[k]? = some y)
    (ins : y.ins = [.pin m, .pin n]) (apart : b.st = 1 ∨ b.st = 3) (late : ticksAt s .inTDisc m 100000 < b.cnt + 1) :
    pairExpiry q b = some { b with st := 4, cnt := 0, fault := fcDiscrepancy, out := 0 } := by
  obtain ⟨cfg, -, own⟩ := row
  obtain rfl : y = q.y := by simpa [entry] using own
  rw [ticksAt, ← cfg] at late
  simp [pairExpiry, ins, apart, late]

theorem estopExpiry_falls (row : rowIs s k q) (stopping : b.st = 3) (late : ticksAt s .estopTStop k 1000000 ≤ b.cnt + 1) :
    estopExpiry q b = some { enter b 0 with out := 0 } := by
  simp [estopExpiry, ticksFor_row row, stopping, late]

theorem unlockExpiry_falls (row : rowIs s k q) (released : b.st = 8) (closed : b.fA = false)
    (late : ticksAt s .glTUnlockMax k 60000000 ≤ b.cnt + 1) :
    unlockExpiry q b = some { enter b 9 with fB := false, out := 0 } := by
  simp [unlockExpiry, ticksFor_row row, released, closed, late]

theorem lockExpiry_falls (row : rowIs s k q) (locking : b.st = 9) (counts : b.fB = true)
    (separate : lookN (evalCfg s) .glMonitor k 0 0 = 1) (late : ticksAt s .glTLock k 1000000 < b.cnt + 1) :
    lockExpiry q b = some { enter b 4 with fB := false, fault := fcLockTimeout, out := 0 } := by
  have times := ticksFor_row row
  obtain ⟨cfg, no, -⟩ := row
  rw [← cfg, ← no] at separate
  simp [lockExpiry, times, locking, counts, separate, late]

/-- The two limits of the muting counts (R114, R115). -/
theorem mutingLimits_row (row : rowIs s k q) : mutingLimits q.x q.k =
    (if lookN (evalCfg s) .curMuting k 0 0 = 2 then ticksAt s .curT12 k 2000000 else ticksAt s .curTSync k 2000000,
      ticksAt s .curTMuteMax k 30000000) := by
  simp only [mutingLimits, ticksFor_row row]
  obtain ⟨cfg, no, -⟩ := row
  rw [cfg, no]

theorem mutingSeqExpiry_falls (row : rowIs s k q) (on_ : b.st = 2) (armed : b.sel = 1)
    (late : (if lookN (evalCfg s) .curMuting k 0 0 = 2 then ticksAt s .curT12 k 2000000 else ticksAt s .curTSync k 2000000) < b.cnt + 1) :
    mutingSeqExpiry q b = some (mutingFault fcMutingSeq b) := by
  simp only [mutingSeqExpiry, mutingLimits_row row, on_, armed, late, decide_true, Bool.and_self, if_true]

theorem mutingTimeExpiry_falls (row : rowIs s k q) (on_ : b.st = 2) (muted : b.sel = 2)
    (late : ticksAt s .curTMuteMax k 30000000 < b.cnt2 + 1) : mutingTimeExpiry q b = some (mutingFault fcMutingTime b) := by
  simp [mutingTimeExpiry, mutingLimits_row row, on_, muted, late]

theorem twoHandExpiry_falls (row : rowIs s k q) (one : b.st = 9) (late : 500000 / cfgT (evalCfg s) - 1 < b.cnt + 1) :
    twoHandExpiry q b = some { enter b 11 with out := 0 } := by
  obtain ⟨cfg, -, -⟩ := row
  rw [← cfg] at late
  simp [twoHandExpiry, nSync, one, late]

theorem enable3Expiry_falls (row : rowIs s k q) (enabled : b.st = 9) (limited : ticksAt s .en3TMax k 0 ≠ 0)
    (late : ticksAt s .en3TMax k 0 ≤ b.cnt + 1) : enable3Expiry q b = some { enter b 10 with out := 0 } := by
  simp [enable3Expiry, ticksFor_row row, enabled, limited, late]

theorem modeSelExpiry_falls (row : rowIs s k q) (changing : b.st = 9) (late : ticksAt s .msTChange k 500000 < b.cnt + 1) :
    modeSelExpiry q b = some { enter b 4 with fault := fcModeImplausible, out := 0 } := by
  simp [modeSelExpiry, ticksFor_row row, changing, late]

theorem edmKind_picking (row : rowIs s k q) (picking : b.st = 9) (late : ticksAt s .edmTPick k 100000 < b.cnt + 1) :
    edmKind q b = 1 := by
  simp [edmKind, ticksFor_row row, picking, late]

theorem edmKind_dropping (row : rowIs s k q) (dropping : b.st = 11 ∨ (b.st = 8 ∧ b.fB = true))
    (late : ticksAt s .edmTDrop k 100000 < b.cnt + 1) : edmKind q b = 2 := by
  rcases dropping with dropping | ⟨off, opened⟩
  · simp [edmKind, ticksFor_row row, dropping, late]
  · simp [edmKind, ticksFor_row row, off, opened, late]

theorem edmExpiry_falls {kind : Nat} (is : edmKind q b = kind) (late : kind ≠ 0) :
    edmExpiry q b = some { enter b 4 with fault := fcEdmFault, detail := kind, fB := false, out := 0 } := by
  simp [edmExpiry, is, late]

end

/-! ## RESET_STUCK -/

/-- An acknowledge input closed for its longest press is stuck in its channel; the other inputs stay (R93). -/
theorem stuckInput_sets {cfg : Config.Image} {n : Fin 48} {c : Chan} (role : lookN cfg .inAckRole n 0 0 ≠ 0)
    (long : ackMax (cfgT cfg) ≤ c.inp[n].closed) : (stuckInput cfg n c).inp[n].stuck = true ∧
      ∀ j : Fin 48, j ≠ n → (stuckInput cfg n c).inp[j] = c.inp[j] := by
  have acts : stuckInput cfg n c = { c with inp := vmod c.inp n (fun y => { y with stuck := true }) } :=
    if_pos (by simpa using ⟨role, long⟩)
  rw [acts]
  exact ⟨by rw [getElem_vmod_self], fun j other => getElem_vmod_ne _ n j _ other⟩

/-- Both channels judge the input; it is a fault where either finds it stuck. -/
theorem exec_resetStuck {n : Fin 48} {s : State} {l : Lane} (evaluates : s.mode.evaluates = true)
    (stuck : (stuckInput (evalCfg s) n (chanOf l s)).inp[n].stuck = true) : exec (.resetStuck n) s = .next (raise fcResetStuck n
      { s with ridge := stuckInput (evalCfg s) n s.ridge, thatch := stuckInput (evalCfg s) n s.thatch }) := by
  change execResetStuck n s = _
  have found : ((stuckInput (evalCfg s) n s.ridge).inp[n].stuck || (stuckInput (evalCfg s) n s.thatch).inp[n].stuck) = true := by
    cases l
    · exact Bool.or_eq_true_iff.2 (.inl stuck)
    · exact Bool.or_eq_true_iff.2 (.inr stuck)
  simp only [execResetStuck, evaluates, vget_fin, found, Bool.not_true, Bool.false_eq_true, if_false, if_true]

/-! ## The statement -/

/-- Settles O55: row by row, each by its expiry and by what an expiry leaves; then the acknowledge input. -/
theorem safetyFunctionTimes : Obligations.SafetyFunctionTimes := by
  unfold Obligations.SafetyFunctionTimes
  refine ⟨fun l s k m n b y inst entry ins apart late => ?_, fun l s k b inst stopping late => ?_,
    fun l s k b inst released closed late => ?_, fun l s k b inst locking counts separate late => ?_,
    fun l s k b inst on_ armed four late => ?_, fun l s k b inst on_ armed two late => ?_,
    fun l s k b inst on_ muted late => ?_, fun l s k b inst one late => ?_,
    fun l s k b inst enabled limited late => ?_, fun l s k b inst changing late => ?_,
    fun l s k b inst late => ?_, fun l s n evaluates live role long => ?_⟩
  · exact faultsTo_of inst rfl rfl (fun q row => pairExpiry_falls row entry ins apart late) ⟨rfl, rfl, rfl⟩ (by decide)
  · exact expiresTo_of inst rfl rfl (fun q row => estopExpiry_falls row stopping late)
      ⟨enter_st b 0, enter_cnt (by omega), rfl⟩
  · exact expiresTo_of inst rfl rfl (fun q row => unlockExpiry_falls row released closed late)
      ⟨enter_st b 9, enter_cnt (by omega), rfl⟩
  · exact faultsTo_of inst rfl rfl (fun q row => lockExpiry_falls row locking counts separate late)
      ⟨enter_st b 4, rfl, rfl⟩ (by decide)
  · exact faultsTo_of inst rfl rfl (fun q row => mutingSeqExpiry_falls row on_ armed (by rwa [if_pos four]))
      ⟨enter_st b 4, rfl, rfl⟩ (by decide)
  · exact faultsTo_of inst rfl rfl (fun q row => mutingSeqExpiry_falls row on_ armed (by rwa [if_neg (by omega)]))
      ⟨enter_st b 4, rfl, rfl⟩ (by decide)
  · exact faultsTo_of inst rfl rfl (fun q row => mutingTimeExpiry_falls row on_ muted late)
      ⟨enter_st b 4, rfl, rfl⟩ (by decide)
  · exact expiresTo_of inst rfl rfl (fun q row => twoHandExpiry_falls row one late) ⟨enter_st b 11, rfl⟩
  · exact expiresTo_of inst rfl rfl (fun q row => enable3Expiry_falls row enabled limited late) ⟨enter_st b 10, rfl⟩
  · exact faultsTo_of inst rfl rfl (fun q row => modeSelExpiry_falls row changing late)
      ⟨enter_st b 4, rfl, rfl⟩ (by decide)
  · rcases late with ⟨picking, late⟩ | ⟨dropping, late⟩
    · exact faultsTo_of inst rfl rfl (fun q row => edmExpiry_falls (edmKind_picking row picking late) (by decide))
        ⟨enter_st b 4, rfl, rfl⟩ (by decide)
    · exact faultsTo_of inst rfl rfl (fun q row => edmExpiry_falls (edmKind_dropping row dropping late) (by decide))
        ⟨enter_st b 4, rfl, rfl⟩ (by decide)
  · obtain ⟨stuck, others⟩ := stuckInput_sets role long
    refine ⟨_, exec_resetStuck evaluates stuck, ?_, hasFault_raise_at (by decide) live (by omega), ?_, by simp⟩
    · cases l <;> simpa [chanOf] using stuck
    · cases l <;> simpa [chanOf] using others

end Sys2Proof.Proofs
end

section
/-! PROOF. Gust pulses and the overload of a test-pulse output (R83 to R88, R95): one input and one output under each command, and the
follow result that the frame carries. -/

namespace Sys2Proof.Proofs

open Sys2Proof Sys2Proof.Machine Sys2Proof.Laws

/-! ## Inputs and outputs of the field side -/

section
variable (p : Nat → Bool) (g : Nat → InFc → InFc) (f : TpoFc → TpoFc) (s : State)

theorem inpAll_at (n : Fin 48) : (inpAll p g s).field.inp[n] = if p n then g n s.field.inp[n] else s.field.inp[n] := by
  simp only [inpAll, Fin.getElem_fin, getElem_vtab _ n.isLt, vget_fin]

theorem tpoUpd_self (m : Fin 16) : (tpoUpd m f s).field.tpo[m] = f s.field.tpo[m] := getElem_vmod_self ..

@[simp] theorem tpoUpd_inp (m : Nat) : (tpoUpd m f s).field.inp = s.field.inp := rfl

theorem tpoUpd_frame (m : Nat) (x : FieldSt) : { tpoUpd m f s with field := x } = { s with field := x } := rfl

theorem inpAll_frame (x : FieldSt) : { inpAll p g s with field := x } = { s with field := x } := rfl

theorem tpoUpd_ne {m k : Fin 16} (h : k ≠ m) : (tpoUpd m f s).field.tpo[k] = s.field.tpo[k] := getElem_vmod_ne _ m k f h

end

/-- An input that its own TPO feeds is no foreign one (R87). -/
theorem foreignOf_fed {cfg : Config.Image} {l : LaneFc} {m n : Nat} (fed : fcInTpo l n = m + 1) : foreignOf cfg l m n = false := by
  simp [foreignOf, fed]

/-- The follow of a STANDARD input is never checked (R95). -/
theorem mode_of_followChecked {l : LaneFc} {n : Nat} (checked : followChecked l n = true) : fcInMode l n ≠ 5 := by
  intro standard
  simp [followChecked, standard] at checked

section
variable (l : LaneFc) (n : Nat) (x : InFc)

@[simp] theorem isOn_followFail (kind : BitVec 4) : (followFail kind x).isOn = x.isOn := rfl

@[simp] theorem isOn_tpoFailIn : (tpoFailIn l n x).isOn = x.isOn := by
  unfold tpoFailIn
  (repeat' split) <;> rfl

theorem tpoFailIn_standard (h : fcInMode l n = 5) : tpoFailIn l n x = x := if_pos h

theorem tpoFailIn_kind (h : fcInMode l n ≠ 5) : (tpoFailIn l n x).kind = 4 := by
  rw [tpoFailIn, if_neg h]
  split
  · simp [followFail]
  · rfl

theorem tpoFailIn_checked (h : followChecked l n = true) : tpoFailIn l n x = followFail 4 x := by
  rw [tpoFailIn, if_neg (mode_of_followChecked h), if_pos h]

/-- A TPO fault lets no input follow that has not followed. -/
theorem tpoFailIn_followOk (h : x.followOk = false) : (tpoFailIn l n x).followOk = false := by
  unfold tpoFailIn
  split
  · exact h
  · split
    · rfl
    · exact h

end

/-- An input that is ON at a TPO with a fault does not follow in the frame, unless it is STANDARD (R88, R95). -/
theorem inFrameOf_follow_fails {s : State} {m : Fin 16} {n : Fin 48} (fed : fcInTpo s.laneP n = m.val + 1) (used : fcInMode s.laneP n ≠ 5)
    (on_ : s.field.inp[n].isOn = true) (fault : s.field.tpo[m].overload = true ∨ s.field.tpo[m].stuck = true) :
    (inFrameOf .p s).follow.getLsbD n = false := by
  have fails : tpoFails s.laneP s.field.tpo n s.field.inp[n] = true := by
    rw [tpoFails, fed]
    simpa only [vget_fin, on_, bne_iff_ne.2 used, Bool.and_self, Bool.true_and, Bool.or_eq_true] using fault
  change (bitsOf 48 (fun n => _)).getLsbD n = false
  rw [getLsbD_bitsOf _ n.isLt]
  simp only [vget_fin, laneOf, fails, Bool.not_true, Bool.and_false]

/-! ## The start and window 1 (R46, R84, R85) -/

/-- A TPO that has begun a pulse. -/
def pulsing (width : Nat) (now : W64) (x : TpoFc) : TpoFc := { x with phase := 1, width := width, driven := true, t0 := now }

/-- A pulse has started: its TPO, and the inputs whose state it notes. -/
def gustStarted (m : Fin 16) (on : BitVec 48) (s : State) : State :=
  tpoUpd m (pulsing (fcTpoWidth s.laneP m) s.tb.count)
    (inpAll (fun n => fcInTpo s.laneP n == m.val + 1 || (foreignOf s.active.image s.laneP m n && !inOwnWindow s.laneP s.field.tpo n))
      (fun n x => { x with onAtT0 := on.getLsbD n, failNow := false }) s)

theorem exec_gustPulseStart_starts {s : State} {m : Fin 16} {g : GustEv} (on : BitVec 48) (agreed : agreedGust s m = some g)
    (pulse : g.code = 1) (inTick : g.off.toNat * 10 < tickUs s) (may : mayPulse s m = true)
    (now : max s.laneP.det.toNat s.laneT.det.toNat + g.off.toNat * 1000 ≤ s.tb.count.toNat) :
    exec (.gustPulseStart m on) s = .next (gustStarted m on s) := by
  have reached : due s (gustBase s + g.off.toNat * 10 * tUs) = true := by
    rw [due, gustBase, tUs, decide_eq_true_eq]
    omega
  change execGustPulseStart m s on = _
  unfold execGustPulseStart
  rw [agreed]
  exact if_pos (by simp [pulse, inTick, may, reached])

theorem exec_gustPulseStart_none {s : State} {m : Fin 16} (on : BitVec 48) (h : agreedGust s m = none) :
    exec (.gustPulseStart m on) s = .next s := by
  change execGustPulseStart m s on = _
  unfold execGustPulseStart
  rw [h]

theorem gustStarted_tpo (m : Fin 16) (on : BitVec 48) (s : State) :
    (gustStarted m on s).field.tpo[m] = pulsing (fcTpoWidth s.laneP m) s.tb.count s.field.tpo[m] ∧
      ∀ k : Fin 16, k ≠ m → (gustStarted m on s).field.tpo[k] = s.field.tpo[k] :=
  ⟨tpoUpd_self .., fun _ other => tpoUpd_ne _ _ other⟩

theorem gustStarted_inp {m : Fin 16} {n : Fin 48} (on : BitVec 48) {s : State} (fed : fcInTpo s.laneP n = m.val + 1) :
    (gustStarted m on s).field.inp[n] = { s.field.inp[n] with onAtT0 := on.getLsbD n, failNow := false } := by
  rw [gustStarted, tpoUpd_inp, inpAll_at, if_pos (by simp [fed])]

/-- An input at the end of window 1: it has fallen by then, or it has MISSED the pulse. -/
def window1 (off : BitVec 48) (delays : Vector Nat 48) (n : Nat) (y : InFc) : InFc :=
  if off.getLsbD n then { y with edgeDly := BitVec.ofNat 8 (min 255 (vget delays n 0)) } else followFail 1 y

/-- A TPO's own inputs whose follow is checked. -/
def ownChecked (s : State) (m n : Nat) : Bool := fcInTpo s.laneP n == m + 1 && followChecked s.laneP n

theorem ownChecked_iff {s : State} {m n : Nat} :
    ownChecked s m n = true ↔ fcInTpo s.laneP n = m + 1 ∧ followChecked s.laneP n = true := by
  simp [ownChecked]

/-- Window 1 has ended: the TPO's own inputs that were ON, and the foreign ones that have fallen. -/
def window1Ended (m : Fin 16) (off foreign : BitVec 48) (delays : Vector Nat 48) (s : State) : State :=
  tpoUpd m (fun y => { y with phase := 2 })
    (inpAll (fun n => foreignOf s.active.image s.laneP m n && foreign.getLsbD n && !inOwnWindow s.laneP s.field.tpo n
        && (vget s.field.inp n InFc.reset).onAtT0) (fun _ y => followFail 3 y)
      (inpAll (fun n => ownChecked s m n && (vget s.field.inp n InFc.reset).onAtT0) (window1 off delays) s))

theorem exec_gustWindow1End_ends {s : State} {m : Fin 16} (off foreign : BitVec 48) (delays : Vector Nat 48)
    (opened : s.field.tpo[m].phase = 1) (late : s.field.tpo[m].t0.toNat + 15000 ≤ s.tb.count.toNat) :
    exec (.gustWindow1End m off foreign delays) s = .next (window1Ended m off foreign delays s) :=
  if_pos (Bool.and_eq_true_iff.2 ⟨decide_eq_true opened, decide_eq_true late⟩)

theorem window1Ended_frame (m : Fin 16) (off foreign : BitVec 48) (delays : Vector Nat 48) (s : State) :
    { window1Ended m off foreign delays s with field := s.field } = s :=
  (tpoUpd_frame ..).trans ((inpAll_frame ..).trans (inpAll_frame ..))

/-- An own input that was ON meets nothing but its own window. -/
theorem window1Ended_inp {s : State} {m : Fin 16} {n : Fin 48} (off foreign : BitVec 48) (delays : Vector Nat 48)
    (fed : fcInTpo s.laneP n = m.val + 1) (checked : followChecked s.laneP n = true) (was : s.field.inp[n].onAtT0 = true) :
    (window1Ended m off foreign delays s).field.inp[n] = window1 off delays n s.field.inp[n] := by
  have own : ownChecked s m n = true := ownChecked_iff.2 ⟨fed, checked⟩
  rw [window1Ended, tpoUpd_inp, inpAll_at, foreignOf_fed fed, if_neg (by simp), inpAll_at, own, vget_fin, was]
  rfl

/-! ## The hold interval (R81, R85, R86, R88) -/

/-- What the hold interval does to one input. -/
theorem holdFails_at (m : Nat) (high : Bool) (on : BitVec 48) (s : State) (n : Fin 48) : (holdFails m high on s).field.inp[n] =
    let y := if (ownChecked s m n && on.getLsbD n) = true then followFail 2 s.field.inp[n] else s.field.inp[n]
    if (high && fcInTpo s.laneP n == m + 1 && (s.field.inp[n].onAtT0 || s.field.inp[n].isOn)) = true then tpoFailIn s.laneP n y else y := by
  cases high
  · exact inpAll_at ..
  · refine (inpAll_at ..).trans ?_
    simp only [inpAll_at, vget_fin, Bool.true_and]
    rfl

section
variable {m : Nat} {high : Bool} {on : BitVec 48} {s : State} {n : Fin 48}

theorem holdFails_isOn : (holdFails m high on s).field.inp[n].isOn = s.field.inp[n].isOn := by
  rw [holdFails_at]
  dsimp only
  (repeat' split) <;> simp

/-- A STANDARD input takes no part (R95). -/
theorem holdFails_standard (h : fcInMode s.laneP n = 5) : (holdFails m high on s).field.inp[n] = s.field.inp[n] := by
  have unchecked : ownChecked s m n = false :=
    Bool.eq_false_iff.2 fun own => mode_of_followChecked (ownChecked_iff.1 own).2 h
  rw [holdFails_at]
  simp only [unchecked, tpoFailIn_standard _ _ _ h, Bool.false_and, Bool.false_eq_true, if_false, ite_self]

theorem holdFails_cross (own : ownChecked s m n = true) (held : on.getLsbD n = true) :
    (holdFails m high on s).field.inp[n].followOk = false := by
  rw [holdFails_at]
  simp only [own, held, Bool.and_self, if_true]
  split
  · exact tpoFailIn_followOk _ _ _ rfl
  · rfl

/-- A land still high fails each input that was ON. -/
theorem holdFails_high (fed : fcInTpo s.laneP n = m + 1) (used : fcInMode s.laneP n ≠ 5)
    (was : s.field.inp[n].onAtT0 = true ∨ s.field.inp[n].isOn = true) : (holdFails m true on s).field.inp[n].kind = 4 ∧
      (followChecked s.laneP n = true → (holdFails m true on s).field.inp[n].followOk = false) := by
  have fails : (true && fcInTpo s.laneP n == m + 1 && (s.field.inp[n].onAtT0 || s.field.inp[n].isOn)) = true := by
    simpa only [fed, beq_self_eq_true, Bool.true_and, Bool.or_eq_true] using was
  rw [holdFails_at]
  dsimp only
  rw [if_pos fails]
  exact ⟨tpoFailIn_kind _ _ _ used, fun checked => by rw [tpoFailIn_checked _ _ _ checked]; rfl⟩

theorem holdFails_frame : tableStill (holdFails m high on s) = tableStill s ∧ (holdFails m high on s).field.tpo = s.field.tpo := by
  cases high <;> exact ⟨rfl, rfl⟩

end

/-- A fault of another class than H that clears while the table moves is gone (R286). -/
theorem hasFault_clearFault_at {code : BitVec 16} {n : Nat} {s : State} (other : code ≠ fcEvtLost)
    (light : (faultClass code == .h) = false) (live : tableStill s = false) : hasFault (clearFault code n s) code n = false := by
  rw [hasFault_clearFault _ _ _ _ _ other, live, light, beq_self_eq_true, beq_self_eq_true]
  exact Bool.and_false _

/-- TPO_STUCK_HIGH writes the fault table only. -/
theorem stuckHigh_frame (m low : Nat) (high : Bool) (s : State) :
    (stuckHigh m low high s).field = s.field ∧ (stuckHigh m low high s).laneP = s.laneP := by
  unfold stuckHigh
  (repeat' split) <;> simp

theorem stuckHigh_high {m low : Nat} {s : State} (live : tableStill s = false) (fits : m < 65536) :
    hasFault (stuckHigh m low true s) fcTpoStuckHigh m = true := hasFault_raise_at (by decide) live fits

theorem stuckHigh_low {m low : Nat} {s : State} (live : tableStill s = false) (second : 2 ≤ low) :
    hasFault (stuckHigh m low false s) fcTpoStuckHigh m = false := by
  rw [stuckHigh, if_neg Bool.false_ne_true, if_pos second]
  exact hasFault_clearFault_at (by decide) (by decide) live

/-- Pulses in a row whose land has been seen low, as the end of a hold interval counts them; none before its end. -/
def lowPulses (ended high : Bool) (x : TpoFc) : Nat := if ended then (if high then 0 else x.lowRun + 1) else 0

/-- A TPO in its hold interval, before its end and from its end on. -/
def heldTpo (ended high : Bool) (low : Nat) (x : TpoFc) : TpoFc :=
  if ended then { x with phase := 3, lowRun := low, stuck := high || (x.stuck && decide (low < 2)) }
  else { x with lowRun := if high then 0 else x.lowRun, stuck := high || x.stuck }

theorem heldTpo_phase (ended high : Bool) (low : Nat) (x : TpoFc) :
    (heldTpo ended high low x).phase = if ended then 3 else x.phase := by
  cases ended <;> rfl

theorem heldTpo_stuck (ended : Bool) (low : Nat) (x : TpoFc) : (heldTpo ended true low x).stuck = true := by
  cases ended <;> rfl

/-- What the hold interval has shown by now, before its end and from its end on. -/
def holdSeen (m : Fin 16) (ended high : Bool) (on : BitVec 48) (s : State) : State :=
  stuckHigh m (lowPulses ended high s.field.tpo[m]) high
    (tpoUpd m (heldTpo ended high (lowPulses ended high s.field.tpo[m])) (holdFails m high on s))

theorem exec_gustPulseEnd_holds {s : State} {m : Fin 16} (landMv : Nat) (on : BitVec 48) (holds : s.field.tpo[m].phase = 2) :
    exec (.gustPulseEnd m landMv on) s = .next (holdSeen m (due s (s.field.tpo[m].t0.toNat + s.field.tpo[m].width * tUs))
      (decide (12000 < landMv)) on s) := by
  have holding : ¬ (s.field.tpo[m].phase != 2) = true := by rw [holds]; decide
  refine (if_neg holding).trans ?_
  change (if due s (s.field.tpo[m].t0.toNat + s.field.tpo[m].width * tUs) = true then _ else _) = _
  cases due s (s.field.tpo[m].t0.toNat + s.field.tpo[m].width * tUs) <;> rfl

section
variable (m : Fin 16) (ended high : Bool) (on : BitVec 48) (s : State)

theorem holdSeen_laneP : (holdSeen m ended high on s).laneP = s.laneP :=
  (stuckHigh_frame ..).2.trans (by cases high <;> rfl)

theorem holdSeen_inp : (holdSeen m ended high on s).field.inp = (holdFails m high on s).field.inp := by
  rw [holdSeen, (stuckHigh_frame ..).1, tpoUpd_inp]

theorem holdSeen_tpo :
    (holdSeen m ended high on s).field.tpo[m] = heldTpo ended high (lowPulses ended high s.field.tpo[m]) s.field.tpo[m] := by
  simp only [holdSeen, (stuckHigh_frame ..).1, tpoUpd_self, holdFails_frame.2]

end

/-! ## Window 2 (R86) -/

/-- An input at the end of window 2, by the results of both controllers. -/
def judged (okP okT : BitVec 48) (n : Nat) (y : InFc) : InFc :=
  let z := { y with viewDiff := if okP.getLsbD n != okT.getLsbD n then y.viewDiff + 1 else 0 }
  if y.failNow then z else if okP.getLsbD n && okT.getLsbD n then { z with followOk := true } else followFail 1 z

/-- An own input that the pulse concerns: it was ON, or has failed. -/
def concerned (s : State) (m n : Nat) : Bool :=
  ownChecked s m n && ((vget s.field.inp n InFc.reset).onAtT0 || (vget s.field.inp n InFc.reset).failNow)

theorem concerned_iff {s : State} {m : Nat} {n : Fin 48} : concerned s m n = true ↔ fcInTpo s.laneP n = m + 1 ∧
    followChecked s.laneP n = true ∧ (s.field.inp[n].onAtT0 = true ∨ s.field.inp[n].failNow = true) := by
  rw [concerned, vget_fin, Bool.and_eq_true, ownChecked_iff, Bool.or_eq_true, and_assoc]

/-- At the end of window 2 an input is judged where the pulse concerns it; one that was OFF is not checked, which reads as followed. -/
theorem exec_gustWindow2End_ends {s : State} {m : Fin 16} (okP okT : BitVec 48) (opened : s.field.tpo[m].phase = 3)
    (late : s.field.tpo[m].t0.toNat + (s.field.tpo[m].width + 150) * 100 ≤ s.tb.count.toNat) :
    ∃ t, exec (.gustWindow2End m okP okT) s = .next t ∧ t.field.tpo[m].phase = 0 ∧ ∀ n : Fin 48, t.field.inp[n] =
      if concerned s m n then judged okP okT n s.field.inp[n]
      else if ownChecked s m n then { s.field.inp[n] with followOk := true } else s.field.inp[n] := by
  have ends : (decide (s.field.tpo[m].phase = 3) && due s (s.field.tpo[m].t0.toNat + (s.field.tpo[m].width + 150) * tUs)) = true :=
    Bool.and_eq_true_iff.2 ⟨decide_eq_true opened, decide_eq_true late⟩
  have field : ∃ t, exec (.gustWindow2End m okP okT) s = .next t ∧ t.field = (tpoUpd m (fun y => { y with phase := 0 })
      (inpAll (concerned s m) (judged okP okT)
        (inpAll (fun n => ownChecked s m n && !concerned s m n) (fun _ y => { y with followOk := true }) s))).field :=
    ⟨_, if_pos ends, foldl_keeps State.field _ (fun t n => by simp) _ _⟩
  obtain ⟨t, run, field⟩ := field
  refine ⟨t, run, by rw [field, tpoUpd_self], fun n => ?_⟩
  rw [field, tpoUpd_inp, inpAll_at, inpAll_at]
  cases concerned s m n <;> simp only [Bool.not_false, Bool.not_true, Bool.and_true, Bool.and_false, Bool.false_eq_true, if_false, if_true]

theorem judged_followOk {okP okT : BitVec 48} {n : Nat} {y : InFc} (calm : y.failNow = false) :
    (judged okP okT n y).followOk = (okP.getLsbD n && okT.getLsbD n) := by
  simp only [judged, calm, Bool.false_eq_true, if_false]
  cases okP.getLsbD n <;> cases okT.getLsbD n <;> rfl

/-! ## Overload (R88) -/

/-- A TPO that its overload has switched off. -/
def switchedOff (x : TpoFc) : TpoFc := { x with overload := true, restart := none, phase := 0 }

/-- The TPO and the inputs that it feeds and that are ON. -/
def overloaded (m : Fin 16) (s : State) : State :=
  inpAll (fun n => fcInTpo s.laneP n == m.val + 1 && (vget s.field.inp n InFc.reset).isOn) (tpoFailIn s.laneP) (tpoUpd m switchedOff s)

theorem exec_tpoOverload_off {s : State} {m : Fin 16} (used : fcTpoMode s.laneP m ≠ 0) (level : s.laneP.resetLevel = false)
    (drives : s.field.tpo[m].overload = false ∨ s.field.tpo[m].restart ≠ none) :
    exec (.tpoOverload m) s = .next (raise fcTpoOverload m (overloaded m s)) := by
  have acts : (s.field.tpo[m].overload && s.field.tpo[m].restart.isNone) = false := by
    rcases drives with off | again
    · rw [off, Bool.false_and]
    · rw [Option.isNone_eq_false_iff.2 (Option.isSome_iff_ne_none.2 again), Bool.and_false]
  exact if_neg (by rw [decide_eq_false used, level]; exact Bool.eq_false_iff.1 acts)

theorem overloaded_rest (m : Fin 16) (s : State) :
    (overloaded m s).laneP = s.laneP ∧ (overloaded m s).ridge = s.ridge ∧ (overloaded m s).thatch = s.thatch := ⟨rfl, rfl, rfl⟩

theorem overloaded_tpo (m : Fin 16) (s : State) : (overloaded m s).field.tpo[m] = switchedOff s.field.tpo[m] := tpoUpd_self ..

theorem overloaded_at (m : Fin 16) (s : State) (n : Fin 48) : (overloaded m s).field.inp[n] =
    if fcInTpo s.laneP n = m.val + 1 ∧ s.field.inp[n].isOn = true then tpoFailIn s.laneP n s.field.inp[n] else s.field.inp[n] := by
  rw [overloaded, inpAll_at]
  simp only [vget_fin, tpoUpd_inp, Bool.and_eq_true, beq_iff_eq]

theorem overloaded_isOn (m : Fin 16) (s : State) (n : Fin 48) : (overloaded m s).field.inp[n].isOn = s.field.inp[n].isOn := by
  rw [overloaded_at]
  split
  · exact isOn_tpoFailIn ..
  · rfl

theorem exec_tpoOverloadClear_clears {s : State} {m : Fin 16} {x : W64} (fault : s.field.tpo[m].overload = true)
    (again : s.field.tpo[m].restart = some x) (late : x.toNat + 10000000 ≤ s.tb.count.toNat) : exec (.tpoOverloadClear m) s =
      .next (clearFault fcTpoOverload m (tpoUpd m (fun x => { x with overload := false, restart := none }) s)) := by
  change execTpoOverloadClear m s = _
  unfold execTpoOverloadClear
  rw [← Fin.getElem_fin, again]
  exact if_pos (Bool.and_eq_true_iff.2 ⟨fault, decide_eq_true late⟩)

theorem exec_tpoOverloadClear_none {s : State} {m : Fin 16} (h : s.field.tpo[m].restart = none) :
    exec (.tpoOverloadClear m) s = .next s := by
  change execTpoOverloadClear m s = _
  unfold execTpoOverloadClear
  rw [← Fin.getElem_fin, h]

/-! ## The statement -/

/-- Settles O46: the pulse from its start to the end of window 2, then the overload and its end. -/
theorem gustPulsesAndTpoOverload : Obligations.GustPulsesAndTpoOverload := by
  unfold Obligations.GustPulsesAndTpoOverload
  refine ⟨fun s m g on agreed pulse inTick may now => ?_, fun s m on none_ => ?_, fun s m off foreign delays opened late => ?_,
    fun s m landMv on holds live => ?_, fun s m okP okT opened late => ?_, fun s m used level drives live => ?_,
    fun s m x fault again late live => ?_, fun s m none_ => ?_⟩
  · obtain ⟨tpo, others⟩ := gustStarted_tpo m on s
    refine ⟨_, exec_gustPulseStart_starts on agreed pulse inTick may now, ?_⟩
    rw [tpo]
    refine ⟨rfl, rfl, rfl, rfl, fun n fed => ?_, others, rfl⟩
    rw [gustStarted_inp on fed]
    exact ⟨rfl, rfl⟩
  · exact exec_gustPulseStart_none on none_
  · refine ⟨_, exec_gustWindow1End_ends off foreign delays opened late, ?_, fun n fed checked was still => ?_,
      fun n fed checked was fell => ?_, window1Ended_frame m off foreign delays s⟩
    · rw [window1Ended, tpoUpd_self]
    · rw [window1Ended_inp off foreign delays fed checked was, window1, if_neg (by rw [still]; decide)]
      exact ⟨rfl, rfl⟩
    · rw [window1Ended_inp off foreign delays fed checked was, window1, if_pos fell, vget_fin]
      exact ⟨rfl, rfl⟩
  · refine ⟨_, exec_gustPulseEnd_holds landMv on holds, ?_, fun n fed checked held => ?_, fun high => ?_, fun n standard => ?_,
      fun low ended second => ?_⟩
    · rw [holdSeen_tpo, heldTpo_phase, holds, due]
      simp only [decide_eq_true_eq]
    · rw [holdSeen_inp]
      exact holdFails_cross (ownChecked_iff.2 ⟨fed, checked⟩) held
    · rw [decide_eq_true high]
      have stuck := holdSeen_tpo m (due s (s.field.tpo[m].t0.toNat + s.field.tpo[m].width * tUs)) true on s
      refine ⟨stuckHigh_high (holdFails_frame.1.trans live) (by omega), by rw [stuck, heldTpo_stuck], fun n fed used is => ⟨?_, ?_⟩,
        fun n fed checked was => ?_⟩
      · refine inFrameOf_follow_fails (m := m) ?_ ?_ ?_ (.inr (by rw [stuck, heldTpo_stuck]))
        · rwa [holdSeen_laneP]
        · rwa [holdSeen_laneP]
        · rwa [holdSeen_inp, holdFails_isOn]
      · rw [holdSeen_inp]
        exact (holdFails_high fed used (.inr is)).1
      · rw [holdSeen_inp]
        obtain ⟨kind, fails⟩ := holdFails_high (on := on) fed (mode_of_followChecked checked) (.inl was)
        exact ⟨fails checked, kind⟩
    · rw [holdSeen_inp]
      exact holdFails_standard standard
    · rw [decide_eq_false (Nat.not_lt.2 low), show due s _ = true from decide_eq_true ended]
      exact stuckHigh_low (holdFails_frame.1.trans live) (by simp only [lowPulses, if_true, Bool.false_eq_true, if_false]; omega)
  · obtain ⟨t, run, phase, at_⟩ := exec_gustWindow2End_ends okP okT opened late
    refine ⟨t, run, phase, fun n fed checked was calm yesP yesT => ?_, fun n fed checked was calm apart => ?_,
      fun n fed checked was calm => ?_, fun n other => ?_⟩
    · rw [at_, if_pos (concerned_iff.2 ⟨fed, checked, .inl was⟩), judged_followOk calm, yesP, yesT]
      rfl
    · rw [at_, if_pos (concerned_iff.2 ⟨fed, checked, .inl was⟩), judged_followOk calm]
      exact Bool.and_eq_false_iff.2 apart
    · have apart : ¬ concerned s m n = true := fun h => by
        simpa only [was, calm, Bool.false_eq_true, or_self] using (concerned_iff.1 h).2.2
      rw [at_, if_neg apart, if_pos (ownChecked_iff.2 ⟨fed, checked⟩)]
    · rw [at_, if_neg (fun h => other (concerned_iff.1 h).1), if_neg (fun h => other (ownChecked_iff.1 h).1)]
  · have field : (raise fcTpoOverload m (overloaded m s)).field = (overloaded m s).field := by simp
    have laneP : (raise fcTpoOverload m (overloaded m s)).laneP = s.laneP := by simp [overloaded_rest]
    refine ⟨_, exec_tpoOverload_off used level drives, ?_, ?_, fun n fed mode is => ⟨?_, ?_⟩, fun n fed checked is => ?_,
      fun n apart => ?_, hasFault_raise_at (by decide) live (by omega), ?_, ?_⟩
    · rw [field, overloaded_tpo]; rfl
    · rw [field, overloaded_tpo]; rfl
    · refine inFrameOf_follow_fails (m := m) ?_ ?_ ?_ (.inl ?_)
      · rwa [laneP]
      · rwa [laneP]
      · rwa [field, overloaded_isOn]
      · rw [field, overloaded_tpo]; rfl
    · rw [field, overloaded_at, if_pos ⟨fed, is⟩, tpoFailIn_kind _ _ _ mode]
    · rw [field, overloaded_at, if_pos ⟨fed, is⟩, tpoFailIn_checked _ _ _ checked]; rfl
    · rw [field, overloaded_at]
      rcases apart with standard | other
      · rw [tpoFailIn_standard _ _ _ standard, ite_self]
      · rw [if_neg (fun h => other h.1)]
    · simp [overloaded_rest]
    · simp [overloaded_rest]
  · have field := clearFault_frame fcTpoOverload m (tpoUpd m (fun x => { x with overload := false, restart := none }) s)
    refine ⟨_, exec_tpoOverloadClear_clears fault again late, ?_, hasFault_clearFault_at (by decide) (by decide) live⟩
    simp only [field, tpoUpd_self]
  · exact exec_tpoOverloadClear_none none_

end Sys2Proof.Proofs
end

section
/-! PROOF. Times of the timers, of A_THRESH and of the motion blocks that run out (R120, R121, R162, R163, R167, R171 to R173): rows
whose expiry reads the entry of the block, or its axis as its own channel sees it. -/

namespace Sys2Proof.Proofs

open Sys2Proof Sys2Proof.Machine Sys2Proof.Laws Sys2Proof.Safety

/-! ## The row of a block in its own channel -/

/-- The row of instance `k` as the channel of lane `l` reads it. -/
def rowOf (l : Lane) (s : State) (k : Nat) (y : Config.Inst) : RowCtx :=
  { x := blkCtx (evalCfg s) (sharedOf s) (chanOf l s), k := k, y := y, blk := (chanOf l s).blk }

/-- The axis of instance `k` as the channel of lane `l` sees it. -/
def axisOf (l : Lane) (s : State) (k : Nat) : AxView :=
  axView (blkCtx (evalCfg s) (sharedOf s) (chanOf l s)) (lookN (evalCfg s) .bAxis k 0 0)

section
variable {l : Lane} {c : Instr} {s : State} {k typ : Nat} {b : Blk} {y : Config.Inst} {typs : List Nat} {g : Expiry}

@[simp] theorem rowOf_y : (rowOf l s k y).y = y := rfl

@[simp] theorem rowAxis_rowOf : rowAxis (rowOf l s k y) = axisOf l s k := rfl

@[simp] theorem ticksFor_rowOf (p : Config.Param) (dflt : Nat) :
    ticksFor (rowOf l s k y).x p (rowOf l s k y).k dflt = ticksAt s p k dflt := rfl

@[simp] theorem look_rowOf (p : Config.Param) (dflt : Int) :
    look (rowOf l s k y).x.cfg p (rowOf l s k y).k 0 dflt = look (evalCfg s) p k 0 dflt := rfl

/-- An expiry does its part in the channel of each lane. -/
theorem chanOf_expire (evaluates : s.mode.evaluates = true) (entry : (evalCfg s).insts[k]? = some y)
    (mem : typs.contains y.typ = true) : chanOf l (expire typs g k s) = expireIn g s k y (chanOf l s) := by
  have view := plantView_expire (g := g) evaluates entry mem
  simp only [plantView, Prod.mk.injEq] at view
  obtain ⟨⟨ridge, thatch⟩, -⟩ := view
  cases l <;> assumption

/-- An expiry leaves everything as it is, or does its part in each channel and raises the faults found there. -/
theorem expire_cases (typs : List Nat) (g : Expiry) (k : Nat) (s : State) : expire typs g k s = s ∨
    ∃ y, expire typs g k s =
      (newBlkFault k s.ridge (expireIn g s k y s.ridge) ++ newBlkFault k s.thatch (expireIn g s k y s.thatch)).foldl
        (fun u f => raiseFound (evalCfg s) f u)
        { s with ridge := expireIn g s k y s.ridge, thatch := expireIn g s k y s.thatch } := by
  unfold expire
  split
  · exact .inl rfl
  · split
    · exact .inl rfl
    · split
      · exact .inl rfl
      · exact .inr ⟨_, rfl⟩

theorem tableStill_expire : tableStill (expire typs g k s) = tableStill s := by
  rcases expire_cases typs g k s with same | ⟨y, parts⟩
  · rw [same]
  · rw [parts]
    exact foldl_keeps tableStill _ (fun t f => tableStill_raiseFound _ f t) _ _

/-- The block after an expiry of it: the one that the expiry makes, or the same where none falls due. -/
theorem blk_expire (inst : instAt l s k typ b) (entry : (evalCfg s).insts[k]? = some y) (mem : typs.contains y.typ = true) :
    (chanOf l (expire typs g k s)).blk[k]? = some ((g (rowOf l s k y) b).getD b) := by
  obtain ⟨evaluates, -, runs, before, once, -, -, stood, -⟩ := inst
  rw [chanOf_expire evaluates entry mem]
  cases falls : g (rowOf l s k y) b with
  | none =>
    rw [rowOf] at falls
    have fresh : (chanOf l s).early.any (fun q => q.1 == k) = false := by simpa using once
    simp [expireIn, runs, before, fresh, stood, falls]
  | some d =>
    rw [expireIn_acts runs before once stood falls]
    simp [(List.getElem?_eq_some_iff.1 stood).1]

theorem blk_expire_ne {j : Nat} (evaluates : s.mode.evaluates = true) (entry : (evalCfg s).insts[k]? = some y)
    (mem : typs.contains y.typ = true) (other : j ≠ k) :
    (chanOf l (expire typs g k s)).blk[j]? = (chanOf l s).blk[j]? := by
  rw [chanOf_expire evaluates entry mem, expireIn]
  split
  · rfl
  · split
    · split
      · exact List.getElem?_set_ne (Ne.symm other)
      · rfl
    · rfl

/-- A row that makes a block of its own entry and axis: that block stands in the channel, and everything around it stays. -/
theorem expiresTo_row {p : Blk → Prop} (inst : instAt l s k typ b) (run : exec c s = .next (expire typs g k s))
    (mem : typs.contains typ = true)
    (falls : ∀ y, (evalCfg s).insts[k]? = some y → y.typ = typ → ∃ d, g (rowOf l s k y) b = some d ∧ p d) : expiresTo l c s k p := by
  obtain ⟨evaluates, -, -, -, -, -, -, -, y, entry, rfl⟩ := id inst
  obtain ⟨d, makes, holds⟩ := falls y entry rfl
  have view := plantView_expire (g := g) evaluates entry mem
  simp only [plantView, Prod.mk.injEq] at view
  obtain ⟨-, ⟨laneP, laneT⟩, field, mode⟩ := view
  exact ⟨_, d, run, by rw [blk_expire inst entry mem, makes]; rfl, holds, fun j => blk_expire_ne evaluates entry mem, laneP, laneT,
    field, mode⟩

/-- A row that ends in FAULT by its own entry and axis: the fault is present as well. -/
theorem faultsTo_row {code : BitVec 16} (inst : instAt l s k typ b) (run : exec c s = .next (expire typs g k s))
    (mem : typs.contains typ = true)
    (falls : ∀ y, (evalCfg s).insts[k]? = some y → y.typ = typ → ∃ d, g (rowOf l s k y) b = some d ∧ d.st = 4 ∧ d.out = 0 ∧
      d.fault = code)
    (listed : code ≠ 0 ∧ code ≠ fcEvtLost) : faultsTo l c s k code := by
  obtain ⟨t, d, ran, is, ⟨st, out, rfl⟩, others, laneP, laneT, -, mode⟩ :=
    expiresTo_row (p := fun d => d.st = 4 ∧ d.out = 0 ∧ d.fault = code) inst run mem falls
  obtain rfl : expire typs g k s = t := by simpa [run] using ran
  obtain ⟨evaluates, live, -, -, -, fits, clean, stood, y, entry, rfl⟩ := inst
  have found := mem_newBlkFault stood (chanOf_expire evaluates entry mem ▸ is) clean listed.1
  have raised := hasFault_expire evaluates live entry mem listed.2 found
  exact ⟨_, d, run, is, st, out, rfl, by simpa [Nat.mod_eq_of_lt fits] using raised, others, laneP, laneT, mode⟩

end

/-! ## Timers and A_THRESH (R120, R121) -/

section
variable {l : Lane} {s : State} {k typ : Nat} {b : Blk} {y : Config.Inst}

theorem timerExpiry_sets (ton : y.typ = 0x0A) (runs : b.fB = true) (stays : b.prev.getLsbD 0 = true)
    (late : ticksAt s .timPt k 0 ≤ b.cnt + 1) : timerExpiry (rowOf l s k y) b =
      some { b with fA := true, fB := false, cnt := ticksAt s .timPt k 0, out := 1 } := by
  simp only [timerExpiry, ticksFor_rowOf, rowOf_y, runs, ton, stays, Nat.not_lt.2 late, Bool.not_true, Bool.false_or, decide_false,
    Bool.false_eq_true, if_false, if_true]

theorem timerExpiry_clears (other : y.typ ≠ 0x0A) (runs : b.fB = true) (late : ticksAt s .timPt k 0 ≤ b.cnt + 1) :
    timerExpiry (rowOf l s k y) b = some { b with fA := false, fB := false, cnt := 0, out := 0 } := by
  simp only [timerExpiry, ticksFor_rowOf, rowOf_y, runs, other, Nat.not_lt.2 late, Bool.not_true, Bool.false_or, decide_false,
    Bool.false_eq_true, if_false]

theorem aThreshExpiry_demands (beyond : b.fB = true) (first : b.fA = false) (on_ : b.st = 1 ∨ b.st = 2)
    (late : ticksAt s .atTDelay k 0 ≤ b.cnt + 1) : aThreshExpiry (rowOf l s k y) b =
      some { enter b 0 with fA := true, fB := true, cnt := b.cnt + 1, out := 0 } := by
  simp [aThreshExpiry, beyond, first, on_, late]

/-! ## Stop blocks (R162, R163, R167) -/

/-- A stop block in a new state has the outputs of that state (Tables 7.4, 7.5). -/
theorem stopTo_out (q : RowCtx) (st : Nat) (b : Blk) : (stopTo q st b).out = stopOut q.y.typ st (standstill (rowAxis q)) := by
  unfold stopTo
  dsimp only
  split <;> rfl

theorem stopTo_st (q : RowCtx) (st : Nat) (b : Blk) : (stopTo q st b).st = st := by
  unfold stopTo
  dsimp only
  split <;> exact enter_st b st

/-- SOS_ACTIVE holds the position at which it was entered (R166). -/
theorem stopTo_p0a (q : RowCtx) (b : Blk) : (stopTo q 14 b).p0a = (rowAxis q).pA := rfl

/-- FAULT has every output 0, whatever the stop block. -/
theorem stopOut_fault (typ : Nat) (ss : Bool) : stopOut typ 4 ss = 0 := by
  unfold stopOut
  split <;> cases ss <;> decide

/-- A stop block beyond its window, or not at standstill in time. -/
theorem stopTo_exceeded (q : RowCtx) (b : Blk) : { stopTo q 4 b with fault := fcSosExceeded }.st = 4 ∧
    { stopTo q 4 b with fault := fcSosExceeded }.out = 0 ∧ { stopTo q 4 b with fault := fcSosExceeded }.fault = fcSosExceeded :=
  ⟨stopTo_st q 4 b, (stopTo_out q 4 b).trans (stopOut_fault _ _), rfl⟩

/-- STO_ACTIVE of a stop block with four outputs has TEN and BRQ 0. -/
theorem stopOut_stoActive {typ : Nat} (four : typ = 0x21 ∨ typ = 0x22) (ss : Bool) :
    (stopOut typ 9 ss).getLsbD 0 = false ∧ (stopOut typ 9 ss).getLsbD 3 = false := by
  rcases four with rfl | rfl <;> cases ss <;> decide

/-- STOPPING of an SS1T leads to BRAKING, or to STO_ACTIVE where T_BRAKE is 0 (R162). -/
theorem afterStop_rowOf : afterStop (rowOf l s k y).x (rowOf l s k y).k 0x21 =
    if ticksAt s .tBrake k 0 = 0 then 9 else 12 := rfl

theorem ss1tExpiry_leaves (ss1t : y.typ = 0x21) (stopping : b.st = 11) (late : ticksAt s .s1TStop k 1000000 ≤ b.cnt + 1) :
    ss1tExpiry (rowOf l s k y) b = some (stopTo (rowOf l s k y) (if ticksAt s .tBrake k 0 = 0 then 9 else 12) b) := by
  rw [← afterStop_rowOf (l := l) (y := y)]
  simp [ss1tExpiry, stopping, late, ss1t]

theorem brakingExpiry_holds (braking : b.st = 12) (late : ticksAt s .tBrake k 0 ≤ b.cnt + 1)
    (within : offWindow (axisOf l s k) b (look (evalCfg s) .sosWin k 0 1000) = false) :
    brakingExpiry (rowOf l s k y) b = some (stopTo (rowOf l s k y) 9 b) := by
  simp [brakingExpiry, nBrake, braking, late, within]

theorem brakingExpiry_slips (braking : b.st = 12) (late : ticksAt s .tBrake k 0 ≤ b.cnt + 1)
    (off : offWindow (axisOf l s k) b (look (evalCfg s) .sosWin k 0 1000) = true) :
    brakingExpiry (rowOf l s k y) b = some { stopTo (rowOf l s k y) 4 b with fault := fcSosExceeded } := by
  simp [brakingExpiry, nBrake, braking, late, off]

theorem sosExpiry_moves (delaying : b.st = 13) (late : ticksAt s .sosTDelay k 0 ≤ b.cnt + 1)
    (moves : standstill (axisOf l s k) = false) :
    sosExpiry (rowOf l s k y) b = some { stopTo (rowOf l s k y) 4 b with fault := fcSosExceeded } := by
  simp [sosExpiry, delaying, late, moves]

theorem sosExpiry_stands (delaying : b.st = 13) (late : ticksAt s .sosTDelay k 0 ≤ b.cnt + 1) (ins : y.ins = [])
    (stands : standstill (axisOf l s k) = true) :
    sosExpiry (rowOf l s k y) b = some (stopTo (rowOf l s k y) 14 b) := by
  simp [sosExpiry, delaying, late, stands, ins, linkVal]

/-! ## SBC (R171 to R173) -/

theorem sbcReleaseExpiry_ends (releasing : b.st = 9) (late : ticksAt s .sbcTRel k 100000 ≤ b.cnt + 1) :
    sbcReleaseExpiry (rowOf l s k y) b = some { enter b 10 with out := outs [true, true] } := by
  simp [sbcReleaseExpiry, releasing, late]

theorem brakeTestExpiry_passes (testing : b.st = 11) (asked : b.prev.getLsbD 0 = true)
    (late : ticksAt s .sbtTTest k 1000000 ≤ b.cnt + 1)
    (within : offWindow (axisOf l s k) b (look (evalCfg s) .sbtWin k 0 100) = false) : brakeTestExpiry (rowOf l s k y) b =
      some { enter b 8 with cnt2 := 0, fA := false, fB := false, out := outs [false, true] } := by
  simp [brakeTestExpiry, testing, asked, late, within]

/-- An overdue test is marked as such in its state, and a mark that comes new inhibits the next release. -/
theorem overdueExpiry_marks (periodic : ticksAt s .sbtInterval k 28800000000 ≠ 0)
    (late : ticksAt s .sbtInterval k 28800000000 ≤ b.cnt2 + 1) :
    ((overdueExpiry (rowOf l s k y) b).getD b).fA = true ∧
      (b.fA = false → ((overdueExpiry (rowOf l s k y) b).getD b).fB = true) ∧
      ((overdueExpiry (rowOf l s k y) b).getD b).st = b.st := by
  cases marked : b.fA <;> simp [overdueExpiry, sbtTicks, periodic, late, marked]

theorem instIs_of (inst : instAt l s k typ b) : instIs typ k s = true := by
  obtain ⟨evaluates, -, -, -, -, -, -, -, y, entry, rfl⟩ := inst
  simp [instIs, evaluates, entry]

/-- A block whose test is `num` tenths of its interval old is so in its channel, and for the command (R173). -/
theorem testAge_reached {num : Nat} (inst : instAt l s k typ b) (periodic : ticksAt s .sbtInterval k 28800000000 ≠ 0)
    (late : num * ticksAt s .sbtInterval k 28800000000 ≤ 10 * (b.cnt2 + 1)) :
    (testAge num k (evalCfg s) s.ridge || testAge num k (evalCfg s) s.thatch) = true := by
  obtain ⟨-, -, runs, -, -, -, -, stood, -⟩ := inst
  have reached : testAge num k (evalCfg s) (chanOf l s) = true := by
    rw [ticksAt] at periodic late
    simp [testAge, stood, runs, periodic, late]
  cases l
  · exact Bool.or_eq_true_iff.2 (.inl reached)
  · exact Bool.or_eq_true_iff.2 (.inr reached)

theorem exec_brakeTestDue (inst : instAt l s k 0x28 b) (periodic : ticksAt s .sbtInterval k 28800000000 ≠ 0)
    (late : 9 * ticksAt s .sbtInterval k 28800000000 ≤ 10 * (b.cnt2 + 1)) :
    exec (.brakeTestDue k) s = .next (raise fcBrakeTestDue k s) := by
  change execBrakeTestDue k s = _
  simp only [execBrakeTestDue, instIs_of inst, testAge_reached inst periodic late, Bool.and_self, if_true]

theorem exec_brakeTestOverdue (inst : instAt l s k 0x28 b) (periodic : ticksAt s .sbtInterval k 28800000000 ≠ 0)
    (late : ticksAt s .sbtInterval k 28800000000 ≤ b.cnt2 + 1) :
    exec (.brakeTestOverdue k) s = .next (raise fcBrakeTestOverdue k (expire [0x28] overdueExpiry k s)) := by
  change execBrakeTestOverdue k s = _
  simp only [execBrakeTestOverdue, instIs_of inst, testAge_reached inst periodic (Nat.mul_le_mul_left 10 late), Bool.and_self, if_true]

end

/-! ## No expiry -/

section
variable {s : State} {k : Nat} {g : Expiry} {typs : List Nat}

/-- In a mode that does not evaluate no time runs out. -/
theorem expire_idle (idle : s.mode.evaluates = false) : expire typs g k s = s := by
  simp [expire, idle]

theorem exec_brakeTestDue_idle (idle : s.mode.evaluates = false) : exec (.brakeTestDue k) s = .next s := by
  change execBrakeTestDue k s = _
  simp [execBrakeTestDue, instIs, idle]

/-- A channel that stands or has evaluated keeps its blocks (R106). -/
theorem expireIn_done {y : Config.Inst} {c : Chan} (done : c.frozen = true ∨ c.evaluated = true) : expireIn g s k y c = c := by
  rw [expireIn, if_pos (by rcases done with h | h <;> simp [h])]

theorem newBlkFault_self (c : Chan) : newBlkFault k c c = [] := by
  unfold newBlkFault
  split
  · rename_i was is
    obtain rfl := Option.some.inj (was.symm.trans is)
    simp [on]
  · rfl

/-- With both channels standing or evaluated no time runs out. -/
theorem expire_done (ridge : s.ridge.frozen = true ∨ s.ridge.evaluated = true)
    (thatch : s.thatch.frozen = true ∨ s.thatch.evaluated = true) : expire typs g k s = s := by
  rcases expire_cases typs g k s with same | ⟨y, parts⟩
  · exact same
  · simp only [parts, expireIn_done ridge, expireIn_done thatch, newBlkFault_self, List.append_nil, List.foldl_nil]

end

/-! ## The statement -/

/-- Settles O56: row by row, each by its expiry and by what an expiry leaves; then the two faults of the test interval, and the ticks in
which no time runs out. -/
theorem timerAndMotionTimes : Obligations.TimerAndMotionTimes := by
  unfold Obligations.TimerAndMotionTimes
  refine ⟨fun l s k b inst runs stays late => ?_, fun l s k b inst runs late => ?_, fun l s k b inst beyond first on_ late => ?_,
    fun l s k b inst stopping late => ?_, fun l s k b inst braking late => ⟨fun within => ?_, fun off => ?_⟩,
    fun l s k b inst delaying late moves => ?_, fun l s k b y inst entry delaying late ins stands => ?_,
    fun l s k b inst releasing late => ?_, fun l s k b inst testing asked late within => ?_,
    fun l s k b inst periodic late => ?_, fun l s k b inst periodic late => ?_, fun s k idle => ?_, fun s k ridge thatch => ?_⟩
  · exact expiresTo_row inst rfl rfl fun y _ ton => ⟨_, timerExpiry_sets ton runs stays late, rfl⟩
  · rcases inst with inst | inst
    · exact expiresTo_row inst rfl rfl fun y _ tof => ⟨_, timerExpiry_clears (by omega) runs late, rfl⟩
    · exact expiresTo_row inst rfl rfl fun y _ tp => ⟨_, timerExpiry_clears (by omega) runs late, rfl⟩
  · exact expiresTo_row inst rfl rfl fun y _ _ => ⟨_, aThreshExpiry_demands beyond first on_ late, enter_st b 0, rfl, rfl⟩
  · exact expiresTo_row inst rfl rfl fun y _ ss1t => ⟨_, ss1tExpiry_leaves ss1t stopping late, stopTo_st _ _ b⟩
  · have ends (y : Config.Inst) (four : y.typ = 0x21 ∨ y.typ = 0x22) : ∃ d, brakingExpiry (rowOf l s k y) b = some d ∧ d.st = 9 ∧
        d.out.getLsbD 0 = false ∧ d.out.getLsbD 3 = false :=
      ⟨_, brakingExpiry_holds braking late within, stopTo_st _ 9 b, by rw [stopTo_out]; exact stopOut_stoActive four _⟩
    rcases inst with inst | inst
    · exact expiresTo_row inst rfl rfl fun y _ ss1t => ends y (.inl ss1t)
    · exact expiresTo_row inst rfl rfl fun y _ ss1r => ends y (.inr ss1r)
  · rcases inst with inst | inst
    · exact faultsTo_row inst rfl rfl (fun y _ _ => ⟨_, brakingExpiry_slips braking late off, stopTo_exceeded _ b⟩) (by decide)
    · exact faultsTo_row inst rfl rfl (fun y _ _ => ⟨_, brakingExpiry_slips braking late off, stopTo_exceeded _ b⟩) (by decide)
  · obtain ⟨t, d, run, is, st, out, fault, raised, others, -, -, mode⟩ : faultsTo l (.sosDelayEnd k) s k fcSosExceeded :=
      faultsTo_row inst rfl rfl (fun y _ _ => ⟨_, sosExpiry_moves delaying late moves, stopTo_exceeded _ b⟩) (by decide)
    exact ⟨t, d, run, is, st, out, fault, raised, others, mode⟩
  · refine expiresTo_row inst rfl rfl fun z own _ => ?_
    obtain rfl : y = z := Option.some.inj (entry.symm.trans own)
    exact ⟨_, sosExpiry_stands delaying late ins stands, stopTo_st _ 14 b, stopTo_p0a _ b⟩
  · exact expiresTo_row inst rfl rfl fun y _ _ => ⟨_, sbcReleaseExpiry_ends releasing late, enter_st b 10,
      (by decide : outs [true, true] = 3)⟩
  · exact expiresTo_row inst rfl rfl fun y _ _ => ⟨_, brakeTestExpiry_passes testing asked late within, enter_st b 8, rfl, rfl,
      (by decide : outs [false, true] = 2)⟩
  · obtain ⟨-, live, -, -, -, fits, -⟩ := id inst
    exact ⟨_, exec_brakeTestDue inst periodic late, hasFault_raise_at (by decide) live fits, by simp, by simp⟩
  · obtain ⟨-, live, -, -, -, fits, -, -, y, entry, typ⟩ := id inst
    obtain ⟨overdue, inhibits, st⟩ := overdueExpiry_marks (l := l) (y := y) periodic late
    refine ⟨_, _, exec_brakeTestOverdue inst periodic late, hasFault_raise_at (by decide) (tableStill_expire.trans live) fits, ?_,
      overdue, inhibits, st⟩
    have is := blk_expire (g := overdueExpiry) (typs := [0x28]) inst entry (by rw [typ]; rfl)
    cases l <;> simpa [chanOf] using is
  · exact ⟨congrArg _ (expire_idle idle), congrArg _ (expire_idle idle), exec_brakeTestDue_idle idle⟩
  · exact ⟨congrArg _ (expire_done ridge thatch), congrArg _ (expire_done ridge thatch), congrArg _ (expire_done ridge thatch)⟩

end Sys2Proof.Proofs
end

section
/-! PROOF. Output supervision: trips of switches, group currents, brake coils and proofs of opening (R135, R141, R143, R144). -/

namespace Sys2Proof.Proofs

open Sys2Proof Sys2Proof.Machine Sys2Proof.Laws

/-! ## Trips (R141) -/

/-- The lane once its closed switch of output `o` has tripped. -/
def switchTripped (now : W64) (o : Nat) (l : LaneFc) : LaneFc :=
  { l with sw := setBit l.sw o false, trip := vmod l.trip o (fun _ => some now), tripRel := setBit l.tripRel o false }

theorem exec_switchProtectionTrip (lane : Lane) (o : Fin 28) (s : State) : exec (.switchProtectionTrip lane o) s =
    .next (if (laneOf lane s).sw.getLsbD o then setLane lane (switchTripped s.tb.count o (laneOf lane s)) s else s) :=
  (apply_ite Host.Outcome.next ..).symm

theorem switchTripped_trip (now : W64) (o : Fin 28) (l : LaneFc) : (switchTripped now o l).trip[o] = some now :=
  getElem_vmod_self ..

/-- A trip holds its switch from its own moment on, since no open command has released it yet. -/
theorem tripHolds_switchTripped (now : W64) (o : Fin 28) (l : LaneFc) : tripHolds now (switchTripped now o l) o = true := by
  have fresh : (switchTripped now o l).tripRel.getLsbD o = false := setBit_self _ _ _ o.isLt
  simp only [tripHolds, vget_fin, switchTripped_trip, fresh, Bool.not_false, Bool.true_or]

/-! ## Group currents (R143) -/

/-- The state with a group's bit set or cleared on a lane. -/
def groupMarked (lane : Lane) (g : Nat) (b : Bool) (s : State) : State :=
  setLane lane { laneOf lane s with groupOver := setBit (laneOf lane s).groupOver g b } s

theorem exec_groupOvercurrent (lane : Lane) (g : Fin 5) (s : State) : exec (.groupOvercurrent lane g) s =
    .next (if !(laneOf lane s).resetLevel && 1601 ≤ (laneOf lane s).grpHigh[g] then groupMarked lane g true s else s) :=
  (apply_ite Host.Outcome.next ..).symm

theorem exec_groupOvercurrentClear (lane : Lane) (g : Fin 5) (s : State) : exec (.groupOvercurrentClear lane g) s =
    .next (if 16001 ≤ (laneOf lane s).grpOk[g] then groupMarked lane g false s else s) :=
  (apply_ite Host.Outcome.next ..).symm

/-- The bit of the group on that lane changes, and neither another bit nor a switch does. -/
theorem groupMarked_lanes (lane : Lane) (g : Fin 5) (b : Bool) (s : State) :
    (laneOf lane (groupMarked lane g b s)).groupOver.getLsbD g = b ∧
      (∀ k : Fin 5, k ≠ g → (laneOf lane (groupMarked lane g b s)).groupOver.getLsbD k = (laneOf lane s).groupOver.getLsbD k) ∧
      laneOf (otherLane lane) (groupMarked lane g b s) = laneOf (otherLane lane) s ∧
      (laneOf lane (groupMarked lane g b s)).sw = (laneOf lane s).sw := by
  rw [groupMarked, laneOf_setLane]
  exact ⟨setBit_self _ _ _ g.isLt, fun k other => setBit_other _ _ _ _ k.isLt (Fin.val_ne_of_ne other),
    laneOf_setLane_ne _ _ _ _ (ne_otherLane lane), rfl⟩

/-! ## Brake coils (R144) -/

@[simp] theorem chanOf_raise (lane : Lane) (code : BitVec 16) (n : Nat) (s : State) : chanOf lane (raise code n s) = chanOf lane s := by
  cases lane <;> simp only [chanOf, raise_frame]

/-- The channel once the coil of output `o` has been found open. -/
def coilOpen (o : Nat) (c : Chan) : Chan := { c with outs := vmod c.outs o (fun y => { y with coil := true }) }

/-- The coil current of brake output `o` is below BRK.I_MIN from BRK.T_PULL on, with no dark test of it (R144). -/
theorem exec_brkOpenCoil_below {lane : Lane} {k : Fin 4} {ma : Nat} {s : State} (used : outBlocked s.active.image (24 + k.val) = true)
    (on_ : (chanOf lane s).prevCmd.getLsbD (24 + k.val) = true)
    (pulled : ticksOf (tickUs s) (lookN s.active.image .brkTPull (24 + k.val) 0 200000) ≤
      (vget (chanOf lane s).outs (24 + k.val) OutCh.reset).onTicks)
    (testP : dtHeld s.tb.count s.laneP (24 + k.val) = false) (testT : dtHeld s.tb.count s.laneT (24 + k.val) = false)
    (below : ma < lookN s.active.image .brkIMin (24 + k.val) 0 200) : exec (.brkOpenCoil lane k ma) s =
      .next (raise fcBrkOpenCoil (24 + k.val) (setChan lane (coilOpen (24 + k.val) (chanOf lane s)) s)) := by
  change execBrkOpenCoil lane k ma s = _
  simp only [execBrkOpenCoil, used, on_, pulled, testP, testT, below, decide_true, Bool.not_false, Bool.and_self, if_true, coilOpen]

theorem tableStill_setChan (lane : Lane) (c : Chan) (s : State) : tableStill (setChan lane c s) = tableStill s := by
  simp [tableStill]

/-! ## Proofs of opening (R135) -/

theorem exec_brightDue (o : Fin 28) (s : State) : exec (.brightDue o) s =
    .next (if brightAt s 9 o s.ridge || brightAt s 9 o s.thatch then raise fcBrightDue o s else s) :=
  (apply_ite Host.Outcome.next ..).symm

/-- Each channel's own BRIGHT_OVERDUE of output `o`. -/
def brightOver (o : Nat) (s : State) : State := { s with ridge := brightSet s o s.ridge, thatch := brightSet s o s.thatch }

theorem exec_brightOverdue (o : Fin 28) (s : State) : exec (.brightOverdue o) s =
    .next (if brightAt s 10 o s.ridge || brightAt s 10 o s.thatch then raise fcBrightOverdue o (brightOver o s) else s) :=
  (apply_ite Host.Outcome.next ..).symm

theorem brightSet_marks {s : State} {o : Fin 28} {c : Chan} (overdue : brightAt s 10 o c = true) :
    (brightSet s o c).outs[o].bright = true := by
  rw [brightSet, if_pos overdue, getElem_vmod_self]

/-! ## The statement -/

/-- Settles O48: the trip and the group bits in their lane, the coil and the proofs of opening in the channels. -/
theorem outputSupervision : Obligations.OutputSupervision := by
  unfold Obligations.OutputSupervision
  refine ⟨fun s lane o closed => ?_, fun s lane o opened => ?_, fun s lane g level high => ?_, fun s lane g ok => ?_,
    fun s lane g => ⟨fun high => ?_, fun ok => ?_⟩, fun s lane k ma used on_ pulled testP testT below live => ?_,
    fun s o live late => ?_, fun s o live overdue => ?_, fun s o ridge thatch => ?_⟩
  · rw [exec_switchProtectionTrip, if_pos closed]
    refine ⟨_, rfl, ?_⟩
    rw [laneOf_setLane, setLane_ridge, setLane_thatch]
    exact ⟨setBit_self _ _ _ o.isLt, switchTripped_trip .., tripHolds_switchTripped ..,
      fun k other => setBit_other _ _ _ _ k.isLt (Fin.val_ne_of_ne other), laneOf_setLane_ne _ _ _ _ (ne_otherLane lane), rfl, rfl⟩
  · rw [exec_switchProtectionTrip, opened, if_neg Bool.false_ne_true]
  · simp only [exec_groupOvercurrent, level, high, decide_true, Bool.not_false, Bool.and_self, if_true]
    exact ⟨_, rfl, groupMarked_lanes lane g true s⟩
  · rw [exec_groupOvercurrentClear, if_pos ok]
    exact ⟨_, rfl, groupMarked_lanes lane g false s⟩
  · simp only [exec_groupOvercurrent, Nat.not_le.2 high, decide_false, Bool.and_false, Bool.false_eq_true, if_false]
  · rw [exec_groupOvercurrentClear, if_neg (Nat.not_le.2 ok)]
  · refine ⟨_, exec_brkOpenCoil_below used on_ pulled testP testT below,
      hasFault_raise_at (by decide) ((tableStill_setChan ..).trans live) (by omega), ?_, ?_⟩
    · rw [chanOf_raise, chanOf_setChan, coilOpen, vget_vmod_self _ _ _ _ (by omega)]
    · rw [chanOf_raise, chanOf_setChan_ne _ _ _ _ (ne_otherLane lane)]
  · rw [exec_brightDue, late, Bool.true_or, if_pos rfl]
    exact ⟨_, rfl, hasFault_raise_at (by decide) live (by omega), by simp only [raise_frame], by simp only [raise_frame]⟩
  · rw [exec_brightOverdue, overdue, Bool.true_or, if_pos rfl]
    refine ⟨_, rfl, hasFault_raise_at (by decide) live (by omega), ?_⟩
    simp only [raise_frame]
    exact brightSet_marks overdue
  · rw [exec_brightDue, ridge, thatch, Bool.or_self, if_neg Bool.false_ne_true]

end Sys2Proof.Proofs
end

section
/-! PROOF. The reset level, its release, and a silent lane (R129, R139, R140, R281). -/

namespace Sys2Proof.Proofs

open Sys2Proof Sys2Proof.Machine Sys2Proof.Laws

/-! ## The release (R129) -/

/-- Both lanes and both channels at the release of the reset level. -/
def levelReleased (s : State) : State :=
  { s with
    ridge := { s.ridge with tx := OutFrame.blank .p, echoDue := none, entries := allEntries .p s }
    thatch := { s.thatch with tx := OutFrame.blank .t, echoDue := none, entries := allEntries .t s }
    laneP := laneRelease s.tb.count s.laneP
    laneT := laneRelease s.tb.count s.laneT }

theorem exec_resetLevelRelease (s : State) : exec .resetLevelRelease s =
    .next (if s.mode = .selftest && !s.resetHeld && (s.laneP.resetLevel || s.laneT.resetLevel) then levelReleased s else s) :=
  (apply_ite Host.Outcome.next ..).symm

/-! ## Silence (R139, R140) -/

/-- What a silent lane makes of a switch: closed is only that of a STANDARD output whose STD_STATE asks for it and whose protection has not
opened it. -/
theorem silentSw_at (l : LaneFc) (o : Fin 28) : (silentSw l).getLsbD o =
    (decide (o.val < 24) && fcStd l o && (fcStdState l o == 1 || fcStdState l o == 2 && cmdClosed l o) && l.trip[o].isNone) := by
  rw [silentSw, getLsbD_bitsOf _ o.isLt, vget_fin, Option.not_isSome]
  split
  case h_1 on_ => simp [on_]
  case h_2 hold => simp [hold, Bool.and_assoc]
  case h_3 notOn notHold => simp [beq_eq_false_iff_ne.2 notOn, beq_eq_false_iff_ne.2 notHold]

theorem silentSw_open {l : LaneFc} {o : Fin 28} (h : 24 ≤ o.val ∨ fcStd l o = false ∨ fcStdState l o = 0) :
    (silentSw l).getLsbD o = false := by
  rw [silentSw_at]
  rcases h with brake | safe | off
  · simp [Nat.not_lt.2 brake]
  · simp [safe]
  · simp [off]

theorem silentSw_on {l : LaneFc} {o : Fin 28} (low : o.val < 24) (std : fcStd l o = true) (on_ : fcStdState l o = 1)
    (trip : l.trip[o] = none) : (silentSw l).getLsbD o = true := by
  rw [silentSw_at, trip]
  simp [low, std, on_]

theorem silentSw_hold {l : LaneFc} {o : Fin 28} (low : o.val < 24) (std : fcStd l o = true) (hold : fcStdState l o = 2)
    (trip : l.trip[o] = none) : (silentSw l).getLsbD o = cmdClosed l o := by
  rw [silentSw_at, trip]
  simp [low, std, hold]

theorem silentSw_tripped {l : LaneFc} {o : Fin 28} (trip : l.trip[o] ≠ none) : (silentSw l).getLsbD o = false := by
  rw [silentSw_at, Option.isNone_eq_false_iff.2 (Option.isSome_iff_ne_none.2 trip), Bool.and_false]

/-- The lane once it has become silent. -/
def silentLane (l : LaneFc) : LaneFc := { l with silent := true, sw := silentSw l, dt := none }

/-- The state with a lane silent, and marked as such towards FA. -/
def laneSilenced (lane : Lane) (s : State) : State :=
  let t := setLane lane (silentLane (laneOf lane s)) s
  { t with fa := if lane = .p then { t.fa with silentP := true } else { t.fa with silentT := true } }

theorem exec_laneSilence (lane : Lane) (s : State) : exec (.laneSilence lane) s =
    .next (if takesFrames (laneOf lane s) && due s ((laneOf lane s).since.toNat + silenceTime s) then laneSilenced lane s else s) :=
  (apply_ite Host.Outcome.next ..).symm

theorem due_iff (s : State) (t : Nat) : due s t = true ↔ t ≤ s.tb.count.toNat := decide_eq_true_iff

theorem laneOf_laneSilenced (lane : Lane) (s : State) : laneOf lane (laneSilenced lane s) = silentLane (laneOf lane s) := by
  cases lane <;> rfl

theorem laneSilenced_frame (lane : Lane) (s : State) : laneOf (otherLane lane) (laneSilenced lane s) = laneOf (otherLane lane) s ∧
    (laneSilenced lane s).ridge = s.ridge ∧ (laneSilenced lane s).thatch = s.thatch := by
  cases lane <;> exact ⟨rfl, rfl, rfl⟩

theorem takesFrames_silentLane (l : LaneFc) : takesFrames (silentLane l) = false := by simp [takesFrames, silentLane]

/-! ## RESET_N (R129, R281) -/

/-- Both lanes in the reset level with every switch open, in the mode and with the pending commands of before. -/
def lanesInReset (s t : State) : Prop :=
  t.laneP.resetLevel = true ∧ t.laneT.resetLevel = true ∧ t.laneP.sw = 0 ∧ t.laneT.sw = 0 ∧ t.mode = s.mode ∧ t.pending = s.pending

/-- A low level of 10 µs or longer is taken, in a shutdown for the field side alone. -/
theorem exec_resetNAssert_taken {ns : Nat} {s : State} (on_ : s.pwr.aoOn = true) (off : s.mode ≠ .off) (backup : s.mode ≠ .backup)
    (long : 10000 ≤ ns) : ∃ t, exec (.resetNAssert ns) s = .next t ∧ lanesInReset s t := by
  change ∃ t, execResetNAssert ns s = .next t ∧ _
  have takes : resetTakes ns s.free = true := by simp [resetTakes, long]
  have powered : ¬(!s.pwr.aoOn || s.mode ∈ [Mode.off, .backup]) = true := by simp [on_, off, backup]
  rw [execResetNAssert, if_neg powered, takes]
  dsimp only
  rw [if_neg (by decide)]
  split <;> exact ⟨_, rfl, rfl, rfl, rfl, rfl, rfl, rfl⟩

/-! ## The statement -/

/-- Settles O45: the release, then silence switch by switch, then RESET_N with and without a shutdown. -/
theorem resetLevelAndSilence : Obligations.ResetLevelAndSilence := by
  unfold Obligations.ResetLevelAndSilence
  refine ⟨fun s mode held levelP levelT => ?_, fun s lane takes late => ?_, fun s lane early => ?_,
    fun s ns on_ off backup long => exec_resetNAssert_taken on_ off backup long, fun s mode => ?_⟩
  · have begun : (s.mode = .selftest && !s.resetHeld && (s.laneP.resetLevel || s.laneT.resetLevel)) = true := by
      simp [mode, held, levelP]
    rw [exec_resetLevelRelease, if_pos begun]
    exact ⟨_, rfl, rfl, rfl, rfl, rfl, rfl, rfl, rfl, rfl, rfl, rfl, rfl, rfl⟩
  · have come : due s ((laneOf lane s).since.toNat + silenceTime s) = true := (due_iff ..).2 late
    rw [exec_laneSilence, takes, come, Bool.and_self, if_pos rfl]
    refine ⟨_, rfl, ?_⟩
    rw [laneOf_laneSilenced]
    exact ⟨rfl, takesFrames_silentLane _, fun _ => silentSw_open, fun _ => silentSw_on, fun _ => silentSw_hold,
      fun _ => silentSw_tripped, laneSilenced_frame lane s⟩
  · have waits : due s ((laneOf lane s).since.toNat + silenceTime s) = false :=
      Bool.eq_false_iff.2 fun come => Nat.not_le.2 early ((due_iff ..).1 come)
    rw [exec_laneSilence, waits, Bool.and_false, if_neg Bool.false_ne_true]
  · simp [exec_resetLevelRelease, mode]

end Sys2Proof.Proofs
end

section
/-! PROOF. STO and SS2: the next state of a stop block in RUN and its outputs (R160, R161, R166). -/

namespace Sys2Proof.Proofs

open Sys2Proof Sys2Proof.Machine Sys2Proof.Laws

/-! ## A running stop block -/

/-- The axis that a stop block in the block context `x` reads. -/
def stopAxis (x : BlkCtx) (k : Nat) : AxView := axView x (lookN x.cfg .bAxis k 0 0)

/-- The state into which a running stop block goes (R160 to R167). -/
def stopNext (x : BlkCtx) (done old : List Blk) (k : Nat) (y : Config.Inst) (b : Blk) : Nat :=
  let v := stopAxis x k
  let ack := (ackOf x y).1 && b.armedAck
  if v.encFault || stopBroken x k y.typ v b != 0 then 4
  else if (isHeld x k y || v.hold) && b.st != 4 then 5
  else match b.st with
    | 4 => if standstill v && ack then 9 else 4
    | 5 => 9
    | _ => stopRules x k y.typ v (linkVal x done old y.ins[0]?) (lookN x.cfg .bReset k 0 0 == 1) ack b

section
variable {x : BlkCtx} {done old : List Blk} {k : Nat} {y : Config.Inst} {b : Blk}

theorem startBlk_running (runs : b.start = false) (st : Nat) : startBlk b st = b := by
  simp [startBlk, runs]

/-- The block of a running instance after its tick: its state, the outputs of that state at the standstill of the axis (Tables 7.4, 7.5),
and a broken limit as its fault. -/
theorem stopStep_running (runs : b.start = false) :
    (stopStep x done old k y b).1.st = stopNext x done old k y b ∧
      (stopStep x done old k y b).1.out = stopOut y.typ (stopNext x done old k y b) (standstill (stopAxis x k)) ∧
      (stopBroken x k y.typ (stopAxis x k) b ≠ 0 →
        (stopStep x done old k y b).1.fault = stopBroken x k y.typ (stopAxis x k) b) := by
  unfold stopStep
  rw [startBlk_running runs]
  extract_lets b' v en ack broken hold ss st c timed d demand e
  have next : st = stopNext x done old k y b := rfl
  have entered : e.st = st ∧ e.out = stopOut y.typ st ss ∧ (broken ≠ 0 → e.fault = broken) := by
    have made : d.st = st ∧ d.out = stopOut y.typ st ss ∧ (broken ≠ 0 → d.fault = broken) :=
      ⟨enter_st b st, rfl, fun h => if_pos (bne_iff_ne.2 h)⟩
    simp only [e]
    split <;> exact made
  rw [← next]
  split <;> exact entered

theorem stopNext_broken (broken : stopBroken x k y.typ (stopAxis x k) b ≠ 0) : stopNext x done old k y b = 4 :=
  if_pos (Bool.or_eq_true_iff.2 (.inr (bne_iff_ne.2 broken)))

/-- Without a fault, a broken limit or a hold, a block that is in neither FAULT nor HELD follows its own rules. -/
theorem stopNext_free (sound : (stopAxis x k).encFault = false) (kept : stopBroken x k y.typ (stopAxis x k) b = 0)
    (free : (stopAxis x k).hold = false) (reached : isHeld x k y = false) (active : b.st ≠ 4 ∧ b.st ≠ 5) :
    stopNext x done old k y b = stopRules x k y.typ (stopAxis x k) (linkVal x done old y.ins[0]?)
      (lookN x.cfg .bReset k 0 0 == 1) ((ackOf x y).1 && b.armedAck) b := by
  simp only [stopNext, sound, kept, free, reached]
  simp [active]

/-! ## STO (R161) -/

theorem getLsbD_outs {l : List Bool} {j : Nat} (h : j < 64) : (outs l).getLsbD j = l.getD j false := getLsbD_bitsOf _ h

/-- TEN stands in every state in which torque is permitted, and BRQ with it but for BRAKING. -/
theorem stopOut_sto (st : Nat) (ss : Bool) :
    (stopOut 0x20 st ss).getLsbD 0 = (st == 8 || (11 ≤ st && st ≤ 14)) ∧
      (stopOut 0x20 st ss).getLsbD 2 = ((st == 8 || (11 ≤ st && st ≤ 14)) && st != 12) :=
  ⟨getLsbD_outs (by decide), getLsbD_outs (by decide)⟩

/-- The own rules of an STO know ENABLED, STO_ACTIVE and WAIT_RESET only. -/
theorem stopRules_sto (v : AxView) (en manual ack : Bool) (known : b.st = 8 ∨ b.st = 9 ∨ b.st = 10) :
    stopRules x k 0x20 v en manual ack b ≠ 12 := by
  rcases known with st | st | st <;> simp only [stopRules, st] <;> (repeat' split) <;> decide

/-- An STO never goes to BRAKING. -/
theorem stopNext_sto (sto : y.typ = 0x20) (known : b.st ∈ [4, 5, 8, 9, 10]) : stopNext x done old k y b ≠ 12 := by
  unfold stopNext
  dsimp only
  split
  · decide
  split
  · decide
  split
  · split <;> decide
  · decide
  next fault held =>
    rw [sto]
    exact stopRules_sto _ _ _ _ (by simpa [show b.st ≠ 4 from fault, show b.st ≠ 5 from held] using known)

/-- The state ENABLED breaks no limit of its own. -/
theorem stopBroken_enabled (typ : Nat) (v : AxView) (enabled : b.st = 8) : stopBroken x k typ v b = 0 := by
  simp only [stopBroken, enabled]

/-- STO in ENABLED follows EN. -/
theorem stopNext_sto_enabled (sto : y.typ = 0x20) (enabled : b.st = 8) (sound : (stopAxis x k).encFault = false)
    (free : (stopAxis x k).hold = false) (reached : isHeld x k y = false) :
    stopNext x done old k y b = if linkVal x done old y.ins[0]? then 8 else 9 := by
  rw [stopNext_free sound (stopBroken_enabled _ _ enabled) free reached (by omega)]
  simp only [stopRules, enabled, sto]

/-! ## SS2 in SOS_ACTIVE (R166) -/

theorem stopOut_ss2_ten (st : Nat) (ss : Bool) :
    (stopOut 0x23 st ss).getLsbD 0 = (st == 8 || (11 ≤ st && st ≤ 14)) :=
  getLsbD_outs (by decide)

/-- The limits of SOS_ACTIVE: the window of each source that counts, and the speed. -/
theorem stopBroken_sosActive (typ : Nat) (v : AxView) (active : b.st = 14) :
    stopBroken x k typ v b =
      if (v.useA = true ∧ look x.cfg .sosWin k 0 1000 < absW 64 (subW 64 v.pA b.p0a)) ∨
        (v.useB = true ∧ look x.cfg .sosWin k 0 1000 < absW 64 (subW 64 v.pB b.p0b)) ∨
        look x.cfg .sosVMax k 0 v.vss < maxAbs v then fcSosExceeded else 0 := by
  simp only [stopBroken, active, offWindow, Bool.or_eq_true, Bool.and_eq_true, decide_eq_true_eq, or_assoc]

/-- SS2 in SOS_ACTIVE within its limits follows EN. -/
theorem stopNext_ss2_sosActive (ss2 : y.typ = 0x23) (active : b.st = 14) (within : stopBroken x k 0x23 (stopAxis x k) b = 0)
    (sound : (stopAxis x k).encFault = false) (free : (stopAxis x k).hold = false) (reached : isHeld x k y = false) :
    stopNext x done old k y b =
      if linkVal x done old y.ins[0]? then (if lookN x.cfg .bReset k 0 0 == 1 then 10 else 8) else 14 := by
  rw [stopNext_free sound (ss2 ▸ within) free reached (by omega)]
  simp only [stopRules, active]

end

/-! ## The statement -/

/-- Settles O57: the next state of the running block, by its own rules or by a broken limit, and the outputs of that state. -/
theorem stoAndSs2 : Obligations.StoAndSs2 := by
  unfold Obligations.StoAndSs2
  refine ⟨fun x done old k y b sto runs known => ?_, fun x done old k y b sto runs enabled sound free reached => ?_,
    fun x done old k y b ss2 runs active => ?_⟩
  · obtain ⟨-, out, -⟩ := stopStep_running (x := x) (done := done) (old := old) (k := k) (y := y) runs
    obtain ⟨ten, brq⟩ := stopOut_sto (stopNext x done old k y b) (standstill (stopAxis x k))
    rw [out, sto, ten, brq, bne_iff_ne.2 (stopNext_sto sto known), Bool.and_true]
  · obtain ⟨st, out, -⟩ := stopStep_running (x := x) (done := done) (old := old) (k := k) (y := y) runs
    obtain ⟨ten, -⟩ := stopOut_sto (stopNext x done old k y b) (standstill (stopAxis x k))
    rw [st, out, sto, ten, stopNext_sto_enabled sto enabled sound free reached]
    exact ⟨fun off => by simp [off], fun on_ => by simp [on_]⟩
  · obtain ⟨st, out, fault⟩ := stopStep_running (x := x) (done := done) (old := old) (k := k) (y := y) runs
    intro v win broken d
    have limits : stopBroken x k 0x23 (stopAxis x k) b = if broken then fcSosExceeded else 0 := stopBroken_sosActive _ _ active
    rw [ss2] at fault
    simp only [d, st, out, ss2, stopOut_ss2_ten]
    refine ⟨fun breach => ?_, fun within sound free reached => ?_⟩
    · rw [if_pos breach] at limits
      have found : stopBroken x k 0x23 (stopAxis x k) b ≠ 0 := limits ▸ by decide
      rw [stopNext_broken (ss2 ▸ found)]
      exact ⟨rfl, (fault found).trans limits, rfl⟩
    · rw [if_neg within] at limits
      rw [stopNext_ss2_sosActive ss2 active limits sound free reached]
      exact ⟨fun off => by simp [off], fun on_ => by simp [on_]⟩

end Sys2Proof.Proofs
end

section
/-! PROOF. IND_DATA, a domain that is off, the capture of Ridge A's instruction memory, and the position shadows (R178, R346, R353). -/

namespace Sys2Proof.Proofs

open Sys2Proof Sys2Proof.Machine Sys2Proof.Laws

/-! ## What a read of an indirect location leaves -/

/-- Events, the host port, the timer unit and LULL apart, `t` is `s`, and IND_ADDR is the same. -/
def keptByRead (s t : State) : Prop :=
  { t with ev := s.ev, host := s.host, tmu := s.tmu, lull := s.lull } = s ∧ t.host.indAddr = s.host.indAddr

theorem keptByRead_clearTmuStat (n : Nat) (s : State) : keptByRead s (clearTmuStat n s) := ⟨rfl, rfl⟩

theorem keptByRead_afterAxis (n k : Nat) (s : State) : keptByRead s (afterAxis n k s) := by
  unfold afterAxis
  split <;> exact ⟨rfl, rfl⟩

theorem keptByRead_countDed (a : Nat) (s : State) : keptByRead s (countDed a s) := by
  unfold countDed
  split <;> exact ⟨rfl, rfl⟩

theorem keptByRead_clearEvents (a : Nat) (s : State) : keptByRead s (clearEvents a s) := by
  unfold clearEvents
  split <;> exact ⟨rfl, rfl⟩

/-- What a read of an indirect location does besides (R178, R336, R353). -/
theorem keptByRead_afterRead (a : Nat) (s : State) : keptByRead s (afterRead a s) := by
  unfold afterRead
  split
  · exact keptByRead_clearTmuStat _ s
  split
  · exact keptByRead_afterAxis _ _ s
  split
  · exact keptByRead_countDed a s
  · exact keptByRead_clearEvents a s

/-! ## IND_DATA (R346) -/

section
variable {s : State} {a : Nat} {op : WinOp}

theorem exec_indDataRead (up : portUp s = true) :
    exec (.indDataAccess .read) s = .next (setData (indAccess .read s).1 (indAccess .read s).2) :=
  congrArg Host.Outcome.next (hostRead_up _ s up)

theorem exec_indDataWrite (up : portUp s = true) (write : op ≠ .read) :
    exec (.indDataAccess op) s = .next (indAccess op s).2 := by
  cases op with
  | read => exact absurd rfl write
  | _ => exact congrArg Host.Outcome.next (if_pos up)

theorem indAt_of (word : a % 4 = 0) (small : a < 2 ^ 24) (at_ : s.host.indAddr = BitVec.ofNat 24 a) : indAt s = a := by
  rw [indAt, at_, BitVec.toNat_ofNat]
  omega

theorem indAccess_off (off : indOff (indAt s) s = true) : indAccess op s = (0, indNext true s) := if_pos off

theorem indAccess_read (on_ : indOff (indAt s) s = false) :
    indAccess .read s = (peekInd (indAt s) s, indNext false (afterRead (indAt s) s)) :=
  if_neg (Bool.eq_false_iff.1 on_)

theorem indAccess_write (on_ : indOff (indAt s) s = false) (write : op ≠ .read) :
    indAccess op s = (0, indNext false (writeInd (indAt s) (aliasVal op (peekInd (indAt s) s)) s)) := by
  refine (if_neg (Bool.eq_false_iff.1 on_)).trans ?_
  cases op with
  | read => exact absurd rfl write
  | _ => rfl

/-- A read of a location that stands returns its value and advances IND_ADDR. -/
theorem exec_indDataRead_on (up : portUp s = true) (word : a % 4 = 0) (small : a < 2 ^ 24)
    (at_ : s.host.indAddr = BitVec.ofNat 24 a) (on_ : indOff a s = false) :
    ∃ t, exec (.indDataAccess .read) s = .next t ∧ t.host.data = peekInd a s ∧ t.host.indAddr = BitVec.ofNat 24 (a + 4) ∧
      t.host.domOff = false ∧ t.tcm = (afterRead a s).tcm ∧ t.lull = (afterRead a s).lull ∧
      { t with ev := s.ev, host := s.host, tmu := s.tmu, lull := s.lull } = s := by
  have place := indAt_of word small at_
  rw [exec_indDataRead up, indAccess_read (place ▸ on_), place]
  obtain ⟨frame, address⟩ := keptByRead_afterRead a s
  generalize afterRead a s = u at frame address ⊢
  refine ⟨_, rfl, rfl, ?_, rfl, rfl, rfl, frame⟩
  change BitVec.ofNat 24 (indAt u + 4) = _
  rw [indAt, address, ← indAt, place]

/-- An access to a domain that is off, or to the capture outside LULL, sets DOM_OFF and advances IND_ADDR; a read returns 0. -/
theorem exec_indDataAccess_off (up : portUp s = true) (word : a % 4 = 0) (small : a < 2 ^ 24)
    (at_ : s.host.indAddr = BitVec.ofNat 24 a) (off : indOff a s = true) :
    exec (.indDataAccess op) s = .next { s with host := { s.host with
      domOff := true, indAddr := BitVec.ofNat 24 (a + 4), data := if op = .read then 0 else s.host.data } } := by
  have place := indAt_of word small at_
  by_cases read : op = .read
  · rw [read, exec_indDataRead up, indAccess_off (place ▸ off), if_pos rfl, ← place]
    rfl
  · rw [exec_indDataWrite up read, indAccess_off (place ▸ off), if_neg read, ← place]
    rfl

/-- The trigger is armed by a write of its location as by a direct one (R352). -/
theorem exec_indDataWrite_trig (v : W32) (up : portUp s = true) (at_ : s.host.indAddr = 0x000010) :
    exec (.indDataAccess (.write v)) s = .next (indNext false (writeTrig 0 v s)) := by
  have place : indAt s = 0x10 := indAt_of (by decide) (by decide) at_
  have write : WinOp.write v ≠ .read := fun read => nomatch read
  rw [exec_indDataWrite up write, indAccess_write (place ▸ rfl) write, place]
  rfl

end

/-! ## Domains (Table 15.7) -/

/-- The addresses of a domain that is off. -/
theorem indOff_domain {s : State} {a : Nat}
    (off : 0x100000 ≤ a ∧ a < 0x200000 ∧ s.pwr.domains.getLsbD 1 = false ∨ 0x200000 ≤ a ∧ a < 0x300000 ∧ s.pwr.domains.getLsbD 0 = false ∨
      0x300000 ≤ a ∧ a < 0x400000 ∧ s.pwr.domains.getLsbD 2 = false ∨ 0x400000 ≤ a ∧ a < 0x400100 ∧ s.pwr.domains.getLsbD 4 = false ∨
      0x400100 ≤ a ∧ a < 0x400200 ∧ s.pwr.domains.getLsbD 3 = false ∨
      0x400200 ≤ a ∧ a < 0x500000 ∧ s.pwr.domains.getLsbD 4 = false ∧ s.pwr.domains.getLsbD 3 = false) :
    a < 0x500000 ∧ indOff a s = true := by
  rcases off with ⟨lo, hi, off⟩ | ⟨lo, hi, off⟩ | ⟨lo, hi, off⟩ | ⟨lo, hi, off⟩ | ⟨lo, hi, off⟩ | ⟨lo, hi, offA, offB⟩
  · rw [indOff, show a / 0x100000 = 1 by omega]
    exact ⟨by omega, by simp only [off, Bool.not_false]⟩
  · rw [indOff, show a / 0x100000 = 2 by omega]
    exact ⟨by omega, by simp only [off, Bool.not_false]⟩
  · rw [indOff, show a / 0x100000 = 3 by omega]
    exact ⟨by omega, by simp only [off, Bool.not_false]⟩
  · rw [indOff, show a / 0x100000 = 4 by omega]
    exact ⟨by omega, by simp only [hi, off, Bool.not_false, if_true]⟩
  · rw [indOff, show a / 0x100000 = 4 by omega]
    exact ⟨by omega, by simp only [Nat.not_lt.2 lo, hi, off, Bool.not_false, if_true, if_false]⟩
  · rw [indOff, show a / 0x100000 = 4 by omega]
    exact ⟨by omega, by
      simp only [show ¬a < 0x400100 by omega, Nat.not_lt.2 lo, offA, offB, Bool.not_false, Bool.and_self, if_false]⟩

theorem indOff_lastWord {s : State} (outside : s.mode ≠ .lull) : indOff 0xFFFFFC s = true := bne_iff_ne.2 outside

/-! ## The capture of Ridge A's instruction memory (R353, Table 15.13) -/

section
variable {s : State} {a : Nat}

theorem indOff_instrA (lo : 0x700000 ≤ a) (hi : a < 0x740000) (frozen : s.mode = .lull) : indOff a s = false := by
  rw [indOff, show a / 0x100000 = 7 by omega]
  simp only [frozen, bne_self_eq_false]

theorem tcmWord_instrA (lo : 0x700000 ≤ a) (hi : a < 0x740000) : tcmWord s a = memReadWord s.tcm.instrA (a - 0x700000) := by
  have block : a / 0x40000 - 28 = 0 := by omega
  have place : a % 0x40000 = a - 0x700000 := by omega
  unfold tcmWord
  rw [block, place]
  rfl

theorem captureInternal_tcm (lo : 0x700000 ≤ a) : captureInternal a = false := by
  simp only [captureInternal, Bool.or_eq_false_iff, Bool.and_eq_false_iff, decide_eq_false_iff_not]
  omega

theorem captureAt_tcm (lo : 0x700000 ≤ a) (hi : a < 0x800000) : captureAt a s = tcmWord s a := by
  rw [captureAt, captureInternal_tcm lo, if_neg (by omega), if_neg (by decide), if_neg (by simp; omega), if_neg (by simp; omega),
    if_neg (by simp; omega), if_pos (by simp; omega)]

theorem peekInd_instrA (lo : 0x700000 ≤ a) (hi : a < 0x740000) : peekInd a s = memReadWord s.tcm.instrA (a - 0x700000) := by
  rw [peekInd, show a / 0x100000 = 7 by omega, ← tcmWord_instrA lo hi]
  exact captureAt_tcm lo (by omega)

/-- A double-bit error of a captured word of the memories is counted, up to the largest value. -/
theorem countDed_ecc (lo : 0x700000 ≤ a) (word : a % 4 = 0) : (countDed a s).lull.ecc.toNat =
    if s.tcm.ded.contains a then min (2 ^ 32 - 1) (s.lull.ecc.toNat + 1) else s.lull.ecc.toNat := by
  have found : captureDed a s = s.tcm.ded.contains a := by
    rw [captureDed, if_pos lo, show a / 4 * 4 = a by omega]
  rw [countDed, found]
  split
  · simp only [w32, satAdd, max32, BitVec.toNat_ofNat]
    omega
  · rfl

theorem countDed_tcm (a : Nat) (s : State) : (countDed a s).tcm = s.tcm := by
  unfold countDed
  split <;> rfl

theorem afterRead_captured (lo : 0x700000 ≤ a) : afterRead a s = countDed a s := by
  rw [afterRead, if_neg (by simp; omega), if_neg (by simp; omega), if_pos (by omega)]

end

/-! ## The position shadows (R178) -/

section
variable {s : State} (ax : Fin 8) (srcB : Bool)

/-- The address of the low word of a position (Table 7.12). -/
def positionLo : Nat := 0x300004 + 64 * ax.val + if srcB then 8 else 0

theorem positionLo_place : positionLo ax srcB / 0x100000 = 3 ∧ 0x300000 ≤ positionLo ax srcB ∧ positionLo ax srcB < 0x300200 ∧
    (positionLo ax srcB - 0x300000) / 64 = ax.val ∧ (positionLo ax srcB - 0x300000) % 64 / 4 = (if srcB then 3 else 1) ∧
    positionLo ax srcB % 64 / 4 = if srcB then 3 else 1 := by
  have := ax.isLt
  cases srcB <;> simp only [positionLo, Bool.false_eq_true, if_false, if_true] <;> omega

theorem indOff_positionLo (on_ : s.pwr.domains.getLsbD 2 = true) : indOff (positionLo ax srcB) s = false := by
  obtain ⟨region, -⟩ := positionLo_place ax srcB
  rw [indOff, region]
  simp only [on_, Bool.not_true]

theorem peekInd_positionLo : peekInd (positionLo ax srcB) s = w32 (axPos s.buf ax srcB).toNat := by
  obtain ⟨region, lo, hi, axis, reg, -⟩ := positionLo_place ax srcB
  rw [peekInd, region]
  simp only [moWord]
  rw [if_pos (by omega), axis, reg]
  cases srcB <;> rfl

theorem afterRead_positionLo : afterRead (positionLo ax srcB) s =
    setPosShadow ax srcB (some (w32 ((axPos s.buf ax srcB).toNat / 2 ^ 32))) s := by
  obtain ⟨-, lo, hi, axis, -, reg⟩ := positionLo_place ax srcB
  rw [afterRead, if_neg (by simp; omega), if_pos (by simp [lo, hi]), axis, reg]
  cases srcB <;> rfl

theorem posShadow_setPosShadow (w : Option W32) : posShadow (setPosShadow ax srcB w s) ax srcB = w :=
  vget_vmod_self _ _ _ _ (by cases srcB <;> simp [bit] <;> omega)

theorem exec_positionLoRead (up : portUp s = true) (on_ : s.pwr.domains.getLsbD 2 = true) :
    exec (.positionLoRead ax srcB) s = .next (setData (w32 (axPos s.buf ax srcB).toNat)
      (setPosShadow ax srcB (some (w32 ((axPos s.buf ax srcB).toNat / 2 ^ 32))) s)) := by
  change Host.Outcome.next (hostRead (fun t => if indOff (positionLo ax srcB) t then (0, t) else readInd (positionLo ax srcB) t) s) = _
  rw [hostRead_up _ s up, indOff_positionLo ax srcB on_, if_neg Bool.false_ne_true, readInd, peekInd_positionLo, afterRead_positionLo]

end

/-! ## The statement -/

/-- Settles O18: what IND_DATA does where the location stands and where it does not, the captured memory, and the position shadows. -/
theorem indirectAndPositionAccess : Obligations.IndirectAndPositionAccess := by
  unfold Obligations.IndirectAndPositionAccess
  refine ⟨fun s a up small word at_ on_ => ?_, fun s v up at_ => ?_, fun s op a up word at_ off => ?_,
    fun s op up outside at_ write => ?_, fun s up outside at_ => ?_, fun s a up frozen small word at_ => ?_,
    fun s ax srcB up on_ => ?_⟩
  · obtain ⟨t, run, data, next, off, -, -, frame⟩ := exec_indDataRead_on up word (by omega) at_ on_
    exact ⟨t, run, data, next, off, frame⟩
  · rw [exec_indDataWrite_trig v up at_, indNext, indAt, writeTrig, at_]
    rfl
  · obtain ⟨small, off⟩ := indOff_domain off
    exact exec_indDataAccess_off up word (by omega) at_ off
  · rw [exec_indDataAccess_off up (by decide) (by decide) at_ (indOff_lastWord outside), if_neg write]
    rfl
  · rw [exec_indDataAccess_off up (by decide) (by decide) at_ (indOff_lastWord outside), if_pos rfl]
    rfl
  · have lo : 0x700000 ≤ 0x700000 + a := Nat.le_add_right ..
    have hi : 0x700000 + a < 0x740000 := by omega
    have value := peekInd_instrA (s := s) lo hi
    rw [Nat.add_sub_cancel_left] at value
    have word' : (0x700000 + a) % 4 = 0 := by omega
    generalize 0x700000 + a = b at *
    obtain ⟨t, run, data, -, -, tcm, lull, -⟩ := exec_indDataRead_on up word' (by omega) at_ (indOff_instrA lo hi frozen)
    rw [afterRead_captured lo] at tcm lull
    exact ⟨t, run, data.trans value, tcm.trans (countDed_tcm b s), lull ▸ countDed_ecc lo word'⟩
  · exact ⟨_, exec_positionLoRead ax srcB up on_, rfl, posShadow_setPosShadow ax srcB _, rfl⟩

end Sys2Proof.Proofs
end

section
/-! PROOF. The motion engines: strobes, encoder supplies and the compare of both sources (R149 to R155), and
what MotionEngines comes to. -/

namespace Sys2Proof.Proofs

open Sys2Proof Sys2Proof.Machine Sys2Proof.Laws

/-! ## One interface at a strobe (R149 to R151) -/

section
variable (cfg : Config.Image) (i : Nat) (other : Option Int) (r : EncRaw) (e : Enc)

/-- An interface counts every strobe, whatever it reads. -/
theorem encStep_seq : (encStep cfg i other r e).seq = e.seq + 1 := by
  unfold encStep
  dsimp only
  split
  · rfl
  split
  · split <;> rfl
  split
  · rfl
  split
  · rfl
  · split <;> rfl

/-- An interface that the axis does not evaluate keeps its position. -/
theorem encStep_pos_unused (unused : encInUse cfg i = false) : (encStep cfg i other r e).pos = e.pos := by
  simp only [encStep, unused, Bool.not_false, if_true]

end

/-! ## A strobe (R153, R154) -/

/-- Is the engine of interface `i` silent? -/
def engineSilent (m : Motion) (i : Nat) : Bool := if i % 2 = 0 then m.silent0 else m.silent1

/-- One of the two passes of a strobe: over the absolute interfaces, then over the incremental ones, which may start at those (R150). -/
def strobePass (raws : Vector EncRaw 16) (s : State) (absolute : Bool) (v : Vector Enc 16) : Vector Enc 16 :=
  vtab 16 (fun i =>
    let e := vget v i Enc.reset
    match raws[i]? with
    | some r =>
      if engineSilent s.motion i || (encTyp s.active.image i == 3) != absolute then e
      else encStep s.active.image i (startAt s.active.image s v i) r e
    | none => e)

section
variable {raws : Vector EncRaw 16} {mv ma : Vector Nat 8} {s : State} {v : Vector Enc 16} {absolute : Bool} {i : Fin 16}

theorem strobePass_skips (skip : (engineSilent s.motion i || (encTyp s.active.image i == 3) != absolute) = true) :
    (strobePass raws s absolute v)[i] = v[i] := by
  rw [Fin.getElem_fin, strobePass, getElem_vtab _ i.isLt, Vector.getElem?_eq_getElem i.isLt]
  dsimp only
  rw [if_pos skip, vget_fin]

theorem strobePass_steps (steps : (engineSilent s.motion i || (encTyp s.active.image i == 3) != absolute) = false) :
    (strobePass raws s absolute v)[i] = encStep s.active.image i (startAt s.active.image s v i) raws[i] v[i] := by
  rw [Fin.getElem_fin, strobePass, getElem_vtab _ i.isLt, Vector.getElem?_eq_getElem i.isLt]
  dsimp only
  rw [if_neg (Bool.eq_false_iff.1 steps), vget_fin]
  rfl

/-- A silent engine leaves its interfaces. -/
theorem strobePasses_silent (silent : engineSilent s.motion i = true) :
    (strobePass raws s false (strobePass raws s true v))[i] = v[i] := by
  rw [strobePass_skips (by simp [silent]), strobePass_skips (by simp [silent])]

/-- Each interface that its engine serves is stepped in exactly one of the two passes. -/
theorem strobePasses_served (served : engineSilent s.motion i = false) :
    ∃ other, (strobePass raws s false (strobePass raws s true v))[i] = encStep s.active.image i other raws[i] v[i] := by
  cases ssi : encTyp s.active.image i == 3 with
  | true => exact ⟨_, (strobePass_skips (by simp [ssi])).trans (strobePass_steps (by simp [ssi, served]))⟩
  | false =>
    refine ⟨startAt s.active.image s (strobePass raws s true v) i, ?_⟩
    rw [strobePass_steps (by simp [ssi, served]), strobePass_skips (by simp [ssi])]

/-- After the passes every interface is marked with the state of its supply. -/
theorem motionStrobe_enc : ∃ pwr, (motionStrobe s.active.image raws mv ma s).enc[i] =
    supplyMark pwr i (strobePass raws s false (strobePass raws s true s.motion.enc))[i] := by
  refine ⟨(motionStrobe s.active.image raws mv ma s).pwr, ?_⟩
  refine (getElem_vtab _ i.isLt).trans ?_
  rw [← vget_fin _ i Enc.reset]
  rfl

theorem motionStrobe_silent (silent : engineSilent s.motion i = true) :
    ((motionStrobe s.active.image raws mv ma s).enc[i]).pos = s.motion.enc[i].pos ∧
      ((motionStrobe s.active.image raws mv ma s).enc[i]).seq = s.motion.enc[i].seq := by
  obtain ⟨pwr, marked⟩ := motionStrobe_enc (raws := raws) (mv := mv) (ma := ma) (s := s) (i := i)
  rw [marked, strobePasses_silent silent]
  exact ⟨rfl, rfl⟩

theorem motionStrobe_served (served : engineSilent s.motion i = false) :
    ∃ pwr other, (motionStrobe s.active.image raws mv ma s).enc[i] =
      supplyMark pwr i (encStep s.active.image i other raws[i] s.motion.enc[i]) := by
  obtain ⟨pwr, marked⟩ := motionStrobe_enc (raws := raws) (mv := mv) (ma := ma) (s := s) (i := i)
  obtain ⟨other, stepped⟩ := strobePasses_served (raws := raws) (v := s.motion.enc) served
  exact ⟨pwr, other, by rw [marked, stepped]⟩

theorem motionStrobe_served_seq (served : engineSilent s.motion i = false) :
    ((motionStrobe s.active.image raws mv ma s).enc[i]).seq = s.motion.enc[i].seq + 1 := by
  obtain ⟨pwr, other, stepped⟩ := motionStrobe_served (raws := raws) (mv := mv) (ma := ma) served
  rw [stepped]
  exact encStep_seq ..

theorem motionStrobe_unused_pos (unused : encInUse s.active.image i = false) :
    ((motionStrobe s.active.image raws mv ma s).enc[i]).pos = s.motion.enc[i].pos := by
  cases silent : engineSilent s.motion i with
  | true => exact (motionStrobe_silent silent).1
  | false =>
    obtain ⟨pwr, other, stepped⟩ := motionStrobe_served (raws := raws) (mv := mv) (ma := ma) silent
    rw [stepped]
    exact encStep_pos_unused _ _ _ _ _ unused

theorem exec_motionStrobe : exec (.motionStrobe raws mv ma) s =
    .next (if motionRuns s then { s with motion := motionStrobe s.active.image raws mv ma s } else s) :=
  (apply_ite Host.Outcome.next ..).symm

end

/-! ## Encoder supplies (R152) -/

/-- A fault code stands in a mask of fault codes exactly where it was put. -/
theorem testBit_codeMask (f : Nat → Bool) {k : Nat} (h : k < 7) : (codeMask f).testBit k = f k := by
  rw [codeMask, (sum_bits f 7).2, decide_eq_true h, Bool.true_and]

/-- The interfaces of a faulty supply carry ENC_SUPPLY. -/
theorem supplyMark_supply (pwr : Vector EncPwr 8) (i : Fin 16) (j : Fin 8) (e : Enc) (fed : pwrOf i = j.val)
    (off : 2 ≤ pwr[j].st.toNat) : (supplyMark pwr i e).fault.testBit 6 = true := by
  rw [supplyMark, testBit_codeMask _ (by decide), if_pos rfl, fed, vget_fin, decide_eq_true off]

theorem getElem_vupd_self {α : Type} {n : Nat} (v : Vector α n) (i : Fin n) (f : α → α) : (vupd v i f)[i] = f v[i] :=
  Vector.getElem_set_self ..

theorem getElem_vupd_ne {α : Type} {n : Nat} (v : Vector α n) (i k : Fin n) (f : α → α) (other : k ≠ i) : (vupd v i f)[k] = v[k] :=
  Vector.getElem_set_ne _ _ (fun same => other (Fin.ext same.symm))

/-- The supplies once output `j` has tripped, or has switched off at its limit. -/
def supplyTripped (j : Fin 8) (m : Motion) : Vector EncPwr 8 :=
  vupd m.pwr j (fun q => { q with st := if 160 ≤ q.lim then 3 else if q.st = 3 then 3 else 2 })

section
variable {s : State} {j : Fin 8}

theorem exec_encSupplyTrip : exec (.encSupplyTrip j) s =
    .next (if !motionRuns s || s.motion.pwr[j].st = 0 || !(16 ≤ s.motion.pwr[j].bad || 160 ≤ s.motion.pwr[j].lim) then s
      else { s with motion := { s.motion with
        pwr := supplyTripped j s.motion
        enc := vtab 16 (fun i => supplyMark (supplyTripped j s.motion) i (vget s.motion.enc i Enc.reset)) } }) :=
  (apply_ite Host.Outcome.next ..).symm

theorem supplyTripped_st (on_ : s.motion.pwr[j].st = 1) :
    (supplyTripped j s.motion)[j].st = if 160 ≤ s.motion.pwr[j].lim then 3 else 2 := by
  rw [supplyTripped, getElem_vupd_self]
  dsimp only
  rw [on_]
  rfl

theorem exec_encSupplyTrip_trips (runs : motionRuns s = true) (on_ : s.motion.pwr[j].st = 1)
    (beyond : 16 ≤ s.motion.pwr[j].bad ∨ 160 ≤ s.motion.pwr[j].lim) :
    ∃ t, exec (.encSupplyTrip j) s = .next t ∧ t.motion.pwr[j].st = (if 160 ≤ s.motion.pwr[j].lim then 3 else 2) ∧
      (∀ i : Fin 16, pwrOf i = j.val → (t.motion.enc[i]).fault.testBit 6 = true) ∧
      (∀ k : Fin 8, k ≠ j → t.motion.pwr[k] = s.motion.pwr[k]) ∧ { t with motion := s.motion } = s := by
  have limits : (16 ≤ s.motion.pwr[j].bad || 160 ≤ s.motion.pwr[j].lim : Bool) = true := by
    simpa only [Bool.or_eq_true, decide_eq_true_eq] using beyond
  have off : 2 ≤ (supplyTripped j s.motion)[j].st.toNat := by
    rw [supplyTripped_st on_]
    split <;> decide
  rw [exec_encSupplyTrip, runs, on_, limits, if_neg (by decide)]
  refine ⟨_, rfl, supplyTripped_st on_, fun i fed => ?_, fun k other => getElem_vupd_ne _ _ _ _ other, rfl⟩
  rw [Fin.getElem_fin, getElem_vtab _ i.isLt]
  exact supplyMark_supply _ i j _ fed off

theorem exec_encSupplyTrip_within (bad : s.motion.pwr[j].bad < 16) (lim : s.motion.pwr[j].lim < 160) :
    exec (.encSupplyTrip j) s = .next s := by
  rw [exec_encSupplyTrip, decide_eq_false (Nat.not_le.2 bad), decide_eq_false (Nat.not_le.2 lim), Bool.or_false, Bool.not_false,
    Bool.or_true, if_pos rfl]

end

/-! ## The compare of both sources (R155) -/

section
variable {s : State} {a : Fin 8}

theorem mem_axesApart {cfg : Config.Image} {c : Chan} : (axesApart cfg c).contains a.val = true ↔
    lookB cfg .axisEnable a false = true ∧ lookN cfg .axisTolTicks a 0 2 ≤ c.ax[a].dev := by
  have := a.isLt
  simp [axesApart]

theorem exec_axisCrossMismatch : exec (.axisCrossMismatch a) s =
    .next (if s.mode.evaluates && ((axesApart s.active.image s.ridge).contains a.val || (axesApart s.active.image s.thatch).contains a.val)
      then raise fcAxisCrossMismatch a s else s) :=
  (apply_ite Host.Outcome.next ..).symm

/-- Axes apart by the active configuration raise AXIS_CROSS_MISMATCH. -/
theorem exec_axisCrossMismatch_apart (evaluates : s.mode.evaluates = true) (live : tableStill s = false)
    (apart : (axesApart s.active.image s.ridge).contains a.val = true ∨ (axesApart s.active.image s.thatch).contains a.val = true) :
    ∃ t, exec (.axisCrossMismatch a) s = .next t ∧ hasFault t fcAxisCrossMismatch a = true ∧ t.motion = s.motion := by
  rw [exec_axisCrossMismatch, if_pos (by simp only [evaluates, Bool.true_and, Bool.or_eq_true, apart])]
  refine ⟨_, rfl, ?_, by simp only [raise_frame]⟩
  rw [hasFault_raise _ _ _ _ _ (by decide), live, Nat.mod_eq_of_lt (by omega)]
  simp

end

/-! ## What MotionEngines comes to -/

/-- The channels evaluate the active configuration, or in VERIFY that of a candidate (R262). -/
theorem evalCfg_cases (s : State) : evalCfg s = s.active.image ∨ ∃ data, evalCfg s = cfgOf data := by
  unfold evalCfg
  split
  · exact .inr ⟨_, rfl⟩
  · exact .inl rfl

/-- VERIFY of the candidate with the bytes `data`, beside an active configuration without an axis, with every axis of the Ridge channel apart
for `n` ticks. -/
def verifying (data : List Byte) (n : Nat) : State :=
  { State.reset with
    mode := .verify
    gable := { State.reset.gable with cand := some { newCandidate .spi data.length 0 with data := data } }
    ridge := { State.reset.ridge with ax := Vector.replicate 8 { AxCh.reset with dev := n } } }

/-- The axes of a candidate in VERIFY that have deviated for as long as it allows are apart. -/
theorem verifying_apart {data : List Byte} {a : Fin 8} (used : lookB (cfgOf data) .axisEnable a false = true) :
    (axesApart (evalCfg (verifying data (lookN (cfgOf data) .axisTolTicks a 0 2)))
      (verifying data (lookN (cfgOf data) .axisTolTicks a 0 2)).ridge).contains a.val = true := by
  refine mem_axesApart.2 ⟨used, Nat.le_of_eq ?_⟩
  rw [verifying, Fin.getElem_fin, Vector.getElem_replicate]
  rfl

/-- AXIS_CROSS_MISMATCH does not see them. -/
theorem exec_axisCrossMismatch_verifying (data : List Byte) (n : Nat) (a : Fin 8) :
    exec (.axisCrossMismatch a) (verifying data n) = .next (verifying data n) := by
  have none (c : Chan) : (axesApart Image.empty c).contains a.val = false :=
    Bool.eq_false_iff.2 fun apart => nomatch (mem_axesApart.1 apart).1
  rw [exec_axisCrossMismatch, show (verifying data n).active.image = Image.empty from rfl, none, none, Bool.or_self, Bool.and_false,
    if_neg Bool.false_ne_true]

/-- A decoder of configuration images that puts no axis to use, whatever the bytes. -/
def UsesNoAxis (decode : List Byte → Config.Image) : Prop :=
  ∀ (data : List Byte) (a : Fin 8), lookB (clamped (decode data)) .axisEnable a false = false

theorem usesNoAxis_empty : UsesNoAxis (fun _ => Image.empty) := fun _ _ => rfl

/-- A decoder may as well put one to use: the clamp of R260 keeps AXIS.ENABLE. -/
theorem not_usesNoAxis_enabled :
    ¬ UsesNoAxis (fun _ => { Image.empty with fields := [{ param := .axisEnable, index := 0, elem := 0, value := 1 }] }) :=
  fun none => absurd (none [] 0) (by decide)

/-- Every clause of MotionEngines holds but for the last one in VERIFY: there AXIS_CROSS_MISMATCH goes by the active configuration, and the
clause by the candidate that the channels evaluate. What is left is a property of the decoder, which some decoders have and some have not;
the model's own is opaque (`Config.image`; log entry 8), and that leaves it open. -/
theorem motionEngines_iff : Obligations.MotionEngines ↔ UsesNoAxis Config.image := by
  unfold Obligations.MotionEngines
  constructor
  · rintro ⟨-, -, -, -, mismatch⟩ data a
    refine Bool.eq_false_iff.2 fun used => ?_
    obtain ⟨t, run, found, -⟩ := mismatch _ a rfl rfl (.inl (verifying_apart used))
    rw [exec_axisCrossMismatch_verifying] at run
    cases run
    exact Bool.false_ne_true found
  · intro none
    refine ⟨fun s raws mv ma runs => ?_, fun s raws mv ma stands => ?_, fun s j runs on_ beyond => exec_encSupplyTrip_trips runs on_ beyond,
      fun s j bad lim => exec_encSupplyTrip_within bad lim, fun s a evaluates live apart => ?_⟩
    · rw [exec_motionStrobe, if_pos runs]
      exact ⟨_, rfl, rfl, rfl, rfl, fun i served => motionStrobe_served_seq served, fun i silent => motionStrobe_silent silent,
        fun i unused => motionStrobe_unused_pos unused⟩
    · rw [exec_motionStrobe, stands, if_neg Bool.false_ne_true]
    · rcases evalCfg_cases s with active | ⟨data, candidate⟩
      · rw [active] at apart
        exact exec_axisCrossMismatch_apart evaluates live apart
      · have unused : lookB (cfgOf data) .axisEnable a false = false := none data a
        rw [candidate, mem_axesApart, mem_axesApart, unused] at apart
        simp at apart

end Sys2Proof.Proofs
end

section
/-! PROOF. Analogue conversions: the results of a window that has ended, the readings of the cold-junction sensors, and channels without
NEW (R181 to R183, R185, R186). -/

namespace Sys2Proof.Proofs

open Sys2Proof Sys2Proof.Machine Sys2Proof.Laws

/-! ## Windows, codes and status bits of FA (R181 to R183) -/

theorem windowAfter_ended {conv : Nat} {now w : W64} (ended : w.toNat + conv ≤ now.toNat) :
    ∃ next, windowAfter conv now (some w) = some next := ⟨_, if_pos ended⟩

theorem windowAfter_running {conv : Nat} {now w : W64} (runs : now.toNat < w.toNat + conv) : windowAfter conv now (some w) = none :=
  if_neg (Nat.not_le.2 runs)

section
variable {s : State} {n : Nat}

/-- Only RTD and RES have a 3-wire connection, so FA adds no cold-junction voltage to what it compensates for the leads. -/
theorem mode_ne_tc_of_threeWire {l : LaneFc} (three : threeWire l n = true) : fcUacMode l n ≠ 6 := by
  intro tc
  simp [threeWire, tc] at three

theorem withCj_other {w : Nat} (sar : Bool) (code : BitVec w) (other : fcUacMode (faLane s) n ≠ 6) : withCj s n sar code = code := by
  simp [withCj, other]

/-- FA hands over a code of neither a thermocouple nor a 3-wire connection as it is. -/
theorem pairCode_plain {w : Nat} (sar : Bool) (lead code : BitVec w) (notTc : fcUacMode (faLane s) n ≠ 6)
    (plain : threeWire (faLane s) n = false) : lessLead s n lead (withCj s n sar code) = code := by
  rw [lessLead, if_neg (Bool.eq_false_iff.1 plain), withCj_other _ _ notTc]

theorem pairCode_threeWire {w : Nat} (sar : Bool) (lead code : BitVec w) (three : threeWire (faLane s) n = true) :
    lessLead s n lead (withCj s n sar code) = BitVec.ofInt w (subW w (sgn code) (sgn lead)) := by
  rw [lessLead, if_pos three, withCj_other _ _ (mode_ne_tc_of_threeWire three)]

/-- The code of a thermocouple carries the cold-junction voltage of its own converter type. -/
theorem pairCode_internal {w : Nat} (sar : Bool) (lead code : BitVec w) (tc : fcUacMode (faLane s) n = 6)
    (internal : taken (faLane s).pAn n / 2 ^ 20 % 2 = 1) : lessLead s n lead (withCj s n sar code) =
      BitVec.ofInt w (addW w (sgn code) (Config.voltCode sar (cjVolt (faLane s) (if sar then s.fa.cjSar else s.fa.cj) n))) := by
  have plain : ¬ threeWire (faLane s) n = true := fun three => mode_ne_tc_of_threeWire three tc
  rw [lessLead, if_neg plain, withCj, tc, internal]
  rfl

/-- Three status bits beside NEW, each at its place (Table 8.3). -/
theorem getLsbD_status (two one zero : Bool) :
    (BitVec.ofNat 4 (8 + bit two 2 + bit one 1 + bit zero 0)).getLsbD 3 = true ∧
    (BitVec.ofNat 4 (8 + bit two 2 + bit one 1 + bit zero 0)).getLsbD 2 = two ∧
    (BitVec.ofNat 4 (8 + bit two 2 + bit one 1 + bit zero 0)).getLsbD 1 = one ∧
    (BitVec.ofNat 4 (8 + bit two 2 + bit one 1 + bit zero 0)).getLsbD 0 = zero := by
  revert two one zero
  decide

variable (stat : BitVec 3) (burn : Nat)

theorem pairStat_new : (pairStat s n stat burn).getLsbD 3 = true := (getLsbD_status ..).1

theorem pairStat_supply : (pairStat s n stat burn).getLsbD 0 = stat.getLsbD 0 := (getLsbD_status ..).2.2.2

theorem pairStat_stageLimit (output : fcUacMode (faLane s) n = 3 ∨ fcUacMode (faLane s) n = 4) :
    (pairStat s n stat burn).getLsbD 2 = stat.getLsbD 2 := by
  refine (getLsbD_status ..).2.1.trans (if_pos ?_)
  simpa using output

theorem pairStat_cjFault (tc : fcUacMode (faLane s) n = 6) : (pairStat s n stat burn).getLsbD 2 = cjFailed s.fa n := by
  refine (getLsbD_status ..).2.1.trans ?_
  simp [tc]

theorem pairStat_burnOut (tc : fcUacMode (faLane s) n = 6) : (pairStat s n stat burn).getLsbD 1 = decide (50 < burn) := by
  refine (getLsbD_status ..).2.2.1.trans ?_
  simp only [sensorOpen, tc]
  exact decide_eq_decide.2 (by omega)

end

/-! ## The end of a window (R182) -/

section
variable {s : State} {ch : Fin 8} {sd : BitVec 24} {sar : BitVec 16} {stat : BitVec 3} {burn : Nat} {drv : Int} {leadSd : BitVec 24}
  {leadSar : BitVec 16}

/-- A window that has ended leaves its result pair in its channel, and the begin of the next window. -/
theorem exec_conversionWindowEnd_ended {w : W64} (runs : faRuns s = true) (used : fcUacMode (faLane s) ch ≠ 0)
    (window : s.fa.ch[ch].winAt = some w) (ended : w.toNat + fcConv (faLane s) ch ≤ s.tb.count.toNat) :
    ∃ next, exec (.conversionWindowEnd ch sd sar stat drv burn leadSd leadSar) s = .next { s with fa := { s.fa with
      ch := vupd s.fa.ch ch (fun a => { a with
        sd := lessLead s ch leadSd (withCj s ch false sd), sar := lessLead s ch leadSar (withCj s ch true sar)
        stat := pairStat s ch stat burn, drv := drv, winAt := some next }) } } := by
  obtain ⟨next, after⟩ := windowAfter_ended ended
  refine ⟨next, ?_⟩
  change execConversionWindowEnd ch sd sar stat drv s burn leadSd leadSar = _
  rw [Fin.getElem_fin] at window
  simp only [execConversionWindowEnd, runs, used, window, after]
  rfl

/-- Otherwise it leaves everything as it is. -/
theorem exec_conversionWindowEnd_idle (idle : faRuns s = false ∨ fcUacMode (faLane s) ch = 0 ∨ s.fa.ch[ch].winAt = none ∨
      (∃ w, s.fa.ch[ch].winAt = some w ∧ s.tb.count.toNat < w.toNat + fcConv (faLane s) ch)) :
    exec (.conversionWindowEnd ch sd sar stat drv burn leadSd leadSar) s = .next s := by
  refine if_pos ?_
  rcases idle with still | unused | noWindow | ⟨w, window, running⟩
  · simp [still]
  · simp [unused]
  · rw [Fin.getElem_fin] at noWindow
    simp [noWindow, windowAfter]
  · rw [Fin.getElem_fin] at window
    simp [window, windowAfter_running running]

end

/-! ## The cold-junction sensors (R186) -/

/-- The median of four equal readings is that reading. -/
theorem median4_replicate (x : Int) : median4 (Vector.replicate 4 x) = x := by
  have middle : (x + x + x + x - x - x) / 2 = x := by omega
  simpa [median4] using middle

/-- A reading outside −45 °C to +100 °C fails the check. -/
theorem cjOut_outside {v : Vector Int 4} {k : Fin 4} (outside : v[k] < -4500 ∨ 10000 < v[k]) : cjOut v k = true := by
  rw [Fin.getElem_fin] at outside
  rcases outside with low | high
  · simp [cjOut, low]
  · simp [cjOut, high]

/-- Four equal readings inside it pass. -/
theorem cjOut_replicate {x : Int} (low : -4500 ≤ x) (high : x ≤ 10000) (k : Fin 4) : cjOut (Vector.replicate 4 x) k = false := by
  simp [cjOut, median4_replicate, low, high]

theorem eq_replicate_of_getElem {α : Type} {n : Nat} {v : Vector α n} {x : α} (all : ∀ k : Fin n, v[k] = x) : v = Vector.replicate n x :=
  Vector.ext fun k fits => by rw [Vector.getElem_replicate]; exact all ⟨k, fits⟩

section
variable {s : State} {a b : Vector Int 4}

theorem exec_cjSensorRead (powered : s.pwr.domains.getLsbD 0 = true) (awake : s.fa.inLull = false) :
    exec (.cjSensorRead a b) s = .next { s with fa := { s.fa with
      cj := a, cjSar := b
      cjBad := vtab 4 (fun k => if cjOut a k || cjOut b k then vget s.fa.cjBad k 0 + 1 else 0) } } :=
  if_neg (by rw [powered, awake]; decide)

theorem exec_cjSensorRead_on (powered : s.pwr.domains.getLsbD 0 = true) (awake : s.fa.inLull = false) :
    ∃ t, exec (.cjSensorRead a b) s = .next t ∧ t.fa.cj = a ∧ t.fa.cjSar = b ∧
      (∀ k : Fin 4, (a[k] < -4500 ∨ 10000 < a[k] ∨ b[k] < -4500 ∨ 10000 < b[k]) → t.fa.cjBad[k] = s.fa.cjBad[k] + 1) ∧
      (∀ x y : Int, -4500 ≤ x → x ≤ 10000 → -4500 ≤ y → y ≤ 10000 → (∀ k : Fin 4, a[k] = x ∧ b[k] = y) →
        ∀ k : Fin 4, t.fa.cjBad[k] = 0) ∧
      t.fa.ch = s.fa.ch ∧ { t with fa := s.fa } = s := by
  refine ⟨_, exec_cjSensorRead powered awake, rfl, rfl, fun k outside => ?_, fun x y xLow xHigh yLow yHigh all k => ?_, rfl, rfl⟩
  · have fails : (cjOut a k || cjOut b k) = true := by
      rw [← or_assoc] at outside
      exact Bool.or_eq_true_iff.2 (outside.imp cjOut_outside cjOut_outside)
    rw [Fin.getElem_fin, getElem_vtab _ k.isLt, if_pos fails, vget_fin]
  · obtain rfl := eq_replicate_of_getElem fun k => (all k).1
    obtain rfl := eq_replicate_of_getElem fun k => (all k).2
    rw [Fin.getElem_fin, getElem_vtab _ k.isLt, cjOut_replicate xLow xHigh, cjOut_replicate yLow yHigh]
    rfl

end

/-! ## A fault found outside a pair (R185, R195) -/

section
variable (cfg : Config.Image) (n k : Nat) (a : AnCh)

/-- A latch leaves state, faults and value of the channel. -/
@[simp] theorem latchOut_frame : (latchOut cfg n a).st = a.st ∧ (latchOut cfg n a).stand = a.stand ∧ (latchOut cfg n a).y = a.y := by
  unfold latchOut
  split <;> exact ⟨rfl, rfl, rfl⟩

variable {cfg n k a}

theorem latchOut_latches (output : uacOut cfg n = true) (stands : a.has k = true) : (latchOut cfg n a).latch = true := by
  have standing : (uacOut cfg n && a.stand != 0) = true := by
    rw [output, Bool.true_and, bne_iff_ne]
    intro clear
    simp [AnCh.has, clear] at stands
  rw [latchOut, if_pos standing]

/-- A fault that is raised stands. -/
theorem anRaise_has (code : k < 14) : (anRaise (BitVec.ofNat 14 (2 ^ k)) a).has k = true := by
  rw [AnCh.has, anRaise, BitVec.getLsbD_or, BitVec.getLsbD_ofNat, Nat.testBit_two_pow_self, decide_eq_true code, Bool.and_self,
    Bool.or_true]

theorem anFail_st : (anFail cfg n k a).st = 3 := by
  simp only [anFail, latchOut_frame]

theorem anFail_has (code : k < 14) : (anFail cfg n k a).has k = true := by
  simp only [AnCh.has, anFail, latchOut_frame]
  exact anRaise_has code

theorem anFail_y_input (input : uacOut cfg n = false) : (anFail cfg n k a).y = a.lastValid := by
  simp only [anFail, latchOut_frame, input]
  rfl

theorem anFail_latch_output (code : k < 14) (output : uacOut cfg n = true) : (anFail cfg n k a).latch = true :=
  latchOut_latches output (anRaise_has (a := a) code)

end

/-! ## Channels without NEW (R185) -/

section
variable {cfg : Config.Image} {ch : Fin 8} {c : Chan} {s : State}

theorem staleDue_iff : staleDue cfg ch c = true ↔
    lookN cfg .uacMode ch 0 0 ≠ 0 ∧ cfgConv cfg ch + cfgT cfg < (c.an[ch].noNew + 1) * cfgT cfg := by
  simp [staleDue, staleAfter]

/-- A channel that is due fails with AN_STALE, the clearing of every fault starting again. -/
theorem anStaleCh_due (due : staleDue cfg ch c = true) :
    (anStaleCh cfg ch c).an[ch] = anFail cfg ch 2 { c.an[ch] with clr := Vector.replicate 14 0 } := by
  rw [anStaleCh, if_pos due]
  exact getElem_vupd_self ..

theorem anStaleCh_ne {k : Fin 8} (other : k ≠ ch) : (anStaleCh cfg ch c).an[k] = c.an[k] := by
  unfold anStaleCh
  split
  · exact getElem_vupd_ne _ _ _ _ other
  · rfl

theorem anStaleCh_fresh (within : (c.an[ch].noNew + 1) * cfgT cfg ≤ cfgConv cfg ch + cfgT cfg) : anStaleCh cfg ch c = c :=
  if_neg fun due => Nat.not_lt.2 within (staleDue_iff.1 due).2

/-- The state once both channels have judged whether AN_STALE is due on channel `ch`. -/
def staleJudged (ch : Fin 8) (s : State) : State :=
  { s with ridge := anStaleCh (evalCfg s) ch s.ridge, thatch := anStaleCh (evalCfg s) ch s.thatch }

theorem exec_anStale : exec (.anStale ch) s =
    if !s.mode.evaluates then .next s
    else if (staleJudged ch s).ridge.an[ch].has 2 || (staleJudged ch s).thatch.an[ch].has 2 then
      .next (raise fcAnStale ch (staleJudged ch s))
    else .next (staleJudged ch s) := rfl

theorem exec_anStale_due (evaluates : s.mode.evaluates = true) (live : tableStill s = false)
    (due : staleDue (evalCfg s) ch s.ridge = true) :
    ∃ t, exec (.anStale ch) s = .next t ∧ hasFault t fcAnStale ch = true ∧ t.ridge.an[ch].st = 3 ∧ t.ridge.an[ch].has 2 = true ∧
      (uacOut (evalCfg s) ch = false → t.ridge.an[ch].y = s.ridge.an[ch].lastValid) ∧
      (uacOut (evalCfg s) ch = true → t.ridge.an[ch].latch = true) ∧
      (∀ k : Fin 8, k ≠ ch → t.ridge.an[k] = s.ridge.an[k] ∧ t.thatch.an[k] = s.thatch.an[k]) ∧ t.fa = s.fa ∧ t.mode = s.mode := by
  have failed : (staleJudged ch s).ridge.an[ch] = _ := anStaleCh_due due
  have stands : (staleJudged ch s).ridge.an[ch].has 2 = true := failed ▸ anFail_has (by decide)
  have fault : hasFault (raise fcAnStale ch (staleJudged ch s)) fcAnStale ch = true := hasFault_raise_at (by decide) live (by omega)
  rw [exec_anStale, evaluates, stands, Bool.true_or, if_pos rfl, if_neg (by decide)]
  refine ⟨_, rfl, fault, ?_⟩
  simp only [raise_frame]
  refine ⟨failed ▸ anFail_st, stands, fun input => ?_, fun output => ?_, fun k other => ⟨anStaleCh_ne other, anStaleCh_ne other⟩, rfl, rfl⟩
  · rw [failed, anFail_y_input input]
  · rw [failed, anFail_latch_output (by decide) output]

theorem exec_anStale_fresh (ridge : s.ridge.an[ch].has 2 = false) (thatch : s.thatch.an[ch].has 2 = false)
    (ridgeWithin : (s.ridge.an[ch].noNew + 1) * cfgT (evalCfg s) ≤ cfgConv (evalCfg s) ch + cfgT (evalCfg s))
    (thatchWithin : (s.thatch.an[ch].noNew + 1) * cfgT (evalCfg s) ≤ cfgConv (evalCfg s) ch + cfgT (evalCfg s)) :
    exec (.anStale ch) s = .next s := by
  have same : staleJudged ch s = s := by rw [staleJudged, anStaleCh_fresh ridgeWithin, anStaleCh_fresh thatchWithin]
  rw [exec_anStale, same, ridge, thatch, Bool.or_self, if_neg Bool.false_ne_true, ite_self]

end

/-! ## The statement -/

/-- Settles O50: the result pair of a window by its codes and its status bits, the readings of the sensors, and AN_STALE by what a fault
found outside a pair makes of its channel. -/
theorem analogueConversions : Obligations.AnalogueConversions := by
  unfold Obligations.AnalogueConversions
  refine ⟨fun s ch sd sar stat burn drv w leadSd leadSar runs used window ended => ?_,
    fun s ch sd sar stat burn drv leadSd leadSar idle => exec_conversionWindowEnd_idle idle,
    fun s a b powered awake => exec_cjSensorRead_on powered awake,
    fun s ch evaluates live used late => exec_anStale_due evaluates live (staleDue_iff.2 ⟨used, late⟩),
    fun s ch ridge thatch ridgeWithin thatchWithin => exec_anStale_fresh ridge thatch ridgeWithin thatchWithin⟩
  obtain ⟨next, run⟩ := exec_conversionWindowEnd_ended (sd := sd) (sar := sar) (stat := stat) (burn := burn) (drv := drv)
    (leadSd := leadSd) (leadSar := leadSar) runs used window ended
  refine ⟨_, run, ?_⟩
  simp only [getElem_vupd_self]
  exact ⟨fun notTc plain => ⟨pairCode_plain _ _ _ notTc plain, pairCode_plain _ _ _ notTc plain⟩,
    fun three => ⟨pairCode_threeWire _ _ _ three, pairCode_threeWire _ _ _ three⟩,
    fun tc internal => ⟨pairCode_internal _ _ _ tc internal, pairCode_internal _ _ _ tc internal⟩,
    pairStat_new .., pairStat_supply .., pairStat_stageLimit _ _, fun tc => ⟨pairStat_cjFault _ _ tc, pairStat_burnOut _ _ tc⟩,
    trivial, trivial, fun k other => getElem_vupd_ne _ _ _ _ other, trivial, trivial⟩

end Sys2Proof.Proofs
end

section
/-! PROOF. The reading commands of the mailbox: what each answers, and that the answer concerns the service alone (R228, R251, R316,
R332; Tables 11.6, 11.7). -/

namespace Sys2Proof.Proofs

open Sys2Proof Sys2Proof.Machine Sys2Proof.Safety Sys2Proof.Laws

/-! ## A command that only reads -/

/-- A request that is taken marks its session and OVERRUN; whatever does not read these reads as before (R253, Table 11.5). -/
theorem touch_reads {α : Type} (read : State → α) (p : Port) (s : State)
    (blind : ∀ (a b : Session) (o : Bool), a.level = s.gable.spi.level → b.level = s.gable.usb.level →
      read { s with gable := { s.gable with spi := a, usb := b, overrun := o } } = read s) : read (touch p s) = read s := by
  unfold touch
  dsimp only
  split <;> cases p <;> exact blind _ _ _ rfl rfl

/-- What a command answers that is neither logged nor changes the state: the answer, and nothing outside the service. -/
theorem exec_reads {c : Instr} {code : BitVec 16} {r : Req} {body : State → State × Answer} {s : State} {a : Answer}
    (runs : exec c s = .next (serve code r body s)) (ok : admits code r s = true) (unlogged : isLogged code r = false)
    (reads : body (touch r.port s) = (touch r.port s, a)) (now : a.later = false) :
    ∃ t, exec c s = .next t ∧ quiet s t ∧ answered code r a.st a.more a.payload t := by
  refine ⟨_, runs, ?_, ?_⟩
  · rw [serve_answered ok reads now, quiet_iff, offService_finish _ _ _ unlogged, offService_touch]
  · rw [serve_answered ok reads now]
    exact answered_finish ..

/-- A request without a payload, for a command that has none. -/
theorem noPayload_empty {r : Req} (body : State → State × Answer) (s : State) (empty : r.payload = []) :
    noPayload r body s = body s := by
  simp [noPayload, empty]

/-! ## The payloads -/

theorem statusPayload_touch (p : Port) (s : State) : statusPayload p (touch p s) = statusPayload p s :=
  touch_reads (statusPayload p) p s fun a b o spi usb => by
    have level : (sessionOf p { s with gable := { s.gable with spi := a, usb := b, overrun := o } }).level = (sessionOf p s).level := by
      cases p
      · exact spi
      · exact usb
    unfold statusPayload
    rw [level]
    rfl

/-- What LOG_READ answers: the oldest count, the next one, and `n` raw slots from `first` on (Table 11.7). -/
def logReadPayload (first n : Nat) (s : State) : List Byte :=
  be 4 (oldestCount s) ++ be 4 s.bk.nextCount.toNat ++ be 4 n ++ (List.range n).flatMap (fun k => rawSlot s (first + k))

theorem logReadPayload_touch (first n : Nat) (p : Port) (s : State) : logReadPayload first n (touch p s) = logReadPayload first n s :=
  touch_reads (logReadPayload first n) p s fun _ _ _ _ _ => rfl

theorem margins_touch (p : Port) (s : State) : margins (touch p s) = margins s :=
  touch_reads margins p s fun _ _ _ _ _ => rfl

theorem marginBytes_touch (p : Port) (s : State) : marginBytes (touch p s) = marginBytes s :=
  touch_reads marginBytes p s fun _ _ _ _ _ => rfl

theorem cascadePayload_touch (p : Port) (s : State) : cascadePayload (touch p s) = cascadePayload s :=
  touch_reads cascadePayload p s fun _ _ _ _ _ => rfl

/-! ## The commands -/

theorem exec_getStatus (r : Req) (s : State) : exec (.getStatus r) s =
    .next (serve ccGetStatus r (noPayload r fun t => (t, answerOk (statusPayload r.port t))) s) := rfl

theorem exec_logRead (r : Req) (s : State) : exec (.logRead r) s = execLogRead r s := rfl

theorem exec_slateRead (r : Req) (s : State) : exec (.slateRead r) s = .next (serve ccSlateRead r (slateReadBody r) s) := rfl

theorem exec_weatherReport (r : Req) (s : State) : exec (.weatherReport r) s = .next (serve ccWeatherReport r (weatherBody r) s) := rfl

theorem exec_cascadeStatus (r : Req) (s : State) : exec (.cascadeStatus r) s =
    .next (serve ccCascadeStatus r (noPayload r fun t => (t, answerOk (cascadePayload t))) s) := rfl

theorem exec_getFaults (r : Req) (s : State) : exec (.getFaults r) s = execGetFaults r s := rfl

section command
variable {r : Req}

/-- A good SLATE_READ answers the words of the shadow and their WEAK flags (Table 11.7). -/
theorem slateReadBody_answers (u : State) (len : r.payload.length = 8) (region : r.num 0 1 ≤ 4) (zero : r.num 1 1 = 0)
    (least : 1 ≤ r.num 4 4) (most : r.num 4 4 ≤ 120) (inside : r.num 2 2 + r.num 4 4 ≤ (regionWords (r.num 0 1)).2) :
    slateReadBody r u = (u, answerOk (be 4 (r.num 4 4)
      ++ (List.range (r.num 4 4)).flatMap (fun k => be 4 (fld (shadowOf u) (32 * ((regionWords (r.num 0 1)).1 + r.num 2 2 + k)) 32))
      ++ (List.range (r.num 4 4)).flatMap (fun k => be 4 (fld u.slate.weak (32 * ((regionWords (r.num 0 1)).1 + r.num 2 2 + k)) 32)))) := by
  simp [slateReadBody, len, zero, Nat.not_lt.2 region, Nat.not_lt.2 most, Nat.not_lt.2 inside, Nat.one_le_iff_ne_zero.1 least]

/-- WEATHER_REPORT while W is down, or its reports are shed (R316, R332). -/
theorem weatherBody_away (u : State) (len : r.payload.length = 4) (away : u.w.up = false ∨ u.pwr.shedWrep = true) :
    weatherBody r u = (u, answer stNotAvailable) := by
  rcases away with h | h <;> simp [weatherBody, len, h]

/-- Page 0 of the report (R331). -/
theorem weatherBody_firstPage (u : State) (len : r.payload.length = 4) (up : u.w.up = true) (kept : u.pwr.shedWrep = false)
    (page : r.num 0 4 = 0) :
    weatherBody r u = (u, { answerOk (be 4 (min 63 (margins u).length) ++ ((margins u).take 63).flatMap (marginBytes u)) with
      more := decide (63 < (margins u).length) }) := by
  simp [weatherBody, len, up, kept, page]

end command

/-! ## The statement -/

/-- Settles O24: each reading command by its body, which leaves the state as it was taken, and by the end of a request. -/
theorem statusAndReportCommands : Obligations.StatusAndReportCommands := by
  unfold Obligations.StatusAndReportCommands
  refine ⟨fun r s ok empty => ?_, fun r s ok len first => ?_, fun r s ok len least most => ?_,
    fun r s ok len region zero least most inside => ?_, fun r s ok len away => ?_, fun r s ok len up kept page => ?_,
    fun r s ok empty => ?_⟩
  · have body := noPayload_empty (fun t => (t, answerOk (statusPayload r.port t))) (touch r.port s) empty
    rw [statusPayload_touch] at body
    exact (exec_reads (exec_getStatus r s) ok rfl body rfl :)
  · refine exec_reads (a := { answerOk (be 4 s.faults.length ++ ((s.faults.drop (r.num 0 4)).take 62).flatMap faultBytes) with
      more := decide (r.num 0 4 + 62 < s.faults.length) }) (exec_getFaults r s) ok rfl ?_ rfl
    simp [len, Nat.not_lt.2 first]
  · refine exec_reads (a := answerOk (logReadPayload (r.num 0 4) (r.num 4 4) s)) (exec_logRead r s) ok rfl ?_ rfl
    rw [← logReadPayload_touch _ _ r.port]
    simp [len, Nat.not_lt.2 most, Nat.one_le_iff_ne_zero.1 least, logReadPayload]
  · have body := slateReadBody_answers (touch r.port s) len region zero least most inside
    simp only [shadowOf, touch_frame] at body
    exact (exec_reads (exec_slateRead r s) ok rfl body rfl :)
  · exact (exec_reads (exec_weatherReport r s) ok rfl (weatherBody_away _ len (by simpa using away)) rfl :)
  · have body := weatherBody_firstPage (touch r.port s) len (by simpa using up) (by simpa using kept) page
    rw [margins_touch, marginBytes_touch] at body
    exact (exec_reads (exec_weatherReport r s) ok rfl body rfl :)
  · have body := noPayload_empty (fun t => (t, answerOk (cascadePayload t))) (touch r.port s) empty
    rw [cascadePayload_touch] at body
    exact (exec_reads (exec_cascadeStatus r s) ok rfl body rfl :)

end Sys2Proof.Proofs
end

section
/-! PROOF. Times of a connection that run out before the work of a phase 3 (R212 to R214, R218; log entry 110). -/

namespace Sys2Proof.Proofs

open Sys2Proof Sys2Proof.Machine Sys2Proof.Safety Sys2Proof.Laws

/-! ## One connection moved in both channels -/

/-- A channel with connection `k` moved by `g`, as it stood kept for phase 3; one that is frozen or has moved it already stays (R213). -/
def connMoved (k : Nat) (g : Conn → Conn × List (BitVec 16)) (c : Chan) : Chan :=
  if c.frozen || c.earlyConn.any (fun q => q.1 == k) then c
  else { c with conn := vmod c.conn k (fun n => (g n).1), earlyConn := c.earlyConn ++ [(k, vget c.conn k Conn.reset)] }

@[simp] theorem tableStill_connClears (k : Nat) (n : Conn) (s : State) : tableStill (connClears k n s) = tableStill s := by
  unfold connClears; dsimp only; (repeat' split) <;> simp

theorem bothConns_eq (k : Nat) (g : Conn → Conn × List (BitVec 16)) (s : State) :
    bothConns k g s = if (chanOf (viewLane s) s).earlyConn.any (fun q => q.1 == k) then s
      else connSync k (g (connOf k s)) { s with ridge := connMoved k g s.ridge, thatch := connMoved k g s.thatch } := rfl

section live
variable {s : State} {k : Fin 128} (runs : s.ridge.frozen = false)
include runs

/-- While the Ridge pair runs, its view stands for both channels. -/
theorem chanOf_viewLane : chanOf (viewLane s) s = s.ridge := by simp [viewLane, runs, chanOf]

theorem connOf_ridge : connOf k s = s.ridge.conn[k] := by rw [connOf, chanOf_viewLane runs, vget_fin]

variable (fresh : ∀ q ∈ s.ridge.earlyConn, q.1 ≠ k.val) (g : Conn → Conn × List (BitVec 16))
include fresh

/-- A connection that has not moved in this tick moves, and its faults follow it. -/
theorem bothConns_fresh : bothConns k g s =
    connSync k (g s.ridge.conn[k]) { s with ridge := connMoved k g s.ridge, thatch := connMoved k g s.thatch } := by
  have first : s.ridge.earlyConn.any (fun q => q.1 == k.val) = false := by simpa using fresh
  rw [bothConns_eq, chanOf_viewLane runs, first, if_neg Bool.false_ne_true, connOf_ridge runs]

/-- What stands after it: this connection alone has moved, and a fault that it raises is present. -/
theorem bothConns_moves {code : BitVec 16} (raises : (g s.ridge.conn[k]).2 = [code]) (real : code ≠ fcEvtLost)
    (moves : tableStill s = false) :
    (bothConns k g s).ridge.conn[k] = (g s.ridge.conn[k]).1 ∧ hasFault (bothConns k g s) code k = true ∧
      (∀ j : Fin 128, j ≠ k → (bothConns k g s).ridge.conn[j] = s.ridge.conn[j]) ∧ (bothConns k g s).tick = s.tick := by
  have ridge : connMoved k g s.ridge = { s.ridge with
      conn := vmod s.ridge.conn k (fun n => (g n).1), earlyConn := s.ridge.earlyConn ++ [(k.val, s.ridge.conn[k])] } := by
    have first : s.ridge.earlyConn.any (fun q => q.1 == k.val) = false := by simpa using fresh
    rw [connMoved, if_neg (by simp [runs, first]), vget_fin]
  have view := phase3View_connSync k (g s.ridge.conn[k])
    { s with ridge := connMoved k g s.ridge, thatch := connMoved k g s.thatch }
  rw [← bothConns_fresh runs fresh g] at view
  simp only [phase3View, Prod.mk.injEq] at view
  obtain ⟨⟨tick, -⟩, -, -, chan⟩ := view
  rw [chan, ridge]
  refine ⟨getElem_vmod_self .., ?_, fun j other => getElem_vmod_ne _ k j _ other, tick⟩
  rw [bothConns_fresh runs fresh g, connSync, raises]
  exact hasFault_raise_at real ((tableStill_connClears ..).trans moves) (by omega)

end live

/-! ## Each time that runs out -/

section expiry
variable {s : State} {k : Fin 128} {n : Conn} (view : connOf k s = n)

section due
include view

theorem exec_connTimeout_due (now : expiryDue k s = true) (ctt : isCsf (evalCfg s) k = false) (valid : n.st = 1) (none : n.held = [])
    (late : cfgTimeout (evalCfg s) k ≤ n.since + 1) :
    exec (.connTimeout k) s = .next (bothConns k (fun m => (leave cnGap m, [fcConnTimeout])) s) := by
  change execConnTimeout k s = _
  simp [execConnTimeout, view, timedOut, now, ctt, valid, none, late]

theorem exec_connTimeout_within (within : n.since + 1 < cfgTimeout (evalCfg s) k) : exec (.connTimeout k) s = .next s := by
  change execConnTimeout k s = _
  simp [execConnTimeout, view, timedOut, Nat.not_le.2 within]

theorem exec_csfWdg_due (now : expiryDue k s = true) (csf : isCsf (evalCfg s) k = true) (valid : n.st = 1)
    (late : cfgWdg (evalCfg s) k ≤ n.since + 1) :
    exec (.csfWdg k) s = .next (bothConns k (fun m => (leave cnGap m, [fcCsfWdg])) s) := by
  change execCsfWdg k s = _
  simp [execCsfWdg, view, now, csf, valid, late]

/-- A running count of the Lee time rises in this phase 3, and so comes to its limit (R214). -/
theorem exec_connLeeExpired_due (now : phase3Due s = true) (takes : consumes (evalCfg s) k = true) (gone : n.st = 2 ∨ n.st = 3)
    (counts : n.leeRun = true) (used : cfgLee (evalCfg s) k ≤ countUp n.lee) : exec (.connLeeExpired k) s =
      .next (bothConns k (fun m => ({ leeCount m with st := cnExpired, paired := 0 }, [fcConnLeeExpired])) s) := by
  have expired : leeExpired (evalCfg s) k (leeCount n) = true := by
    rcases gone with st | st <;> simp [leeExpired, leeCount, st, counts, used]
  change execConnLeeExpired k s = _
  simp [execConnLeeExpired, view, now, takes, expired]

theorem exec_connNotStarted_due (now : expiryDue k s = true) (run : s.mode.runs = true) (start : n.st = 0)
    (late : 3 * cfgTimeout (evalCfg s) k ≤ countUp n.startFor) : exec (.connNotStarted k) s = .next (raise fcConnNotStarted k s) := by
  change execConnNotStarted k s = _
  simp [execConnNotStarted, view, notStarted, startCount, now, run, start, late]

end due

theorem exec_pairingWindowExpiry_due (now : expiryDue k s = true) (ctt : isCsf (evalCfg s) k = false) :
    exec (.pairingWindowExpiry k) s = .next (bothConns k (cttPhase (evalCfg s) (phase3Of s) k []) s) := by
  change execPairingWindowExpiry k s = _
  simp [execPairingWindowExpiry, now, ctt]

/-- None of these rows acts before its phase 3, or where a copy has come. -/
theorem exec_expiries_early (early : expiryDue k s = false) :
    exec (.connTimeout k) s = .next s ∧ exec (.csfWdg k) s = .next s ∧ exec (.pairingWindowExpiry k) s = .next s ∧
      exec (.connNotStarted k) s = .next s := by
  refine ⟨?_, ?_, ?_, ?_⟩
  · change execConnTimeout k s = _; simp [execConnTimeout, early]
  · change execCsfWdg k s = _; simp [execCsfWdg, early]
  · change execPairingWindowExpiry k s = _; simp [execPairingWindowExpiry, early]
  · change execConnNotStarted k s = _; simp [execConnNotStarted, early]

end expiry

/-! ## A connection that leaves VALID -/

/-- It leaves with its Lee time counting, from 0 where it stood, and no run of pairs (R214). -/
theorem leave_valid {n : Conn} (st : Nat) (valid : n.st = 1) :
    (leave st n).st = st ∧ (leave st n).leeRun = true ∧ (leave st n).paired = 0 ∧ (n.leeRun = false → (leave st n).lee = 0) := by
  unfold leave
  cases n.leeRun <;> simp [valid]

theorem leave_data (st : Nat) (n : Conn) :
    (leave st n).held = n.held ∧ (leave st n).stamp = n.stamp ∧ (leave st n).payload = n.payload := by
  unfold leave
  split <;> exact ⟨rfl, rfl, rfl⟩

/-! ## A copy without its partner -/

section window
variable {now w : Nat} {stale : Copy → Bool} {x : Copy}

/-- A lone copy that is not stale counts as SINGLE once its window has passed (R212). -/
theorem judge_lone (good : stale x = false) (late : x.rx.toNat + w ≤ now) : judge now w stale [x] = some (.single x) := by
  cases port : x.port <;> simp [judge, good, port, late]

theorem judgeAll_lone (good : stale x = false) (late : x.rx.toNat + w ≤ now) : judgeAll now w stale [x] = ([.single x], []) := by
  have seqs : seqsOf [x] = [tgSeq x.bytes] := rfl
  simp [judgeAll, seqs, judge_lone good late, insertOutcome]

/-- A connection counted in a phase 3 in which no copy comes, and whose one held copy ends. -/
def loneCounted (q : Phase3) (n : Conn) : Conn :=
  { cttCounts q n with held := [], lockStamp := n.lockStamp, discards := n.discards + 0 + (n.held.length - 1), copyA := false, copyB := false }

theorem loneTaken_st {n : Conn} (q : Phase3) (x : Copy) (valid : n.st = 1) : (outcomeData (loneCounted q n) (.single x)).st = 1 := by
  have counted : (leeCount { n with fresh := false, since := countUp n.since }).st = n.st := by unfold leeCount; split <;> rfl
  exact counted.trans valid

theorem loneTaken_leeRun {n : Conn} (q : Phase3) (x : Copy) (stands : n.leeRun = false) :
    (outcomeData (loneCounted q n) (.single x)).leeRun = false := by
  have counted : (leeCount { n with fresh := false, since := countUp n.since }).leeRun = n.leeRun := by unfold leeCount; split <;> rfl
  exact counted.trans stands

/-- A SINGLE telegram takes a VALID connection to SINGLE (Table 9.3). -/
theorem outcomeState_single {n : Conn} (valid : n.st = 1) : outcomeState (.single x) n = (leave cnSingle n, [fcConnSingle]) := by
  simp [outcomeState, valid]

/-- Outside START a connection is not one that has not started. -/
theorem withNotStarted_gone {cfg : Config.Image} {k : Nat} {n : Conn} {l : List (BitVec 16)} (gone : n.st ≠ 0) :
    withNotStarted cfg k (n, l) = (n, l) := by
  simp [withNotStarted, notStarted, gone]

/-- A phase 3 that takes a SINGLE telegram alone, in a VALID connection (R212 to R214). -/
theorem cttPhase_lone {cfg : Config.Image} {q : Phase3} {k : Nat} {n : Conn} (valid : n.st = 1)
    (held : n.held = [x]) (later : n.stamp.toNat < (tgStamp x.bytes).toNat) (good : copyStale (cfgAge cfg k) q.stale x = false)
    (late : x.rx.toNat + cfgW cfg k * cfgT cfg * tUs ≤ q.now) :
    cttPhase cfg q k [] n = (leave cnSingle (outcomeData (loneCounted q n) (.single x)), [fcConnSingle]) := by
  have judged := judgeAll_lone (w := cfgW cfg k * cfgT cfg * tUs) (stale := copyStale (cfgAge cfg k) q.stale) good late
  have copies : newCopies cfg k [] n = ([], 0) := rfl
  have locks : lockCopies cfg q k [] = [] := rfl
  have wait : n.held.filter (fun y => n.stamp.toNat < (tgStamp y.bytes).toNat) = [x] := by simp [held, later]
  have st : (outcomeData (loneCounted q n) (.single x)).st = 1 := loneTaken_st q x valid
  have stays : leeExpired cfg k (outcomeData (loneCounted q n) (.single x)) = false := by simp [leeExpired, st]
  simp only [cttPhase, copies, locks, wait, judged, List.append_nil]
  change (if leeExpired cfg k (outcomeData (loneCounted q n) (.single x)) = true then _
    else withNotStarted cfg k (outcomeState (.single x) (outcomeData (loneCounted q n) (.single x)))) = _
  rw [stays, if_neg Bool.false_ne_true, outcomeState_single st]
  exact withNotStarted_gone (by rw [(leave_valid cnSingle st).1]; decide)

end window

/-! ## The statement -/

/-- Settles O52: each row by what it does to its connection, and by the faults that follow it. -/
theorem connectionExpiries : Obligations.ConnectionExpiries := by
  unfold Obligations.ConnectionExpiries
  refine ⟨fun s k now ctt moves runs fresh valid none late => ?_,
    fun s k runs within => exec_connTimeout_within (connOf_ridge runs) within,
    fun s k now csf moves runs fresh valid late => ?_, fun s k now takes moves runs fresh gone counts used => ?_,
    fun s k x now ctt moves runs fresh valid stands held later good late => ?_,
    fun s k now moves runs run start late => ⟨_, exec_connNotStarted_due (connOf_ridge runs) now run start late,
      hasFault_raise_at (by decide) moves (by omega), by simp, by simp⟩,
    fun s k early => exec_expiries_early early⟩
  · obtain ⟨conn, fault, others, tick⟩ := bothConns_moves runs fresh (fun m => (leave cnGap m, [fcConnTimeout])) rfl (by decide) moves
    obtain ⟨st, counts, paired, -⟩ := leave_valid cnGap valid
    exact ⟨_, exec_connTimeout_due (connOf_ridge runs) now ctt valid none late, by rw [conn, st], by rw [conn, counts],
      by rw [conn, paired], fault, others, tick⟩
  · obtain ⟨conn, fault, others, tick⟩ := bothConns_moves runs fresh (fun m => (leave cnGap m, [fcCsfWdg])) rfl (by decide) moves
    obtain ⟨st, -, paired, -⟩ := leave_valid cnGap valid
    exact ⟨_, exec_csfWdg_due (connOf_ridge runs) now csf valid late, by rw [conn, st], by rw [conn, paired], fault, others, tick⟩
  · obtain ⟨conn, fault, others, tick⟩ := bothConns_moves runs fresh
      (fun m => ({ leeCount m with st := cnExpired, paired := 0 }, [fcConnLeeExpired])) rfl (by decide) moves
    exact ⟨_, exec_connLeeExpired_due (connOf_ridge runs) now takes gone counts used, by rw [conn], by rw [conn], fault, others, tick⟩
  · have phase := cttPhase_lone (q := phase3Of s) valid held later good late
    obtain ⟨conn, fault, -, -⟩ := bothConns_moves runs fresh (cttPhase (evalCfg s) (phase3Of s) k []) (congrArg Prod.snd phase) (by decide) moves
    obtain ⟨st, counts, paired, lee⟩ := leave_valid cnSingle (loneTaken_st (phase3Of s) x valid)
    obtain ⟨rest, stamp, payload⟩ := leave_data cnSingle (outcomeData (loneCounted (phase3Of s) s.ridge.conn[k]) (.single x))
    rw [congrArg Prod.fst phase] at conn
    exact ⟨_, exec_pairingWindowExpiry_due now ctt, by rw [conn, st], by rw [conn, rest]; rfl, by rw [conn, stamp]; rfl,
      by rw [conn, payload]; rfl, by rw [conn, paired], by rw [conn, counts], by rw [conn, lee (loneTaken_leeRun _ x stands)], fault⟩

end Sys2Proof.Proofs
end

section
/-! PROOF. What a member of the cascade sends, and the member that it misses (R219 to R222). -/

namespace Sys2Proof.Proofs

open Sys2Proof Sys2Proof.Machine Sys2Proof.Safety Sys2Proof.Laws

/-! ## Messages handed to a port -/

theorem sendOn_frame (p : NetPort) (m : List Byte) (s : State) :
    { sendOn p m s with portA := s.portA, portB := s.portB } = s := by
  unfold sendOn
  split
  · exact setPort_frame ..
  · rfl

/-- A message for port A leaves the other port. -/
theorem sendOn_a (m : List Byte) (s : State) : ∃ x, sendOn .a m s = { s with portA := x } := by
  unfold sendOn
  split <;> exact ⟨_, rfl⟩

theorem sendOn_sent {p : NetPort} {s : State} (m : List Byte) (can : canSend p s = true) :
    (portOf p (sendOn p m s)).sent = (portOf p s).sent ++ [m] := by
  rw [sendOn, if_pos can, portOf_setPort]

/-! ## Cascade telegrams -/

section telegram
variable (typ id : Nat) (seq : W32) (payload : List Byte) (s : State)

/-- The frame of a cascade telegram, as the channel of a port builds it (R210, R219). -/
def casFrame (p : NetPort) (c : Chan) : List Byte :=
  ethFrame p (lookN s.active.image .casDst 0 0 0) (lookN s.active.image .netEtCtt 0 0 0x88B5)
    (cttBytes typ (flagsNow c s) id seq.toNat (syncAt s s.tick.boundary) payload) s

/-- The state with the copy of network A handed over. -/
def casSentA : State := if s.ridge.frozen then s else sendOn .a (casFrame typ id seq payload s .a s.ridge) s

theorem casSend_eq : casSend typ id seq payload s =
    if s.thatch.frozen then casSentA typ id seq payload s
    else sendOn .b (casFrame typ id seq payload s .b s.thatch) (casSentA typ id seq payload s) := rfl

theorem casSentA_portA : ∃ x, casSentA typ id seq payload s = { s with portA := x } := by
  unfold casSentA
  split
  · exact ⟨s.portA, rfl⟩
  · exact sendOn_a _ s

/-- A telegram is a matter of the ports. -/
theorem casSend_frame : { casSend typ id seq payload s with portA := s.portA, portB := s.portB } = s := by
  obtain ⟨x, portA⟩ := casSentA_portA typ id seq payload s
  rw [casSend_eq, portA]
  split
  · rfl
  · have beside := sendOn_frame .b (casFrame typ id seq payload s .b s.thatch) { s with portA := x }
    exact (congrArg (fun u : State => { u with portA := s.portA }) beside :)

variable {s}

theorem casSend_sentA (can : canSend .a s = true) (runs : s.ridge.frozen = false) :
    (casSend typ id seq payload s).portA.sent = s.portA.sent ++ [casFrame typ id seq payload s .a s.ridge] := by
  have first : (casSentA typ id seq payload s).portA.sent = s.portA.sent ++ [casFrame typ id seq payload s .a s.ridge] := by
    rw [casSentA, runs, if_neg Bool.false_ne_true]
    exact sendOn_sent (p := .a) _ can
  rw [casSend_eq]
  split
  · exact first
  · refine (congrArg PortSt.sent ?_).trans first
    unfold sendOn
    split <;> rfl

theorem casSend_sentB (can : canSend .b s = true) (runs : s.thatch.frozen = false) :
    (casSend typ id seq payload s).portB.sent = s.portB.sent ++ [casFrame typ id seq payload s .b s.thatch] := by
  obtain ⟨x, portA⟩ := casSentA_portA typ id seq payload s
  rw [casSend_eq, runs, if_neg Bool.false_ne_true, portA]
  exact sendOn_sent (p := .b) (s := { s with portA := x }) _ can

end telegram

/-! ## Heartbeats and agreements -/

section send
variable {s : State}

/-- The heartbeat of a member as a telegram on both networks (Table 9.6). -/
def heartbeatSent (s : State) : State :=
  casSend 2 (lookN s.active.image .casId 0 0 0 * 256 + casSelf s.active.image) s.cas.hbSeq (hbPayload s) s

/-- Its agreement. -/
def agreementSent (s : State) : State :=
  casSend 3 (lookN s.active.image .casId 0 0 0 * 256 + 128 + casSelf s.active.image) s.cas.agreeSeq (agreePayload s) s

theorem exec_casHbSend_due (sends : casSends s = true) (late : s.cas.hbSent.toNat + casCycle s.active.image ≤ s.tb.count.toNat) :
    exec .casHbSend s = .next { heartbeatSent s with cas := { (heartbeatSent s).cas with
      hbSeq := (heartbeatSent s).cas.hbSeq + 1, hbSent := (heartbeatSent s).tb.count } } := by
  change execCasHbSend s = _
  rw [execCasHbSend, if_pos (by simp [sends, due, late])]
  rfl

theorem exec_casHbSend_idle (idle : casSends s = false ∨ s.tb.count.toNat < s.cas.hbSent.toNat + casCycle s.active.image) :
    exec .casHbSend s = .next s := by
  change execCasHbSend s = _
  rcases idle with still | early
  · simp [execCasHbSend, still]
  · simp [execCasHbSend, due, Nat.not_le.2 early]

theorem exec_casAgreeSend_due (sends : casSends s = true) (late : s.cas.agreeSent.toNat + 10000000 ≤ s.tb.count.toNat) :
    exec .casAgreeSend s = .next { agreementSent s with cas := { (agreementSent s).cas with
      agreeSeq := (agreementSent s).cas.agreeSeq + 1, agreeSent := (agreementSent s).tb.count, round := (agreementSent s).cas.round + 1
      selfRounds := if casRoundGood s then (agreementSent s).cas.selfRounds + 1 else 0 } } := by
  change execCasAgreeSend s = _
  rw [execCasAgreeSend, if_pos (by simp [sends, due, tMs, late])]
  rfl

theorem exec_casAgreeSend_idle (idle : casSends s = false ∨ s.tb.count.toNat < s.cas.agreeSent.toNat + 10000000) :
    exec .casAgreeSend s = .next s := by
  change execCasAgreeSend s = _
  rcases idle with still | early
  · simp [execCasAgreeSend, still]
  · simp [execCasAgreeSend, due, tMs, Nat.not_le.2 early]

end send

/-! ## A member that is absent -/

/-- What the presence of a member is judged by, and whether the fault table moves: time, configuration, both channels, mode and reset. -/
def memberView (s : State) : (Timebase × Active) × (Chan × Chan) × (Mode × Bool) :=
  ((s.tb, s.active), (s.ridge, s.thatch), (s.mode, s.resetHeld))

theorem casPresent_congr {s t : State} (same : memberView t = memberView s) (m : Nat) : casPresent t m = casPresent s m := by
  simp only [memberView, Prod.mk.injEq] at same
  obtain ⟨⟨tb, active⟩, ⟨ridge, thatch⟩, -, -⟩ := same
  simp only [casPresent, mem, viewLane, chanOf, presentIn, within, tb, active, ridge, thatch]

/-- A state that sees the members as `s` does and holds CAS_MEMBER_ABSENT of member `m`. -/
def AbsentAs (s : State) (m : Nat) (t : State) : Prop := memberView t = memberView s ∧ hasFault t fcCasMemberAbsent m = true

section absent
variable {s t : State} {m : Nat} (absent : AbsentAs s m t)
include absent

theorem AbsentAs.raise (code : BitVec 16) (n : Nat) : AbsentAs s m (raise code n t) := by
  obtain ⟨view, fault⟩ := absent
  refine ⟨(by simp [memberView] : _ = memberView t).trans view, ?_⟩
  rw [hasFault_raise _ _ _ _ _ (by decide), fault, Bool.true_or]

theorem AbsentAs.clearFault {code : BitVec 16} {n : Nat} (other : code ≠ fcCasMemberAbsent ∨ n ≠ m) :
    AbsentAs s m (clearFault code n t) := by
  obtain ⟨view, fault⟩ := absent
  refine ⟨(by simp [memberView] : _ = memberView t).trans view, ?_⟩
  have apart : (code == fcCasMemberAbsent && n == m) = false := by
    rcases other with other | other
    · rw [beq_eq_false_iff_ne.2 other, Bool.false_and]
    · rw [beq_eq_false_iff_ne.2 other, Bool.and_false]
  rw [hasFault_clearFault _ _ _ _ _ (by decide), fault, apart, Bool.not_false, Bool.or_true, Bool.and_true]

theorem AbsentAs.setFault {code : BitVec 16} (b : Bool) (n : Nat) (other : code ≠ fcCasMemberAbsent) :
    AbsentAs s m (setFault b code n t) := by
  unfold Machine.setFault
  split
  · exact absent.raise ..
  · exact absent.clearFault (.inl other)

theorem AbsentAs.logEvent (code : BitVec 16) (l : List Byte) : AbsentAs s m (logEvent code l t) := by
  obtain ⟨view, fault⟩ := absent
  exact ⟨(by simp [memberView] : _ = memberView t).trans view, (hasFault_congr (by simp) (by simp) _ _).trans fault⟩

omit absent in
/-- Once presence has been judged, the other faults of member `k` leave it. -/
theorem AbsentAs.judged {k : Nat} (listed : casOther t.active.image k = true)
    (first : AbsentAs s m (Machine.setFault (!presentIn t (mem t k)) fcCasMemberAbsent k t)) : AbsentAs s m (casFaults k t) := by
  have agree {u : State} (x : Member) (run : Nat) {code : BitVec 16} (other : code ≠ fcCasMemberAbsent) (h : AbsentAs s m u) :
      AbsentAs s m (agreeFault x run code k u) := by
    unfold agreeFault
    split
    · exact h.setFault _ _ other
    · exact h
  rw [Machine.casFaults, if_neg (by simp [listed])]
  refine AbsentAs.setFault (agree _ _ (by decide) (agree _ _ (by decide) (agree _ _ (by decide) ?_))) _ _ (by decide)
  split
  · exact first.setFault _ _ (by decide)
  · exact first

/-- Where `m` is not present, the faults of member `k`, `m` itself or another, leave it. -/
theorem AbsentAs.casFaults (away : casPresent s m = false) {k : Nat} (small : k < 8) : AbsentAs s m (casFaults k t) := by
  cases listed : casOther t.active.image k with
  | false => rwa [Machine.casFaults, if_pos (by simp [listed])]
  | true =>
    refine AbsentAs.judged listed ?_
    unfold Machine.setFault
    split
    · exact absent.raise ..
    · next present =>
      refine absent.clearFault (.inr fun same => present ?_)
      have here : presentIn t (mem t k) = casPresent t m := by rw [← same, Nat.mod_eq_of_lt (by omega)]; rfl
      rw [here, casPresent_congr absent.1, away]
      rfl

/-- So does a change of the leader. -/
theorem AbsentAs.casLead (k : Fin 8) : AbsentAs s m (casLead k t) := by
  have time {u : State} (h : AbsentAs s m u) : AbsentAs s m (timeFaults u) := by
    unfold timeFaults
    split
    · exact h.clearFault (.inl (by decide))
    · split
      · exact h.raise ..
      · split
        · exact h.clearFault (.inl (by decide))
        · exact h
  have told : AbsentAs s m (Machine.logEvent 0xE00C (be 1 (leaderNo t) ++ be 1 k.val) { t with cas := { t.cas with leader := some k } }) :=
    AbsentAs.logEvent (t := { t with cas := { t.cas with leader := some k } }) absent _ _
  have servo {u : State} (x : Ptp) (h : AbsentAs s m u) : AbsentAs s m { u with ptp := x } := h
  unfold Machine.casLead
  split
  · exact absent
  · dsimp only
    split
    · exact time ((servo _ told).clearFault (.inl (by decide)))
    · exact servo _ told

/-- The cascade's own work in a phase 3 leaves it. -/
theorem AbsentAs.casStep (away : casPresent s m = false) : AbsentAs s m (casStep t) := by
  have members : AbsentAs s m ((List.range 8).foldl (fun u k => Machine.casFaults k u) t) :=
    List.foldlRecOn _ _ absent fun u h k small => h.casFaults away (List.mem_range.1 small)
  have block {u : State} (h : AbsentAs s m u) : AbsentAs s m (casBlock u) := by
    unfold casBlock
    split
    · exact h
    · exact h
  unfold Machine.casStep
  split
  · exact absent
  · refine block ?_
    unfold casElect
    split
    · exact members.casLead _
    · exact members

end absent

/-- A listed member that is not present is reported (R220). -/
theorem exec_casMemberAbsent_away {s : State} {m : Fin 8} (sends : casSends s = true) (listed : casOther s.active.image m = true)
    (away : casPresent s m = false) (moves : tableStill s = false) :
    ∃ t, exec (.casMemberAbsent m) s = .next t ∧ AbsentAs s m t := by
  have raised : AbsentAs s m (raise fcCasMemberAbsent m s) := ⟨by simp [memberView], hasFault_raise_at (by decide) moves (by omega)⟩
  have notHere : (!presentIn s (mem s m)) = true := by
    rw [show presentIn s (mem s m) = casPresent s m from rfl, away]
    rfl
  refine ⟨casStep (casFaults m s), ?_, AbsentAs.casStep (AbsentAs.judged listed ?_) away⟩
  · change execCasMemberAbsent m s = _
    simp [execCasMemberAbsent, sends, listed, away]
  · rw [setFault, notHere, if_pos rfl]
    exact raised

theorem exec_casMemberAbsent_present {s : State} {m : Fin 8} (present : casPresent s m = true) :
    exec (.casMemberAbsent m) s = .next s := by
  change execCasMemberAbsent m s = _
  simp [execCasMemberAbsent, present]

/-! ## The statement -/

/-- Settles O53: each telegram as its frames on both ports beside its own counts, and the absent member through the work that follows. -/
theorem cascadeTelegrams : Obligations.CascadeTelegrams := by
  unfold Obligations.CascadeTelegrams
  refine ⟨fun s sends late => ?_, fun s sends late => ?_, fun s idle => exec_casHbSend_idle idle, fun s idle => exec_casAgreeSend_idle idle,
    fun s m sends listed away moves _ => ?_, fun s m present => exec_casMemberAbsent_present present⟩
  · have frame : { heartbeatSent s with portA := s.portA, portB := s.portB } = s := casSend_frame ..
    have cas : (heartbeatSent s).cas = s.cas := (congrArg State.cas frame :)
    have tb : (heartbeatSent s).tb = s.tb := (congrArg State.tb frame :)
    refine ⟨_, exec_casHbSend_due sends late, by simp only [cas], by simp only [tb], by simp only [cas], fun can runs => ?_,
      fun can runs => ?_, (congrArg (fun u : State => { u with cas := s.cas }) frame :)⟩
    · exact casSend_sentA _ _ _ _ can runs
    · exact casSend_sentB _ _ _ _ can runs
  · have frame : { agreementSent s with portA := s.portA, portB := s.portB } = s := casSend_frame ..
    have cas : (agreementSent s).cas = s.cas := (congrArg State.cas frame :)
    have tb : (agreementSent s).tb = s.tb := (congrArg State.tb frame :)
    exact ⟨_, exec_casAgreeSend_due sends late, by simp only [cas], by simp only [tb], by simp only [cas], by simp only [cas],
      by simp only [cas], (congrArg (fun u : State => { u with cas := s.cas }) frame :)⟩
  · obtain ⟨t, reported, view, fault⟩ := exec_casMemberAbsent_away sends listed away moves
    simp only [memberView, Prod.mk.injEq] at view
    obtain ⟨-, ⟨ridge, thatch⟩, mode, -⟩ := view
    exact ⟨t, reported, fault, by rw [ridge], by rw [thatch], mode⟩

end Sys2Proof.Proofs
end

section
/-! PROOF. PTP messages and what a server of network time sends (R204, R205; log entry 108). -/

namespace Sys2Proof.Proofs

open Sys2Proof Sys2Proof.Machine Sys2Proof.Safety Sys2Proof.Laws

/-! ## Messages -/

@[simp] theorem ptpTime_length (t : W64) : (ptpTime t).length = 10 := by simp [ptpTime]

section header
variable (typ len flags : Nat) (seq : BitVec 16) (interval : Int) (s : State)

@[simp] theorem ptpHeader_length : (ptpHeader typ len flags seq interval s).length = 34 := by simp [ptpHeader]

/-- The sequence number stands at byte 30 of a message. -/
theorem ptpHeader_seq (body : List Byte) : beAt (ptpHeader typ len flags seq interval s ++ body) 30 2 = seq.toNat := by
  have fits : seq.toNat % 256 ^ 2 = seq.toNat := Nat.mod_eq_of_lt seq.isLt
  refine (beAt_of (pre := be 1 typ ++ be 1 2 ++ be 2 len ++ be 1 (lookN s.active.image .ptpDomain 0 0 0) ++ be 1 0 ++ be 2 flags
    ++ be 8 0 ++ be 4 0 ++ be 8 (clockId (ptpPortNow s) s).toNat ++ be 2 1)
    (post := be 1 0 ++ be 1 (BitVec.ofInt 8 interval).toNat ++ body) ?_ (by simp)).trans fits
  simp only [ptpHeader, List.append_assoc]

/-- What follows the header of a message. -/
theorem ptpHeader_drop (body : List Byte) : (ptpHeader typ len flags seq interval s ++ body).drop 34 = body := by
  rw [List.drop_left' (ptpHeader_length ..)]

end header

/-- A message that is sent leaves what later ones are built from. -/
theorem ptpFrame_sendOn (p q : NetPort) (event : Bool) (m x : List Byte) (s : State) :
    ptpFrame p event m (sendOn q x s) = ptpFrame p event m s := by
  unfold sendOn
  split
  · cases q <;> rfl
  · rfl

theorem canSend_sendOn (p q : NetPort) (m : List Byte) (s : State) : canSend p (sendOn q m s) = canSend p s := by
  unfold sendOn
  split
  · cases p <;> cases q <;> rfl
  · rfl

/-- A port, whatever becomes of the servo. -/
theorem portOf_ptp (p : NetPort) (x : Ptp) (s : State) : portOf p { s with ptp := x } = portOf p s := by cases p <;> rfl

/-! ## A server -/

/-- The Sync message of a server. -/
def syncMsg (s : State) : List Byte :=
  ptpHeader 0 44 0x0200 s.ptp.syncSeq (look s.active.image .ptpLogSync 0 0 (-5)) s ++ List.replicate 10 0

/-- Its Follow_Up message, with the time of the Sync. -/
def followUpMsg (s : State) : List Byte :=
  ptpHeader 8 44 0 s.ptp.syncSeq (look s.active.image .ptpLogSync 0 0 (-5)) s ++ ptpTime (syncAt s s.tb.count)

/-- Its Announce message. -/
def announceMsg (s : State) : List Byte :=
  ptpHeader 11 64 0 s.ptp.annSeq 0 s ++ ptpTime (syncAt s s.tb.count) ++ be 2 0 ++ be 1 0 ++ be 1 128 ++ be 1 248
    ++ be 1 0xFE ++ be 2 0xFFFF ++ be 1 128 ++ be 8 (clockId (ptpPortNow s) s).toNat ++ be 2 0 ++ be 1 0xA0

/-- Its answer to a delay request. -/
def delayRespMsg (q : W64) (t4 : Int) (seq : BitVec 16) (s : State) : List Byte :=
  ptpHeader 9 54 0 seq 0x7F s ++ ptpTime (BitVec.ofInt 64 (divW 64 t4 10)) ++ be 8 q.toNat ++ be 2 1

/-- The state with a Sync and its Follow_Up sent. -/
def syncSent (s : State) : State :=
  ptpSend (ptpPortNow s) false (followUpMsg s) (ptpSend (ptpPortNow s) true (syncMsg s) s)

/-- The state with an Announce sent. -/
def announceSent (s : State) : State := ptpSend (ptpPortNow s) false (announceMsg s) s

section server
variable {s : State}

theorem syncSent_frame (s : State) : { syncSent s with portA := s.portA, portB := s.portB } = s := by
  have first := sendOn_frame (ptpPortNow s) (ptpFrame (ptpPortNow s) true (syncMsg s) s) s
  have second := sendOn_frame (ptpPortNow s) (ptpFrame (ptpPortNow s) false (followUpMsg s) (ptpSend (ptpPortNow s) true (syncMsg s) s))
    (ptpSend (ptpPortNow s) true (syncMsg s) s)
  exact ((congrArg (fun u : State => { u with portA := s.portA, portB := s.portB }) second :).trans first)

theorem syncSent_sent (can : canSend (ptpPortNow s) s = true) : (portOf (ptpPortNow s) (syncSent s)).sent =
    (portOf (ptpPortNow s) s).sent ++ [ptpFrame (ptpPortNow s) true (syncMsg s) s, ptpFrame (ptpPortNow s) false (followUpMsg s) s] := by
  rw [syncSent, ptpSend, ptpSend, sendOn_sent _ (by rw [canSend_sendOn]; exact can), sendOn_sent _ can, ptpFrame_sendOn,
    List.append_assoc]
  rfl

theorem exec_ptpSyncSend_due (server : serves1588 s = true) (on : ptpOn (ptpPortNow s) s = true) (can : canSend (ptpPortNow s) s = true)
    (late : s.ptp.syncSent.toNat + syncInterval s.active.image ≤ s.tb.count.toNat) : exec .ptpSyncSend s = .next
      { syncSent s with ptp := { (syncSent s).ptp with
        syncSeq := (syncSent s).ptp.syncSeq + 1, syncSent := (syncSent s).tb.count } } := by
  change execPtpSyncSend s = _
  rw [execPtpSyncSend, if_pos (by simp [server, on, can, due, late])]
  rfl

theorem exec_ptpAnnounceSend_due (server : serves1588 s = true) (on : ptpOn (ptpPortNow s) s = true)
    (can : canSend (ptpPortNow s) s = true) (late : s.ptp.annSent.toNat + 100000000 ≤ s.tb.count.toNat) :
    exec .ptpAnnounceSend s = .next { announceSent s with ptp := { (announceSent s).ptp with
      annSeq := (announceSent s).ptp.annSeq + 1, annSent := (announceSent s).tb.count } } := by
  change execPtpAnnounceSend s = _
  rw [execPtpAnnounceSend, if_pos (by simp [server, on, can, due, tSec, late])]
  rfl

theorem exec_delayRequest_answered {p : NetPort} (q : W64) (t3 t4 : Int) (seq : BitVec 16) (server : serves1588 s = true)
    (on : ptpOn p s = true) (hears : canReceive p s = true) :
    exec (.delayRequestReceive p true q t3 t4 seq) s = .next (ptpSend p false (delayRespMsg q t4 seq s) s) := by
  change execDelayRequestReceive p true q t3 t4 s seq = _
  simp [execDelayRequestReceive, server, on, hears, delayRespMsg]

end server

/-- The requester and the sequence number of an answer to a delay request. -/
theorem delayRespMsg_fields (q : W64) (t4 : Int) (seq : BitVec 16) (s : State) :
    (delayRespMsg q t4 seq s).length = 54 ∧ beAt (delayRespMsg q t4 seq s) 44 8 = q.toNat ∧
      beAt (delayRespMsg q t4 seq s) 30 2 = seq.toNat := by
  have fits : q.toNat % 256 ^ 8 = q.toNat := Nat.mod_eq_of_lt q.isLt
  refine ⟨by simp [delayRespMsg], (beAt_of (post := be 2 1) rfl (by simp)).trans fits, ?_⟩
  simp only [delayRespMsg, List.append_assoc]
  exact ptpHeader_seq ..

end Sys2Proof.Proofs
end

section
/-! PROOF. A follower of network time: its master, its servo, and the statement (R204, R205; log entries 17, 76, 173, 195). -/

namespace Sys2Proof.Proofs

open Sys2Proof Sys2Proof.Machine Sys2Proof.Safety Sys2Proof.Laws

/-! ## A master that has fallen silent -/

/-- Dropping a silent master is a matter of the best master alone. -/
theorem dropSilent_best (s : State) : ∃ b, dropSilent s = { s with ptp := { s.ptp with best := b } } := by
  unfold dropSilent
  split <;> exact ⟨_, rfl⟩

theorem dropSilent_heard {s : State} (heard : s.tb.count.toNat < s.ptp.annHeard.toNat + 300000000) : dropSilent s = s := by
  simp [dropSilent, due, tSec, Nat.not_le.2 heard]

theorem dropSilent_silent {s : State} (silent : s.ptp.annHeard.toNat + 300000000 ≤ s.tb.count.toNat) :
    dropSilent s = { s with ptp := { s.ptp with best := none } } := by
  unfold dropSilent
  split
  · rfl
  · next kept =>
    have none : s.ptp.best = none := by simpa [due, tSec, silent] using kept
    rw [← none]

theorem dropSilent_none {s : State} (none : s.ptp.best = none) : dropSilent s = s := by simp [dropSilent, none]

/-- A follower is none that serves, and its role is not NONE. -/
theorem follows_role {s : State} (follows : follows1588 s = true) : serves1588 s = false ∧ ptpRoleOf s.active.image ≠ 0 := by
  simp only [follows1588, Bool.or_eq_true, beq_iff_eq, Bool.and_eq_true, Bool.not_eq_true'] at follows
  rcases follows with role | ⟨role, leader⟩
  · simp [serves1588, role]
  · simp [serves1588, role, leader]

/-! ## A Sync of the master -/

/-- The offset that a Sync measures. -/
def measured (t1 t2 : Int) (s : State) : Int := t2 - t1 - s.ptp.delay

/-- The servo with a Sync taken, TIME_WARN and TIME_STALE judged by it. -/
def servoTaken (t1 t2 : Int) (s : State) : State :=
  timeFaults (warnFault s.ptp.state (measured t1 t2 s) { s with ptp := servoStep (measured t1 t2 s) t1 t2 s })

/-- The state with a Sync taken: the servo, the RTC, and the delay request that follows. -/
def syncTaken (p : NetPort) (t1 t2 : Int) (s : State) : State := ptpSend p true (delayReq s) (rtcSet (servoTaken t1 t2 s))

theorem exec_ptpSyncReceive_master {s : State} {p : NetPort} {m : W64} (t1 t2 : Int) (follows : follows1588 s = true)
    (on : ptpOn p s = true) (hears : canReceive p s = true) (master : masterNow (dropSilent s) = some m) :
    exec (.ptpSyncReceive p m t1 t2) s = .next { syncTaken p t1 t2 (dropSilent s) with
      ptp := { (syncTaken p t1 t2 (dropSilent s)).ptp with delaySeq := (syncTaken p t1 t2 (dropSilent s)).ptp.delaySeq + 1 } } := by
  have takes : (follows1588 (dropSilent s) && ptpOn p (dropSilent s) && canReceive p (dropSilent s) && masterNow (dropSilent s) == some m) =
      true := by
    obtain ⟨b, drop⟩ := dropSilent_best s
    rw [master, beq_self_eq_true, Bool.and_true, drop, Bool.and_eq_true, Bool.and_eq_true]
    exact ⟨⟨follows, on⟩, hears⟩
  change execPtpSyncReceive p m t1 t2 s = _
  simp only [execPtpSyncReceive, takes, Bool.not_true, Bool.false_eq_true, if_false]
  rfl

theorem exec_ptpSyncReceive_other {s : State} {m : W64} (p : NetPort) (t1 t2 : Int) (other : masterNow (dropSilent s) ≠ some m) :
    exec (.ptpSyncReceive p m t1 t2) s = .next (dropSilent s) := by
  change execPtpSyncReceive p m t1 t2 s = _
  simp [execPtpSyncReceive, other]

/-- The time and the servo as they stand, the mode, the configuration and the reset level. -/
def timeView (s : State) : (Ptp × Timebase) × (Mode × Active × Bool) := ((s.ptp, s.tb), (s.mode, s.active, s.resetHeld))

@[simp] theorem timeView_raise (code : BitVec 16) (n : Nat) (s : State) : timeView (raise code n s) = timeView s := by simp [timeView]

@[simp] theorem timeView_clearFault (code : BitVec 16) (n : Nat) (s : State) : timeView (clearFault code n s) = timeView s := by
  simp [timeView]

@[simp] theorem timeView_timeFaults (s : State) : timeView (timeFaults s) = timeView s := by
  unfold timeFaults
  (repeat' split) <;> simp

@[simp] theorem timeView_warnFault (was : BitVec 2) (o : Int) (s : State) : timeView (warnFault was o s) = timeView s := by
  unfold warnFault
  (repeat' split) <;> simp

@[simp] theorem timeView_sendOn (p : NetPort) (m : List Byte) (s : State) : timeView (sendOn p m s) = timeView s :=
  (congrArg timeView (sendOn_frame p m s) :)

theorem timeView_bk (b : Backup) (s : State) : timeView { s with bk := b } = timeView s := rfl

/-- The RTC is set beside the timebase and the servo (R322). -/
@[simp] theorem timeView_rtcSet (s : State) : timeView (rtcSet s) = timeView s := by
  unfold rtcSet
  split
  · rfl
  · dsimp only
    split
    · rw [timeView_clearFault, timeView_bk]
    · rfl

theorem timeView_servoTaken (t1 t2 : Int) (s : State) :
    timeView (servoTaken t1 t2 s) = timeView { s with ptp := servoStep (measured t1 t2 s) t1 t2 s } := by
  simp [servoTaken]

theorem timeView_syncTaken (p : NetPort) (t1 t2 : Int) (s : State) :
    timeView (syncTaken p t1 t2 s) = timeView { s with ptp := servoStep (measured t1 t2 s) t1 t2 s } := by
  rw [syncTaken, ptpSend, timeView_sendOn, timeView_rtcSet, timeView_servoTaken]

/-- The servo after a Sync of the master: state, offset, the time moved by a tenth of it, and the count of delay requests (R205). -/
theorem syncTaken_servo (p : NetPort) (t1 t2 : Int) (s : State) :
    (syncTaken p t1 t2 (dropSilent s)).ptp.state = servoState s.ptp.state
      (if decide ((measured t1 t2 s).natAbs ≤ 5000) then s.ptp.good + 1 else 0) (measured t1 t2 s) ∧
    (syncTaken p t1 t2 (dropSilent s)).ptp.offset = measured t1 t2 s ∧
    (syncTaken p t1 t2 (dropSilent s)).ptp.const =
      syncAt s s.tb.count - s.tb.count - BitVec.ofInt 64 (divW 64 (measured t1 t2 s) 10) ∧
    (syncTaken p t1 t2 (dropSilent s)).ptp.lastSync = s.tb.count ∧
    (syncTaken p t1 t2 (dropSilent s)).ptp.delaySeq = s.ptp.delaySeq ∧
    (syncTaken p t1 t2 (dropSilent s)).tb = s.tb ∧ (syncTaken p t1 t2 (dropSilent s)).mode = s.mode := by
  have view := timeView_syncTaken p t1 t2 (dropSilent s)
  simp only [timeView, Prod.mk.injEq] at view
  obtain ⟨⟨ptp, tb⟩, mode, -⟩ := view
  obtain ⟨b, drop⟩ := dropSilent_best s
  rw [ptp, tb, mode, drop]
  exact ⟨rfl, rfl, rfl, rfl, rfl, rfl, rfl⟩

/-- Eight offsets within 5 µs in a row lock the servo (R205). -/
theorem servoState_locks {o : Int} {good : Nat} (st : BitVec 2) (small : o.natAbs ≤ 5000) (run : 8 ≤ good) : servoState st good o = 2 := by
  rw [servoState, if_neg (by omega), if_pos run]

/-- An offset above 50 µs unlocks it, but for one that still acquires (log entry 76). -/
theorem servoState_far {o : Int} {st : BitVec 2} (good : Nat) (far : 50000 < o.natAbs) (locked : st ≠ 1) : servoState st good o = 0 := by
  rw [servoState, if_pos far, if_neg locked]

/-- An unlocked servo leaves the RTC as it is (R322). -/
theorem rtcSet_unlocked {s : State} (unlocked : s.ptp.state = 0) : rtcSet s = s := by
  unfold rtcSet
  split
  · rfl
  · exact if_neg (by simp [unlocked])

/-- A follower that is unlocked holds TIME_STALE (R205). -/
theorem hasFault_timeFaults {s : State} (unlocked : s.ptp.state = 0) (role : ptpRoleOf s.active.image ≠ 0) (moves : tableStill s = false) :
    hasFault (timeFaults s) fcTimeStale 0 = true := by
  rw [timeFaults, if_neg role, if_pos unlocked]
  exact hasFault_raise_self _ _ (by decide) moves

theorem sendOn_hasFault (p : NetPort) (m : List Byte) (s : State) (c : BitVec 16) (o : Nat) : hasFault (sendOn p m s) c o = hasFault s c o :=
  hasFault_congr (congrArg State.faults (sendOn_frame p m s) :) (congrArg State.unlisted (sendOn_frame p m s) :) c o

/-- A Sync that unlocks the servo of a follower raises TIME_STALE. -/
theorem hasFault_syncTaken {s : State} {p : NetPort} {t1 t2 : Int} (unlocked : (syncTaken p t1 t2 s).ptp.state = 0)
    (role : ptpRoleOf s.active.image ≠ 0) (moves : tableStill s = false) : hasFault (syncTaken p t1 t2 s) fcTimeStale 0 = true := by
  have sent := timeView_syncTaken p t1 t2 s
  have taken := timeView_servoTaken t1 t2 s
  have warned := timeView_warnFault s.ptp.state (measured t1 t2 s) { s with ptp := servoStep (measured t1 t2 s) t1 t2 s }
  simp only [timeView, Prod.mk.injEq] at sent taken warned
  obtain ⟨⟨sent, -⟩, -⟩ := sent
  obtain ⟨⟨taken, -⟩, -⟩ := taken
  obtain ⟨⟨ptp, -⟩, mode, active, reset⟩ := warned
  rw [sent] at unlocked
  rw [syncTaken, ptpSend, sendOn_hasFault, rtcSet_unlocked (by rw [taken]; exact unlocked)]
  exact hasFault_timeFaults (by rw [ptp]; exact unlocked) (by rw [active]; exact role) (by rw [tableStill, mode, reset]; exact moves)

/-! ## Without a Sync -/

/-- A follower that misses its Sync: the servo runs on, and PTP moves once from PTP.PORT to the other port (R204). -/
def syncMissed (s : State) : State :=
  let t : State := { s with ptp := { rebase s with good := 0 } }
  if onPtpPort t then logEvent 0xE00B (be 1 (if t.ptp.onB then 0 else 1)) { t with ptp := { t.ptp with onB := !t.ptp.onB } } else t

theorem syncMissed_moves (s : State) : (syncMissed s).ptp.state = s.ptp.state ∧
    (syncMissed s).ptp.onB = (if onPtpPort s then !s.ptp.onB else s.ptp.onB) ∧ (syncMissed s).tb = s.tb := by
  unfold syncMissed
  dsimp only
  rw [show onPtpPort { s with ptp := { rebase s with good := 0 } } = onPtpPort s from rfl]
  split <;> simp [rebase]

theorem exec_ptpSyncTimeout_locked {s : State} (follows : follows1588 s = true) (on : ptpOn (ptpPortNow s) s = true) (awake : s.mode ≠ .lull)
    (late : s.ptp.lastSync.toNat + 4 * syncInterval s.active.image ≤ s.tb.count.toNat) (locked : s.ptp.state = 2) :
    exec .ptpSyncTimeout s = .next (ptpHoldover (syncMissed (dropSilent s))) := by
  obtain ⟨b, drop⟩ := dropSilent_best s
  have missed : (follows1588 (dropSilent s) && ptpOn (ptpPortNow (dropSilent s)) (dropSilent s) && (dropSilent s).mode != .lull &&
      due (dropSilent s) ((dropSilent s).ptp.lastSync.toNat + 4 * syncInterval (dropSilent s).active.image)) = true := by
    rw [drop]
    simp only [Bool.and_eq_true]
    exact ⟨⟨⟨follows, on⟩, bne_iff_ne.2 awake⟩, decide_eq_true late⟩
  have state : (syncMissed (dropSilent s)).ptp.state = 2 := by rw [(syncMissed_moves _).1, drop]; exact locked
  change execPtpSyncTimeout s = _
  rw [execPtpSyncTimeout, if_pos missed]
  change Host.Outcome.next (if ((syncMissed (dropSilent s)).ptp.state = 1 || (syncMissed (dropSilent s)).ptp.state = 2) = true
    then ptpHoldover (syncMissed (dropSilent s)) else syncMissed (dropSilent s)) = _
  rw [if_pos (by simp [state])]

theorem exec_holdoverExpiry_due {s : State} (holdover : s.ptp.state = 3) (awake : s.mode ≠ .lull)
    (late : s.ptp.holdAt.toNat + 4 * syncInterval s.active.image ≤ s.tb.count.toNat) :
    exec .holdoverExpiry s = .next (timeFaults { s with ptp := { s.ptp with state := 0 } }) := by
  change execHoldoverExpiry s = _
  rw [execHoldoverExpiry, if_pos (by simp [holdover, awake, due, late])]

theorem exec_holdoverExpiry_none {s : State} (other : s.ptp.state ≠ 3) : exec .holdoverExpiry s = .next s := by
  change execHoldoverExpiry s = _
  rw [execHoldoverExpiry, decide_eq_false other, Bool.false_and, Bool.false_and, if_neg Bool.false_ne_true]

/-! ## The path delay -/

section delay
variable {s : State} {p : NetPort} (t3 t4 : Int) {seq : BitVec 16} (follows : follows1588 s = true) (on : ptpOn p s = true)
  (hears : canReceive p s = true)
include on hears

theorem exec_delayResponse_other (other : seq + 1 ≠ s.ptp.delaySeq) :
    exec (.delayRequestReceive p false (clockId p s) t3 t4 seq) s = .next s := by
  change execDelayRequestReceive p false (clockId p s) t3 t4 s seq = _
  simp only [execDelayRequestReceive, on, hears, beq_eq_false_iff_ne.2 other, Bool.and_self, Bool.and_false, Bool.not_true,
    Bool.false_eq_true, if_false]

include follows in
theorem exec_delayResponse_own (own : seq + 1 = s.ptp.delaySeq) : exec (.delayRequestReceive p false (clockId p s) t3 t4 seq) s =
    .next { s with ptp := { s.ptp with delay := divW 64 ((s.ptp.lastT2 - s.ptp.lastT1) + (t4 - t3)) 2 } } := by
  change execDelayRequestReceive p false (clockId p s) t3 t4 s seq = _
  simp only [execDelayRequestReceive, on, hears, follows, beq_iff_eq.2 own, beq_self_eq_true, Bool.and_self, Bool.not_true,
    Bool.false_eq_true, if_false, if_true]

end delay

/-! ## Announcements -/

/-- The state with an announcement taken as that of the best master. -/
def masterTaken (a : Announce) (s : State) : State := { s with ptp := { s.ptp with best := some a, annHeard := s.tb.count } }

/-- The same for another master than before: the servo starts afresh (R204). -/
def masterChanged (a : Announce) (s : State) : State :=
  masterTaken a { s with ptp := { s.ptp with state := if s.ptp.state = 0 then 0 else 1, good := 0 } }

section announce
variable {s : State} {p : NetPort} {a b : Announce} (follows : follows1588 s = true) (on : ptpOn p s = true)
  (hears : canReceive p s = true)
include follows on hears

/-- Without a best master the first one that may be followed is taken. -/
theorem exec_announceReceive_first (none : s.ptp.best = none) (may : ptpRoleOf s.active.image = 1 ∨ masterNow s = some a.identity) :
    exec (.announceReceive p a) s = .next (masterTaken a s) := by
  change execAnnounceReceive p a s = _
  rw [execAnnounceReceive, dropSilent_none none]
  rcases may with role | master
  · simp [follows, on, hears, none, role, masterTaken]
  · simp [follows, on, hears, none, master, masterTaken]

variable (best : s.ptp.best = some b) (slave : ptpRoleOf s.active.image = 1)
include best slave

omit best in
/-- A best master that has fallen silent gives way to any other (log entry 173). -/
theorem exec_announceReceive_silent (silent : s.ptp.annHeard.toNat + 300000000 ≤ s.tb.count.toNat) :
    exec (.announceReceive p a) s = .next (masterTaken a s) := by
  have follower : (follows1588 { s with ptp := { s.ptp with best := none } } && ptpOn p { s with ptp := { s.ptp with best := none } } &&
      canReceive p { s with ptp := { s.ptp with best := none } }) = true := by
    simp only [Bool.and_eq_true]
    exact ⟨⟨follows, on⟩, hears⟩
  change execAnnounceReceive p a s = _
  rw [execAnnounceReceive, dropSilent_silent silent]
  dsimp only
  rw [if_neg (by simp [follower]), if_neg (by simp [slave])]
  rfl

/-- One that is heard gives way to a better one alone (log entry 17). -/
theorem exec_announceReceive_heard (heard : s.tb.count.toNat < s.ptp.annHeard.toNat + 300000000) (other : a.identity ≠ b.identity) :
    exec (.announceReceive p a) s = .next (if announceKey a < announceKey b then masterChanged a s else s) := by
  change execAnnounceReceive p a s = _
  rw [execAnnounceReceive, dropSilent_heard heard]
  dsimp only
  rw [if_neg (by simp [follows, on, hears]), best]
  dsimp only
  rw [if_neg other, if_neg (by simp [slave])]
  exact (apply_ite Host.Outcome.next ..).symm

end announce

/-! ## The statement -/

/-- Settles O54: the messages of a server, then a follower's Sync, its timeouts, its path delay and its master. -/
theorem networkTime : Obligations.NetworkTime := by
  unfold Obligations.NetworkTime
  refine ⟨fun s server on can late => ?_, fun s server on can late => ?_, fun s p m t1 t2 follows on hears master moves small acquires run => ?_,
    fun s p m t1 t2 follows on hears master moves far locked => ?_, fun s p m t1 t2 other => exec_ptpSyncReceive_other p t1 t2 other,
    fun s => ⟨?_, dropSilent_heard⟩, fun s follows on awake late locked => ?_, fun s holdover awake late role moves => ?_,
    fun s other => exec_holdoverExpiry_none other, fun s p q t3 t4 seq server on hears can => ?_,
    fun s p t3 t4 seq follows on hears => ⟨(follows_role follows).1, exec_delayResponse_other t3 t4 on hears,
      fun own => ⟨_, exec_delayResponse_own t3 t4 follows on hears own, rfl, rfl⟩⟩,
    fun s p a follows on hears none may => ⟨_, exec_announceReceive_first follows on hears none may, rfl, rfl, rfl, rfl⟩,
    fun s p a b follows on hears best other slave => ?_⟩
  · have frame := syncSent_frame s
    have ptp : (syncSent s).ptp = s.ptp := (congrArg State.ptp frame :)
    have tb : (syncSent s).tb = s.tb := (congrArg State.tb frame :)
    refine ⟨_, syncMsg s, followUpMsg s, exec_ptpSyncSend_due server on can late, by rw [portOf_ptp]; exact syncSent_sent can,
      by simp [syncMsg], by simp [followUpMsg], ptpHeader_seq .., ptpHeader_seq .., ptpHeader_drop .., by simp only [ptp],
      by simp only [tb], (congrArg (fun u : State => { u with ptp := s.ptp }) frame :)⟩
  · have frame : { announceSent s with portA := s.portA, portB := s.portB } = s := sendOn_frame ..
    have ptp : (announceSent s).ptp = s.ptp := (congrArg State.ptp frame :)
    have tb : (announceSent s).tb = s.tb := (congrArg State.tb frame :)
    exact ⟨_, announceMsg s, exec_ptpAnnounceSend_due server on can late, by rw [portOf_ptp]; exact sendOn_sent _ can,
      by simp [announceMsg], by simp only [ptp], by simp only [tb], (congrArg (fun u : State => { u with ptp := s.ptp }) frame :)⟩
  · obtain ⟨state, offset, const, lastSync, delaySeq, tb, mode⟩ := syncTaken_servo p t1 t2 s
    have good : 8 ≤ if decide ((measured t1 t2 s).natAbs ≤ 5000) = true then s.ptp.good + 1 else 0 :=
      (if_pos (decide_eq_true small)).symm ▸ Nat.succ_le_succ run
    exact ⟨_, exec_ptpSyncReceive_master t1 t2 follows on hears master, state.trans (servoState_locks _ small good), offset, const, lastSync,
      by rw [← delaySeq], tb, mode⟩
  · obtain ⟨state, -, -, -, -, tb, -⟩ := syncTaken_servo p t1 t2 s
    have unlocked := state.trans (servoState_far _ far (by rw [locked]; decide))
    obtain ⟨b, drop⟩ := dropSilent_best s
    exact ⟨_, exec_ptpSyncReceive_master t1 t2 follows on hears master, unlocked,
      hasFault_syncTaken unlocked (by rw [drop]; exact (follows_role follows).2) (by rw [drop]; exact moves), tb⟩
  · obtain ⟨b, drop⟩ := dropSilent_best s
    rw [drop]
  · obtain ⟨b, drop⟩ := dropSilent_best s
    obtain ⟨-, onB, tb⟩ := syncMissed_moves (dropSilent s)
    rw [drop] at onB tb
    refine ⟨_, exec_ptpSyncTimeout_locked follows on awake late locked, ?_, rfl, ?_, ?_⟩
    · rw [drop]; exact onB
    · rw [drop]; exact congrArg Timebase.count tb
    · rw [drop]; exact tb
  · have view := timeView_timeFaults { s with ptp := { s.ptp with state := 0 } }
    simp only [timeView, Prod.mk.injEq] at view
    obtain ⟨⟨ptp, tb⟩, -⟩ := view
    exact ⟨_, exec_holdoverExpiry_due holdover awake late, by rw [ptp], hasFault_timeFaults rfl role moves, tb⟩
  · obtain ⟨length, requester, own⟩ := delayRespMsg_fields q t4 seq s
    exact ⟨_, delayRespMsg q t4 seq s, exec_delayRequest_answered q t3 t4 seq server on hears, sendOn_sent _ can, length, requester, own,
      sendOn_frame ..⟩
  · rcases Nat.lt_or_ge s.tb.count.toNat (s.ptp.annHeard.toNat + 300000000) with heard | silent
    · refine ⟨_, exec_announceReceive_heard follows on hears best slave heard other, ?_⟩
      by_cases better : announceKey a < announceKey b
      · rw [if_pos better, if_pos (.inr better)]
        exact ⟨rfl, rfl⟩
      · rw [if_neg better, if_neg (by omega)]
        exact ⟨best, rfl⟩
    · refine ⟨_, exec_announceReceive_silent follows on hears slave silent, ?_, rfl⟩
      rw [if_pos (.inl silent)]
      rfl

end Sys2Proof.Proofs
end

section
/-! PROOF. A check-value unit under its owner's accesses: what an access does to the unit that it names, register by register (R232 to R234,
R238; log entries 83, 175). -/

namespace Sys2Proof.Proofs

open Sys2Proof Sys2Proof.Machine Sys2Proof.Laws

/-! ## One unit of the four -/

section unit
variable (u : Fin 4) (f g : Cvu → Cvu) (s : State)

@[simp] theorem cvuAt_cvuUpd_self : cvuAt u (cvuUpd u f s) = f (cvuAt u s) := getElem_vupd_self s.cvu u f

theorem cvuAt_cvuUpd_other {k : Fin 4} (other : k ≠ u) : cvuAt k (cvuUpd u f s) = cvuAt k s := getElem_vupd_ne s.cvu u k f other

theorem cvuUpd_frame : { cvuUpd u f s with cvu := s.cvu } = s := rfl

/-- Two changes that do the same to the unit as it stands are one change. -/
theorem cvuUpd_congr {f g : Cvu → Cvu} {s : State} (same : f (cvuAt u s) = g (cvuAt u s)) : cvuUpd u f s = cvuUpd u g s := by
  have same : f s.cvu[u.val] = g s.cvu[u.val] := same
  simp only [cvuUpd, vupd, same]

/-- Two changes of one unit one after the other. -/
theorem cvuUpd_cvuUpd : cvuUpd u g (cvuUpd u f s) = cvuUpd u (fun c => g (f c)) s := by simp [cvuUpd, vupd]

/-- Which engines run does not depend on the units. -/
@[simp] theorem cvuOn_cvuUpd (k : Fin 4) : cvuOn k (cvuUpd u f s) = cvuOn k s := rfl

end unit

/-! ## The commands of a unit whose owner runs -/

section commands
variable {u : Fin 4} {s : State} (on_ : cvuOn u s = true)
include on_

theorem exec_cvuCtrlWrite_on (v : W32) : exec (.cvuCtrlWrite u v) s = .next (cvuUpd u (writeCvuCtrl v) s) :=
  congrArg Host.Outcome.next (if_pos on_)

theorem exec_cvuParamWrite_on (reg : CvuReg) (v : W32) : exec (.cvuParamWrite u reg v) s = .next (cvuUpd u (writeCvuParam reg v) s) :=
  congrArg Host.Outcome.next (if_pos on_)

theorem exec_cvuRead_on (reg : CvuRead) : exec (.cvuValueLoRead u reg) s = .next (cvuUpd u (cvuRead reg) s) :=
  congrArg Host.Outcome.next (if_pos on_)

theorem exec_cvuValueHiWrite_on (v : W32) : exec (.cvuValueHiWrite u v) s = .next (cvuUpd u (fun c => { c with
    next := some (setHi (setLo c.value (c.heldLo.getD (word32 c.value 0))) v), heldLo := none }) s) :=
  congrArg Host.Outcome.next (if_pos on_)

theorem exec_cvuResume_on : exec (.cvuResume u) s = .next (cvuUpd u cvuResume s) := congrArg Host.Outcome.next (if_pos on_)

theorem exec_cvuAbort_on : exec (.cvuAbort u) s = .next (cvuUpd u (fun c => { c with busy := false, done := false }) s) :=
  congrArg Host.Outcome.next (if_pos on_)

end commands

/-! ## What an access does to the unit -/

/-- A length is short in CHECK alone, below the check value (R232). -/
theorem short_iff (c : Cvu) (len : Nat) : c.short len = true ↔ c.mode = 2 ∧ len < c.checkBytes := by simp [Cvu.short]

theorem short_eq_false {c : Cvu} {len : Nat} (fits : c.mode = 2 → c.checkBytes ≤ len) : c.short len = false :=
  Bool.eq_false_iff.2 fun short => Nat.not_lt.2 (fits ((short_iff c len).1 short).1) ((short_iff c len).1 short).2

/-- What R232 and R234 refuse in a write of CVU_CTRL. -/
def ctrlRefused (v : W32) (c : Cvu) : Prop :=
  fld v 30 2 = 3 ∨ fld v 0 7 = 0 ∨ 64 < fld v 0 7 ∨ 8 < fld v 24 4 ∨
    (c.busy = true ∧ fld v 30 2 = 2 ∧ c.total.toNat < ceilDiv (fld v 0 7) 8)

/-- The refusal is decided on the word as written: none of its fields has a reserved bit. -/
theorem short_ctrlKept (v : W32) (c : Cvu) (midframe : Bool) (len : Nat) :
    ({ c with ctrl := v &&& 0xFF00007F, midframe := midframe } : Cvu).short len = true ↔
      fld v 30 2 = 2 ∧ len < ceilDiv (fld v 0 7) 8 := by
  obtain ⟨mode, -, width⟩ := fld_cvuCtrl_keep v
  rw [short_iff, Cvu.mode, Cvu.checkBytes, Cvu.width, mode, width]

theorem writeCvuCtrl_refused {v : W32} {c : Cvu} (no : ctrlRefused v c) : writeCvuCtrl v c = { c with rej := true } := by
  refine if_pos ?_
  simp only [Bool.or_eq_true, Bool.and_eq_true, decide_eq_true_eq, short_ctrlKept, or_assoc]
  exact no

theorem writeCvuCtrl_kept {v : W32} {c : Cvu} (yes : ¬ ctrlRefused v c) :
    writeCvuCtrl v c = { c with ctrl := v &&& 0xFF00007F, midframe := c.midframe || c.busy } := by
  refine if_neg ?_
  simp only [Bool.or_eq_true, Bool.and_eq_true, decide_eq_true_eq, short_ctrlKept, or_assoc]
  exact yes

theorem writeCvuParam_length_refused {v : W32} {c : Cvu} (no : c.busy = true ∧ c.mode = 2 ∧ v.toNat < c.checkBytes) :
    writeCvuParam .length v c = { c with rej := true } := if_pos (by rwa [Bool.and_eq_true, short_iff])

theorem writeCvuParam_length_kept {v : W32} {c : Cvu} (yes : ¬(c.busy = true ∧ c.mode = 2 ∧ v.toNat < c.checkBytes)) :
    writeCvuParam .length v c = { c with midframe := c.midframe || c.busy, length := v, total := v } :=
  if_neg (by rwa [Bool.and_eq_true, short_iff])

theorem cvuResume_refused {c : Cvu} (short : c.short c.length.toNat = true) : cvuResume c = { c with rej := true } := if_pos short

theorem cvuResume_begins {c : Cvu} (long : c.short c.length.toNat = false) :
    cvuResume c = { c.beat with busy := true, total := c.length, tail := [], emitted := [] } :=
  if_neg (by rw [long]; exact Bool.false_ne_true)

/-! ## The two words of a 64-bit register -/

/-- A register read by its low word. -/
theorem word32_lo (w : W64) : word32 w 0 = BitVec.ofNat 32 w.toNat := by
  apply BitVec.eq_of_toNat_eq
  simp [word32, w32, fld]

/-- A register read by its high word. -/
theorem word32_hi (w : W64) : word32 w 32 = BitVec.ofNat 32 (w.toNat / 2 ^ 32) := by
  apply BitVec.eq_of_toNat_eq
  simp [word32, w32, fld]

/-- Both words written in turn make the register, whatever it held (R233). -/
theorem toNat_setHi_setLo (w : W64) (low high : W32) : (setHi (setLo w low) high).toNat = high.toNat * 2 ^ 32 + low.toNat := by
  have hw := w.isLt
  have hl := low.isLt
  have hh := high.isLt
  simp only [setHi, setLo, BitVec.toNat_ofNat]
  omega

/-! ## The statement -/

/-- Settles O10: every access is one change of its unit, and the change is read off register by register. -/
theorem cvuOwnerAccess : Obligations.CvuOwnerAccess := by
  unfold Obligations.CvuOwnerAccess
  refine ⟨fun u v s on_ no => ?_, fun u v s on_ mode width0 width64 pre fits => ?_, fun u v s on_ => ?_, fun u v s on_ => ?_,
    fun u s on_ => ?_, fun u hi s on_ => ?_, fun u s on_ => ?_, fun u s on_ fits => ?_, fun u s on_ mode short => ?_,
    fun u s on_ => exec_cvuAbort_on on_⟩
  · exact (exec_cvuCtrlWrite_on on_ v).trans (congrArg Host.Outcome.next (cvuUpd_congr u (writeCvuCtrl_refused no)))
  · have yes : ¬ ctrlRefused v (cvuAt u s) := by
      rintro (no | no | no | no | ⟨busy, check, short⟩)
      · exact mode no
      · exact width0 no
      · exact Nat.not_lt.2 width64 no
      · exact Nat.not_lt.2 pre no
      · exact Nat.not_lt.2 (fits busy check) short
    exact (exec_cvuCtrlWrite_on on_ v).trans (congrArg Host.Outcome.next (cvuUpd_congr u (writeCvuCtrl_kept yes)))
  · have write (reg : CvuReg) := exec_cvuParamWrite_on on_ reg v
    exact ⟨write .polyLo, write .polyHi, write .initLo, write .initHi, write .xorLo, write .xorHi, write .prefixLo, write .prefixHi,
      write .valueLo⟩
  · refine ⟨_, exec_cvuParamWrite_on on_ .length v, cvuUpd_frame .., ?_⟩
    rw [cvuAt_cvuUpd_self]
    split
    case isTrue no => exact writeCvuParam_length_refused no
    case isFalse yes =>
      rw [writeCvuParam_length_kept yes]
      exact ⟨rfl, rfl, rfl, rfl⟩
  · simp only [← word32_lo, ← word32_hi]
    have read (reg : CvuRead) := exec_cvuRead_on on_ reg
    exact ⟨read .ctrl, read .polyLo, read .polyHi, read .initLo, read .initHi, read .xorLo, read .xorHi, read .prefixLo, read .prefixHi,
      read .resultLo, read .resultHi⟩
  · refine ⟨_, _, exec_cvuValueHiWrite_on on_ hi, cvuUpd_frame .., cvuAt_cvuUpd_self .., ?_⟩
    rw [toNat_setHi_setLo, word32_lo]
  · simp only [← word32_lo, ← word32_hi]
    have read (reg : CvuRead) := exec_cvuRead_on on_ reg
    exact ⟨read .valueLo, read .valueHi, read .length, read .stat⟩
  · exact (exec_cvuResume_on on_).trans (congrArg Host.Outcome.next (cvuUpd_congr u (cvuResume_begins (short_eq_false fits))))
  · exact (exec_cvuResume_on on_).trans
      (congrArg Host.Outcome.next (cvuUpd_congr u (cvuResume_refused ((short_iff ..).2 ⟨mode, short⟩))))

end Sys2Proof.Proofs
end

section
/-! PROOF. A frame through a check-value unit, word by word, and the CRC that it leaves (R229 to R232; log entry 82). -/

namespace Sys2Proof.Proofs

open Sys2Proof Sys2Proof.Machine Sys2Proof.Safety Sys2Proof.Laws

/-! ## The running value of a set -/

theorem crcBit_lt {w poly reg : Nat} {b : Bool} : crcBit w poly reg b < 2 ^ w := by
  have shifted : reg * 2 % 2 ^ w < 2 ^ w := Nat.mod_lt _ (Nat.two_pow_pos w)
  have divisor : poly % 2 ^ w < 2 ^ w := Nat.mod_lt _ (Nat.two_pow_pos w)
  unfold crcBit
  split
  · exact Nat.xor_lt_two_pow shifted divisor
  · exact shifted

theorem crcBytes_lt {w reg : Nat} (poly : Nat) (refin : Bool) (l : List Byte) (start : reg < 2 ^ w) :
    crcBytes w poly refin reg l < 2 ^ w :=
  List.foldlRecOn (motive := (· < 2 ^ w)) l _ start fun _ below _ _ =>
    List.foldlRecOn (motive := (· < 2 ^ w)) _ _ below fun _ _ _ _ => crcBit_lt

/-- The running value of a set once the bytes have come (R229, R231). -/
def running (S : CrcSet) (came : List Byte) : Nat := crcBytes S.width S.poly S.refin (S.init % 2 ^ S.width) came

theorem running_lt (S : CrcSet) (came : List Byte) : running S came < 2 ^ S.width :=
  crcBytes_lt _ _ _ (Nat.mod_lt _ (Nat.two_pow_pos _))

/-- The bytes come in pieces of any size. -/
theorem running_append (S : CrcSet) (a b : List Byte) : running S (a ++ b) = crcBytes S.width S.poly S.refin (running S a) b :=
  List.foldl_append

theorem crc_eq_result_running (S : CrcSet) (pre data : List Byte) : S.crc pre data = S.result (running S (pre ++ data)) := rfl

theorem result_lt (S : CrcSet) (reg : Nat) : S.result reg < 2 ^ S.width := Nat.mod_lt _ (Nat.two_pow_pos _)

/-! ## A PLAIN frame in a unit -/

/-- A unit in a PLAIN frame under a set, with the bytes that have come, those folded in first, and the number of those that are left. -/
structure PlainFrame (S : CrcSet) (came : List Byte) (left : Nat) (c : Cvu) : Prop where
  set : c.set = S
  plain : c.mode = 0
  busy : c.busy = true
  steady : c.next = none
  value : c.value.toNat = running S came
  length : c.length.toNat = left

/-- A value of at most 64 bits fits CVU_VALUE and CVU_RESULT. -/
theorem toNat_ofNat_width {w n : Nat} (narrow : w ≤ 64) (h : n < 2 ^ w) : (BitVec.ofNat 64 n).toNat = n :=
  Nat.mod_eq_of_lt (Nat.lt_of_lt_of_le h (Nat.pow_le_pow_right (by decide) narrow))

/-- Bytes taken go on from those that have come. -/
theorem take_running {S : CrcSet} {c : Cvu} {came : List Byte} (narrow : S.width ≤ 64) (set : c.set = S)
    (value : c.value.toNat = running S came) (l : List Byte) : (c.take l).toNat = running S (came ++ l) := by
  subst set
  have reduced : running c.set came < 2 ^ c.width := running_lt ..
  have goesOn : crcBytes c.width c.poly.toNat c.refin (c.value.toNat % 2 ^ c.width) l = running c.set (came ++ l) := by
    rw [running_append, value, Nat.mod_eq_of_lt reduced]
    rfl
  rw [Cvu.take, goesOn, toNat_ofNat_width narrow (running_lt ..)]

theorem beat_steady {c : Cvu} (steady : c.next = none) : c.beat = c := by
  rw [Cvu.beat, steady, Option.getD_none, ← steady]

theorem cvuStart_begins {c : Cvu} (long : c.short c.length.toNat = false) : cvuStart c =
    let e := { c with restarted := c.restarted || c.busy, next := none, value := BitVec.ofNat 64 (c.init.toNat % 2 ^ c.width), busy := true,
                      tail := [], emitted := [], total := c.length }
    { e with value := e.take (be c.prefixB (c.prefixV.toNat % 2 ^ (8 * c.prefixB))) } :=
  if_neg (by rw [long]; exact Bool.false_ne_true)

theorem cvuStart_refused {c : Cvu} (short : c.short c.length.toNat = true) :
    cvuStart c = { c with restarted := c.restarted || c.busy, rej := true, busy := false } := if_pos short

/-- A word that finds no byte to take. -/
theorem cvuData_none {v : W32} {c : Cvu} (none : c.busy = false ∨ c.length = 0) : cvuData v c = { c with lenErr := true } :=
  if_pos (by simpa using none)

/-- A word of which bytes are taken: the first `k` are data, the others belong to a check value. -/
theorem cvuData_some {v : W32} {c : Cvu} (busy : c.busy = true) (left : c.length ≠ 0) : cvuData v c =
    let l := (be 4 v.toNat).take (min 4 c.length.toNat)
    let k := if c.mode = 2 then c.length.toNat - c.checkBytes else c.length.toNat
    { c.beat with
      value := c.beat.take (l.take k), length := BitVec.ofNat 32 (c.length.toNat - l.length), tail := c.tail ++ l.drop k,
      emitted := if c.mode = 0 then c.emitted else c.emitted ++ l.take k } :=
  if_neg (by simpa [busy] using left)

section plain
variable {S : CrcSet} (narrow : S.width ≤ 64)
include narrow

/-- START takes the fold-in bytes first (R231). -/
theorem plainFrame_cvuStart {c : Cvu} (set : c.set = S) (plain : c.mode = 0) :
    PlainFrame S (be c.prefixB (c.prefixV.toNat % 2 ^ (8 * c.prefixB))) c.length.toNat (cvuStart c) := by
  have init : (BitVec.ofNat 64 (c.init.toNat % 2 ^ c.width)).toNat = running S [] := by
    subst set
    exact toNat_ofNat_width narrow (running_lt c.set [])
  rw [cvuStart_begins (short_eq_false fun check => by omega)]
  refine ⟨set, plain, rfl, rfl, take_running (came := []) narrow ?_ ?_ _, rfl⟩
  · exact set
  · exact init

/-- A data word gives its first bytes, at most those left (R230). -/
theorem plainFrame_cvuData {c : Cvu} {came : List Byte} {left : Nat} (frame : PlainFrame S came left c) (more : 0 < left) (v : W32) :
    PlainFrame S (came ++ (be 4 v.toNat).take left) (left - 4) (cvuData v c) := by
  obtain ⟨set, plain, busy, steady, value, length⟩ := frame
  have small := c.length.isLt
  have nonzero : c.length ≠ 0 := by
    rintro zero
    rw [zero] at length
    exact Nat.ne_of_gt more length.symm
  have bytes : ((be 4 v.toNat).take (min 4 left)).take left = (be 4 v.toNat).take left := by
    rw [List.take_take, List.take_eq_take_iff, be_length]
    omega
  rw [cvuData_some busy nonzero, beat_steady steady, if_neg (by omega), length]
  refine ⟨set, plain, busy, steady, ?_, ?_⟩
  · rw [← bytes]
    exact take_running narrow set value _
  · simp only [List.length_take, be_length, BitVec.toNat_ofNat]
    omega

end plain

/-! ## Data words one after another -/

/-- The unit once a list of data words has come. -/
def afterWords (ws : List W32) (c : Cvu) : Cvu := ws.foldl (fun d v => cvuData v d) c

/-- Words enough for the bytes left bring these bytes, and nothing of what follows them. -/
theorem plainFrame_afterWords {S : CrcSet} (narrow : S.width ≤ 64) (ws : List W32) {c : Cvu} {came : List Byte} {left : Nat}
    (frame : PlainFrame S came left c) (enough : ws.length = ceilDiv left 4) :
    PlainFrame S (came ++ (ws.flatMap fun v => be 4 v.toNat).take left) 0 (afterWords ws c) := by
  induction ws generalizing c came left with
  | nil =>
    have none : left = 0 := by
      rw [ceilDiv, List.length_nil] at enough
      omega
    subst none
    rw [List.take_zero, List.append_nil]
    exact frame
  | cons v ws ih =>
    rw [ceilDiv, List.length_cons] at enough
    have rest := ih (plainFrame_cvuData narrow frame (by omega) v) (by rw [ceilDiv]; omega)
    rw [List.flatMap_cons, List.take_append, be_length, ← List.append_assoc]
    exact rest

/-- The end of the frame: the result of the set over what has come (R229). -/
theorem plainFrame_cvuDone {S : CrcSet} (narrow : S.width ≤ 64) {c : Cvu} {came : List Byte} (frame : PlainFrame S came 0 c) :
    (cvuDone c).result.toNat = S.result (running S came) ∧ (cvuDone c).done = true ∧ (cvuDone c).busy = false ∧ (cvuDone c).length = 0 := by
  obtain ⟨rfl, -, -, steady, value, length⟩ := frame
  refine ⟨?_, rfl, rfl, BitVec.eq_of_toNat_eq length⟩
  have result : (cvuDone c).result = BitVec.ofNat 64 (c.set.result (c.value.toNat % 2 ^ c.width)) := by
    rw [cvuDone, beat_steady steady]
  have reduced : running c.set came < 2 ^ c.width := running_lt ..
  rw [result, value, Nat.mod_eq_of_lt reduced, toNat_ofNat_width narrow (result_lt ..)]

/-! ## The whole frame -/

/-- A frame through a unit: START, its data words, its end. -/
def frameOf (ws : List W32) (c : Cvu) : Cvu := cvuDone (afterWords ws (cvuStart c))

/-- A PLAIN frame gives the CRC of the fold-in bytes followed by the data (R231). -/
theorem frameOf_plain {c : Cvu} {ws : List W32} {data : List Byte} (plain : c.mode = 0) (narrow : c.width ≤ 64)
    (length : c.length.toNat = data.length) (enough : ws.length = ceilDiv data.length 4)
    (bytes : (ws.flatMap fun v => be 4 v.toNat).take data.length = data) :
    (frameOf ws c).result.toNat = c.set.crc (be c.prefixB (c.prefixV.toNat % 2 ^ (8 * c.prefixB))) data ∧ (frameOf ws c).done = true ∧
      (frameOf ws c).busy = false ∧ (frameOf ws c).length = 0 := by
  have came := plainFrame_afterWords (S := c.set) narrow ws (plainFrame_cvuStart narrow rfl plain) (by rw [length]; exact enough)
  rw [length, bytes] at came
  rw [crc_eq_result_running]
  exact plainFrame_cvuDone narrow came

section commands
variable {u : Fin 4} {s : State} (on_ : cvuOn u s = true)
include on_

theorem exec_cvuStart_on : exec (.cvuStart u) s = .next (cvuUpd u cvuStart s) := congrArg Host.Outcome.next (if_pos on_)

theorem exec_cvuDataWrite_on (v : W32) : exec (.cvuDataWrite u v) s = .next (cvuUpd u (cvuData v) s) :=
  congrArg Host.Outcome.next (if_pos on_)

/-- The end of a frame comes once its last byte has been taken (R235). -/
theorem exec_cvuFrameDone_on (busy : (cvuAt u s).busy = true) (none : (cvuAt u s).length = 0) :
    exec (.cvuFrameDone u) s = .next (cvuUpd u cvuDone s) :=
  congrArg Host.Outcome.next (if_pos (by rw [on_, busy, none]; rfl))

omit on_ in
theorem runAll_cons {c : Instr} {s t : State} (l : List Instr) (h : exec c s = .next t) : runAll (c :: l) s = runAll l t := by
  rw [runAll, h]

theorem runAll_cvuDataWrites (ws : List W32) (l : List Instr) :
    runAll (ws.map (fun v => .cvuDataWrite u v) ++ l) s = runAll l (cvuUpd u (afterWords ws) s) := by
  induction ws generalizing s with
  | nil =>
    have same : cvuUpd u (afterWords []) s = s := by
      have keeps : vupd s.cvu u (afterWords []) = s.cvu := Vector.set_getElem_self _
      rw [cvuUpd, keeps]
    rw [same, List.map_nil, List.nil_append]
  | cons v ws ih =>
    rw [List.map_cons, List.cons_append, runAll_cons _ (exec_cvuDataWrite_on on_ v), ih (by rwa [cvuOn_cvuUpd]), cvuUpd_cvuUpd]
    rfl

/-- The commands of a frame are the frame of the unit, where the words bring its last byte. -/
theorem runAll_frame {ws : List W32} (busy : (afterWords ws (cvuStart (cvuAt u s))).busy = true)
    (none : (afterWords ws (cvuStart (cvuAt u s))).length = 0) :
    runAll (.cvuStart u :: ws.map (fun v => .cvuDataWrite u v) ++ [.cvuFrameDone u]) s = .next (cvuUpd u (frameOf ws) s) := by
  rw [List.cons_append, runAll_cons _ (exec_cvuStart_on on_), runAll_cvuDataWrites (by rwa [cvuOn_cvuUpd]), cvuUpd_cvuUpd,
    runAll_cons _ (exec_cvuFrameDone_on (by rwa [cvuOn_cvuUpd]) (by rwa [cvuAt_cvuUpd_self]) (by rwa [cvuAt_cvuUpd_self])), cvuUpd_cvuUpd]
  rfl

end commands

/-! ## The statement -/

/-- Settles O11, by induction on the data words: after each of them the running value is that of the bytes that have come. -/
theorem cvuPlainFrameComputesTheCrc : Obligations.CvuPlainFrameComputesTheCrc := by
  unfold Obligations.CvuPlainFrameComputesTheCrc
  intro u s ws data on_ plain _ narrow length enough bytes
  have came := plainFrame_afterWords (S := (cvuAt u s).set) narrow ws (plainFrame_cvuStart narrow rfl plain)
    (by rw [length]; exact enough)
  refine ⟨_, runAll_frame on_ came.busy (BitVec.eq_of_toNat_eq came.length), cvuUpd_frame .., ?_⟩
  rw [cvuAt_cvuUpd_self]
  exact frameOf_plain plain narrow length enough bytes

end Sys2Proof.Proofs
end

section
/-! PROOF. The start and the end of a frame in every mode of a check-value unit, and its self-check (R230 to R232, R234, R237; log entries 82,
84, 184). -/

namespace Sys2Proof.Proofs

open Sys2Proof Sys2Proof.Machine Sys2Proof.Laws

/-! ## The end of a frame -/

/-- The bytes of the check value that the running value gives at the end of a frame (R232). -/
def checkValue (c : Cvu) : List Byte := be c.checkBytes (c.set.result (c.beat.value.toNat % 2 ^ c.width))

theorem cvuDone_emitted (c : Cvu) : (cvuDone c).emitted = if c.mode = 1 then c.emitted ++ checkValue c else c.emitted := rfl

theorem cvuDone_checkFail (c : Cvu) : (cvuDone c).checkFail = (c.checkFail || (c.mode == 2 && c.tail != checkValue c)) := rfl

/-- CHECK compares what came with the check value (R232). -/
theorem cvuDone_passes {c : Cvu} (check : c.mode = 2) (clean : c.checkFail = false) :
    (cvuDone c).checkFail = false ↔ c.tail = checkValue c := by
  rw [cvuDone_checkFail, clean, check, beq_self_eq_true, Bool.false_or, Bool.true_and, bne_eq_false_iff_eq]

/-! ## The vector of the self-check (R237) -/

/-- The set of a unit's owner (Table 10.1). -/
def ownSet (u : Fin 4) : CrcSet :=
  match u.val with
  | 0 => crcMbx
  | 3 => crcSpi
  | _ => crcCtt

theorem ownSet_narrow (u : Fin 4) : (ownSet u).width ≤ 64 := by
  revert u; decide

/-- The results for "123456789" of Table 10.2. -/
theorem ownSet_vector (u : Fin 4) : (ownSet u).crc [] [0x31, 0x32, 0x33, 0x34, 0x35, 0x36, 0x37, 0x38, 0x39] =
    (([0xCBF43926, 0xE3069283, 0xE3069283, 0x29B1] : List W64).getD u.val 0).toNat := by
  revert u; decide +kernel

/-- The owner's set replaces the parameters whatever the unit held. -/
theorem cvuOwnSet_reset (u : Fin 4) (c : Cvu) : (cvuOwnSet u.val c).set = (cvuOwnSet u.val Cvu.reset).set ∧
    (cvuOwnSet u.val c).ctrl = (cvuOwnSet u.val Cvu.reset).ctrl := by
  match u with
  | 0 => exact ⟨rfl, rfl⟩
  | 1 => exact ⟨rfl, rfl⟩
  | 2 => exact ⟨rfl, rfl⟩
  | 3 => exact ⟨rfl, rfl⟩

/-- A unit with its owner's set takes PLAIN frames with nothing folded in. -/
theorem cvuOwnSet_fields (u : Fin 4) (c : Cvu) :
    (cvuOwnSet u.val c).set = ownSet u ∧ (cvuOwnSet u.val c).mode = 0 ∧ (cvuOwnSet u.val c).prefixB = 0 := by
  obtain ⟨set, ctrl⟩ := cvuOwnSet_reset u c
  rw [set, Cvu.mode, Cvu.prefixB, ctrl]
  clear set ctrl
  revert u; decide

/-- The vector is a PLAIN frame of nine bytes under the owner's set. -/
theorem cvuVector_frame (u : Fin 4) (c : Cvu) : (cvuVector u.val c).done = true ∧
    (cvuVector u.val c).result = [0xCBF43926, 0xE3069283, 0xE3069283, 0x29B1].getD u.val 0 := by
  obtain ⟨set, plain, bare⟩ := cvuOwnSet_fields u c
  have frame := frameOf_plain (c := { cvuOwnSet u.val c with length := 9 }) (ws := [0x31323334, 0x35363738, 0x39000000])
    (data := [0x31, 0x32, 0x33, 0x34, 0x35, 0x36, 0x37, 0x38, 0x39]) plain
    ((congrArg CrcSet.width set).le.trans (ownSet_narrow u)) rfl rfl rfl
  obtain ⟨result, done, -⟩ := frame
  refine ⟨done, BitVec.eq_of_toNat_eq (result.trans ?_)⟩
  rw [← ownSet_vector, ← set]
  exact congrArg (CrcSet.crc _ · _) (congrArg (fun n => be n _) bare)

/-! ## The self-check -/

/-- A unit after its vector, sound or not. -/
def vectorRun (u : Fin 4) (sound : Bool) (s : State) (c : Cvu) : Cvu :=
  { cvuVector u.val c with
    selfFail := !sound, result := if sound then (cvuVector u.val c).result else Config.wrongCrc s.free, vecAt := s.tb.count }

/-- The fault of a unit's self-check. -/
def cvuFault (u : Fin 4) : BitVec 16 := fcCvuFail0 + BitVec.ofNat 16 u.val

theorem cvuCheck_eq (u : Fin 4) (sound : Bool) (s : State) : cvuCheck u sound s =
    setFault (!sound) (cvuFault u) 0 { cvuUpd u (vectorRun u sound s) s with free := s.free + 1 } := rfl

/-- CVU_FAIL coming or going leaves the units as the vector left them. -/
theorem cvuCheck_cvu (u : Fin 4) (sound : Bool) (s : State) :
    (cvuCheck u sound s).cvu = (cvuUpd u (vectorRun u sound s) s).cvu := by simp [cvuCheck_eq]

theorem cvuAt_cvuCheck_self (u : Fin 4) (sound : Bool) (s : State) :
    cvuAt u (cvuCheck u sound s) = vectorRun u sound s (cvuAt u s) := by
  rw [← cvuAt_cvuUpd_self u (vectorRun u sound s) s]
  exact congrArg (fun units => units[u.val]) (cvuCheck_cvu u sound s)

theorem cvuAt_cvuCheck_other {u k : Fin 4} (sound : Bool) (s : State) (other : k ≠ u) :
    cvuAt k (cvuCheck u sound s) = cvuAt k s := by
  rw [← cvuAt_cvuUpd_other u (vectorRun u sound s) s other]
  exact congrArg (fun units => units[k.val]) (cvuCheck_cvu u sound s)

theorem cvuCheck_chans (u : Fin 4) (sound : Bool) (s : State) : (cvuCheck u sound s).ridge = s.ridge ∧
    (cvuCheck u sound s).thatch = s.thatch ∧ (cvuCheck u sound s).mode = s.mode := by simp [cvuCheck_eq]

/-- CVU_FAIL of a unit is of class C. -/
theorem cvuFault_class (u : Fin 4) : faultClass (cvuFault u) ≠ .h ∧ cvuFault u ≠ fcEvtLost := by
  revert u; decide

/-- While the table moves, CVU_FAIL stands exactly after a run that gave a wrong result (R237). -/
theorem hasFault_cvuCheck (u : Fin 4) (sound : Bool) {s : State} (live : tableStill s = false) :
    hasFault (cvuCheck u sound s) (cvuFault u) 0 = !sound := by
  obtain ⟨light, other⟩ := cvuFault_class u
  rw [cvuCheck_eq]
  cases sound
  case false => exact hasFault_raise_self _ _ other live
  case true => exact hasFault_clear_self _ _ other light live

/-- The self-check of an idle unit comes 10 s after its last. -/
theorem exec_cvuSelfCheck_due {u : Fin 4} (sound : Bool) {s : State} (on_ : cvuOn u s = true) (idle : (cvuAt u s).busy = false)
    (late : (cvuAt u s).vecAt.toNat + 1000000000 ≤ s.tb.count.toNat) : exec (.cvuSelfCheck u sound) s = .next (cvuCheck u sound s) := by
  have come : due s ((cvuAt u s).vecAt.toNat + 10 * tSec) = true := (due_iff ..).2 late
  exact if_pos (by rw [on_, idle, come]; rfl)

theorem exec_cvuSelfCheck_early {u : Fin 4} (sound : Bool) {s : State}
    (early : s.tb.count.toNat < (cvuAt u s).vecAt.toNat + 1000000000) : exec (.cvuSelfCheck u sound) s = .next s := by
  have waits : due s ((cvuAt u s).vecAt.toNat + 10 * tSec) = false :=
    Bool.eq_false_iff.2 fun come => Nat.not_le.2 early ((due_iff ..).1 come)
  exact if_neg (by rw [waits, Bool.and_false]; exact Bool.false_ne_true)

/-! ## The statement -/

/-- Settles O12: each command of a frame by what it does to its unit, and the self-check by the frame of its vector. -/
theorem cvuFramesAndSelfCheck : Obligations.CvuFramesAndSelfCheck := by
  unfold Obligations.CvuFramesAndSelfCheck
  refine ⟨fun u s on_ fits => ?_, fun u s on_ mode short => ?_, fun u v s on_ none => ?_, fun u v s on_ busy left => ?_,
    fun u s on_ busy none => ?_, fun u ok s on_ idle live late => ?_, fun u ok s early => exec_cvuSelfCheck_early ok early⟩
  · refine ⟨_, exec_cvuStart_on on_, cvuUpd_frame .., ?_⟩
    rw [cvuAt_cvuUpd_self, cvuStart_begins (short_eq_false fits)]
    exact ⟨rfl, rfl, rfl, rfl⟩
  · refine ⟨_, exec_cvuStart_on on_, ?_⟩
    rw [cvuAt_cvuUpd_self, cvuStart_refused ((short_iff ..).2 ⟨mode, short⟩)]
    exact ⟨rfl, rfl⟩
  · exact (exec_cvuDataWrite_on on_ v).trans (congrArg Host.Outcome.next (cvuUpd_congr u (cvuData_none none)))
  · refine ⟨_, exec_cvuDataWrite_on on_ v, cvuUpd_frame .., ?_⟩
    rw [cvuAt_cvuUpd_self, cvuData_some busy left]
    exact ⟨rfl, Nat.mod_eq_of_lt (Nat.lt_of_le_of_lt (Nat.sub_le ..) (cvuAt u s).length.isLt), rfl, busy, rfl⟩
  · refine ⟨_, exec_cvuFrameDone_on on_ busy none, cvuUpd_frame .., ?_⟩
    rw [cvuAt_cvuUpd_self]
    exact ⟨rfl, rfl, fun append => (cvuDone_emitted _).trans (if_pos append), fun other => (cvuDone_emitted _).trans (if_neg other),
      cvuDone_passes⟩
  · obtain ⟨done, result⟩ := cvuVector_frame u (cvuAt u s)
    refine ⟨_, exec_cvuSelfCheck_due ok on_ idle late, ?_⟩
    rw [cvuAt_cvuCheck_self]
    exact ⟨rfl, done, rfl, hasFault_cvuCheck u ok live, fun sound => (if_pos sound).trans result,
      fun k other => cvuAt_cvuCheck_other ok s other, cvuCheck_chans u ok s⟩

end Sys2Proof.Proofs
end

section
/-! PROOF. SPI frames: the CRC, the repeat, the address, and the words in ascending order (R239 to R243; log entry 129). -/

namespace Sys2Proof.Proofs

open Sys2Proof Sys2Proof.Machine Sys2Proof.Laws

/-! ## Which frames are executed -/

/-- DATA of a response, as the repeat of its frame returns it. -/
theorem spiReply_data (st seq : Byte) (data : List Byte) :
    ((spiReply st seq data).drop 2).take ((spiReply st seq data).length - 4) = data := by
  simp [spiReply]

section frame
variable {s : State} {f : List Byte} (zeros : Nat) (act : State → (Byte × List Byte) × State) (up : portUp s = true)
include up

theorem spiFrame_badCrc (bad : spiCrcOk f s = false) :
    spiFrame f zeros act s = spiAnswer f false (spiReply spiCrcError (spiSeq f) (List.replicate zeros 0)) s := by
  simp [spiFrame, up, bad]

variable (good : spiCrcOk f s = true)
include good

/-- The last accepted frame sent again is answered with the data of its response (R242). -/
theorem spiFrame_repeat {st : Byte} {data : List Byte} (kept : s.host.kept = some (f, spiReply st (spiSeq f) data)) :
    spiFrame f zeros act s = spiAnswer f false (spiReply spiDuplicate (spiSeq f) data) s := by
  simp [spiFrame, up, good, kept, spiReply_data]

/-- Another frame is executed, and its response is kept. -/
theorem spiFrame_new (fresh : ∀ rsp, s.host.kept ≠ some (f, rsp)) :
    spiFrame f zeros act s = spiAnswer f true (spiReply (act s).1.1 (spiSeq f) (act s).1.2) (act s).2 := by
  unfold spiFrame
  rw [if_neg (by simp [up]), if_neg (by simp [good])]
  split
  · next k kept =>
    exact if_neg fun same => fresh k.2 (kept.trans (by rw [← same]))
  · rfl

end frame

/-! ## What a frame does -/

theorem spiAddrBad_of {f : List Byte} (bad : spiAddr f % 4 ≠ 0 ∨ (1 < spiWords f ∧ 0x3FFC < spiAddr f + 4 * (spiWords f - 1))) :
    spiAddrBad f = true := by
  simpa [spiAddrBad] using bad

theorem spiAddrBad_false {f : List Byte} (word : spiAddr f % 4 = 0) (inside : spiWords f ≤ 1 ∨ spiAddr f + 4 * (spiWords f - 1) ≤ 0x3FFC) :
    spiAddrBad f = false := by
  simp only [spiAddrBad, word, bne_self_eq_false, Bool.false_or, Bool.and_eq_false_iff, decide_eq_false_iff_not]
  omega

/-- A word of a write frame, on what the words before it have left, and whether one has met a closed guard. -/
def putWord (f : List Byte) (r : Bool × State) (k : Nat) : Bool × State :=
  let x := hostWrite (spiAddr f + 4 * k) (BitVec.ofNat 32 (beAt f (4 + 4 * k) 4)) r.2
  (r.1 || x.1, x.2)

/-- A word of a read frame, behind the bytes of the words before it. -/
def getWord (f : List Byte) (r : List Byte × State) (k : Nat) : List Byte × State :=
  let x := hostWord (spiAddr f + 4 * k) r.2
  (r.1 ++ be 4 x.1.toNat, x.2)

theorem spiWrites_eq (f : List Byte) (s : State) :
    spiWrites (spiTargets f) s = (List.range (spiWords f)).foldl (putWord f) (false, s) := List.foldl_map ..

/-- The bytes of words read. -/
def wordBytes (r : List W32 × State) : List Byte × State := (r.1.flatMap (fun w => be 4 w.toNat), r.2)

theorem spiReads_eq (f : List Byte) (s : State) :
    wordBytes (spiReads ((List.range (spiWords f)).map (fun k => spiAddr f + 4 * k)) s) =
      (List.range (spiWords f)).foldl (getWord f) ([], s) := by
  rw [spiReads, List.foldl_map]
  exact (List.foldl_hom wordBytes (init := ([], s)) fun r k => by simp [wordBytes, getWord]).symm

theorem spiWriteAct_runs {f : List Byte} {s : State} (fine : spiAddrBad f = false) : spiWriteAct f s =
    ((if ((List.range (spiWords f)).foldl (putWord f) (false, s)).1 then 5 else 0, []),
      ((List.range (spiWords f)).foldl (putWord f) (false, s)).2) := by
  rw [spiWriteAct, fine, spiWrites_eq]
  rfl

theorem spiReadAct_runs {f : List Byte} {s : State} (fine : spiAddrBad f = false) : spiReadAct f s =
    ((0, ((List.range (spiWords f)).foldl (getWord f) ([], s)).1), ((List.range (spiWords f)).foldl (getWord f) ([], s)).2) := by
  rw [spiReadAct, fine, ← spiReads_eq]
  rfl

/-! ## The frames -/

theorem exec_spiWriteFrame (f : List Byte) (s : State) : exec (.spiWriteFrame f) s = .next (spiFrame f 0 (spiWriteAct f) s) := rfl

theorem exec_spiReadFrame (f : List Byte) (s : State) :
    exec (.spiReadFrame f) s = .next (spiFrame f (4 * spiWords f) (spiReadAct f) s) := rfl

/-- The state that a fresh frame leaves behind what it does. -/
def spiKept (f rsp : List Byte) (s : State) : State := { s with host := { s.host with miso := rsp, kept := some (f, rsp) } }

section fresh
variable {s : State} {f : List Byte} (up : portUp s = true) (good : spiCrcOk f s = true) (fresh : ∀ rsp, s.host.kept ≠ some (f, rsp))
include up good fresh

/-- One whose ADDR is refused executes nothing (R240); a read has zeros for data (log entry 129). -/
theorem exec_spiFrame_badAddress (bad : spiAddrBad f = true) :
    exec (.spiWriteFrame f) s = .next (spiKept f (spiReply 4 (spiSeq f) []) s) ∧
      exec (.spiReadFrame f) s = .next (spiKept f (spiReply 4 (spiSeq f) (List.replicate (4 * spiWords f) 0)) s) := by
  rw [exec_spiWriteFrame, exec_spiReadFrame, spiFrame_new _ _ up good fresh, spiFrame_new _ _ up good fresh, spiWriteAct, spiReadAct, bad]
  exact ⟨rfl, rfl⟩

variable (fine : spiAddrBad f = false)
include fine

theorem exec_spiWriteFrame_runs {w : Bool × State} (words : (List.range (spiWords f)).foldl (putWord f) (false, s) = w) :
    exec (.spiWriteFrame f) s = .next (spiKept f (spiReply (if w.1 then 5 else 0) (spiSeq f) []) w.2) := by
  rw [exec_spiWriteFrame, spiFrame_new _ _ up good fresh, spiWriteAct_runs fine, words]
  rfl

theorem exec_spiReadFrame_runs {r : List Byte × State} (words : (List.range (spiWords f)).foldl (getWord f) ([], s) = r) :
    exec (.spiReadFrame f) s = .next (spiKept f (spiReply 0 (spiSeq f) r.1) r.2) := by
  rw [exec_spiReadFrame, spiFrame_new _ _ up good fresh, spiReadAct_runs fine, words]
  rfl

end fresh

/-- Settles O19: the frame by its CRC, by the frame before it, and by its address; then its words. -/
theorem spiFrames : Obligations.SpiFrames := by
  unfold Obligations.SpiFrames
  refine ⟨fun s f up bad => ?_, fun s f up bad => ?_, fun s f data st up good kept => ?_, fun s f up good fresh bad => ?_,
    fun s f up good fresh word inside => ?_, fun s f up good fresh word inside => ?_, fun s f up good fresh one word => ?_,
    fun s f up good fresh one word => ?_, fun s f up six good fresh => ?_, fun s => rfl⟩
  · exact ⟨_, (exec_spiWriteFrame f s).trans (congrArg _ (spiFrame_badCrc _ _ up bad)), rfl, rfl⟩
  · exact (exec_spiReadFrame f s).trans (congrArg _ (spiFrame_badCrc _ _ up bad))
  · exact ⟨(exec_spiWriteFrame f s).trans (congrArg _ (spiFrame_repeat _ _ up good kept)),
      (exec_spiReadFrame f s).trans (congrArg _ (spiFrame_repeat _ _ up good kept))⟩
  · exact exec_spiFrame_badAddress up good fresh (spiAddrBad_of bad)
  · exact exec_spiWriteFrame_runs up good fresh (spiAddrBad_false word inside) rfl
  · exact exec_spiReadFrame_runs up good fresh (spiAddrBad_false word inside) rfl
  · have words : (List.range (spiWords f)).foldl (putWord f) (false, s) =
        hostWrite (spiAddr f) (BitVec.ofNat 32 (beAt f 4 4)) s := by simp [one, putWord]
    exact exec_spiWriteFrame_runs up good fresh (spiAddrBad_false word (.inl one.le)) words
  · have words : (List.range (spiWords f)).foldl (getWord f) ([], s) =
        (be 4 (hostWord (spiAddr f) s).1.toNat, (hostWord (spiAddr f) s).2) := by simp [one, getWord]
    exact exec_spiReadFrame_runs up good fresh (spiAddrBad_false word (.inl one.le)) words
  · change Host.Outcome.next (spiFrame (f.take 6) 0 _ s) = _
    rw [List.take_of_length_le six.le, spiFrame_new _ _ up good fresh]
    rfl

end Sys2Proof.Proofs
end

section
/-! PROOF. The mailbox memory byte by byte, and host writes of the request mailbox (R245, R246, Table 15.2). -/

namespace Sys2Proof.Proofs

open Sys2Proof Sys2Proof.Machine Sys2Proof.Laws

/-! ## The memory in its canonical form -/

theorem wfFrom_cons {lo : Nat} {c : Host.Cell} {t : List Host.Cell} :
    Memory.wfFrom lo (c :: t) = true ↔ lo ≤ c.1 ∧ c.2 ≠ 0 ∧ Memory.wfFrom (c.1 + 1) t = true := by
  simp [Memory.wfFrom, and_assoc]

/-- A cell that one of two equal contents lists first is not below the first of the other. -/
theorem first_le_of_same {c d : Host.Cell} {t u : List Host.Cell} {lo hi : Nat} (wc : Memory.wfFrom lo (c :: t) = true)
    (wd : Memory.wfFrom hi (d :: u) = true) (same : ∀ a, memRead (c :: t) a = memRead (d :: u) a) : d.1 ≤ c.1 := by
  obtain ⟨-, set, -⟩ := wfFrom_cons.1 wc
  obtain ⟨-, set', rest⟩ := wfFrom_cons.1 wd
  by_contra below
  have listed : memRead (c :: t) c.1 = c.2 := if_pos rfl
  have absent : memRead (d :: u) c.1 = 0 := memRead_below _ (wfFrom_cons.2 ⟨le_rfl, set', rest⟩) (by omega)
  exact set (listed.symm.trans ((same c.1).trans absent))

/-- Equal contents are equal data. -/
theorem eq_of_memRead {m n : List Host.Cell} {lo hi : Nat} (wm : Memory.wfFrom lo m = true) (wn : Memory.wfFrom hi n = true)
    (same : ∀ a, memRead m a = memRead n a) : m = n := by
  induction m generalizing n lo hi with
  | nil =>
    cases n with
    | nil => rfl
    | cons d u =>
      obtain ⟨-, set, -⟩ := wfFrom_cons.1 wn
      exact absurd ((if_pos rfl : memRead (d :: u) d.1 = d.2).symm.trans (same d.1).symm) set
  | cons c t ih =>
    cases n with
    | nil =>
      obtain ⟨-, set, -⟩ := wfFrom_cons.1 wm
      exact absurd ((if_pos rfl : memRead (c :: t) c.1 = c.2).symm.trans (same c.1)) set
    | cons d u =>
      obtain ⟨-, -, restC⟩ := wfFrom_cons.1 wm
      obtain ⟨-, -, restD⟩ := wfFrom_cons.1 wn
      have place : c.1 = d.1 := Nat.le_antisymm (first_le_of_same wn wm fun a => (same a).symm) (first_le_of_same wm wn same)
      have value : c.2 = d.2 := by simpa [memRead, place] using same c.1
      have tails (a : Nat) : memRead t a = memRead u a := by
        by_cases low : a ≤ c.1
        · rw [memRead_below t restC (by omega), memRead_below u restD (by omega)]
        · simpa [memRead, show c.1 ≠ a by omega, show d.1 ≠ a by omega] using same a
      rw [Prod.ext place value, ih restC restD tails]

/-- Bytes written at ascending addresses are read there, and every other byte as before. -/
theorem memRead_memWriteBytes {m : List Host.Cell} (wf : Memory.wf m = true) (a c : Nat) (l : List Byte) :
    memRead (memWriteBytes m a l) c = if c < a then memRead m c else l[c - a]?.getD (memRead m c) := by
  induction l generalizing m a with
  | nil => simp [memWriteBytes]
  | cons b t ih =>
    rw [memWriteBytes, ih (memWrite_wf m a b wf), memRead_memWrite _ _ _ _ wf]
    rcases Nat.lt_trichotomy c a with lower | rfl | higher
    · simp [lower, show c < a + 1 by omega, show c ≠ a by omega]
    · simp
    · obtain ⟨k, rfl⟩ := Nat.exists_eq_add_of_lt higher
      simp [show ¬ a + k + 1 < a by omega, show ¬ a + k + 1 < a + 1 by omega, show a + k + 1 - a = k + 1 by omega,
        show a + k + 1 - (a + 1) = k by omega, show a + k + 1 ≠ a by omega]

/-- Bytes written together read back together. -/
theorem memReadBytes_memWriteBytes {m : List Host.Cell} (wf : Memory.wf m = true) (a : Nat) (l : List Byte) :
    memReadBytes (memWriteBytes m a l) a l.length = l :=
  List.ext_getElem (by simp [memReadBytes]) fun k _ inside => by
    simp [memReadBytes, memRead_memWriteBytes wf, List.getElem?_eq_getElem inside]

/-- A word of the window reads as it was written, most significant byte first. -/
theorem memReadWord_memWriteBytes {m : List Host.Cell} (wf : Memory.wf m = true) (a : Nat) (d : W32) :
    memReadWord (memWriteBytes m a (be 4 d.toNat)) a = d := by
  have bytes := memReadBytes_memWriteBytes wf a (be 4 d.toNat)
  rw [be_length] at bytes
  rw [memReadWord, bytes, ofBe_be, show 256 ^ 4 = 2 ^ 32 from rfl, Nat.mod_eq_of_lt d.isLt, BitVec.ofNat_toNat, BitVec.setWidth_eq]

/-! ## Host writes of the request mailbox (R246) -/

/-- A write of a word of the request mailbox. -/
theorem exec_registerWrite_request {s : State} {addr : BitVec 12} (d : W32) (up : portUp s = true) (lo : 0x400 ≤ addr.toNat)
    (hi : addr.toNat < 0x800) : exec (.registerWrite addr d) s = .next (writeMbx addr.toNat d s) := by
  have place : writeWin addr.toNat d s = (false, writeMbx addr.toNat d s) := by
    unfold writeWin
    rw [if_neg (by simp; omega), if_neg (by simp; omega), if_pos (by simp [lo, hi])]
  change Host.Outcome.next (whenPort (fun t => (writeWin addr.toNat d t).2) s) = _
  rw [whenPort, if_pos up, place]

/-- Settles O21: the memory by its bytes, and a word of the request mailbox as four of them. -/
theorem mailboxMemoryAndRequestWrites : Obligations.MailboxMemoryAndRequestWrites := by
  unfold Obligations.MailboxMemoryAndRequestWrites
  refine ⟨fun m a b wf => ?_, fun m a c b wf other => ?_, fun m n wm wn same => eq_of_memRead wm wn same,
    fun m a l wf => memReadBytes_memWriteBytes wf a l, fun s addr d wf up free _ lo hi => ?_, fun s addr d up busy lo hi => ?_⟩
  · rw [memRead_memWrite _ _ _ _ wf, if_pos rfl]
  · rw [memRead_memWrite _ _ _ _ wf, if_neg other]
  · refine ⟨_, exec_registerWrite_request d up lo hi, ?_⟩
    rw [writeMbx, free, if_neg Bool.false_ne_true]
    refine ⟨rfl, fun a outside => ?_, memReadWord_memWriteBytes wf _ d⟩
    rw [memRead_memWriteBytes wf]
    rcases outside with below | above
    · rw [if_pos below]
    · rw [if_neg (by omega), List.getElem?_eq_none (by rw [be_length]; omega), Option.getD_none]
  · rw [exec_registerWrite_request d up lo hi, writeMbx, if_pos busy]

end Sys2Proof.Proofs
end

section
/-! PROOF. What a mailbox command leaves of the module once it has been answered, its entry in the log apart (R246, R248, R251). -/

namespace Sys2Proof.Proofs

open Sys2Proof Sys2Proof.Machine Sys2Proof.Safety Sys2Proof.Laws

/-! ## The module without the log -/

/-- The module without the entries of the Shingle log and their count. -/
def offLog (s : State) : State := { s with flash := { s.flash with log := [] }, bk := { s.bk with nextCount := 0 } }

theorem quietLogged_iff (s t : State) : quietLogged s t ↔ offLog (offService t) = offLog (offService s) := by
  unfold quietLogged
  constructor
  · intro h
    exact (congrArg (fun u => offLog (offService u)) h :)
  · intro h
    exact (congrArg (fun u : State => { u with
      gable := s.gable, mbx := s.mbx, host := { u.host with irq := s.host.irq }, flash := { u.flash with log := s.flash.log }
      bk := { u.bk with nextCount := s.bk.nextCount } }) h :)

theorem offLog_offService (s : State) : offLog (offService s) = offService (offLog s) := rfl

@[simp] theorem offLog_logWrite (f : LogFields) (s : State) : offLog (logWrite f s) = offLog s := by
  unfold logWrite
  split <;> rfl

/-- While flash is open to writes, an entry takes the next count. -/
theorem logWrite_open {s : State} (f : LogFields) (sd : s.pwr.shutdown = none) : logWrite f s = logNext f s :=
  if_neg (by simp [flashClosed, sd])

theorem logNext_nextCount (f : LogFields) (s : State) : (logNext f s).bk.nextCount = s.bk.nextCount + 1 :=
  BitVec.eq_of_toNat_eq (by simp [logNext, logAppend])

/-! ## The end of a command -/

/-- An answer without an entry of its own concerns the service alone. -/
theorem offService_finish_unwritten {code : BitVec 16} {r : Req} (level : BitVec 2) {a : Answer} (s : State)
    (h : (isLogged code r && !a.wrote) = false) : offService (finish code r level a s) = offService s := by
  have one : offService (finishOne code r level a s) = offService s := by
    have keep (t : State) (k : Kept) : offService (keepRsp r.port k t) = offService t := by cases r.port <;> rfl
    simp only [finishOne, keep, offService_postRsp, h, Bool.false_eq_true, if_false]
    rfl
  unfold finish settleMbx
  split
  · split
    · exact (offService_takeNow _ _ _).trans one
    · exact one
  · exact one

/-- With its entry it concerns the service and the log. -/
@[simp] theorem offLog_finish (code : BitVec 16) (r : Req) (level : BitVec 2) (a : Answer) (s : State) :
    offLog (offService (finish code r level a s)) = offLog (offService s) := by
  have keep (t : State) (k : Kept) : offService (keepRsp r.port k t) = offService t := by cases r.port <;> rfl
  have leave (t : State) : offService (dequeue code r t) = offService t := rfl
  have one : offLog (offService (finishOne code r level a s)) = offLog (offService s) := by
    simp only [finishOne, keep, offService_postRsp, leave]
    split
    · rw [offLog_offService, logCommand, offLog_logWrite, offLog_offService]
    · rfl
  unfold finish settleMbx
  split
  · split
    · exact (congrArg offLog (offService_takeNow _ _ _)).trans one
    · exact one
  · exact one

/-- A command that is answered: its answer is kept, and behind its own effect `t` only the service and the log move. -/
theorem exec_answers {c : Instr} {code : BitVec 16} {r : Req} {body : State → State × Answer} {s t : State} {a : Answer}
    (runs : exec c s = .next (serve code r body s)) (ok : admits code r s = true) (acts : body (touch r.port s) = (t, a))
    (now : a.later = false) :
    ∃ u, exec c s = .next u ∧ answered code r a.st a.more a.payload u ∧ gableCore u = gableCore t ∧
      offLog (offService u) = offLog (offService t) ∧ ((isLogged code r && !a.wrote) = false → offService u = offService t) := by
  refine ⟨_, runs, ?_⟩
  rw [serve_answered ok acts now]
  exact ⟨answered_finish .., gableCore_finish .., offLog_finish .., offService_finish_unwritten _ t⟩

/-- One that has no effect of its own, only an answer. -/
theorem exec_answers_only {c : Instr} {code : BitVec 16} {r : Req} {body : State → State × Answer} {s : State} {a : Answer}
    (runs : exec c s = .next (serve code r body s)) (ok : admits code r s = true) (acts : body (touch r.port s) = (touch r.port s, a))
    (now : a.later = false) :
    ∃ u, exec c s = .next u ∧ answered code r a.st a.more a.payload u ∧ gableCore u = gableCore (touch r.port s) ∧ quietLogged s u := by
  obtain ⟨u, run, kept, core, rest, -⟩ := exec_answers runs ok acts now
  exact ⟨u, run, kept, core, (quietLogged_iff s u).2 (rest.trans (by rw [offService_touch]))⟩

/-! ## What the arrival of a request leaves of Gable's work -/

@[simp] theorem touch_cand (p : Port) (s : State) : (touch p s).gable.cand = s.gable.cand :=
  touch_reads (fun t => t.gable.cand) p s fun _ _ _ _ _ => rfl

theorem ownedBy_touch (q p : Port) (s : State) : ownedBy q (touch p s) = ownedBy q s :=
  touch_reads (ownedBy q) p s fun _ _ _ _ _ => rfl

theorem overtaken_touch (p : Port) (s : State) : overtaken (touch p s) = overtaken s :=
  touch_reads overtaken p s fun _ _ _ _ _ => rfl

theorem owned_of {r : Req} {s : State} (body : State → State × Answer) (h : ownedBy r.port s = true) : owned r body s = body s :=
  if_pos h

/-- The candidate's own port owns it. -/
theorem ownedBy_cand {p : Port} {s : State} {c : Candidate} (cand : s.gable.cand = some c) (owner : c.owner = p) :
    ownedBy p s = true := by
  simp [ownedBy, cand, owner]

end Sys2Proof.Proofs
end

section
/-! PROOF. The acceptance of a clamp report (R261). -/

namespace Sys2Proof.Proofs

open Sys2Proof Sys2Proof.Machine Sys2Proof.Safety Sys2Proof.Laws

theorem exec_cfgAcceptClamps (r : Req) (s : State) :
    exec (.cfgAcceptClamps r) s = .next (serve ccCfgAcceptClamps r (owned r (acceptBody r)) s) := rfl

section
variable {r : Req} {s : State} {c : Candidate} (cand : s.gable.cand = some c) (owner : c.owner = r.port) (ended : c.ended = true)
  (len : r.payload.length = 32)
include cand owner ended len

/-- On an ended candidate of its own port CFG_ACCEPT_CLAMPS compares the quoted digest, where there is a report to accept. -/
theorem accept_owned : owned r (acceptBody r) s =
    if c.clamps = [] then (s, answer stOk)
    else if r.num 0 32 = c.digest.toNat then (setCand (some { c with accepted := true }) s, answer stOk)
    else (s, answer stReportMismatch) := by
  rw [owned_of _ (ownedBy_cand cand owner)]
  simp [acceptBody, len, cand, ended, ite_not]

end

/-- Settles O26: without clamps, with the digest quoted, and with another. -/
theorem clampAcceptance : Obligations.ClampAcceptance := by
  unfold Obligations.ClampAcceptance
  intro r s c ok cand owner ended len
  have acts := accept_owned (s := touch r.port s) ((touch_cand ..).trans cand) owner ended len
  by_cases empty : c.clamps = []
  · rw [if_pos empty] at acts
    obtain ⟨t, run, kept, core, quiet⟩ := exec_answers_only (exec_cfgAcceptClamps r s) ok acts rfl
    obtain ⟨-, -, same, -⟩ := gable_of_core core
    exact ⟨t, run, quiet, fun _ => ⟨same.trans ((touch_cand ..).trans cand), kept⟩, fun some_ => absurd empty some_,
      fun some_ => absurd empty some_⟩
  rw [if_neg empty] at acts
  by_cases quoted : r.num 0 32 = c.digest.toNat
  · rw [if_pos quoted] at acts
    obtain ⟨t, run, kept, core, rest, -⟩ := exec_answers (exec_cfgAcceptClamps r s) ok acts rfl
    obtain ⟨-, -, accepted, -⟩ := gable_of_core core
    refine ⟨t, run, (quietLogged_iff s t).2 (rest.trans ?_), fun none => absurd none empty, fun _ _ => ⟨accepted, kept⟩,
      fun _ other => absurd quoted other⟩
    rw [← offService_touch s r.port]
    rfl
  · rw [if_neg quoted] at acts
    obtain ⟨t, run, kept, core, quiet⟩ := exec_answers_only (exec_cfgAcceptClamps r s) ok acts rfl
    obtain ⟨-, -, same, -⟩ := gable_of_core core
    exact ⟨t, run, quiet, fun none => absurd none empty, fun _ quote => absurd quote quoted,
      fun _ _ => ⟨same.trans ((touch_cand ..).trans cand), kept⟩⟩

end Sys2Proof.Proofs
end

section
/-! PROOF. The doorbell of SPI, and the acknowledge of events (R246, R250, R264, Table 11.5). -/

namespace Sys2Proof.Proofs

open Sys2Proof Sys2Proof.Machine Sys2Proof.Safety Sys2Proof.Laws

/-! ## REQ -/

theorem exec_mbxRequest (s : State) : exec .mbxRequest s = .next (doorbellReq s) := rfl

/-- A REQ that Gable cannot take only sets OVERRUN. -/
theorem doorbellReq_overruns {s : State} (up : portUp s = true)
    (busy : s.gable.up = false ∨ s.gable.reqBusy = true ∨ s.gable.rspReady = true) :
    doorbellReq s = { s with gable := { s.gable with overrun := true } } := by
  unfold doorbellReq
  rw [if_neg (by simp [up])]
  exact if_pos (by rcases busy with h | h | h <;> simp [h])

/-- The state in which a message on SPI is looked at. -/
def rung (s : State) : State := touch .spi { s with gable := { s.gable with overrun := false, reqBusy := true } }

theorem doorbellReq_takes {s : State} (up : portUp s = true) (runs : s.gable.up = true) (idle : s.gable.reqBusy = false)
    (read : s.gable.rspReady = false) : doorbellReq s = takeRequest .spi (memReadBytes s.mbx 0x400 1024) (rung s) := by
  unfold doorbellReq
  rw [if_neg (by simp [up])]
  exact if_neg (by simp [runs, idle, read])

theorem rung_gable (s : State) : (rung s).gable.reqBusy = true ∧ (rung s).gable.overrun = false ∧ (rung s).gable.queue = s.gable.queue ∧
    (rung s).gable.keptSpi = s.gable.keptSpi ∧ (rung s).mbx = s.mbx := by
  unfold rung touch
  dsimp only
  split <;> exact ⟨rfl, rfl, rfl, rfl, rfl⟩

/-- A good message on SPI with a new TAG and a CODE of Table 11.6 waits for Gable (R246). -/
theorem takeNow_queues_spi {m : List Byte} {s : State} (long : m.length = 1024) (fits : beAt m 4 2 ≤ 1012) (quads : beAt m 4 2 % 4 = 0)
    (crc : beAt m (8 + beAt m 4 2) 4 = (crc32 (m.take (8 + beAt m 4 2))).toNat) (flags : beAt m 6 2 ≤ 1)
    (fresh : ∀ k ∈ s.gable.keptSpi, k.tag ≠ BitVec.ofNat 16 (beAt m 0 2))
    (known : knownCommand (BitVec.ofNat 16 (beAt m 2 2)) = true) :
    ∃ w, takeNow .spi m s = { s with gable := { s.gable with
      queue := s.gable.queue ++ [(BitVec.ofNat 16 (beAt m 2 2),
        { port := .spi, tag := BitVec.ofNat 16 (beAt m 0 2), flags := BitVec.ofNat 16 (beAt m 6 2)
          payload := (m.drop 8).take (beAt m 4 2) })]
      started := w } } := by
  have length : (m.length < 12 || 1012 < beAt m 4 2 || beAt m 4 2 % 4 != 0 || m.length < 12 + beAt m 4 2 ||
      (Port.spi == .usb && m.length != 12 + beAt m 4 2)) = false := by
    have inside : 12 + beAt m 4 2 ≤ 1024 := by omega
    simp [long, quads, fits, inside]
  have sum : (beAt m (8 + beAt m 4 2) 4 != (crc32 (m.take (8 + beAt m 4 2))).toNat) = false := by rw [crc, bne_self_eq_false]
  have reserved : ((BitVec.ofNat 16 (beAt m 6 2)).toNat / 2 != 0) = false := by
    rw [bne_eq_false_iff_eq, BitVec.toNat_ofNat]; omega
  have none : (keptOf .spi s).find? (fun k => k.tag == BitVec.ofNat 16 (beAt m 0 2)) = none := by simpa [keptOf] using fresh
  unfold takeNow
  dsimp only
  rw [length, if_neg Bool.false_ne_true, sum, if_neg Bool.false_ne_true, reserved, if_neg Bool.false_ne_true, none]
  dsimp only
  rw [if_pos known]
  exact ⟨_, rfl⟩

/-! ## RSP_ACK -/

theorem exec_mbxResponseAck (s : State) : exec .mbxResponseAck s = .next (doorbellAck s) := rfl

theorem doorbellAck_clears {s : State} (up : portUp s = true) (none : s.restart = none) :
    doorbellAck s = { s with gable := { s.gable with rspReady := false } } := by
  unfold doorbellAck
  dsimp only
  rw [if_neg (by simp [up]), none]

/-- A restart that waits for the host on SPI comes 100 ms after its acknowledge at the latest (R264). -/
theorem doorbellAck_hastens {s : State} {x : RestartDue} (up : portUp s = true) (some_ : s.restart = some x) (spi : x.port = .spi)
    (ready : s.gable.rspReady = true) : doorbellAck s = { s with
      gable := { s.gable with rspReady := false }
      restart := some { x with due := BitVec.ofNat 64 (min x.due.toNat (s.tb.count.toNat + 10000000)) } } := by
  unfold doorbellAck
  dsimp only
  rw [if_neg (by simp [up]), some_]
  exact if_pos (by simp [ready, spi])

/-! ## EVT_ACK_N -/

theorem exec_mbxEventAck (n : BitVec 8) (s : State) : exec (.mbxEventAck n) s = .next (doorbellEvt n s) := rfl

/-- A fault that is not present does not clear. -/
theorem clearFault_absent {code : BitVec 16} {obj : Nat} {s : State} (absent : hasFault s code obj = false) :
    clearFault code obj s = s := by
  have nothing : (s.faults ++ s.unlisted).filter (fun e => e.isFault code obj) = [] := by
    rw [List.filter_eq_nil_iff]
    intro e listed is
    exact Bool.false_ne_true (absent.symm.trans (List.any_eq_true.2 ⟨e, listed, is⟩))
  unfold clearFault
  split
  · rfl
  · rw [clearWhere, nothing, List.foldl_nil]

/-- Where none has been dropped, an acknowledge takes entries off the pending ones, and writes none (R250). -/
theorem doorbellEvt_takes {n : BitVec 8} {s : State} (up : portUp s = true) (whole : s.gable.evtDropped = 0)
    (some_ : 1 ≤ min n.toNat s.gable.evtPending) (absent : hasFault s fcEvtLost 0 = false) :
    doorbellEvt n s = { s with gable := { s.gable with
      evtPending := s.gable.evtPending - min n.toNat s.gable.evtPending, evtLost := false } } := by
  have nothing : flushLost { s with gable := { s.gable with
      evtPending := s.gable.evtPending - min n.toNat s.gable.evtPending, evtLost := false } } = _ := if_pos (by simp [whole])
  unfold doorbellEvt
  dsimp only
  rw [if_neg (by simp [up]; omega), nothing, clearFault_absent (by exact absent), ite_self]

/-! ## The statement -/

/-- Settles O22: REQ where it is not taken and where it is, RSP_ACK with and without a restart behind it, EVT_ACK_N. -/
theorem doorbellAndEventAcknowledge : Obligations.DoorbellAndEventAcknowledge := by
  unfold Obligations.DoorbellAndEventAcknowledge
  refine ⟨fun s up busy => ?_, fun s m n up runs idle read is count fits quads crc flags fresh known => ?_, fun s up none => ?_,
    fun s x up some_ spi ready => ?_, fun s n up whole some_ absent => ?_⟩
  · rw [exec_mbxRequest, doorbellReq_overruns up busy]
  · subst count
    have long : m.length = 1024 := by simp [is, memReadBytes]
    obtain ⟨busy, clear, queue, kept, mbx⟩ := rung_gable s
    obtain ⟨w, taken⟩ := takeNow_queues_spi (s := rung s) long fits quads crc flags (by rw [kept]; exact fresh) known
    have longer := takeRequest_now (p := .spi) (m := m) (s := rung s) (.inr (by rw [taken]; simp))
    have rings := doorbellReq_takes up runs idle read
    rw [← is, longer, taken, queue] at rings
    exact ⟨_, (exec_mbxRequest s).trans (congrArg _ rings), busy, clear, mbx, rfl⟩
  · rw [exec_mbxResponseAck, doorbellAck_clears up none]
  · exact ⟨_, (exec_mbxResponseAck s).trans (congrArg _ (doorbellAck_hastens up some_ spi ready)), rfl, rfl⟩
  · exact ⟨_, (exec_mbxEventAck n s).trans (congrArg _ (doorbellEvt_takes up whole some_ absent)), rfl, rfl, rfl, rfl⟩

end Sys2Proof.Proofs
end

section
/-! PROOF. The download of a configuration: its begin, its blocks and its end (R257 to R260, R275; log entries 41, 42). -/

namespace Sys2Proof.Proofs

open Sys2Proof Sys2Proof.Machine Sys2Proof.Safety Sys2Proof.Laws

/-! ## CFG_BEGIN -/

theorem exec_cfgBegin (r : Req) (s : State) : exec (.cfgBegin r) s = .next (serve ccCfgBegin r
    (if s.mode = .configure then owned r (cfgBeginBody r) else heldBody ccCfgBegin r (owned r (cfgBeginBody r))) s) := rfl

theorem heldStep_cfgBegin {r : Req} {s : State} (held : s.gable.held = some (ccCfgBegin, r)) (up : s.gable.up = true) :
    heldStep s = heldEnd ccCfgBegin r (owned r (cfgBeginBody r)) s := by
  unfold heldStep
  rw [held]
  simp [up]

/-- The module with the candidate that a CFG_BEGIN opens, CONFIGURE asked for where it is not the mode already (R257). -/
def cfgBegun (r : Req) (s : State) : State :=
  { s with
    gable := { s.gable with
      cand := some (newCandidate r.port (r.num 0 4) (BitVec.ofNat 32 (r.num 4 4))), owner := some r.port, verify := none }
    want := if s.mode = .configure then none else some .configure }

theorem cfgBegin_owned {r : Req} {s : State} (own : ownedBy r.port s = true) (len : r.payload.length = 8) (least : 64 ≤ r.num 0 4)
    (most : r.num 0 4 ≤ 1048576) (words : r.num 0 4 % 4 = 0) (free : overtaken s = false) :
    owned r (cfgBeginBody r) s = (cfgBegun r s, answer stOk) := by
  rw [owned_of _ own]
  simp [cfgBeginBody, len, Nat.not_lt.2 least, Nat.not_lt.2 most, words, free, cfgBegun]

/-! ## CFG_BLOCK -/

theorem exec_cfgBlock (r : Req) (s : State) : exec (.cfgBlock r) s = .next (serve ccCfgBlock r (owned r (cfgBlockBody r)) s) := rfl

/-- The candidate with a block appended, range-checked and clamped (R258). -/
def withBlock (r : Req) (c : Candidate) : Candidate :=
  { c with data := c.data ++ r.payload.drop 4, clamps := clampsOf (Config.image (c.data ++ r.payload.drop 4)) }

section block
variable {r : Req} {s : State} {c : Candidate} (cand : s.gable.cand = some c) (owner : c.owner = r.port) (least : 8 ≤ r.payload.length)
  (most : r.payload.length ≤ 1012)
include cand owner least most

theorem cfgBlock_owned_inOrder (order : r.num 0 4 = c.data.length) (fits : c.data.length + (r.payload.length - 4) ≤ c.totalLen) :
    owned r (cfgBlockBody r) s = (setCand (some (withBlock r c)) s,
      answerOk (be 4 (withBlock r c).data.length ++ be 4 (withBlock r c).clamps.length)) := by
  rw [owned_of _ (ownedBy_cand cand owner)]
  simp [cfgBlockBody, cand, Nat.not_lt.2 least, Nat.not_lt.2 most, order, Nat.not_lt.2 fits, withBlock]

theorem cfgBlock_owned_outOfOrder (order : r.num 0 4 ≠ c.data.length) :
    owned r (cfgBlockBody r) s = (s, answer stOutOfOrder) := by
  rw [owned_of _ (ownedBy_cand cand owner)]
  simp [cfgBlockBody, cand, Nat.not_lt.2 least, Nat.not_lt.2 most, order]

end block

/-! ## CFG_END -/

theorem exec_cfgEnd (r : Req) (s : State) : exec (.cfgEnd r) s = .next (serve ccCfgEnd r (owned r (cfgEndBody r)) s) := rfl

/-- PAGE 0 on a candidate that has not ended makes the checks of R259. -/
theorem cfgEnd_owned {r : Req} {s : State} {c : Candidate} (cand : s.gable.cand = some c) (owner : c.owner = r.port)
    (open_ : c.ended = false) (len : r.payload.length = 4) (page : r.num 0 4 = 0) : owned r (cfgEndBody r) s = closeCand c s := by
  rw [owned_of _ (ownedBy_cand cand owner)]
  simp [cfgEndBody, len, cand, page, open_]

/-- CFG_END answers what the checks give, with the candidate that they leave. -/
theorem exec_cfgEnd_closes {r : Req} {s : State} {c : Candidate} {d : Option Candidate} {a : Answer} (ok : admits ccCfgEnd r s = true)
    (cand : s.gable.cand = some c) (owner : c.owner = r.port) (open_ : c.ended = false) (len : r.payload.length = 4)
    (page : r.num 0 4 = 0) (closes : closeCand c (touch r.port s) = (setCand d (touch r.port s), a)) (now : a.later = false) :
    ∃ t, exec (.cfgEnd r) s = .next t ∧ quietLogged s t ∧ t.gable.cand = d ∧ answered ccCfgEnd r a.st a.more a.payload t := by
  have acts := (cfgEnd_owned ((touch_cand r.port s).trans cand) owner open_ len page).trans closes
  obtain ⟨t, run, kept, core, rest, -⟩ := exec_answers (exec_cfgEnd r s) ok acts now
  obtain ⟨-, -, left, -⟩ := gable_of_core core
  refine ⟨t, run, (quietLogged_iff s t).2 (rest.trans ?_), left, kept⟩
  rw [← offService_touch s r.port]
  rfl

section close
variable {c : Candidate} (s : State)

theorem closeCand_incomplete (short : c.data.length ≠ c.totalLen ∨ crc32 c.data ≠ c.totalCrc) :
    closeCand c s = (setCand none s, answer stIncomplete) :=
  if_pos (by simpa using short)

variable (whole : c.data.length = c.totalLen) (crc : crc32 c.data = c.totalCrc)
include whole crc

theorem closeCand_digests (two : (Config.image c.data).ridgeDigest ≠ (Config.image c.data).thatchDigest) :
    closeCand c s = (setCand none s, answer stImageDigestMismatch) := by
  simp [closeCand, whole, crc, two, refuseCand, answer]

variable (one : (Config.image c.data).ridgeDigest = (Config.image c.data).thatchDigest)
include one

/-- A report of more than 4 096 entries breaks a structural condition of its own (R260). -/
theorem closeCand_crowded (many : 4096 < c.clamps.length) :
    closeCand c s = (setCand none s, { answer stStructure with payload := be 8 0 ++ be 4 4 }) := by
  simp [closeCand, whole, crc, one, many, refuseCand]

variable (few : c.clamps.length ≤ 4096)
include few

theorem closeCand_structure {p : W64 × Nat} (broken : structureFault (Config.image c.data) = some p) :
    closeCand c s = (setCand none s, { answer stStructure with payload := be 8 p.1.toNat ++ be 4 p.2 }) := by
  simp [closeCand, whole, crc, one, Nat.not_lt.2 few, broken, refuseCand]

/-- The candidate as CFG_END ends it, with the digest of its report (R260). -/
def endedCand (c : Candidate) (s : State) : Candidate :=
  { c with ended := true, digest := shaNum (c.clamps.flatMap clampBytes), endedAt := s.tb.count }

theorem closeCand_ends (sound : structureFault (Config.image c.data) = none) :
    closeCand c s = (setCand (some (endedCand c s)) s, reportPage (endedCand c s) 0) := by
  simp [closeCand, whole, crc, one, Nat.not_lt.2 few, sound, endedCand, reportDigest]

end close

/-- The first page of a clamp report (Table 11.7). -/
theorem reportPage_first (c : Candidate) : reportPage c 0 = { answerOk (be 4 c.clamps.length ++ be 32 c.digest.toNat ++ be 4 0
    ++ be 4 (min 40 c.clamps.length) ++ (c.clamps.take 40).flatMap clampBytes) with more := decide (40 < c.clamps.length) } := by
  simp [reportPage]

/-! ## The statement -/

/-- Settles O25: the begin in CONFIGURE and to its boundary, the blocks, and the end by the checks of R259 in their order. -/
theorem configurationDownload : Obligations.ConfigurationDownload := by
  unfold Obligations.ConfigurationDownload
  refine ⟨fun r s ok own len least most words free => ?_, fun r s now own len least most words mode => ?_,
    fun r s c ok cand owner least most order fits => ?_, fun r s c ok cand owner least most order => ?_,
    fun r s c ok cand owner open_ len page whole crc => ?_, fun r s c ok cand owner open_ len page short => ?_⟩
  · have begins := cfgBegin_owned (s := touch r.port s) ((ownedBy_touch ..).trans own) len least most words
      ((overtaken_touch ..).trans free)
    by_cases mode : s.mode = .configure
    · have runs := exec_cfgBegin r s
      rw [if_pos mode] at runs
      obtain ⟨t, run, kept, core, rest, -⟩ := exec_answers runs ok begins rfl
      obtain ⟨-, -, cand, verify⟩ := gable_of_core core
      have want : t.want = none := (congrArg State.want rest :).trans (if_pos (by simpa using mode))
      refine ⟨t, run, fun _ => ⟨(quietLogged_iff ..).2 ?_, kept, want, cand, verify⟩, fun other => absurd mode other⟩
      have same : offLog (offService { t with want := s.want }) = { offLog (offService (touch r.port s)) with want := s.want } :=
        (congrArg (fun u : State => { u with want := s.want }) rest :)
      rw [same, offService_touch]
      rfl
    · have runs := exec_cfgBegin r s
      rw [if_neg mode] at runs
      refine ⟨heldFor ccCfgBegin r (touch r.port s), runs.trans (congrArg _ ?_), fun is => absurd is mode,
        fun _ => holds_heldFor (inTurn_of_admits ok)⟩
      exact serve_later ok (heldBody_ok (by rw [begins]; rfl)) rfl
  · simp only [heldNow, Bool.and_eq_true, beq_iff_eq, Option.isNone_iff_eq_none] at now
    obtain ⟨⟨held, up⟩, checks⟩ := now
    rw [heldStep_cfgBegin held up]
    cases late : overtaken s with
    | true =>
      rw [heldEnd_overtaken _ _ _ late]
      obtain ⟨-, taken, cand, -⟩ := gable_of_core
        (gableCore_finish (unheld s) ccCfgBegin r (sessionOf r.port (unheld s)).level (answer stWrongMode))
      exact ⟨taken, by simp [unheld], by simp [unheld], by simp, fun _ => ⟨by simp [unheld], cand, answered_finish ..⟩⟩
    | false =>
      rw [heldEnd_acts late checks, cfgBegin_owned (s := unheld s) own len least most words late]
      obtain ⟨-, taken, cand, verify⟩ := gable_of_core
        (gableCore_finish (cfgBegun r (unheld s)) ccCfgBegin r (sessionOf r.port (unheld s)).level (answer stOk))
      exact ⟨taken, by simp [cfgBegun, unheld], by simp [cfgBegun, unheld],
        fun _ => ⟨by simp [cfgBegun, unheld, mode], verify, cand, answered_finish ..⟩, by simp⟩
  · obtain ⟨t, run, kept, core, -, rest⟩ := exec_answers (exec_cfgBlock r s) ok
      (cfgBlock_owned_inOrder (s := touch r.port s) ((touch_cand ..).trans cand) owner least most order fits) rfl
    obtain ⟨-, -, grown, -⟩ := gable_of_core core
    refine ⟨t, run, (quiet_iff s t).2 ((rest rfl).trans ?_), grown, kept⟩
    rw [← offService_touch s r.port]
    rfl
  · obtain ⟨t, run, kept, core, -, rest⟩ := exec_answers (exec_cfgBlock r s) ok
      (cfgBlock_owned_outOfOrder (s := touch r.port s) ((touch_cand ..).trans cand) owner least most order) rfl
    obtain ⟨-, -, same, -⟩ := gable_of_core core
    exact ⟨t, run, (quiet_iff s t).2 ((rest rfl).trans (offService_touch ..)), same.trans ((touch_cand ..).trans cand), kept⟩
  · have closed {d : Option Candidate} {a : Answer} := exec_cfgEnd_closes (d := d) (a := a) ok cand owner open_ len page
    by_cases one : (Config.image c.data).ridgeDigest = (Config.image c.data).thatchDigest
    · by_cases few : c.clamps.length ≤ 4096
      · cases fault : structureFault (Config.image c.data) with
        | some p =>
          obtain ⟨t, run, quiet, cand, kept⟩ := closed (closeCand_structure _ whole crc one few fault) rfl
          refine ⟨t, run, quiet, fun two => absurd one two, fun _ _ => ⟨fun q eq => ?_, fun none => nomatch none⟩⟩
          obtain rfl := Option.some.inj eq
          exact ⟨cand, kept⟩
        | none =>
          obtain ⟨t, run, quiet, cand, kept⟩ := closed
            ((closeCand_ends _ whole crc one few fault).trans (congrArg _ (reportPage_first _))) rfl
          refine ⟨t, run, quiet, fun two => absurd one two, fun _ _ => ⟨fun _ => nofun, fun _ => ⟨?_, kept⟩⟩⟩
          simp only [cand, endedCand, touch_frame]
      · obtain ⟨t, run, quiet, -⟩ := closed (closeCand_crowded _ whole crc one (Nat.not_le.1 few)) rfl
        exact ⟨t, run, quiet, fun two => absurd one two, fun _ fits => absurd fits few⟩
    · obtain ⟨t, run, quiet, cand, kept⟩ := closed (closeCand_digests _ whole crc one) rfl
      exact ⟨t, run, quiet, fun _ => ⟨cand, kept⟩, fun same => absurd same one⟩
  · obtain ⟨t, run, quiet, cand, kept⟩ := exec_cfgEnd_closes ok cand owner open_ len page (closeCand_incomplete _ short) rfl
    exact ⟨t, run, quiet, cand, kept⟩

end Sys2Proof.Proofs
end

section
/-! PROOF. COMMIT: its refusals, its flash steps to the end and cut, and the restart behind it (R263 to R265, R280, R319, Table 11.9; log
entry 20). -/

namespace Sys2Proof.Proofs

open Sys2Proof Sys2Proof.Machine Sys2Proof.Safety Sys2Proof.Laws

/-! ## The flash steps of Table 11.9 -/

section steps
variable {bank : State → State} (code : BitVec 16) (r : Req) (before after arg : List Byte)

@[simp] theorem offLog_commitEntry (kind : Nat) (s : State) : offLog (commitEntry code r kind before after arg s) = offLog s :=
  offLog_logWrite _ s

/-- The entries apart, the steps leave what the writing of the bank leaves. -/
theorem offLog_flashSteps (k : Nat) (s : State) (blind : ∀ t, offLog (bank t) = bank (offLog t)) :
    offLog (flashSteps code r k before after arg bank s) = bank (offLog s) := by
  unfold flashSteps
  dsimp only
  (repeat' split) <;> simp only [offLog_commitEntry, blind]

/-- The steps to the end write two entries (Table 11.9). -/
theorem flashSteps_nextCount {s : State} (sd : s.pwr.shutdown = none)
    (keeps : ∀ t, (bank t).bk = t.bk ∧ (bank t).pwr = t.pwr) :
    (flashSteps code r 5 before after arg bank s).bk.nextCount = s.bk.nextCount + 2 := by
  have entry (kind : Nat) (t : State) (calm : t.pwr.shutdown = none) :
      (commitEntry code r kind before after arg t).bk.nextCount = t.bk.nextCount + 1 := by
    rw [commitEntry, logWrite_open _ calm, logNext_nextCount]
  obtain ⟨bk, pwr⟩ := keeps (commitEntry code r 1 before after arg s)
  change (commitEntry code r 2 before after arg (bank (commitEntry code r 1 before after arg s))).bk.nextCount = _
  rw [entry _ _ (by rw [pwr]; simpa [commitEntry] using sd), bk, entry _ _ sd, BitVec.add_assoc]
  rfl

end steps

/-- The restart behind them is due 1 s after the response (R264). -/
theorem restart_restartDue (kind : RestartKind) (p : Port) {s t : State} (tb : t.tb = s.tb) :
    (restartDue kind p t).restart = some { kind := kind, port := p, due := s.tb.count + 100000000 } := by
  rw [← tb]
  rfl

/-! ## A bank as the steps leave it -/

/-- A generation that a COMMIT programs is none of the two that erased flash can be taken for. -/
theorem nextGen_ne_zero (a b : Bank) : BitVec.ofNat 32 (nextGen a b) ≠ 0 := by
  have below (x : Bank) : (if x.validGen then x.gen.toNat else 0) < 2 ^ 32 - 1 := by
    split
    · next valid =>
      simp only [Bank.validGen, Bool.and_eq_true, bne_iff_ne] at valid
      have whole : x.gen.toNat ≠ 2 ^ 32 - 1 := fun h => valid.1 (BitVec.eq_of_toNat_eq h)
      have := x.gen.isLt
      omega
    · decide
  have hA := below a
  have hB := below b
  intro zero
  have sum := congrArg BitVec.toNat zero
  rw [BitVec.toNat_ofNat, nextGen] at sum
  change _ = 0 at sum
  omega

section bank
variable {k g : Nat} (crc : W32) (img : List Byte)

/-- Before its GEN and GEN_N both stand, the bank has no valid generation (R264). -/
theorem bankAfter_torn (few : k < 4) (set : BitVec.ofNat 32 g ≠ 0) : (bankAfter k g crc img).validGen = false := by
  unfold bankAfter
  split
  · rfl
  split
  · rfl
  rw [if_pos (by omega)]
  refine Bool.and_eq_false_iff.2 (.inr (beq_eq_false_iff_ne.2 fun torn => set ?_))
  have back := congrArg (~~~ ·) torn
  simpa [Bank.erased] using back.symm

theorem bankAfter_image (some_ : 1 ≤ k) : (bankAfter k g crc img).image = img := by
  unfold bankAfter
  rw [if_neg (by omega)]
  (repeat' split) <;> rfl

theorem bankAfter_whole (all : 4 ≤ k) : bankAfter k g crc img = committedBank g crc img := by
  unfold bankAfter
  rw [if_neg (by omega), if_neg (by omega), if_neg (by omega)]

end bank

/-! ## COMMIT -/

theorem exec_commit (r : Req) (run : FlashRun) (s : State) :
    exec (.commit r run) s = .next (serve ccCommit r (owned r (commitBody r run)) s) := rfl

/-- Is the inactive configuration bank bank B? -/
def inactiveIsB (s : State) : Bool := s.active.valid && !s.active.bankB

theorem offLog_setCfgInactive (b : Bank) (s : State) : offLog (setCfgInactive b s) = setCfgInactive b (offLog s) := by
  have active : (offLog s).active = s.active := rfl
  unfold setCfgInactive
  rw [active]
  cases s.active.valid && !s.active.bankB <;> rfl

/-- The bank that a COMMIT has written with its first `k` steps. -/
def commitBank (k : Nat) (c : Candidate) (s : State) : Bank := bankAfter k (nextGen s.flash.cfgA s.flash.cfgB) c.totalCrc c.data

/-- The module after the first `k` steps of a COMMIT. -/
def committed (r : Req) (k : Nat) (c : Candidate) (s : State) : State :=
  flashSteps ccCommit r k (if s.active.valid then digest8 (activeBytes s) else []) (digest8 c.data)
    (commitArg (nextGen s.flash.cfgA s.flash.cfgB) (inactiveIsB s) c.totalCrc) (setCfgInactive (commitBank k c s)) s

theorem offLog_committed (r : Req) (k : Nat) (c : Candidate) (s : State) :
    offLog (committed r k c s) = setCfgInactive (commitBank k c s) (offLog s) :=
  offLog_flashSteps _ _ _ _ _ _ _ (offLog_setCfgInactive _)

/-- The inactive bank is written, and nothing else but the log. -/
theorem committed_frame (r : Req) (k : Nat) (c : Candidate) (s : State) :
    (committed r k c s).flash.cfgA = (if inactiveIsB s then s.flash.cfgA else commitBank k c s) ∧
      (committed r k c s).flash.cfgB = (if inactiveIsB s then commitBank k c s else s.flash.cfgB) ∧
      (committed r k c s).gable = s.gable ∧ (committed r k c s).active = s.active ∧ (committed r k c s).restart = s.restart ∧
      (committed r k c s).tb = s.tb := by
  have off := offLog_committed r k c s
  have flash : (offLog (committed r k c s)).flash = (setCfgInactive (commitBank k c s) (offLog s)).flash := congrArg State.flash off
  unfold inactiveIsB
  refine ⟨(congrArg Flash.cfgA flash :).trans ?_, (congrArg Flash.cfgB flash :).trans ?_, (congrArg State.gable off :),
    (congrArg State.active off :), (congrArg State.restart off :), (congrArg State.tb off :)⟩
  all_goals
    have active : (offLog s).active = s.active := rfl
    rw [setCfgInactive, active]
    cases s.active.valid && !s.active.bankB <;> rfl

/-- The inactive bank stands as the steps have left it. -/
theorem committed_inactive (r : Req) (k : Nat) (c : Candidate) (s : State) :
    (if inactiveIsB s then (committed r k c s).flash.cfgB else (committed r k c s).flash.cfgA) = commitBank k c s := by
  obtain ⟨bankA, bankB, -⟩ := committed_frame r k c s
  rw [bankA, bankB]
  cases inactiveIsB s <;> rfl

/-- The active bank stays. -/
theorem committed_active (r : Req) (k : Nat) (c : Candidate) (s : State) :
    if inactiveIsB s then (committed r k c s).flash.cfgA = s.flash.cfgA else (committed r k c s).flash.cfgB = s.flash.cfgB := by
  obtain ⟨bankA, bankB, -⟩ := committed_frame r k c s
  rw [bankA, bankB]
  cases inactiveIsB s <;> rfl

theorem committed_nextCount (r : Req) (c : Candidate) {s : State} (sd : s.pwr.shutdown = none) :
    (committed r 5 c s).bk.nextCount = s.bk.nextCount + 2 :=
  flashSteps_nextCount _ _ _ _ _ sd fun _ => ⟨rfl, rfl⟩

section body
variable {r : Req} {s : State} (len : r.payload.length = 36)
include len

theorem commit_owned_refused {st : Byte} (run : FlashRun) (own : ownedBy r.port s = true) (refused : commitRefusal r s = some st) :
    owned r (commitBody r run) s = (s, answer st) := by
  rw [owned_of _ own]
  simp [commitBody, len, refused]

variable {c : Candidate} (cand : s.gable.cand = some c) (owner : c.owner = r.port) (passes : commitRefusal r s = none)
include cand owner passes

theorem commit_owned_done : owned r (commitBody r .done) s = (restartDue .commit r.port (committed r 5 c s),
    { answerOk (be 4 (nextGen s.flash.cfgA s.flash.cfgB) ++ be 1 (if inactiveIsB s then 1 else 0)) with wrote := true }) := by
  rw [owned_of _ (ownedBy_cand cand owner), commitBody, passes, cand]
  exact if_neg (by simp [len])

theorem commit_owned_cut (k : Fin 6) :
    owned r (commitBody r (.cut k)) s = (dequeue ccCommit r (committed r k.val c s), answerLater) := by
  rw [owned_of _ (ownedBy_cand cand owner), commitBody, passes, cand]
  exact if_neg (by simp [len])

end body

theorem commitRefusal_touch (r : Req) (p : Port) (s : State) : commitRefusal r (touch p s) = commitRefusal r s :=
  touch_reads (commitRefusal r) p s fun _ _ _ _ _ => rfl

/-- No request is admitted after the start of an ordered shutdown (R318). -/
theorem calm_of_admits {code : BitVec 16} {r : Req} {s : State} (h : admits code r s = true) : s.pwr.shutdown = none := by
  simp only [admits, serves, Bool.and_eq_true, Option.isNone_iff_eq_none] at h
  obtain ⟨⟨⟨⟨-, calm⟩, -⟩, -⟩, -⟩ := h
  exact calm

/-- The arrival of a request is Gable's alone. -/
theorem touch_eq (p : Port) (s : State) : ∃ g, touch p s = { s with gable := g } := by
  unfold touch
  dsimp only
  split <;> cases p <;> exact ⟨_, rfl⟩

/-- A command that is cut has answered nothing (R264, R266). -/
theorem keptOf_dequeue (p : Port) (code : BitVec 16) (r : Req) (s : State) : keptOf p (dequeue code r s) = keptOf p s := by
  cases p <;> rfl

theorem keptOf_congr {s t : State} (p : Port) (h : t.gable = s.gable) : keptOf p t = keptOf p s := by
  cases p <;> simp only [keptOf, h]

end Sys2Proof.Proofs
end

section
/-! PROOF. The restart into SELFTEST behind a COMMIT, and the statement (R264, R265, R280, R319). -/

namespace Sys2Proof.Proofs

open Sys2Proof Sys2Proof.Machine Sys2Proof.Safety Sys2Proof.Laws

/-! ## The banks and the candidate -/

/-- Flash without the log, and the candidate. -/
def banksOf (s : State) : Flash × Option Candidate := ({ s.flash with log := [] }, s.gable.cand)

section banks
variable (s : State)

@[simp] theorem banksOf_listFault (e : FaultEntry) : banksOf (listFault e s) = banksOf s := by simp [banksOf]

@[simp] theorem banksOf_postEvent (kind : Nat) (code : BitVec 16) (arg : W32) : banksOf (postEvent kind code arg s) = banksOf s := by
  obtain ⟨-, -, cand, -⟩ := gable_of_core (gableCore_postEvent s kind code arg)
  simp [banksOf, cand]

@[simp] theorem banksOf_logWrite (f : LogFields) : banksOf (logWrite f s) = banksOf s := by unfold logWrite; split <;> rfl

@[simp] theorem banksOf_logEvent (code : BitVec 16) (arg : List Byte) : banksOf (logEvent code arg s) = banksOf s := by
  unfold logEvent
  split
  · exact banksOf_logWrite ..
  · rfl

@[simp] theorem banksOf_classH (code : BitVec 16) (arg : W32) : banksOf (classH code arg s) = banksOf s := by
  have told := banksOf_logEvent s 0xE002 (be 2 code.toNat ++ be 4 arg.toNat)
  unfold classH
  split
  · rfl
  · extract_lets t _ u
    have cause : banksOf u = banksOf s := by unfold u; split <;> exact told
    split <;> exact cause

/-- A fault raised writes the log at most. -/
@[simp] theorem banksOf_raise (code : BitVec 16) (n : Nat) : banksOf (raise code n s) = banksOf s := by
  unfold raise raiseW
  split
  · rfl
  split
  · unfold foundAgain; split <;> rfl
  have posted (e : FaultEntry) : banksOf (postEvent 0 code (BitVec.ofNat 32 n) (listFault e s)) = banksOf s :=
    (banksOf_postEvent ..).trans (banksOf_listFault ..)
  dsimp only
  split
  · rw [banksOf_classH]
    split <;> exact posted _
  · split <;> exact posted _

@[simp] theorem banksOf_dropFault (e : FaultEntry) : banksOf (dropFault e s) = banksOf s := by
  unfold dropFault
  rw [banksOf_postEvent]
  split <;> rfl

@[simp] theorem banksOf_clearWhere (p : FaultEntry → Bool) : banksOf (clearWhere p s) = banksOf s :=
  foldl_keeps banksOf _ (fun t e => banksOf_dropFault t e) _ s

@[simp] theorem banksOf_clearFault (code : BitVec 16) (obj : Nat) : banksOf (clearFault code obj s) = banksOf s := by
  unfold clearFault
  split
  · rfl
  · exact banksOf_clearWhere ..

@[simp] theorem banksOf_setMode (m : Mode) : banksOf (setMode m s) = banksOf s := by
  unfold setMode
  split
  · rfl
  · have told (t : State) : banksOf (logEvent 0xE001 (be 1 s.mode.code ++ be 1 m.code) t) = banksOf t := banksOf_logEvent ..
    dsimp only
    split <;> exact (told _).trans (banksOf_postEvent ..)

end banks

/-! ## The configuration loaded (R265) -/

/-- What the loading of a configuration leaves: the banks, the timebase, the domains. -/
def loadView (s : State) : (Flash × Option Candidate) × Timebase × Power := (banksOf s, s.tb, s.pwr)

section load
variable (s : State)

@[simp] theorem loadView_raise (code : BitVec 16) (n : Nat) : loadView (raise code n s) = loadView s := by simp [loadView]

@[simp] theorem loadView_clearFault (code : BitVec 16) (n : Nat) : loadView (clearFault code n s) = loadView s := by simp [loadView]

@[simp] theorem loadView_logEvent (code : BitVec 16) (arg : List Byte) : loadView (logEvent code arg s) = loadView s := by simp [loadView]

@[simp] theorem loadView_logWrite (f : LogFields) : loadView (logWrite f s) = loadView s := by simp [loadView]

theorem loadView_loadConfig : loadView (loadConfig s) = loadView s := by
  have active (t : State) (a : Active) : loadView { t with active := a } = loadView t := rfl
  unfold loadConfig
  extract_lets sel cls used abandoned torn
  have first : loadView abandoned = loadView s := by
    unfold abandoned
    split
    · exact loadView_logEvent ..
    · rfl
  have second : loadView torn = loadView s := by
    rw [← first]
    unfold torn
    split
    · split
      · rfl
      · exact loadView_logEvent ..
    · rfl
  split
  · rw [loadView_raise, active, second]
  · extract_lets img settled noted
    have third : loadView noted = loadView s := by
      rw [← second]
      unfold noted
      split
      · exact loadView_logWrite ..
      · rfl
    split
    · rw [loadView_raise, active, third]
    · rw [loadView_clearFault, active, third]

theorem loadView_sealCheck : loadView (sealCheck s) = loadView s ∧ (sealCheck s).active = s.active := by
  unfold sealCheck
  dsimp only
  (repeat' split) <;> simp [loadView]

/-- The bank that R265 selects is loaded, if its firmware class is the module's. -/
theorem loadConfig_active {b : Bool × Bank} (sel : (chooseCfg s).1 = some b) (valid : (loadConfig s).active.valid = true) :
    (loadConfig s).active.bankB = b.1 ∧ (loadConfig s).active.gen = b.2.gen ∧ (loadConfig s).active.crc = b.2.crc := by
  revert valid
  unfold loadConfig
  extract_lets chosen cls used abandoned torn
  split
  · next is => exact absurd (sel.symm.trans is) nofun
  · next x is =>
    obtain rfl : b = x := Option.some.inj (sel.symm.trans is)
    extract_lets img settled noted
    split <;> simp [State.reset]

end load

/-! ## The entry into SELFTEST -/

/-- What an entry into SELFTEST settles beside the mode: banks and candidate, timebase, configuration, tick generators, reset levels. -/
def entryView (s : State) : (Flash × Option Candidate) × Timebase × Active × Bool × Bool × Bool :=
  (banksOf s, s.tb, s.active, s.tick.running, s.laneP.resetLevel, s.laneT.resetLevel)

/-- As it settles them: no candidate, the tick running, both lanes under the reset level (R280). -/
def entered (s : State) : (Flash × Option Candidate) × Timebase × Active × Bool × Bool × Bool :=
  (({ s.flash with log := [] }, none), s.tb, s.active, true, true, true)

section entry
variable (s : State)

@[simp] theorem entryView_raise (code : BitVec 16) (n : Nat) : entryView (raise code n s) = entryView s := by simp [entryView]

theorem entryView_cvuCheck (u : Fin 4) (sound : Bool) :
    entryView (cvuCheck u sound s) = entryView s ∧ (cvuCheck u sound s).pwr = s.pwr := by
  rw [cvuCheck_eq, setFault]
  split <;> simp [entryView] <;> rfl

theorem entryView_slateHard : entryView (slateHard s) = entryView s ∧ (slateHard s).pwr = s.pwr := by
  have step (c : Prop) [Decidable c] (n : Nat) (t : State) : entryView (if c then raise fcSlateFault n t else t) = entryView t ∧
      (if c then raise fcSlateFault n t else t).pwr = t.pwr := by split <;> simp
  simp only [slateHard, step, and_self]

theorem entryView_gableBack : entryView (gableBack s) = entryView s ∧ (gableBack s).pwr = s.pwr := by
  have up : entryView (setGableUp true s) = entryView s ∧ (setGableUp true s).pwr = s.pwr := by unfold setGableUp; split <;> exact ⟨rfl, rfl⟩
  unfold gableBack
  split
  · exact ⟨rfl, rfl⟩
  · exact ⟨(foldl_keeps entryView _ (fun t e => by simp [entryView, banksOf]) _ _).trans up.1,
      (foldl_keeps State.pwr _ (fun t e => by simp) _ _).trans up.2⟩

theorem entryView_timeStart : entryView (timeStart s) = entryView s ∧ (timeStart s).pwr = s.pwr := by
  unfold timeStart timeFaults
  (repeat' split) <;> simp [entryView]

theorem loadMargins_keeps : (loadMargins s).tb = s.tb ∧ (loadMargins s).active = s.active ∧ (loadMargins s).flash = s.flash := by
  unfold loadMargins
  dsimp only
  split <;> exact ⟨rfl, rfl, rfl⟩

/-- SELFTEST is entered with the domains that the configuration uses. -/
theorem entryView_startSelftest : entryView (startSelftest s) = entered s ∧ (startSelftest s).pwr.domains = domainsFor s.active.image := by
  obtain ⟨tb, active, flash⟩ := loadMargins_keeps (clearWhere restartClears s)
  unfold startSelftest
  extract_lets t cfg
  have settled (u : State) : entryView (setMode .selftest (timeStart u)) = entryView u ∧
      (setMode .selftest (timeStart u)).pwr = u.pwr := by
    obtain ⟨view, pwr⟩ := entryView_timeStart u
    exact ⟨(by simp [entryView] : _ = entryView (timeStart u)).trans view, (by simp : _ = (timeStart u).pwr).trans pwr⟩
  simp only [entryView_slateHard, entryView_gableBack, settled]
  have fresh : t.tb = s.tb ∧ t.active = s.active ∧ t.flash = s.flash := by simp [t, tb, active, flash]
  obtain ⟨tb, active, flash⟩ := fresh
  have cfg_eq : cfg = s.active.image := congrArg Active.image active
  clear_value t cfg
  subst cfg_eq
  simp [entryView, entered, banksOf, tb, active, flash, laneReset, LaneFc.reset]

variable {s}

/-- A domain that stops leaves them so. -/
theorem entered_domainStops {t : State} (dom : Nat) (h : entryView t = entered s) : entryView (domainStops dom t) = entered s := by
  rw [← h]
  simp only [entryView, entered, Prod.mk.injEq] at h
  obtain ⟨-, -, -, -, levelP, levelT⟩ := h
  unfold domainStops
  split
  case h_2 => simp [entryView, banksOf, laneReset, LaneFc.reset, levelP, levelT]
  all_goals rfl

theorem entered_domainOff {t : State} (dom : Nat) (h : entryView t = entered s) : entryView (domainOff t dom) = entered s :=
  entered_domainStops dom h

theorem entered_regulatorAct {t : State} (dom : Nat) (h : entryView t = entered s) : entryView (regulatorAct dom t) = entered s := by
  have stops : entryView (domainStops dom (regulatorEvt t)) = entered s := entered_domainStops dom h
  unfold regulatorAct
  dsimp only
  split <;> rw [entryView_raise] <;> exact stops

theorem entered_bootRegulators {t : State} (bad : BitVec 10) (h : entryView t = entered s) :
    entryView (bootRegulators bad t) = entered s := by
  unfold bootRegulators
  split
  · exact h
  · next dom rest fail =>
    refine entered_regulatorAct _ ?_
    clear fail
    induction rest generalizing t with
    | nil => exact h
    | cons d rest ih => exact ih (entered_domainOff d h)

variable (s)

/-- The vectors of the units that start again concern the units alone. -/
theorem vectors_keep (units : List (Fin 4)) (t : State) :
    entryView (units.foldl (fun u k => cvuCheck k (Config.cvuSound u.free) u) t) = entryView t ∧
      (units.foldl (fun u k => cvuCheck k (Config.cvuSound u.free) u) t).pwr = t.pwr :=
  ⟨foldl_keeps entryView _ (fun u k => (entryView_cvuCheck u k _).1) _ _, foldl_keeps State.pwr _ (fun u k => (entryView_cvuCheck u k _).2) _ _⟩

theorem entryView_selftestAgain : entryView (selftestAgain s) = entered s :=
  (vectors_keep _ _).1.trans (entered_bootRegulators _ (entryView_startSelftest s).1)

/-- Where every domain that the configuration uses is on, no regulator has to come up, and none fails (R319). -/
theorem selftestAgain_domains (on_ : ∀ k : Fin 10, (domainsFor s.active.image).getLsbD k = true → s.pwr.domains.getLsbD k = true) :
    (selftestAgain s).pwr.domains = domainsFor s.active.image := by
  obtain ⟨-, domains⟩ := entryView_startSelftest s
  have none_ : domainsFail (restartBad s) (startSelftest s).pwr.domains = [] := by
    rw [domainsFail, List.dropWhile_eq_nil_iff]
    intro k used
    rw [List.mem_filter, domains] at used
    obtain ⟨boot, used⟩ := used
    have small : k < 10 := (by decide : ∀ k ∈ bootDomains, k < 10) k boot
    have up := on_ ⟨k, small⟩ used
    simp [restartBad, getLsbD_bitsOf _ small, up]
  have same : bootRegulators (restartBad s) (startSelftest s) = startSelftest s := by rw [bootRegulators, none_]
  unfold selftestAgain
  dsimp only
  rw [(vectors_keep _ _).2, same, domains]

end entry

/-- The restart behind a COMMIT begins with the configuration that R265 selects. -/
theorem commitRestart_view (s : State) : ∃ u, commitRestart s = selftestAgain u ∧ loadView u = loadView s ∧
    u.active = (loadConfig { s with restart := none }).active := by
  have load := loadView_loadConfig { s with restart := none }
  have check := loadView_sealCheck { loadConfig { s with restart := none } with
    tick := { (loadConfig { s with restart := none }).tick with sel := tickSelOf (loadConfig { s with restart := none }) } }
  exact ⟨_, rfl, check.1.trans load, check.2⟩

/-- Once due, it comes (R264). -/
theorem exec_commitRestart_commit {s : State} {x : RestartDue} (res : s.restart = some x) (kind : x.kind = .commit)
    (time : x.due.toNat ≤ s.tb.count.toNat) (sd : s.pwr.shutdown = none) (live : tableStill s = false) :
    exec .commitRestart s = .next (commitRestart s) := by
  change execCommitRestart s = _
  simp [execCommitRestart, res, kind, due, time, sd, live]

/-! ## The statement -/

/-- Settles O28: the refusal, the steps to the end and cut, and the restart. -/
theorem commitWritesTheInactiveBank : Obligations.CommitWritesTheInactiveBank := by
  unfold Obligations.CommitWritesTheInactiveBank
  refine ⟨fun r run s st ok own len refused => ?_, fun r s c ok cand owner len passes => ?_,
    fun r k s c ok cand owner len passes => ?_, fun s x res kind time sd live => ?_⟩
  · obtain ⟨t, acts, kept, core, quiet⟩ := exec_answers_only (exec_commit r run s) ok (commit_owned_refused len run
      ((ownedBy_touch ..).trans own) ((commitRefusal_touch ..).trans refused)) rfl
    obtain ⟨-, -, same, -⟩ := gable_of_core core
    exact ⟨t, acts, quiet, same.trans (touch_cand ..), kept⟩
  · obtain ⟨g, arrived⟩ := touch_eq r.port s
    have acts := commit_owned_done (s := touch r.port s) len ((touch_cand ..).trans cand) owner ((commitRefusal_touch ..).trans passes)
    obtain ⟨t, run, kept, -, -, rest⟩ := exec_answers (exec_commit r .done s) ok acts rfl
    have rest := rest (Bool.and_false _)
    rw [arrived] at kept rest
    obtain ⟨bankA, bankB, -, active, -, tb⟩ := committed_frame r 5 c { s with gable := g }
    have calm := calm_of_admits ok
    have count := committed_nextCount (s := { s with gable := g }) r c calm
    exact ⟨t, run, (congrArg (fun u => u.flash.cfgB) rest :).trans bankB, (congrArg (fun u => u.flash.cfgA) rest :).trans bankA,
      (congrArg State.restart rest :).trans (restart_restartDue _ _ tb), (congrArg (fun u => u.bk.nextCount) rest :).trans count,
      (congrArg State.active rest :).trans active, kept⟩
  · obtain ⟨g, arrived⟩ := touch_eq r.port s
    obtain ⟨-, -, -, -, -, -, touchKept, -⟩ := touch_gable r.port s
    have acts := commit_owned_cut (s := touch r.port s) len ((touch_cand ..).trans cand) owner ((commitRefusal_touch ..).trans passes) k
    have run := (exec_commit r (.cut k) s).trans (congrArg _ (serve_later ok acts rfl))
    obtain ⟨-, -, gable, active, restart, -⟩ := committed_frame r k.val c (touch r.port s)
    have kept := ((keptOf_dequeue r.port ccCommit r _).trans (keptOf_congr r.port gable)).trans (touchKept r.port)
    have written := committed_inactive r k.val c (touch r.port s)
    have stays := committed_active r k.val c (touch r.port s)
    rw [arrived] at run kept written stays active restart
    have set : BitVec.ofNat 32 (nextGen s.flash.cfgA s.flash.cfgB) ≠ 0 := nextGen_ne_zero _ _
    refine ⟨_, run, stays, fun few => ?_, fun zero => ?_, fun some_ => ?_, fun all => ?_, restart, kept, active⟩
    · exact (congrArg Bank.validGen written :).trans (bankAfter_torn _ _ few set)
    · exact (written :).trans (by rw [commitBank, zero]; rfl)
    · exact (congrArg Bank.image written :).trans (bankAfter_image _ _ some_)
    · have whole := written.trans (bankAfter_whole _ _ all)
      exact ⟨(congrArg Bank.genN whole :).trans (congrArg (~~~ ·) (congrArg Bank.gen whole :).symm), (congrArg Bank.isBooted whole :)⟩
  · obtain ⟨u, again, view, loaded⟩ := commitRestart_view s
    obtain ⟨viewBanks, viewTb, viewPwr⟩ : banksOf u = banksOf s ∧ u.tb = s.tb ∧ u.pwr = s.pwr := by simpa [loadView] using view
    have mode := restartView_selftestAgain u
    obtain ⟨banks, tb, active, running, levelP, levelT⟩ : banksOf (selftestAgain u) = ({ u.flash with log := [] }, none) ∧
        (selftestAgain u).tb = u.tb ∧ (selftestAgain u).active = u.active ∧ (selftestAgain u).tick.running = true ∧
        (selftestAgain u).laneP.resetLevel = true ∧ (selftestAgain u).laneT.resetLevel = true := by
      simpa [entryView, entered] using entryView_selftestAgain u
    refine ⟨_, (exec_commitRestart_commit res kind time sd live).trans (congrArg _ again), congrArg Prod.fst mode, congrArg Prod.snd mode,
      congrArg Prod.snd banks, running, tb.trans viewTb, levelP, levelT, fun on_ => ?_, ?_, ?_, fun b sel valid => ?_⟩
    · rw [active] at on_ ⊢
      exact selftestAgain_domains u fun k used => viewPwr ▸ on_ k used
    · exact (congrArg (fun x => x.1.cfgA) banks :).trans (congrArg (fun x => x.1.cfgA) viewBanks :)
    · exact (congrArg (fun x => x.1.cfgB) banks :).trans (congrArg (fun x => x.1.cfgB) viewBanks :)
    · rw [active, loaded] at valid ⊢
      exact loadConfig_active _ sel valid

end Sys2Proof.Proofs
end

section
/-! PROOF. Firmware: the blocks, the activation to the end and cut, and the restart into BOOT (R258, R266, R277, Table 11.9; log entries 20,
48, 49). -/

namespace Sys2Proof.Proofs

open Sys2Proof Sys2Proof.Machine Sys2Proof.Safety Sys2Proof.Laws

/-! ## What the arrival of a request leaves of the firmware -/

@[simp] theorem touch_firmware (p : Port) (s : State) :
    (touch p s).gable.fwData = s.gable.fwData ∧ (touch p s).gable.fwActive = s.gable.fwActive :=
  ⟨touch_reads (fun t => t.gable.fwData) p s fun _ _ _ _ _ => rfl, touch_reads (fun t => t.gable.fwActive) p s fun _ _ _ _ _ => rfl⟩

/-- The firmware bank that is not in use, with a new content. -/
theorem setFwInactive_banks (b : Bank) (s : State) : ((setFwInactive b s).flash.fwA, (setFwInactive b s).flash.fwB) =
    if s.gable.fwActive then (b, s.flash.fwB) else (s.flash.fwA, b) := by
  unfold setFwInactive
  cases s.gable.fwActive <;> rfl

/-- The bank in use stays. -/
theorem setFwInactive_other (b : Bank) (s : State) :
    if s.gable.fwActive then (setFwInactive b s).flash.fwB = s.flash.fwB else (setFwInactive b s).flash.fwA = s.flash.fwA := by
  unfold setFwInactive
  cases s.gable.fwActive <;> rfl

theorem offLog_setFwInactive (b : Bank) (s : State) : offLog (setFwInactive b s) = setFwInactive b (offLog s) := by
  have active : (offLog s).gable = s.gable := rfl
  unfold setFwInactive
  rw [active]
  cases s.gable.fwActive <;> rfl

/-! ## FW_UPDATE_BLOCK -/

theorem exec_fwUpdateBlock (r : Req) (ok : Bool) (s : State) :
    exec (.fwUpdateBlock r ok) s = .next (serve ccFwUpdateBlock r (fwBlockBody r ok) s) := rfl

/-- A block in order writes the bank that is not in use, its generation erased (R266). -/
theorem fwBlock_writes {r : Req} {s : State} (least : 8 ≤ r.payload.length) (most : r.payload.length ≤ 1012)
    (order : r.num 0 4 = s.gable.fwData.length) (header : 32 ≤ (s.gable.fwData ++ r.payload.drop 4).length)
    (fits : (s.gable.fwData ++ r.payload.drop 4).length ≤ fwLength (s.gable.fwData ++ r.payload.drop 4)) :
    ∃ t a, fwBlockBody r true s = (t, a) ∧ t.gable.fwData = s.gable.fwData ++ r.payload.drop 4 ∧
      t.flash = (setFwInactive { Bank.erased with image := s.gable.fwData ++ r.payload.drop 4 } s).flash ∧
      a.st = stOk ∧ a.more = false ∧ a.later = false ∧ a.payload = be 4 (s.gable.fwData ++ r.payload.drop 4).length := by
  unfold fwBlockBody
  extract_lets data have_ d
  rw [if_neg (by simp; omega), if_neg (by simp [order, have_]), if_neg (by simp [d, have_, data] at *; omega), if_neg (by decide)]
  exact ⟨_, _, rfl, rfl, rfl, rfl, rfl, rfl, rfl⟩

/-! ## FW_ACTIVATE -/

theorem exec_fwActivate (r : Req) (run : FlashRun) (s : State) :
    exec (.fwActivate r run) s = .next (serve ccFwActivate r (fwActivateBody r run) s) := rfl

/-- The writing of the bank as far as the first `k` steps reach it: its image stands there already (R266). -/
def fwWritten (k : Nat) (s : State) : State → State :=
  if k < 3 then id
  else setFwInactive (bankAfter k (nextGen s.flash.fwA s.flash.fwB) (fwCrc s.gable.fwData) s.gable.fwData)

/-- The flash steps of an FW_ACTIVATE, the first `k` of them. -/
def fwSteps (r : Req) (k : Nat) (s : State) : State :=
  flashSteps ccFwActivate r k (digest8 (if s.gable.fwActive then s.flash.fwB else s.flash.fwA).image) (digest8 s.gable.fwData)
    (commitArg (nextGen s.flash.fwA s.flash.fwB) (!s.gable.fwActive) (fwCrc s.gable.fwData)) (fwWritten k s) s

/-- The module after them: with its generation in place the bank has its attempts before it (log entry 49). -/
def activated (r : Req) (k : Nat) (s : State) : State :=
  if 4 ≤ k then { fwSteps r k s with bk := { (fwSteps r k s).bk with fwAttempts := 0 } } else fwSteps r k s

theorem activateSteps_done (r : Req) (s : State) : activateSteps r .done s = (restartDue .fwActivate r.port (activated r 5 s),
    { answerOk (be 4 (nextGen s.flash.fwA s.flash.fwB) ++ be 1 (if !s.gable.fwActive then 1 else 0)) with wrote := true }) := rfl

theorem activateSteps_cut (r : Req) (k : Fin 6) (s : State) :
    activateSteps r (.cut k) s = (dequeue ccFwActivate r (activated r k.val s), answerLater) := rfl

theorem offLog_fwSteps (r : Req) (k : Nat) (s : State) : offLog (fwSteps r k s) = fwWritten k s (offLog s) := by
  refine offLog_flashSteps _ _ _ _ _ _ _ fun t => ?_
  unfold fwWritten
  split
  · rfl
  · exact offLog_setFwInactive _ t

theorem activated_flash (r : Req) (k : Nat) (s : State) : (activated r k s).flash = (fwSteps r k s).flash := by
  unfold activated
  split <;> rfl

/-- Only the bank that is not in use, the log and the attempts move. -/
theorem activated_frame (r : Req) (k : Nat) (s : State) :
    (activated r k s).gable = s.gable ∧ (activated r k s).restart = s.restart ∧ (activated r k s).tb = s.tb ∧
      if s.gable.fwActive then (activated r k s).flash.fwB = s.flash.fwB else (activated r k s).flash.fwA = s.flash.fwA := by
  have off := offLog_fwSteps r k s
  have same : (activated r k s).gable = (fwSteps r k s).gable ∧ (activated r k s).restart = (fwSteps r k s).restart ∧
      (activated r k s).tb = (fwSteps r k s).tb := by
    unfold activated
    split <;> exact ⟨rfl, rfl, rfl⟩
  obtain ⟨gable, restart, tb⟩ := same
  have written : (fwWritten k s (offLog s)).gable = s.gable ∧ (fwWritten k s (offLog s)).restart = s.restart ∧
      (fwWritten k s (offLog s)).tb = s.tb ∧ if s.gable.fwActive then (fwWritten k s (offLog s)).flash.fwB = s.flash.fwB
        else (fwWritten k s (offLog s)).flash.fwA = s.flash.fwA := by
    unfold fwWritten
    split
    · refine ⟨rfl, rfl, rfl, ?_⟩
      split <;> rfl
    · exact ⟨rfl, rfl, rfl, setFwInactive_other _ (offLog s)⟩
  obtain ⟨writtenGable, writtenRestart, writtenTb, writtenBank⟩ := written
  rw [← off] at writtenGable writtenRestart writtenTb writtenBank
  rw [activated_flash]
  exact ⟨gable.trans writtenGable, restart.trans writtenRestart, tb.trans writtenTb, writtenBank⟩

/-- To the end, that bank carries the next generation (R264, R266). -/
theorem activated_banks (r : Req) (s : State) : ((activated r 5 s).flash.fwA, (activated r 5 s).flash.fwB) =
    if s.gable.fwActive then
      (committedBank (nextGen s.flash.fwA s.flash.fwB) (fwCrc s.gable.fwData) s.gable.fwData, s.flash.fwB)
    else (s.flash.fwA, committedBank (nextGen s.flash.fwA s.flash.fwB) (fwCrc s.gable.fwData) s.gable.fwData) := by
  rw [activated_flash]
  have off : (offLog (fwSteps r 5 s)).flash = _ := congrArg State.flash (offLog_fwSteps r 5 s)
  exact (congrArg (fun x : Flash => (x.fwA, x.fwB)) off :).trans (setFwInactive_banks _ (offLog s))

/-- The bank has its attempts before it (log entry 49). -/
theorem activated_attempts (r : Req) (s : State) : (activated r 5 s).bk.fwAttempts = 0 := by
  unfold activated
  rw [if_pos (by decide)]

/-- What is answered behind it with a restart to come has its flash, and that restart. -/
theorem restartDue_reads {kind : RestartKind} {p : Port} {t u : State} (rest : offService u = offService (restartDue kind p t)) :
    u.flash = t.flash ∧ u.restart = (restartDue kind p t).restart ∧ u.bk.fwAttempts = t.bk.fwAttempts :=
  ⟨(congrArg State.flash rest :), (congrArg State.restart rest :), (congrArg (fun v => v.bk.fwAttempts) rest :)⟩

section passes
variable {r : Req} {s : State} (run : FlashRun) (len : r.payload.length = 4) (header : 32 ≤ s.gable.fwData.length)
  (whole : s.gable.fwData.length = fwLength s.gable.fwData) (named : beAt s.gable.fwData 12 4 = r.num 0 4)
  (crc : (fwCrc s.gable.fwData).toNat = r.num 0 4)
  (compatible : s.active.valid = true → beAt s.gable.fwData 0 2 = s.active.image.fwClass ∨ r.confirm = true)
include len header whole named crc compatible

/-- A whole image whose CRCs agree, of the class of the configuration or confirmed, is activated (R266). -/
theorem fwActivate_passes : fwActivateBody r run s = activateSteps r run s := by
  unfold fwActivateBody
  extract_lets d
  rw [if_neg (by simp [len]), if_neg (by simp [d, ← whole, named, crc, header]), if_neg]
  simp only [Bool.and_eq_true, bne_iff_ne, Bool.not_eq_true', not_and, Bool.not_eq_false]
  rintro ⟨valid, other⟩
  exact (compatible valid).resolve_left other

/-- As the request arrives. -/
theorem fwActivate_passes_touch : fwActivateBody r run (touch r.port s) = activateSteps r run (touch r.port s) := by
  obtain ⟨data, -⟩ := touch_firmware r.port s
  refine fwActivate_passes run len ?_ ?_ ?_ ?_ ?_ <;> simp only [data, touch_frame] <;> assumption

end passes

/-! ## The restart -/

theorem exec_commitRestart_fwActivate {s : State} {x : RestartDue} (res : s.restart = some x) (kind : x.kind = .fwActivate)
    (time : x.due.toNat ≤ s.tb.count.toNat) (sd : s.pwr.shutdown = none) (live : tableStill s = false) :
    exec .commitRestart s = .next (fwRestart s) := by
  change execCommitRestart s = _
  simp [execCommitRestart, res, kind, due, time, sd, live]

/-! ## The statement -/

/-- Settles O29: the block, the activation to the end and cut, and the restart. -/
theorem firmwareUpdate : Obligations.FirmwareUpdate := by
  unfold Obligations.FirmwareUpdate
  refine ⟨fun r s ok least most order header fits => ?_, fun r s ok len header whole named crc compatible => ?_,
    fun r k s ok len header whole named crc compatible => ?_, fun s x res kind time sd live => ?_⟩
  · obtain ⟨data, active⟩ := touch_firmware r.port s
    obtain ⟨t, a, acts, written, flash, st, more, now, payload⟩ := fwBlock_writes (s := touch r.port s) least most
      (by rw [data]; exact order) (by rw [data]; exact header) (by rw [data]; exact fits)
    obtain ⟨u, run, kept, core, rest, -⟩ := exec_answers (exec_fwUpdateBlock r true s) ok acts now
    rw [st, more, payload, data] at kept
    have banks := setFwInactive_banks { Bank.erased with image := (touch r.port s).gable.fwData ++ r.payload.drop 4 } (touch r.port s)
    rw [← flash] at banks
    simp only [active, data, touch_frame] at banks
    exact ⟨u, run, (congrArg Gable.fwData core :).trans (written.trans (by rw [data])),
      (congrArg (fun v => (v.flash.fwA, v.flash.fwB)) rest :).trans banks, kept⟩
  · obtain ⟨data, active⟩ := touch_firmware r.port s
    have acts := (fwActivate_passes_touch .done len header whole named crc compatible).trans (activateSteps_done r _)
    obtain ⟨t, run, kept, -, -, rest⟩ := exec_answers (exec_fwActivate r .done s) ok acts rfl
    obtain ⟨flash, restart, attempts⟩ := restartDue_reads (rest (Bool.and_false _))
    have banks := activated_banks r (touch r.port s)
    obtain ⟨-, -, tb, -⟩ := activated_frame r 5 (touch r.port s)
    rw [← flash] at banks
    simp only [active, data, touch_frame, Bool.not_eq_true'] at kept banks tb
    refine ⟨t, run, banks, restart.trans (restart_restartDue _ _ tb), attempts.trans (activated_attempts ..), ?_⟩
    cases use : s.gable.fwActive <;> rw [use] at kept <;> exact kept
  · have acts := (fwActivate_passes_touch (.cut k) len header whole named crc compatible).trans (activateSteps_cut r k _)
    obtain ⟨-, -, -, -, -, -, touchKept, -⟩ := touch_gable r.port s
    obtain ⟨gable, restart, -, stays⟩ := activated_frame r k.val (touch r.port s)
    obtain ⟨-, active⟩ := touch_firmware r.port s
    simp only [active, touch_frame] at restart stays
    exact ⟨_, (exec_fwActivate r (.cut k) s).trans (congrArg _ (serve_later ok acts rfl)), restart,
      ((keptOf_dequeue r.port ccFwActivate r _).trans (keptOf_congr r.port gable)).trans (touchKept r.port), stays⟩
  · exact ⟨_, exec_commitRestart_fwActivate res kind time sd live, rfl, rfl, rfl, rfl, rfl, rfl, rfl, rfl, rfl, rfl⟩

end Sys2Proof.Proofs
end

section
/-! PROOF. The statement of the sessions (R253 to R256) is refuted by a session whose level reads 3, which is none of the three of R253 and
stands above Integrate. -/

namespace Sys2Proof.Proofs

open Sys2Proof Sys2Proof.Machine Sys2Proof.Safety Sys2Proof.Laws

/-- The password of eight bytes that is set for Integrate, and quoted. -/
def quotedPassword : List Byte := List.replicate 8 0x41

/-- LOGIN to Integrate with SERVICE = 1. -/
def serviceLogin : Req := { port := .spi, tag := 1, flags := 0, payload := [2, 1, 8, 0] ++ quotedPassword }

/-- SAFE_HOLD at the boundary of that LOGIN; the session on SPI has level 3. -/
def loginAboveIntegrate : State :=
  { State.reset with
    mode := .safeHold
    gable := { State.reset.gable with
      up := true, held := some (ccLogin, serviceLogin), spi := { Session.reset with level := 3 }
      integrate := some { salt := 0, digest := passDigest 0 quotedPassword } } }

theorem passwordOk_set {level : Nat} {p : Password} {s : State} (pw : List Byte) (set : passwordOf level s = some p) :
    passwordOk level pw s = (passDigest p.salt pw == p.digest) := by
  unfold passwordOk
  rw [set]

theorem loginAboveIntegrate_quotes : passwordOk 2 quotedPassword loginAboveIntegrate = true :=
  (passwordOk_set _ rfl).trans (beq_self_eq_true _)

theorem heldStep_login {r : Req} {s : State} (held : s.gable.held = some (ccLogin, r)) (up : s.gable.up = true) :
    heldStep s = heldEnd ccLogin r (loginBody r) s := by
  unfold heldStep
  rw [held]
  simp [up]

theorem loginAboveIntegrate_checks : preCheck ccLogin serviceLogin loginAboveIntegrate = none := by decide +kernel

/-- The LOGIN counts as one to a lower level, for which no password is checked and no SERVICE asked for. -/
theorem loginAboveIntegrate_lowers : (loginBody serviceLogin (unheld loginAboveIntegrate)).1.want = none := by decide +kernel

/-- At the boundary it asks for no mode. -/
theorem loginAboveIntegrate_asks : (heldStep loginAboveIntegrate).want = none := by
  rw [heldStep_login rfl rfl, heldEnd_acts rfl loginAboveIntegrate_checks]
  simp [loginAboveIntegrate_lowers]

/-- Refutes O30: at its boundary the held LOGIN with SERVICE of a session whose level reads 3 lowers the session to Integrate, and does not
ask for SERVICE. -/
theorem not_sessionsAndPasswords : ¬ Obligations.SessionsAndPasswords := by
  unfold Obligations.SessionsAndPasswords
  rintro ⟨-, -, -, -, -, boundary, -⟩
  obtain ⟨-, -, asks, -⟩ := boundary serviceLogin loginAboveIntegrate
    (by rw [heldNow, loginAboveIntegrate_checks]; decide +kernel) rfl (by decide) (by decide) (by decide) (by decide) (by decide)
    (by decide) (by decide) rfl (by decide) (by decide) rfl loginAboveIntegrate_quotes
  obtain ⟨want, -⟩ := asks rfl
  exact Option.some_ne_none _ (want.symm.trans loginAboveIntegrate_asks)

end Sys2Proof.Proofs
end

section
/-! PROOF. A step and its command, and the registers as a reset leaves them (R277, R335, R344). -/

namespace Sys2Proof.Proofs

open Sys2Proof Sys2Proof.Machine Sys2Proof.Safety Sys2Proof.Laws

/-- Settles O1: the front of the queue picks the command. -/
theorem stepRunsFrontCommand : Obligations.StepRunsFrontCommand := by
  unfold Obligations.StepRunsFrontCommand
  intro c rest s front
  simp only [step, front]

/-- Every unit is at its reset values. -/
theorem cvuAt_reset (u : Fin 4) : cvuAt u State.reset = Cvu.reset := by
  simp [cvuAt, State.reset]

/-- So is every timer channel. -/
theorem tmuAt_reset (n : Fin 32) : tmuAt State.reset n = TmuCh.reset := by
  simp [tmuAt, State.reset]

/-- Settles O59: the reset values are legal, register by register. -/
theorem resetIsLegal : Obligations.ResetIsLegal := by
  unfold Obligations.ResetIsLegal
  exact ⟨legal_reset, fun n => by rw [tmuAt_reset]; rfl, fun u => by rw [cvuAt_reset]; rfl, rfl, rfl, rfl, rfl, rfl, rfl, rfl⟩

end Sys2Proof.Proofs
end

section
/-! PROOF. The entry into LULL: what the freeze settles and what stands through it (R349 to R352, Table 15.11). -/

namespace Sys2Proof.Proofs

open Sys2Proof Sys2Proof.Machine Sys2Proof.Safety Sys2Proof.Laws

/-! ## The settings of the timer unit -/

/-- CTRL, PRESC and ADV of every channel. -/
def tmuSettings (s : State) : Vector (W32 × W32 × W32) 32 := s.tmu.ch.map fun c => (c.ctrl, c.presc, c.adv)

theorem tmuSettings_congr {s t : State} (same : t.tmu = s.tmu) : tmuSettings t = tmuSettings s :=
  congrArg (fun u : Tmu => u.ch.map fun c : TmuCh => (c.ctrl, c.presc, c.adv)) same

/-- A change of a channel that keeps its settings keeps them all. -/
theorem tmuSettings_upd (n : Nat) (f : TmuCh → TmuCh) (s : State)
    (same : ∀ c, (f c).ctrl = c.ctrl ∧ (f c).presc = c.presc ∧ (f c).adv = c.adv) : tmuSettings (tmuUpd n f s) = tmuSettings s := by
  unfold tmuSettings tmuUpd vmod
  split
  · refine Vector.ext fun k hk => ?_
    by_cases at_ : n = k <;> simp [at_, same]
  · rfl

@[simp] theorem tmuSettings_irqSet (k : Nat) (s : State) : tmuSettings (irqSet k s) = tmuSettings s := rfl

@[simp] theorem tmuSettings_fire (n : Nat) (s : State) : tmuSettings (tmuFire n s) = tmuSettings s := by
  rw [tmuFire_eq]
  split <;> simp [tmuSettings_upd, fired]

@[simp] theorem tmuSettings_move (n : Nat) (w : W32) (s : State) : tmuSettings (tmuMove n w s) = tmuSettings s := by
  unfold tmuMove
  dsimp only
  split <;> simp [tmuSettings_upd]

@[simp] theorem tmuSettings_stepBy (fuel n : Nat) (s : State) : tmuSettings (tmuStepBy fuel n s) = tmuSettings s := by
  induction fuel generalizing n s with
  | zero => rfl
  | succ k ih =>
    unfold tmuStepBy
    dsimp only
    (repeat' split) <;> simp [ih, tmuSettings_upd]

@[simp] theorem tmuSettings_input (n : Nat) (s : State) : tmuSettings (tmuInput n s) = tmuSettings s := by
  unfold tmuInput tmuStep tmuPresc
  dsimp only
  (repeat' split) <;> simp [tmuSettings_upd]

@[simp] theorem tmuSettings_clockOne (b : Bool) (s : State) (n : Nat) : tmuSettings (clockOne b s n) = tmuSettings s := by
  unfold clockOne
  dsimp only
  (repeat' split) <;> simp

@[simp] theorem tmuSettings_tmuClock (b : Bool) (s : State) : tmuSettings (tmuClock b s) = tmuSettings s := by
  rw [tmuClock_eq]
  exact foldl_keeps tmuSettings (clockOne b) (tmuSettings_clockOne b) (List.range 32) s

@[simp] theorem tmuSettings_clockTick (s : State) : tmuSettings (clockTick s) = tmuSettings s := by
  unfold clockTick
  dsimp only
  (repeat' split)
  · exact (tmuSettings_tmuClock ..).trans (tmuSettings_congr rfl)
  · exact tmuSettings_congr rfl
  · exact tmuSettings_congr rfl

/-- A channel's settings among those of all. -/
theorem settings_of_tmuSettings {s t : State} (same : tmuSettings t = tmuSettings s) (n : Fin 32) :
    (tmuAt t n).ctrl = (tmuAt s n).ctrl ∧ (tmuAt t n).presc = (tmuAt s n).presc ∧ (tmuAt t n).adv = (tmuAt s n).adv := by
  have at_ := congrArg (fun v : Vector (W32 × W32 × W32) 32 => v[n]) same
  simpa [tmuSettings, tmuAt] using at_

/-! ## The clocks before the freeze -/

theorem rtcClock_lockFlag (b : Backup) : (rtcClock b).lockFlag = b.lockFlag := by
  unfold rtcClock
  dsimp only
  split <;> rfl

theorem iterate_rtcClock_lockFlag (n : Nat) (b : Backup) : (rtcClock^[n] b).lockFlag = b.lockFlag := by
  induction n generalizing b with
  | zero => rfl
  | succ n ih => rw [Function.iterate_succ_apply, ih, rtcClock_lockFlag]

/-- `n` clocks without a command, while AO runs and no shutdown is in progress: outside the timer unit the timebase and the RTC alone move
(R34, R322). -/
theorem outside_clocks (n : Nat) (s : State) (on_ : s.pwr.aoOn = true) (sd : s.pwr.shutdown = none) :
    outsideTimers (clocks n s) = outsideTimers { s with
      tb := { s.tb with count := s.tb.count + BitVec.ofNat 64 n }, bk := rtcClock^[n] s.bk } := by
  induction n generalizing s with
  | zero =>
    rw [show s.tb.count + BitVec.ofNat 64 0 = s.tb.count from BitVec.add_zero _]
    rfl
  | succ n ih =>
    obtain ⟨b, u, tick, u_eq, -⟩ := clockTick_on on_
    have out : outsideTimers (clockTick s) = outsideTimers u := by rw [tick, outside_tmuClock]
    obtain ⟨tb, pwr, bk⟩ := parts_of_outside out
    have count : s.tb.count + 1 + BitVec.ofNat 64 n = s.tb.count + BitVec.ofNat 64 (n + 1) := by
      rw [BitVec.add_assoc, BitVec.add_comm 1, ← BitVec.ofNat_add_ofNat]
      rfl
    have put (x : Timebase) (y : Backup) (t : State) : outsideTimers { t with tb := x, bk := y } = { outsideTimers t with tb := x, bk := y } := rfl
    rw [clocks, idle_eq sd, ih _ (by simp [on_]) (by simp [sd]), tb, bk, put, put, out, u_eq, Function.iterate_succ_apply, ← count]
    dsimp only [outsideTimers]

theorem tmuSettings_clocks (n : Nat) (s : State) (sd : s.pwr.shutdown = none) : tmuSettings (clocks n s) = tmuSettings s := by
  induction n generalizing s with
  | zero => rfl
  | succ n ih => rw [clocks, idle_eq sd, ih _ (by simp [sd]), tmuSettings_clockTick]

/-! ## The freeze -/

/-- The freeze instant's settling, with the interrupt register `irq` (R350, R351). -/
def lullSettled (cause : BitVec 2) (irq : W32) (s t : State) : State :=
  { freezeEngines t with
    gable := { t.gable with up := false }
    host := { t.host with irq := irq }
    mode := .lull
    hPend := none
    lull := { t.lull with
      active := true, cause := cause, stamp := t.tb.count, ecc := 0
      phase := BitVec.ofNat 32 (t.tb.count.toNat - s.tick.boundary.toNat)
      fromMode := BitVec.ofNat 4 s.mode.code } }

/-- A change of Gable's line sets its interrupt bit at most. -/
theorem setGableUp_false_eq (s : State) :
    ∃ irq, setGableUp false s = { s with gable := { s.gable with up := false }, host := { s.host with irq := irq } } := by
  unfold setGableUp
  split
  case isTrue down => exact ⟨s.host.irq, by rw [← down]⟩
  case isFalse => exact ⟨_, rfl⟩

/-- The entry, where the request is taken: the level, 1 µs of clocks to the freeze instant `t`, the freeze. -/
theorem lullEnter_taken (cause : BitVec 2) {s t : State} (taken : lullTaken s = true) (reached : clocks tUs (lullLevel (lullLock s)) = t) :
    ∃ irq : W32, irq.getLsbD 9 = true ∧ lullEnter cause s = lullSettled cause irq s t := by
  obtain ⟨irq, down⟩ := setGableUp_false_eq (freezeEngines t)
  refine ⟨setBit (setBit irq 5 true) 9 true, setBit_self _ _ _ (by decide), ?_⟩
  unfold lullEnter
  rw [if_neg (by simp [taken])]
  dsimp only
  rw [reached, down]
  rfl

/-- What a request that is taken says of the state. -/
theorem parts_of_lullTaken {s : State} (taken : lullTaken s = true) :
    s.pwr.aoOn = true ∧ s.resetHeld = false ∧ s.pwr.shutdown = none ∧ s.mode ≠ .lull := by
  simp only [lullTaken, Bool.and_eq_true, Bool.not_eq_true', Option.isNone_iff_eq_none, decide_eq_false_iff_not, List.mem_cons,
    not_or] at taken
  obtain ⟨⟨⟨on_, held⟩, sd⟩, -, -, mode, -⟩ := taken
  exact ⟨on_, held, sd, mode⟩

/-- BK after the freeze's request: the flag where a class H fault waits (R351). -/
theorem lullLock_lockFlag {s : State} (waits : s.hPend ≠ none) : (lullLock s).bk.lockFlag.val = 1 := by
  unfold lullLock
  rw [if_pos (Option.isSome_iff_ne_none.mpr waits)]
  exact (voted_of_val 1)

/-- What the flag in BK leaves alone is as it was. -/
theorem lullLock_keeps {α : Type} (f : State → α) (s : State) (same : f (setLockFlag s) = f s) : f (lullLock s) = f s := by
  unfold lullLock
  split
  · exact same
  · rfl

/-- The state at the freeze instant: the level, the flag, 1 µs more on the timebase, the settings of the timer unit (Table 15.11). -/
theorem lull_reaches {s : State} (taken : lullTaken s = true) :
    ∃ (t : State) (bk : Backup), clocks tUs (lullLevel (lullLock s)) = t ∧ bk.lockFlag = (lullLock s).bk.lockFlag ∧
      tmuSettings t = tmuSettings s ∧ outsideTimers t =
        outsideTimers { lullLevel (lullLock s) with tb := { s.tb with count := s.tb.count + 100 }, bk := bk } := by
  obtain ⟨on_, -, sd, -⟩ := parts_of_lullTaken taken
  have pwr : (lullLevel (lullLock s)).pwr = s.pwr := lullLock_keeps State.pwr s rfl
  have tb : (lullLevel (lullLock s)).tb = s.tb := lullLock_keeps State.tb s rfl
  have tmu : (lullLevel (lullLock s)).tmu = s.tmu := lullLock_keeps State.tmu s rfl
  have go := outside_clocks tUs (lullLevel (lullLock s)) (pwr ▸ on_) (pwr ▸ sd)
  rw [tb] at go
  exact ⟨_, _, rfl, iterate_rtcClock_lockFlag .., (tmuSettings_clocks _ _ (pwr ▸ sd)).trans (tmuSettings_congr tmu), go⟩

/-- A frozen state `t` that the request of LULL with cause `cause` has led to from `s`, and what stands as it was (R350, R351). -/
structure FrozenInto (cause : BitVec 2) (s t : State) : Prop where
  mode : t.mode = .lull
  active : t.lull.active = true
  cause : t.lull.cause = cause
  stamp : t.lull.stamp = s.tb.count + 100
  count : t.tb.count = s.tb.count + 100
  gable : t.gable.up = false
  engines : enginesStand t
  irq : t.host.irq.getLsbD 9 = true
  laneP : t.laneP.resetLevel = true
  laneT : t.laneT.resetLevel = true
  fa : t.fa.inLull = true
  lock : s.hPend ≠ none → t.bk.lockFlag.val = 1
  ridge : t.ridge = s.ridge
  thatch : t.thatch = s.thatch
  faults : t.faults = s.faults
  mbx : t.mbx = s.mbx
  settings : tmuSettings t = tmuSettings s
  guard : t.host.guard = s.host.guard
  trig : t.lull.trig = s.lull.trig
  fromMode : t.lull.fromMode = BitVec.ofNat 4 s.mode.code
  bootStep : t.bootStep = s.bootStep
  resetCause : t.resetCause = s.resetCause
  resetHeld : t.resetHeld = s.resetHeld

/-- A request that is taken freezes the module (Table 15.11). -/
theorem lullEnter_freezes (cause : BitVec 2) {s : State} (taken : lullTaken s = true) : FrozenInto cause s (lullEnter cause s) := by
  obtain ⟨r, bk, reached, flag, settings, out⟩ := lull_reaches taken
  obtain ⟨irq, bit, entered⟩ := lullEnter_taken cause taken reached
  have lock {α : Type} (f : State → α) (same : f (setLockFlag s) = f s) : f (lullLock s) = f s := lullLock_keeps f s same
  have tb := congrArg State.tb out
  rw [entered]
  exact {
    mode := rfl, active := rfl, cause := rfl
    stamp := congrArg Timebase.count tb
    count := congrArg Timebase.count tb
    gable := rfl
    engines := ⟨rfl, rfl, rfl, rfl, rfl, rfl, rfl⟩
    irq := bit
    laneP := congrArg (fun x : State => x.laneP.resetLevel) out
    laneT := congrArg (fun x : State => x.laneT.resetLevel) out
    fa := congrArg (fun x : State => x.fa.inLull) out
    lock := fun waits => by
      have kept : r.bk = bk := congrArg State.bk out
      change r.bk.lockFlag.val = 1
      rw [kept, flag, lullLock_lockFlag waits]
    ridge := (congrArg State.ridge out).trans (lock State.ridge rfl)
    thatch := (congrArg State.thatch out).trans (lock State.thatch rfl)
    faults := (congrArg State.faults out).trans (lock State.faults rfl)
    mbx := (congrArg State.mbx out).trans (lock State.mbx rfl)
    settings := settings
    guard := (congrArg (fun x : State => x.host.guard) out).trans (lock (fun x => x.host.guard) rfl)
    trig := (congrArg (fun x : State => x.lull.trig) out).trans (lock (fun x => x.lull.trig) rfl)
    fromMode := rfl
    bootStep := (congrArg State.bootStep out).trans (lock State.bootStep rfl)
    resetCause := (congrArg State.resetCause out).trans (lock State.resetCause rfl)
    resetHeld := (congrArg State.resetHeld out).trans (lock State.resetHeld rfl) }

/-! ## The obligations of the entry -/

theorem lullLow_long {lowNs : Nat} (long : 1000 ≤ lowNs) (draw : Nat) : lullLow lowNs draw = true := by simp [lullLow, long]

theorem lullLow_short {lowNs : Nat} (short : lowNs < 100) (draw : Nat) : lullLow lowNs draw = false := by
  have under : ¬1000 ≤ lowNs := by omega
  have out : ¬100 ≤ lowNs := by omega
  simp [lullLow, under, out]

/-- A trigger that is met fires, and it is disarmed (R352). -/
theorem exec_lullTriggerFire_met {s : State} (met : trigMet s = true) (taken : lullTaken s = true) :
    exec .lullTriggerFire s = .next (lullEnter 3 { s with lull := { s.lull with trig := Voted.of 0 } }) := by
  obtain ⟨on_, held, -, -⟩ := parts_of_lullTaken taken
  change execLullTriggerFire s = _
  unfold execLullTriggerFire
  rw [if_pos (by simp [met, on_, held])]

/-- Settles O14: a request that is taken freezes the module from the state that LULL_N or the trigger met. -/
theorem lullEntry : Obligations.LullEntry := by
  unfold Obligations.LullEntry
  refine ⟨fun s lowNs long taken => ?_, fun s met taken => ?_, fun s lowNs short => ?_⟩
  · have z := lullEnter_freezes 1 (s := { s with free := s.free + 1 }) taken
    have enters : exec (.lullNAssert lowNs) s = .next (lullEnter 1 { s with free := s.free + 1 }) :=
      congrArg Host.Outcome.next (if_pos (lullLow_long long s.free))
    exact ⟨_, enters, z.mode, z.active, z.cause, z.stamp, z.count, z.gable, z.engines, z.irq, z.laneP, z.laneT, z.fa, z.lock, z.ridge,
      z.thatch, z.faults, z.mbx, settings_of_tmuSettings z.settings⟩
  · have z := lullEnter_freezes 3 (s := { s with lull := { s.lull with trig := Voted.of 0 } }) taken
    exact ⟨_, exec_lullTriggerFire_met met taken, z.mode, z.cause, (congrArg Voted.val z.trig).trans (voted_of_val 0), z.stamp,
      z.engines, z.laneP, z.laneT, z.ridge, z.thatch⟩
  · exact congrArg Host.Outcome.next (if_neg (by simp [lullLow_short short]))

/-! ## The guard of RWK registers -/

theorem whenPort_up (f : State → State) {s : State} (up : portUp s = true) : whenPort f s = f s := if_pos up

/-- A count of eight bits that stays at its largest value. -/
theorem satAdd_byte (b : BitVec 8) : BitVec.ofNat 8 (satAdd 255 b.toNat 1) = if b = 255 then 255 else b + 1 := by
  have small := b.isLt
  by_cases top : b = 255
  · subst top; rfl
  · have below : b.toNat ≠ 255 := fun eq => top (BitVec.eq_of_toNat_eq eq)
    rw [if_neg top, satAdd, Nat.min_eq_right (by omega)]
    apply BitVec.eq_of_toNat_eq
    simp

theorem guardOpen_iff {s : State} {t : W64} (set : s.host.guard = some t) : guardOpen s = true ↔ s.tb.count.toNat < t.toNat := by
  simp [guardOpen, set]

/-- A write of LULL_CTRL behind the open guard closes it and takes ENTER (R338, R349). -/
theorem exec_lullCtrlEnter_open {s : State} (v : W32) (up : portUp s = true) (opened : guardOpen s = true) :
    exec (.lullCtrlEnter v) s = .next (if v.getLsbD 31 then lullEnter 2 { s with host := { s.host with guard := none } }
      else { s with host := { s.host with guard := none } }) := by
  change Host.Outcome.next (whenPort _ s) = _
  rw [whenPort_up _ up, writeLullCtrl, if_pos opened]

/-- Settles O13, case by case of the key, the guard's end and ENTER. -/
theorem unlockGuardAndLullControl : Obligations.UnlockGuardAndLullControl := by
  unfold Obligations.UnlockGuardAndLullControl
  refine ⟨fun s up => ?_, fun s v up wrong => ?_, fun s t set past => ?_, fun s t set runs => ?_, fun s v up closed => ?_,
    fun s v up opened stay => ?_, fun s v up opened enter taken => ?_⟩
  · exact congrArg Host.Outcome.next ((whenPort_up _ up).trans (if_pos rfl))
  · refine congrArg Host.Outcome.next ((whenPort_up _ up).trans ((if_neg wrong).trans ?_))
    rw [satAdd_byte]
  · have closed : guardOpen s = false := Bool.eq_false_iff.mpr fun opened => absurd ((guardOpen_iff set).mp opened) (by omega)
    exact if_pos (by simp [set, closed])
  · exact if_neg (by simp [(guardOpen_iff set).mpr runs])
  · refine congrArg Host.Outcome.next ((whenPort_up _ up).trans ?_)
    rw [writeLullCtrl, if_neg (by simp [closed])]
  · rw [exec_lullCtrlEnter_open v up opened, if_neg (Bool.eq_false_iff.mp stay)]
  · have z := lullEnter_freezes 2 (s := { s with host := { s.host with guard := none } }) taken
    exact ⟨_, (exec_lullCtrlEnter_open v up opened).trans (congrArg Host.Outcome.next (if_pos enter)), z.mode, z.active, z.cause, z.guard,
      z.stamp⟩

end Sys2Proof.Proofs
end

section
/-! PROOF. The scrub of the voted words (R340). -/

namespace Sys2Proof.Proofs

open Sys2Proof Sys2Proof.Machine Sys2Proof.Safety Sys2Proof.Laws

/-! ## One voted word -/

theorem agrees_iff {n : Nat} {v : Voted n} : v.agrees = true ↔ v = Voted.of v.val := by
  obtain ⟨a, b, c⟩ := v
  simp only [Voted.agrees, Voted.of, Voted.mk.injEq, Bool.and_eq_true, beq_iff_eq]
  constructor
  · rintro ⟨rfl, rfl⟩
    simp [Voted.val]
  · rintro ⟨ha, hb, hc⟩
    exact ⟨ha.trans hb.symm, hb.trans hc.symm⟩

theorem agrees_of {n : Nat} (x : BitVec n) : (Voted.of x).agrees = true := agrees_iff.mpr (by rw [voted_of_val])

/-- The scrub leaves three equal copies of the voted value. -/
theorem scrubbed_eq {n : Nat} (v : Voted n) : v.scrubbed = Voted.of v.val := by
  unfold Voted.scrubbed
  split
  case isTrue same => exact agrees_iff.mp same
  case isFalse => rfl

theorem val_scrubbed {n : Nat} (v : Voted n) : v.scrubbed.val = v.val := by rw [scrubbed_eq, voted_of_val]

theorem agrees_scrubbed {n : Nat} (v : Voted n) : v.scrubbed.agrees = true := by rw [scrubbed_eq, agrees_of]

/-- Two copies outvote the third. -/
theorem val_flip_of {n : Nat} (k : Fin 3) (b : Nat) (x : BitVec n) : ((Voted.of x).flip k b).val = x := by
  refine BitVec.eq_of_getLsbD_eq fun i _ => ?_
  match k with
  | 0 | 1 | 2 =>
    simp only [Voted.flip, Voted.val, Voted.of, BitVec.getLsbD_or, BitVec.getLsbD_and, BitVec.getLsbD_xor]
    cases x.getLsbD i <;> simp

/-- One upset of one copy is corrected whole. -/
theorem scrubbed_flip {n : Nat} {v : Voted n} (same : v.agrees = true) (k : Fin 3) (b : Nat) : (v.flip k b).scrubbed = v := by
  rw [scrubbed_eq, agrees_iff.mp same, val_flip_of]

theorem scrubbed_same {n : Nat} {v : Voted n} (same : v.agrees = true) : v.scrubbed = v := if_pos same

/-! ## The Slate shadow -/

theorem getLsbD_masked {n : Nat} (x v m : BitVec n) (i : Nat) :
    ((x &&& ~~~m) ||| (v &&& m)).getLsbD i = if m.getLsbD i then v.getLsbD i else x.getLsbD i := by
  simp only [BitVec.getLsbD_or, BitVec.getLsbD_and, BitVec.getLsbD_not]
  by_cases inside : i < n
  · cases m.getLsbD i <;> simp only [inside] <;> simp
  · simp only [BitVec.getLsbD_of_ge _ _ (Nat.le_of_not_lt inside)]
    simp

theorem getLsbD_val {n : Nat} (v : Voted n) (i : Nat) :
    v.val.getLsbD i = (v.a.getLsbD i && v.b.getLsbD i || v.a.getLsbD i && v.c.getLsbD i || v.b.getLsbD i && v.c.getLsbD i) := by
  simp [Voted.val]

theorem val_scrubShadow (v : Voted 8192) : (scrubShadow v).val = v.val := by
  refine BitVec.eq_of_getLsbD_eq fun i _ => ?_
  unfold scrubShadow
  generalize guardedMask = m
  rw [getLsbD_val]
  dsimp only
  rw [getLsbD_masked, getLsbD_masked, getLsbD_masked]
  split
  · cases v.val.getLsbD i <;> rfl
  · exact (getLsbD_val v i).symm

theorem scrubShadow_eq {v : Voted 8192} {x : SlateWord} (value : v.val = x)
    (outside : ∀ i, guardedMask.getLsbD i = false → v.a.getLsbD i = x.getLsbD i ∧ v.b.getLsbD i = x.getLsbD i ∧
      v.c.getLsbD i = x.getLsbD i) : scrubShadow v = Voted.of x := by
  have put (y : SlateWord) (same : ∀ i, guardedMask.getLsbD i = false → y.getLsbD i = x.getLsbD i) :
      (y &&& ~~~guardedMask) ||| (x &&& guardedMask) = x := by
    refine BitVec.eq_of_getLsbD_eq fun i _ => ?_
    rw [getLsbD_masked]
    split
    case isTrue => rfl
    case isFalse off => exact same i (Bool.eq_false_iff.mpr off)
  unfold scrubShadow
  dsimp only
  rw [value, put _ fun i off => (outside i off).1, put _ fun i off => (outside i off).2.1, put _ fun i off => (outside i off).2.2]
  rfl

theorem scrubShadow_of (x : SlateWord) : scrubShadow (Voted.of x) = Voted.of x :=
  scrubShadow_eq (voted_of_val x) fun _ _ => ⟨rfl, rfl, rfl⟩

/-- An upset of a voted bit of one copy is corrected whole. -/
theorem scrubShadow_flip_of (k : Fin 3) {b : Nat} (voted : guardedMask.getLsbD b = true) (x : SlateWord) :
    scrubShadow ((Voted.of x).flip k b) = Voted.of x := by
  refine scrubShadow_eq (val_flip_of k b x) fun i off => ?_
  have other : b ≠ i := fun eq => by rw [eq, off] at voted; cases voted
  have kept : (x ^^^ BitVec.ofNat 8192 (2 ^ b)).getLsbD i = x.getLsbD i := by
    rw [BitVec.getLsbD_xor, BitVec.getLsbD_ofNat, Nat.testBit_two_pow_of_ne other, Bool.and_false, Bool.xor_false]
  match k with
  | 0 => exact ⟨kept, rfl, rfl⟩
  | 1 => exact ⟨rfl, kept, rfl⟩
  | 2 => exact ⟨rfl, rfl, kept⟩

/-! ## The count -/

theorem shadowUpsets_of (x : SlateWord) : shadowUpsets (Voted.of x) = 0 := by
  simp [shadowUpsets, Voted.of]

theorem satAdd_max32 (w : W32) (k : Nat) : (BitVec.ofNat 32 (satAdd max32 w.toNat k)).toNat = min (2 ^ 32 - 1) (w.toNat + k) := by
  rw [BitVec.toNat_ofNat, satAdd, max32]
  omega

theorem scrubs_tmrUpset (s : State) (u : TmrUpset) : (tmrUpset s u).scrubs = s.scrubs := by
  unfold tmrUpset
  (repeat' split) <;> rfl

/-! ## The scrub -/

/-- A state whose voted words alone differ from `s` is `s` after the scrub, where each word is corrected to what it is in `s`. -/
theorem tmrScrub_restores {s t : State} (same : { t with lull := s.lull, bk := s.bk, slate := s.slate } = s)
    (trig : t.lull.trig.scrubbed = s.lull.trig) (argLo : t.lull.argLo.scrubbed = s.lull.argLo)
    (argHi : t.lull.argHi.scrubbed = s.lull.argHi) (lull : { t.lull with trig := s.lull.trig, argLo := s.lull.argLo, argHi := s.lull.argHi } = s.lull)
    (flag : t.bk.lockFlag.scrubbed = s.bk.lockFlag) (cause : t.bk.lockCause.scrubbed = s.bk.lockCause)
    (bk : { t.bk with lockFlag := s.bk.lockFlag, lockCause := s.bk.lockCause } = s.bk)
    (shadow : scrubShadow t.slate.shadow = s.slate.shadow) (slate : { t.slate with shadow := s.slate.shadow } = s.slate) :
    { tmrScrub t with scrubs := s.scrubs } = s := by
  unfold tmrScrub
  rw [trig, argLo, argHi, lull, flag, cause, bk, shadow, slate]
  exact congrArg (fun x : State => { x with scrubs := s.scrubs }) same

/-- The copies of every voted word agree. -/
structure WordsAgree (s : State) : Prop where
  trig : s.lull.trig.agrees = true
  argLo : s.lull.argLo.agrees = true
  argHi : s.lull.argHi.agrees = true
  flag : s.bk.lockFlag.agrees = true
  cause : s.bk.lockCause.agrees = true
  shadow : s.slate.shadow.agrees = true

section agree

variable {s : State} (z : WordsAgree s)
include z

theorem scrubShadow_agreeing : scrubShadow s.slate.shadow = s.slate.shadow := by
  rw [agrees_iff.mp z.shadow, scrubShadow_of]

theorem upsets_agreeing : upsets s = 0 := by
  unfold upsets
  rw [agrees_iff.mp z.shadow, shadowUpsets_of, z.trig, z.argLo, z.argHi, z.flag, z.cause]
  rfl

/-- On words whose copies agree the scrub changes nothing. -/
theorem tmrScrub_agreeing : tmrScrub s = s := by
  have count : BitVec.ofNat 32 (satAdd max32 s.scrubs.toNat (upsets s)) = s.scrubs := by
    apply BitVec.eq_of_toNat_eq
    rw [satAdd_max32, upsets_agreeing z]
    have small := s.scrubs.isLt
    omega
  unfold tmrScrub
  rw [count, scrubbed_same z.trig, scrubbed_same z.argLo, scrubbed_same z.argHi, scrubbed_same z.flag, scrubbed_same z.cause,
    scrubShadow_agreeing z]

/-- The scrub corrects one upset of one copy whole. -/
theorem tmrScrub_upset (u : TmrUpset) : { tmrScrub (tmrUpset s u) with scrubs := s.scrubs } = s := by
  obtain ⟨word, copy, b⟩ := u
  have trig := scrubbed_same z.trig
  have argLo := scrubbed_same z.argLo
  have argHi := scrubbed_same z.argHi
  have flag := scrubbed_same z.flag
  have cause := scrubbed_same z.cause
  have shadow := scrubShadow_agreeing z
  have untouched : { tmrScrub s with scrubs := s.scrubs } = s := by rw [tmrScrub_agreeing z]
  cases word with
  | lullTrig =>
    by_cases kept : b < 2
    · rw [show tmrUpset s ⟨.lullTrig, copy, b⟩ = { s with lull := { s.lull with trig := s.lull.trig.flip copy b } } from if_pos kept]
      exact tmrScrub_restores rfl (scrubbed_flip z.trig copy b) argLo argHi rfl flag cause rfl shadow rfl
    · rw [show tmrUpset s ⟨.lullTrig, copy, b⟩ = s from if_neg kept]
      exact untouched
  | lullArgLo => exact tmrScrub_restores rfl trig (scrubbed_flip z.argLo copy b) argHi rfl flag cause rfl shadow rfl
  | lullArgHi => exact tmrScrub_restores rfl trig argLo (scrubbed_flip z.argHi copy b) rfl flag cause rfl shadow rfl
  | lockFlag => exact tmrScrub_restores rfl trig argLo argHi rfl (scrubbed_flip z.flag copy b) cause rfl shadow rfl
  | lockCause => exact tmrScrub_restores rfl trig argLo argHi rfl flag (scrubbed_flip z.cause copy b) rfl shadow rfl
  | slateShadow =>
    by_cases voted : guardedMask.getLsbD b = true
    · have corrected : scrubShadow (s.slate.shadow.flip copy b) = s.slate.shadow := by
        rw [agrees_iff.mp z.shadow, scrubShadow_flip_of copy voted]
      rw [show tmrUpset s ⟨.slateShadow, copy, b⟩ = { s with slate := { s.slate with shadow := s.slate.shadow.flip copy b } } from
        if_pos voted]
      exact tmrScrub_restores rfl trig argLo argHi rfl flag cause rfl corrected rfl
    · rw [show tmrUpset s ⟨.slateShadow, copy, b⟩ = s from if_neg voted]
      exact untouched

end agree

/-- Settles O20: word by word, the scrub writes the voted value. -/
theorem scrubKeepsVotedValues : Obligations.ScrubKeepsVotedValues := by
  unfold Obligations.ScrubKeepsVotedValues
  refine ⟨fun s l on_ => ?_, fun s u on_ trig argLo argHi flag cause shadow => ?_⟩
  · have scrubs : (l.foldl tmrUpset s).scrubs = s.scrubs := foldl_keeps State.scrubs tmrUpset scrubs_tmrUpset l s
    refine ⟨_, congrArg Host.Outcome.next (if_pos on_), val_scrubbed _, val_scrubbed _, val_scrubbed _, val_scrubbed _, val_scrubbed _,
      val_scrubShadow _, agrees_scrubbed _, agrees_scrubbed _, agrees_scrubbed _, agrees_scrubbed _, agrees_scrubbed _, ?_⟩
    rw [← scrubs]
    exact satAdd_max32 _ _
  · have z : WordsAgree s := ⟨trig, argLo, argHi, flag, cause, shadow⟩
    exact ⟨congrArg Host.Outcome.next ((if_pos on_).trans (tmrScrub_agreeing z)), _, congrArg Host.Outcome.next (if_pos on_),
      tmrScrub_upset z u⟩

end Sys2Proof.Proofs
end

section
/-! PROOF. The host window: HOST_IRQ_N, the read-clear registers, and the writes with a rule of their own (R334 to R337, R344, R346). -/

namespace Sys2Proof.Proofs

open Sys2Proof Sys2Proof.Machine Sys2Proof.Safety Sys2Proof.Laws

/-! ## Reads that clear -/

/-- A read-clear register of the window. -/
theorem exec_readClear_window {s : State} {addr : BitVec 24} (up : portUp s = true) (here : addr.toNat = 0x20 ∨ addr.toNat = 0x68) :
    exec (.readClearRegister addr) s = .next (setData (readWin addr.toNat s).1 (readWin addr.toNat s).2) := by
  change Host.Outcome.next (hostRead _ s) = _
  rw [hostRead_up _ _ up]
  rw [if_pos (by simpa using here)]

/-- A read-clear location of the indirect space. -/
theorem exec_readClear_indirect {s : State} {addr : BitVec 24} (up : portUp s = true) (above : 0x68 < addr.toNat)
    (on_ : indOff addr.toNat s = false) :
    exec (.readClearRegister addr) s = .next (setData (peekInd addr.toNat s) (afterRead addr.toNat s)) := by
  change Host.Outcome.next (hostRead _ s) = _
  rw [hostRead_up _ _ up]
  rw [if_neg (by simp; omega), if_neg (by simp [on_])]
  rfl

theorem exec_readClear_at {s t : State} {addr : BitVec 24} {a : Nat} {v : W32} (up : portUp s = true) (here : addr.toNat = a)
    (above : 0x68 < a) (on_ : indOff a s = false) (value : peekInd a s = v) (after : afterRead a s = t) :
    exec (.readClearRegister addr) s = .next (setData v t) := by
  subst here value after
  exact exec_readClear_indirect up above on_

/-- A location of a domain that is off reads 0 and clears nothing (Table 15.7). -/
theorem exec_readClear_off {s : State} {addr : BitVec 24} (up : portUp s = true) (above : 0x68 < addr.toNat)
    (off : indOff addr.toNat s = true) : exec (.readClearRegister addr) s = .next (setData 0 s) := by
  change Host.Outcome.next (hostRead _ s) = _
  rw [hostRead_up _ _ up]
  rw [if_neg (by simp; omega), if_pos off]

/-- HOST_IRQ_N is low exactly while some event is set and enabled. -/
theorem hostIrqLow_iff (s : State) : hostIrqLow s = true ↔ ∃ k : Fin 32, s.host.irq.getLsbD k = true ∧ s.host.irqEn.getLsbD k = true := by
  have both (i : Nat) : (s.host.irq &&& s.host.irqEn).getLsbD i = (s.host.irq.getLsbD i && s.host.irqEn.getLsbD i) := BitVec.getLsbD_and
  unfold hostIrqLow
  rw [bne_iff_ne, ne_eq, not_iff_comm]
  refine ⟨fun none_ => BitVec.eq_of_getLsbD_eq fun i hi => ?_, fun zero => ?_⟩
  · refine (Bool.eq_false_iff.mpr fun bit => none_ ⟨⟨i, hi⟩, ?_⟩).trans BitVec.getLsbD_zero.symm
    simpa only [both, Bool.and_eq_true] using bit
  · rintro ⟨k, set, enabled⟩
    have bit := both k
    rw [zero, set, enabled] at bit
    exact Bool.false_ne_true (BitVec.getLsbD_zero.symm.trans bit)

/-- Settles O17: bit by bit of IRQ_STATUS AND IRQ_ENABLE, and the timer event of an enabled match and an enabled overflow. -/
theorem hostInterruptLine : Obligations.HostInterruptLine := by
  unfold Obligations.HostInterruptLine
  refine ⟨fun s => ?_, fun s up => ?_, fun s n on_ late ie => ?_, fun s n on_ en root carried stop full stick alone ie => ?_,
    by decide +kernel, rfl, by decide +kernel⟩
  · exact hostIrqLow_iff s
  · exact ⟨_, exec_readClear_window up (.inl rfl), rfl, rfl⟩
  · refine ⟨_, exec_tmuMatch_late n s on_ late, ?_⟩
    rw [tmuFire_loud n s ie]
    exact irqSet_bit _
  · refine ⟨_, exec_tmuOverflow_full n s full carried, ?_⟩
    rw [tmuInput_wraps_alone n.isLt on_ en root stop full stick alone]
    exact wrapped_irq (by rw [tmuAt_upd_self _ _ _ n.isLt]; exact ie)

/-! ## Where each register is read -/

theorem word32_eq {n : Nat} (v : BitVec n) (lo : Nat) : word32 v lo = BitVec.ofNat 32 (v.toNat / 2 ^ lo) := by
  apply BitVec.eq_of_toNat_eq
  simp [word32, w32, fld]

/-- TMUn_STAT: its address. -/
theorem tmuStat_at (n : Fin 32) : (BitVec.ofNat 24 (0x00100C + 16 * n.val)).toNat = 0x00100C + 16 * n.val := by
  have small := n.isLt
  rw [BitVec.toNat_ofNat]
  omega

theorem tmuStat_place (n : Fin 32) : (0x00100C + 16 * n.val - 0x1000) / 16 = n.val ∧ (0x00100C + 16 * n.val) % 16 = 12 ∧
    (0x00100C + 16 * n.val) / 0x100000 = 0 := by
  have small := n.isLt
  omega

theorem peekInd_tmuStat (s : State) (n : Fin 32) : peekInd (0x00100C + 16 * n.val) s = tmuStat (tmuAt s n) := by
  have small := n.isLt
  obtain ⟨channel, reg, region⟩ := tmuStat_place n
  rw [peekInd, region]
  change aoWord _ s = _
  rw [aoWord, if_neg (by omega), if_pos (by omega), tmuWord, if_neg (by omega), channel, reg]
  rfl

theorem afterRead_tmuStat (s : State) (n : Fin 32) : afterRead (0x00100C + 16 * n.val) s = clearTmuStat n s := by
  have small := n.isLt
  obtain ⟨channel, reg, -⟩ := tmuStat_place n
  rw [afterRead, if_pos (by simp; omega), channel]

theorem indOff_tmuStat (s : State) (n : Fin 32) : indOff (0x00100C + 16 * n.val) s = false := by
  rw [indOff, (tmuStat_place n).2.2]
  rfl

/-- AXn_EVT: its address. -/
theorem axEvt_at (n : Fin 8) : (BitVec.ofNat 24 (0x30002C + 64 * n.val)).toNat = 0x30002C + 64 * n.val := by
  have small := n.isLt
  rw [BitVec.toNat_ofNat]
  omega

theorem axEvt_place (n : Fin 8) : (0x30002C + 64 * n.val - 0x300000) / 64 = n.val ∧ (0x30002C + 64 * n.val - 0x300000) % 64 / 4 = 11 ∧
    (0x30002C + 64 * n.val) % 64 / 4 = 11 ∧ (0x30002C + 64 * n.val) / 0x100000 = 3 := by
  have small := n.isLt
  omega

theorem axWord_evt (s : State) (n : Nat) : axWord s n 11 = w32 (bit (s.ev.axEvt.getLsbD n) 0) := rfl

theorem bit_word (b : Bool) : w32 (bit b 0) = if b then 1 else 0 := by cases b <;> rfl

/-- A location of MO that holds an axis's event word reads it. -/
theorem peekInd_evt {s : State} {n a : Nat} (region : a / 0x100000 = 3) (lo : a - 0x300000 < 0x200) (axis : (a - 0x300000) / 64 = n)
    (reg : (a - 0x300000) % 64 / 4 = 11) : peekInd a s = if s.ev.axEvt.getLsbD n then 1 else 0 := by
  rw [peekInd, region]
  simp only [moWord]
  rw [if_pos lo, axis, reg, axWord_evt, bit_word]

theorem peekInd_axEvt (s : State) (n : Fin 8) : peekInd (0x30002C + 64 * n.val) s = if s.ev.axEvt.getLsbD n then 1 else 0 := by
  have small := n.isLt
  obtain ⟨axis, reg, -, region⟩ := axEvt_place n
  exact peekInd_evt region (by omega) axis reg

theorem afterRead_axEvt (s : State) (n : Fin 8) :
    afterRead (0x30002C + 64 * n.val) s = { s with ev := { s.ev with axEvt := setBit s.ev.axEvt n false } } := by
  have small := n.isLt
  obtain ⟨axis, -, reg, -⟩ := axEvt_place n
  rw [afterRead, if_neg (by simp; omega), if_pos (by simp; omega), axis, reg]
  rfl

theorem indOff_axEvt (s : State) (n : Fin 8) : indOff (0x30002C + 64 * n.val) s = !s.pwr.domains.getLsbD 2 := by
  rw [indOff, (axEvt_place n).2.2.2]
  rfl

/-- Settles O16: register by register, the value read and what the read clears. -/
theorem readClearRegisters : Obligations.ReadClearRegisters := by
  unfold Obligations.ReadClearRegisters
  refine ⟨fun s up => ⟨?_, ?_, ?_, ?_, ?_, ?_⟩, fun s up fa => ?_, fun s n up => ?_, fun s up fd => ⟨?_, ?_, ?_⟩,
    fun s up mo => ⟨?_, fun n => ?_⟩, fun s up => ⟨fun na => ?_, fun nb => ?_⟩, fun s a up off => ?_⟩
  · exact exec_readClear_window up (.inl rfl)
  · refine (exec_readClear_window up (.inr rfl)).trans ?_
    cases torn : s.tb.torn <;> simp [readWin, setData, torn, bit, w32]
  · exact exec_readClear_at (a := 0x002004) up rfl (by decide) rfl rfl rfl
  · exact exec_readClear_at (a := 0x003004) up rfl (by decide) rfl rfl rfl
  · exact exec_readClear_at (a := 0x004010) up rfl (by decide) rfl rfl rfl
  · exact exec_readClear_at (a := 0x500804) up rfl (by decide) rfl rfl rfl
  · exact exec_readClear_at (a := 0x200100) up rfl (by decide) (congrArg Bool.not fa) rfl rfl
  · exact exec_readClear_at up (tmuStat_at n) (by omega) (indOff_tmuStat s n) (peekInd_tmuStat s n) (afterRead_tmuStat s n)
  · exact exec_readClear_at (a := 0x10011C) up rfl (by decide) (congrArg Bool.not fd) ((word32_eq _ 0).trans (by simp)) rfl
  · exact exec_readClear_at (a := 0x100120) up rfl (by decide) (congrArg Bool.not fd) (word32_eq _ 32) rfl
  · exact exec_readClear_at (a := 0x100410) up rfl (by decide) (congrArg Bool.not fd) rfl rfl
  · exact exec_readClear_at (a := 0x300500) up rfl (by decide) (congrArg Bool.not mo) rfl rfl
  · exact exec_readClear_at up (axEvt_at n) (by omega) ((indOff_axEvt s n).trans (congrArg Bool.not mo)) (peekInd_axEvt s n)
      (afterRead_axEvt s n)
  · exact exec_readClear_at (a := 0x400004) up rfl (by decide) (congrArg Bool.not na) rfl rfl
  · exact exec_readClear_at (a := 0x400104) up rfl (by decide) (congrArg Bool.not nb) rfl rfl
  · refine exec_readClear_off up ?_ ?_
    · obtain ⟨rfl, -⟩ | ⟨rfl | rfl | rfl, -⟩ | ⟨rfl | ⟨n, rfl⟩, -⟩ | ⟨rfl, -⟩ | ⟨rfl, -⟩ := off <;> simp
      omega
    · obtain ⟨rfl, fa⟩ | ⟨rfl | rfl | rfl, fd⟩ | ⟨rfl | ⟨n, rfl⟩, mo⟩ | ⟨rfl, nb⟩ | ⟨rfl, na⟩ := off
      · exact congrArg Bool.not fa
      · exact congrArg Bool.not fd
      · exact congrArg Bool.not fd
      · exact congrArg Bool.not fd
      · exact congrArg Bool.not mo
      · rw [axEvt_at n, indOff_axEvt, mo]
        rfl
      · exact congrArg Bool.not nb
      · exact congrArg Bool.not na

/-! ## Writes with a rule of their own -/

theorem whenPort_congr {f g : State → State} {s : State} (same : f s = g s) : whenPort f s = whenPort g s := by
  unfold whenPort
  rw [same]

theorem exec_registerWrite (addr : BitVec 12) (d : W32) (s : State) :
    exec (.registerWrite addr d) s = .next (whenPort (fun t => (writeWin addr.toNat d t).2) s) := rfl

/-- A register that ignores a write, of those without a rule of their own. -/
theorem writeWin_ignored {o : Nat} (v : W32) (s : State)
    (ro : o ∈ [0x00, 0x04, 0x08, 0x0C, 0x14, 0x20, 0x54, 0x58, 0x60, 0x64, 0x68, 0x6C] ∨ (0x200 ≤ o ∧ o < 0x400) ∨ 0x800 ≤ o) :
    writeWin o v s = (false, s) := by
  obtain low | high := ro
  · simp only [List.mem_cons, List.not_mem_nil, or_false] at low
    obtain rfl | rfl | rfl | rfl | rfl | rfl | rfl | rfl | rfl | rfl | rfl | rfl := low <;> rfl
  · have counts : ¬((decide (0x100 ≤ o) && decide (o < 0x180)) = true) := by simp; omega
    have compares : ¬((decide (0x180 ≤ o) && decide (o < 0x200)) = true) := by simp; omega
    have request : ¬((decide (reqBase ≤ o) && decide (o < rspBase)) = true) := by simp [reqBase, rspBase]; omega
    rw [writeWin, if_neg counts, if_neg compares, if_neg request] <;> omega

/-- A word address of 24 bits (R346). -/
theorem wordAddress (d : W32) : BitVec.ofNat 24 (fld d 2 22 * 4) = BitVec.ofNat 24 (d.toNat / 4 * 4) := by
  apply BitVec.eq_of_toNat_eq
  rw [BitVec.toNat_ofNat, BitVec.toNat_ofNat, fld]
  omega

/-- Away from IND_DATA a write at an alias is the plain write of the new value (R337). -/
theorem aliasWin_plain {addr : BitVec 12} (op : WinOp) (s : State) (other : addr ≠ 0x044) :
    aliasWin op addr.toNat s = writeWin addr.toNat (aliasVal op (peekWin addr.toNat s)) s :=
  if_neg fun eq => other (BitVec.eq_of_toNat_eq eq)

/-- Settles O15, register by register. -/
theorem windowTriggerAndAliasWrites : Obligations.WindowTriggerAndAliasWrites := by
  unfold Obligations.WindowTriggerAndAliasWrites
  refine ⟨fun s d up => ?_, fun s addr d ro => ?_, fun s v up => ?_, fun s v up => ⟨?_, ?_⟩, fun s v up => ?_,
    fun s d up => ⟨?_, ?_, ?_⟩, fun s addr d other => ⟨?_, ?_, ?_⟩⟩
  · refine congrArg Host.Outcome.next ((whenPort_up _ up).trans ?_)
    exact congrArg (fun a => { s with host := { s.host with indAddr := a } }) (wordAddress d)
  · rw [exec_registerWrite, whenPort_congr (g := id) (congrArg Prod.snd (writeWin_ignored d s ro))]
    exact congrArg Host.Outcome.next (ite_self s)
  · exact congrArg Host.Outcome.next (whenPort_up _ up)
  · exact congrArg Host.Outcome.next (whenPort_up _ up)
  · exact congrArg Host.Outcome.next (whenPort_up _ up)
  · exact congrArg Host.Outcome.next (whenPort_up _ up)
  · exact congrArg Host.Outcome.next (whenPort_up _ up)
  · exact congrArg Host.Outcome.next (whenPort_up _ up)
  · exact congrArg Host.Outcome.next (whenPort_up _ up)
  · exact congrArg Host.Outcome.next (whenPort_congr (congrArg Prod.snd (aliasWin_plain _ s other)))
  · exact congrArg Host.Outcome.next (whenPort_congr (congrArg Prod.snd (aliasWin_plain _ s other)))
  · exact congrArg Host.Outcome.next (whenPort_congr (congrArg Prod.snd (aliasWin_plain _ s other)))

end Sys2Proof.Proofs
end

section
/-! PROOF. The backup domain and the temperatures (R320 to R324, Table 14.5). -/

namespace Sys2Proof.Proofs

open Sys2Proof Sys2Proof.Machine Sys2Proof.Safety Sys2Proof.Laws

/-- A fault of another class than H leaves no trace in BK or in flash (R64, R282). -/
theorem raise_lasting {code : BitVec 16} (n : Nat) (s : State) (cls : faultClass code ≠ .h) :
    (raise code n s).bk = s.bk ∧ (raise code n s).flash = s.flash := by
  unfold raise raiseW
  rw [if_neg cls]
  dsimp only
  (repeat' split) <;> simp

/-! ## VBAT and the tamper input -/

theorem tableStill_live {s : State} (live : tableStill s = false) :
    s.resetHeld = false ∧ s.mode ≠ .off ∧ s.mode ≠ .backup ∧ s.mode ≠ .lull := by
  simpa [tableStill, not_or] using live

/-- The measurement, while the port is up. -/
theorem exec_vbatMeasurement {s : State} (mv : Nat) (on_ : s.pwr.aoOn = true) (live : tableStill s = false) :
    exec (.vbatMeasurement mv) s = .next (vbatCheck mv s) := by
  obtain ⟨held, -⟩ := tableStill_live live
  exact if_pos (by simp [on_, held])

/-- VBAT as measured. -/
def vbatRead (mv : Nat) (s : State) : State := { s with pwr := { s.pwr with vbat := mv, vbatNow := mv } }

theorem vbatCheck_low {mv : Nat} (s : State) (low : mv < 2200) : vbatCheck mv s = raise fcVbatLow 0 (vbatRead mv s) := if_pos low

theorem vbatCheck_good {mv : Nat} (s : State) (good : 2300 ≤ mv) : vbatCheck mv s = clearFault fcVbatLow 0 (vbatRead mv s) :=
  (if_neg (by omega)).trans (if_pos good)

/-- TAMPER_N low, where BK has power. -/
theorem exec_tamperNLow_powered {s : State} (bk : s.pwr.domains.getLsbD 9 = true) :
    exec .tamperNLow s = .next { s with
      bk := { s.bk with tamper := true, tamperSec := s.bk.rtcSec }
      ev := if s.pwr.aoOn then { s.ev with pwr := setBit s.ev.pwr 4 true } else s.ev } :=
  if_neg (by simp only [bk, Bool.not_true, Bool.false_eq_true, not_false_eq_true])

/-! ## Temperatures -/

/-- The measurement's readings, with how long each sensor has been over its limits and both below. -/
def temperaturesRead (die fs : Int) (s : State) : State :=
  { s with pwr := { s.pwr with
    die := die, fieldSide := fs
    highSince := #v[overSince s.tb.count (1200 ≤ die) (vget s.pwr.highSince 0 none),
      overSince s.tb.count (1150 ≤ fs) (vget s.pwr.highSince 1 none),
      overSince s.tb.count (1300 ≤ die) (vget s.pwr.highSince 2 none), overSince s.tb.count (1250 ≤ fs) (vget s.pwr.highSince 3 none)]
    coolSince := overSince s.tb.count (decide (die ≤ 1200) && decide (fs ≤ 1150)) s.pwr.coolSince } }

/-- Has the limit number `k` been exceeded for 1 s? -/
def overFor (k : Fin 4) (t : State) : Bool := Machine.heldFor t t.pwr.highSince[k] tSec

/-- TEMP_HIGH after a measurement. -/
def tempHighTold (die fs : Int) (t : State) : State :=
  if overFor 0 t || overFor 1 t then raise fcTempHigh 0 t else if die ≤ 1150 && fs ≤ 1100 then clearFault fcTempHigh 0 t else t

/-- TEMP_LIMIT after it. -/
def tempLimitTold (t : State) : State :=
  if overFor 2 t || overFor 3 t then raise fcTempLimit 0 t
  else if Machine.heldFor t t.pwr.coolSince (60 * tSec) then clearFault fcTempLimit 0 t else t

theorem tempHighTold_frame (die fs : Int) (t : State) :
    (tempHighTold die fs t).tb = t.tb ∧ (tempHighTold die fs t).pwr = t.pwr ∧ (tempHighTold die fs t).mode = t.mode ∧
    (tempHighTold die fs t).resetHeld = t.resetHeld ∧ (tempHighTold die fs t).ridge = t.ridge ∧ (tempHighTold die fs t).thatch = t.thatch := by
  unfold tempHighTold
  (repeat' split) <;> simp

theorem tempLimitTold_frame (t : State) :
    (tempLimitTold t).pwr = t.pwr ∧ (tempLimitTold t).mode = t.mode ∧ (tempLimitTold t).ridge = t.ridge ∧
    (tempLimitTold t).thatch = t.thatch := by
  unfold tempLimitTold
  (repeat' split) <;> simp

/-- A measurement below 145 °C, outside LULL and RESET. -/
theorem exec_temperature {s : State} {die : Int} (fs : Int) (on_ : s.pwr.aoOn = true) (live : tableStill s = false) (below : die < 1450) :
    exec (.temperatureMeasurement die fs) s = .next (tempLimitTold (tempHighTold die fs (temperaturesRead die fs s))) := by
  obtain ⟨held, -, -, lull⟩ := tableStill_live live
  obtain ⟨-, pwr, -⟩ := tempHighTold_frame die fs (temperaturesRead die fs s)
  have told : tempLimitTold (tempHighTold die fs (temperaturesRead die fs s)) =
      (let t := temperaturesRead die fs s
       let u := tempHighTold die fs t
       if Machine.heldFor u t.pwr.highSince[2] tSec || Machine.heldFor u t.pwr.highSince[3] tSec then raise fcTempLimit 0 u
       else if Machine.heldFor u t.pwr.coolSince (60 * tSec) then clearFault fcTempLimit 0 u else u) := by
    unfold tempLimitTold overFor
    rw [pwr]
    rfl
  rw [told]
  change execTemperatureMeasurement die fs s = _
  unfold execTemperatureMeasurement
  dsimp only
  rw [if_neg (by simp [on_]), if_neg (by omega), if_neg (by simp [held, lull])]
  rfl

/-- A measurement from 145 °C of the logic die on (log entry 72). -/
theorem exec_temperature_trip {s : State} {die : Int} (fs : Int) (on_ : s.pwr.aoOn = true) (trip : 1450 ≤ die) :
    exec (.temperatureMeasurement die fs) s = .next { powerOff true (temperaturesRead die fs s) with
      pwr := { (powerOff true (temperaturesRead die fs s)).pwr with die := die } } :=
  (if_neg (by simp [on_])).trans (if_pos trip)

section live

variable {s : State} {die : Int} (fs : Int) (live : tableStill s = false)

/-- A sensor over its limit for 1 s, with this measurement as with those before. -/
theorem overFor_read {hot : Prop} [Decidable hot] (k : Fin 4) {x : W64} (hotter : hot) (since : s.pwr.highSince[k] = some x)
    (long : x.toNat + 100000000 ≤ s.tb.count.toNat)
    (entry : (temperaturesRead die fs s).pwr.highSince[k] = overSince s.tb.count hot (vget s.pwr.highSince k none)) :
    overFor k (temperaturesRead die fs s) = true := by
  have was : vget s.pwr.highSince k none = some x := (vget_fin _ k _).trans since
  unfold overFor
  rw [entry, was, overSince, if_pos (decide_eq_true hotter)]
  exact (due_iff _ _).mpr long

/-- No sensor is over a limit that the reading does not exceed. -/
theorem overFor_cool {hot : Prop} [Decidable hot] (k : Fin 4) (under : ¬hot)
    (entry : (temperaturesRead die fs s).pwr.highSince[k] = overSince s.tb.count hot (vget s.pwr.highSince k none)) :
    overFor k (temperaturesRead die fs s) = false := by
  unfold overFor
  rw [entry, overSince, if_neg (by simpa using under)]
  rfl

include live

theorem tempHighTold_live : tableStill (tempHighTold die fs (temperaturesRead die fs s)) = false := by
  obtain ⟨-, -, mode, held, -⟩ := tempHighTold_frame die fs (temperaturesRead die fs s)
  unfold tableStill
  rw [mode, held]
  exact live

end live

/-- TEMP_LIMIT raises and clears no other fault. -/
theorem hasFault_tempLimitTold (t : State) : hasFault (tempLimitTold t) fcTempHigh 0 = hasFault t fcTempHigh 0 := by
  unfold tempLimitTold
  (repeat' split)
  · rw [hasFault_raise _ _ _ _ _ (by decide)]
    simp
  · rw [hasFault_clearFault _ _ _ _ _ (by decide)]
    simp
  · rfl

/-- Settles O34: threshold by threshold of VBAT and of the two sensors. -/
theorem backupDomainAndTemperatures : Obligations.BackupDomainAndTemperatures := by
  unfold Obligations.BackupDomainAndTemperatures
  refine ⟨fun s mv off enough => ?_, fun s mv noOff noBackup => ⟨?_, ?_⟩, fun s mv ao rest low => ?_, fun s mv on_ live low => ?_,
    fun s mv on_ live good => ?_, fun s bk => ?_, fun s bk => ?_, fun s die fs on_ live dieCool fsCool => ?_,
    fun s die fs x on_ live hot below since long => ?_, fun s die fs x on_ live hot below since long => ?_, fun s die fs on_ trip => ?_⟩
  · exact ⟨_, if_pos (by simp [off, enough]), rfl, setBit_self _ _ _ (by decide), rfl, rfl⟩
  · exact if_neg (by simp [onVbat, noOff, noBackup])
  · exact if_neg (by simp [noOff])
  · exact ⟨_, if_pos (by simpa [onVbat, ao, low] using rest), rfl, rfl, setBit_self _ _ _ (by decide), rfl⟩
  · obtain ⟨bk, -⟩ := raise_lasting 0 (vbatRead mv s) (code := fcVbatLow) (by decide)
    refine ⟨_, exec_vbatMeasurement mv on_ live, ?_⟩
    rw [vbatCheck_low s low, bk]
    exact ⟨by simp [vbatRead], hasFault_raise_self _ _ (by decide) live, by simp [vbatRead], by simp [vbatRead], by simp [vbatRead], rfl⟩
  · refine ⟨_, exec_vbatMeasurement mv on_ live, ?_⟩
    rw [vbatCheck_good s good]
    exact ⟨by simp [vbatRead], hasFault_clear_self _ _ (by decide) (by decide) live, by simp [vbatRead], by simp [vbatRead],
      by simp [vbatRead]⟩
  · exact if_pos (by simp only [bk, Bool.not_false])
  · exact ⟨_, exec_tamperNLow_powered bk, rfl, rfl, fun ao => (congrArg (fun e : Events => e.pwr.getLsbD 4) (if_pos ao)).trans
      (setBit_self _ _ _ (by decide)), rfl⟩
  · have high : tempHighTold die fs (temperaturesRead die fs s) = clearFault fcTempHigh 0 (temperaturesRead die fs s) := by
      unfold tempHighTold
      rw [overFor_cool fs 0 (hot := 1200 ≤ die) (by omega) rfl, overFor_cool fs 1 (hot := 1150 ≤ fs) (by omega) rfl]
      simp [dieCool, fsCool]
    obtain ⟨pwr, mode, ridge, thatch⟩ := tempLimitTold_frame (clearFault fcTempHigh 0 (temperaturesRead die fs s))
    refine ⟨_, exec_temperature fs on_ live (by omega), ?_⟩
    rw [high, pwr, mode, ridge, thatch, hasFault_tempLimitTold]
    exact ⟨by simp [temperaturesRead], by simp [temperaturesRead], hasFault_clear_self _ _ (by decide) (by decide) live,
      by simp [temperaturesRead], by simp [temperaturesRead], by simp [temperaturesRead]⟩
  · have hotter := overFor_read fs 0 (hot := 1200 ≤ die) hot since long rfl
    have high : tempHighTold die fs (temperaturesRead die fs s) = raise fcTempHigh 0 (temperaturesRead die fs s) :=
      if_pos (by rw [hotter]; rfl)
    obtain ⟨-, mode, -, -⟩ := tempLimitTold_frame (raise fcTempHigh 0 (temperaturesRead die fs s))
    refine ⟨_, exec_temperature fs on_ live below, ?_⟩
    rw [high, hasFault_tempLimitTold, mode]
    exact ⟨hasFault_raise_self _ _ (by decide) live, by simp [temperaturesRead]⟩
  · have hotter := overFor_read fs 2 (hot := 1300 ≤ die) hot since long rfl
    obtain ⟨tb, pwr, mode, -⟩ := tempHighTold_frame die fs (temperaturesRead die fs s)
    have limit : tempLimitTold (tempHighTold die fs (temperaturesRead die fs s)) =
        raise fcTempLimit 0 (tempHighTold die fs (temperaturesRead die fs s)) := by
      refine if_pos (Bool.or_eq_true_iff.mpr (.inl ?_))
      unfold overFor Machine.heldFor due at hotter ⊢
      rw [pwr, tb]
      exact hotter
    refine ⟨_, exec_temperature fs on_ live below, ?_⟩
    rw [limit]
    exact ⟨hasFault_raise_self _ _ (by decide) (tempHighTold_live fs live), by simp only [raise_frame]; exact mode⟩
  · exact ⟨_, exec_temperature_trip fs on_ trip, rfl, rfl, rfl, rfl, rfl, rfl, rfl, rfl⟩

end Sys2Proof.Proofs
end

section
/-! PROOF. Engine supervision, the regulators and loss of lock (R288, R290, R319, R323, Table 1.5). -/

namespace Sys2Proof.Proofs

open Sys2Proof Sys2Proof.Machine Sys2Proof.Safety Sys2Proof.Laws

/-! ## What raising a fault leaves of the event words and of Gable's line -/

theorem objEvent_keeps (cfg : Config.Image) (code : BitVec 16) (obj : Nat) (e : Events) :
    (objEvent cfg code obj e).pwr = e.pwr ∧ (objEvent cfg code obj e).netA = e.netA ∧ (objEvent cfg code obj e).netB = e.netB := by
  unfold objEvent
  (repeat' split) <;> exact ⟨rfl, rfl, rfl⟩

/-- No fault is an event of the supply or of a port by itself, and none stops Gable. -/
theorem raise_events (code : BitVec 16) (n : Nat) (s : State) :
    (raise code n s).ev.pwr = s.ev.pwr ∧ (raise code n s).ev.netA = s.ev.netA ∧ (raise code n s).ev.netB = s.ev.netB ∧
    (raise code n s).gable.up = s.gable.up := by
  unfold raise raiseW
  dsimp only
  (repeat' split) <;> simp [objEvent_keeps, postEvent_up]

/-! ## Heartbeats -/

/-- What a stop of Gable leaves beside its own state. -/
theorem gableStop_frame (s : State) :
    (gableStop s).tb = s.tb ∧ (gableStop s).mode = s.mode ∧ (gableStop s).resetHeld = s.resetHeld ∧ (gableStop s).ridge = s.ridge ∧
    (gableStop s).thatch = s.thatch ∧ (gableStop s).w = s.w := by
  unfold gableStop setGableUp
  split <;> exact ⟨rfl, rfl, rfl, rfl, rfl, rfl⟩

theorem gableStop_up (s : State) : (gableStop s).gable.up = false := setGableUp_false _

/-- The misses of the last 60 s, this one among them (R290). -/
def recentMisses (e : Engine) (s : State) : List W64 :=
  (engineOf e s).misses.filter (fun x => decide (s.tb.count.toNat < x.toNat + 6000000000)) ++ [s.tb.count]

/-- The engine after a miss, reset; it stays down at the fourth (R290). -/
def engineMissed (e : Engine) (s : State) : EngineSt :=
  { engineOf e s with up := false, down := 4 ≤ (recentMisses e s).length, misses := recentMisses e s }

/-- The state then: Gable's miss stops Gable. -/
def missState (e : Engine) (s : State) : State := setEngine e (engineMissed e s) (if e = .gable then gableStop s else s)

theorem engineMiss_eq (e : Engine) (s : State) : engineMiss e s =
    if 4 ≤ (recentMisses e s).length then logEvent 0xE00F (be 1 (engineNum e)) (raise fcEngineDown (engineNum e) (missState e s))
    else missState e s := rfl

theorem missState_frame (e : Engine) (s : State) :
    (missState e s).tb = s.tb ∧ (missState e s).mode = s.mode ∧ (missState e s).resetHeld = s.resetHeld ∧
    (missState e s).ridge = s.ridge ∧ (missState e s).thatch = s.thatch := by
  obtain ⟨tb, mode, held, ridge, thatch, -⟩ := gableStop_frame s
  unfold missState
  split <;> simp [tb, mode, held, ridge, thatch]

/-- A missed heartbeat touches neither the channels nor the mode, and leaves the engine as it was reset. -/
theorem engineMiss_frame (e : Engine) (s : State) :
    (engineMiss e s).tb = s.tb ∧ (engineMiss e s).mode = s.mode ∧ (engineMiss e s).resetHeld = s.resetHeld ∧
    (engineMiss e s).ridge = s.ridge ∧ (engineMiss e s).thatch = s.thatch ∧ engineOf e (engineMiss e s) = engineMissed e s := by
  obtain ⟨tb, mode, held, ridge, thatch⟩ := missState_frame e s
  have engine : engineOf e (missState e s) = engineMissed e s := engineOf_setEngine ..
  rw [engineMiss_eq]
  split
  · refine ⟨by simp [tb], by simp [mode], by simp [held], by simp [ridge], by simp [thatch], ?_⟩
    rw [← engine]
    cases e <;> simp [engineOf]
  · exact ⟨tb, mode, held, ridge, thatch, engine⟩

/-- Neither do they move Gable's line but by Gable's own miss. -/
theorem engineMiss_up (e : Engine) (s : State) : (engineMiss e s).gable.up = (!(e == .gable) && s.gable.up) := by
  have missed : (missState e s).gable.up = (!(e == .gable) && s.gable.up) := by
    unfold missState
    cases e <;> simp [gableStop_up]
  rw [engineMiss_eq, ← missed]
  split
  · simp [raise_events]
  · rfl

/-- A miss of the weathering engine leaves Gable's state. -/
theorem engineMiss_gableE (s : State) : (engineMiss .w s).gableE = s.gableE := by
  rw [engineMiss_eq]
  split
  · simp only [logEvent_frame, raise_frame]
    rfl
  · rfl

/-- ENGINE_DOWN with it (R290). -/
theorem hasFault_engineMiss {e : Engine} {s : State} (live : tableStill s = false) (fourth : 4 ≤ (recentMisses e s).length) :
    hasFault (engineMiss e s) fcEngineDown (engineNum e) = true := by
  obtain ⟨-, mode, held, -⟩ := missState_frame e s
  have still : tableStill (missState e s) = false := by
    unfold tableStill
    rw [mode, held]
    exact live
  rw [engineMiss_eq, if_pos fourth, hasFault_logEvent]
  exact hasFault_raise_at (by decide) still (by cases e <;> decide)

/-! ## Restarts -/

theorem satAdd_byte_toNat (b : BitVec 8) : (BitVec.ofNat 8 (satAdd 255 b.toNat 1)).toNat = min 255 (b.toNat + 1) := by
  rw [BitVec.toNat_ofNat, satAdd]
  omega

/-- The vector that a restarted engine's unit runs concerns no engine. -/
theorem cvuOfEngine_frame (e : Engine) (sound : Bool) (s : State) :
    (cvuOfEngine e sound s).mode = s.mode ∧ (cvuOfEngine e sound s).ridge = s.ridge ∧ (cvuOfEngine e sound s).thatch = s.thatch ∧
    ∀ x, engineOf x (cvuOfEngine e sound s) = engineOf x s := by
  unfold cvuOfEngine
  split
  · rw [cvuCheck_eq]
    refine ⟨by simp, by simp, by simp, fun x => ?_⟩
    cases x <;> simp [engineOf]
  · exact ⟨rfl, rfl, rfl, fun _ => rfl⟩

/-- Gable back: its line is up, and the engines and channels are as they were. -/
theorem gableBack_frame {s : State} (runs : s.gableE.up = true) :
    (gableBack s).gable.up = true ∧ (gableBack s).gableE = s.gableE ∧ (gableBack s).mode = s.mode ∧ (gableBack s).ridge = s.ridge ∧
    (gableBack s).thatch = s.thatch := by
  obtain ⟨up, engine, mode, ridge, thatch⟩ : (setGableUp true s).gable.up = true ∧ (setGableUp true s).gableE = s.gableE ∧
      (setGableUp true s).mode = s.mode ∧ (setGableUp true s).ridge = s.ridge ∧ (setGableUp true s).thatch = s.thatch := by
    unfold setGableUp
    split
    case isTrue up => exact ⟨up, rfl, rfl, rfl, rfl⟩
    case isFalse => exact ⟨rfl, rfl, rfl, rfl, rfl⟩
  unfold gableBack
  split
  case isTrue serving => exact ⟨by simpa [runs] using serving, rfl, rfl, rfl, rfl⟩
  case isFalse =>
    have keeps {β : Type} (p : State → β) (hp : ∀ t (x : FaultEntry), p (trigMatch true x.code x.arg t) = p t)
        (l : List FaultEntry) (u : State) : p (l.foldl (fun t x => trigMatch true x.code x.arg t) u) = p u := foldl_keeps p _ hp l u
    exact ⟨(keeps (fun t => t.gable.up) (by simp) _ _).trans up, (keeps State.gableE (by simp) _ _).trans engine,
      (keeps State.mode (by simp) _ _).trans mode, (keeps State.ridge (by simp) _ _).trans ridge,
      (keeps State.thatch (by simp) _ _).trans thatch⟩

/-- The engine that serves again, with its count (R290). -/
def engineServing (e : Engine) (s : State) : EngineSt :=
  { engineOf e s with up := true, restarts := BitVec.ofNat 8 (satAdd 255 (engineOf e s).restarts.toNat 1) }

/-- The state with the engine started and its unit's vector run. -/
def restarted (e : Engine) (sound : Bool) (s : State) : State :=
  cvuOfEngine e sound { setEngine e (engineServing e s) s with ev := match e with
    | .n0 => { s.ev with netA := setBit s.ev.netA 0 true }
    | .n1 => { s.ev with netB := setBit s.ev.netB 0 true }
    | _ => s.ev }

theorem restarted_frame (e : Engine) (sound : Bool) (s : State) :
    (restarted e sound s).mode = s.mode ∧ (restarted e sound s).ridge = s.ridge ∧ (restarted e sound s).thatch = s.thatch ∧
    engineOf e (restarted e sound s) = engineServing e s := by
  obtain ⟨mode, ridge, thatch, engine⟩ := cvuOfEngine_frame e sound { setEngine e (engineServing e s) s with ev := match e with
    | .n0 => { s.ev with netA := setBit s.ev.netA 0 true }
    | .n1 => { s.ev with netB := setBit s.ev.netB 0 true }
    | _ => s.ev }
  refine ⟨mode.trans (by simp), ridge.trans (by simp), thatch.trans (by simp), (engine e).trans ?_⟩
  cases e <;> rfl

/-- An engine that may start again does, and CONFIGURE, VERIFY and SERVICE apart the mode stays (R290). -/
theorem exec_engineRestarted {e : Engine} {s : State} (sound : Bool) (may : mayRestart e s = true) (configure : s.mode ≠ .configure)
    (verify : s.mode ≠ .verify) (service : s.mode ≠ .service) :
    exec (.engineRestarted e sound) s = .next (match e with
      | .gable => gableBack (restarted .gable sound s)
      | .ridgeB =>
        { restarted .ridgeB sound s with tcm := { (restarted .ridgeB sound s).tcm with
          instrB := memWriteBytes [] 0 s.active.image.splitCode, dataB := []
          ded := (restarted .ridgeB sound s).tcm.ded.filter (fun a => decide (a < 0x780000)) } }
      | _ => restarted e sound s) := by
  refine (if_neg (by simp [may])).trans ?_
  cases e with
  | gable => exact congrArg Host.Outcome.next (if_neg (by simp [configure, verify, service]))
  | n0 | n1 | w | ridgeB => rfl

/-! ## Regulators -/

/-- The state in which a regulator fault of RG, TH, MO, FA or FD is raised: the domain off, with what stops with it. -/
def domainDark (k : Nat) (s : State) : State :=
  { domainStops k (regulatorEvt s) with
    pwr := { (domainStops k (regulatorEvt s)).pwr with domains := setBit (domainStops k (regulatorEvt s)).pwr.domains k false } }

theorem notOff {b : Bool} (on_ : b = true) : ¬(!b) = true := by simp [on_]

/-- A regulator fault of one of these. -/
theorem exec_regulatorFault_domain {s : State} {d : Fin 10} (on_ : s.pwr.domains.getLsbD d = true) (which : d.val ∈ [0, 1, 2, 6, 7]) :
    exec (.regulatorFault d) s = .next (raise fcRegulatorFault d.val (domainDark d.val s)) := by
  refine (if_neg (notOff on_)).trans ?_
  match d with
  | 0 | 1 | 2 | 6 | 7 => rfl
  | 3 | 4 | 5 | 8 | 9 => exact absurd which (by decide)

/-- What stops with each of these (Table 1.5, R272). -/
theorem domainDark_stops (s : State) {d : Fin 10} (which : d.val ∈ [0, 1, 2, 6, 7]) :
    tableStill (domainDark d.val s) = tableStill s ∧ (domainDark d.val s).pwr.domains.getLsbD d = false ∧
    (domainDark d.val s).ev.pwr.getLsbD 0 = true ∧ (d.val = 7 → (domainDark d.val s).ridge.frozen = true) ∧
    (d.val = 6 → (domainDark d.val s).thatch.frozen = true) ∧
    (6 ≤ d.val → (domainDark d.val s).ridge.latch.gust = Latch.safe.gust ∧ (domainDark d.val s).thatch.latch.gust = Latch.safe.gust) ∧
    (d.val = 2 → (domainDark d.val s).motion.silent0 = true ∧ (domainDark d.val s).motion.silent1 = true) ∧
    (d.val = 1 → (domainDark d.val s).laneP.resetLevel = true ∧ (domainDark d.val s).laneT.resetLevel = true) ∧
    (d.val = 0 → (domainDark d.val s).fa.silentP = true ∧ (domainDark d.val s).fa.silentT = true) := by
  have evt : (setBit s.ev.pwr 0 true).getLsbD 0 = true := setBit_self _ _ _ (by decide)
  match d with
  | 0 | 1 | 2 | 6 | 7 =>
    refine ⟨rfl, setBit_self _ _ _ (by decide), evt, ?_⟩
    simp [domainDark, domainStops, noPulse, laneReset, LaneFc.reset]
  | 3 | 4 | 5 | 8 | 9 => exact absurd which (by decide)

/-- One of NA: LINK_DOWN of its port (Table 1.5). -/
theorem exec_regulatorFault_netA {s : State} (on_ : s.pwr.domains.getLsbD 4 = true) :
    exec (.regulatorFault 4) s = .next (raise fcLinkDownA 0 (portDark .a (regulatorEvt s))) := if_neg (notOff on_)

/-- One of NB, likewise. -/
theorem exec_regulatorFault_netB {s : State} (on_ : s.pwr.domains.getLsbD 3 = true) :
    exec (.regulatorFault 3) s = .next (raise fcLinkDownB 0 (portDark .b (regulatorEvt s))) := if_neg (notOff on_)

/-- The port's link is gone, and where it had one its event tells of it (Table 9.10). -/
theorem portDark_event (s : State) :
    (s.portA.link = true → (portDark .a s).ev.netA.getLsbD 2 = true) ∧ (s.portB.link = true → (portDark .b s).ev.netB.getLsbD 2 = true) := by
  constructor <;> intro link <;> unfold portDark <;> dsimp only <;> rw [if_pos (by simp [link])] <;> exact setBit_self _ _ _ (by decide)

/-- GB: Gable is reset, and with it the weathering engine (Table 1.5). -/
theorem exec_regulatorFault_gable {s : State} (on_ : s.pwr.domains.getLsbD 5 = true) (runs : s.gableE.up = true) :
    exec (.regulatorFault 5) s = .next (if (engineMiss .gable (regulatorEvt s)).w.up = true then
      engineMiss .w (engineMiss .gable (regulatorEvt s)) else engineMiss .gable (regulatorEvt s)) := by
  have runs' : (regulatorEvt s).gableE.up = true := runs
  refine (if_neg (notOff on_)).trans ?_
  change Host.Outcome.next (if (if (regulatorEvt s).gableE.up then engineMiss .gable (regulatorEvt s) else regulatorEvt s).w.up then
    engineMiss .w (if (regulatorEvt s).gableE.up then engineMiss .gable (regulatorEvt s) else regulatorEvt s)
    else if (regulatorEvt s).gableE.up then engineMiss .gable (regulatorEvt s) else regulatorEvt s) = _
  rw [if_pos runs']

/-- Settles O37: the engines, the domains of Table 1.5 and the PLL, one by one. -/
theorem enginesAndRegulators : Obligations.EnginesAndRegulators := by
  unfold Obligations.EnginesAndRegulators
  refine ⟨fun s e sup live => ?_, fun s e sound up down missed lull held on_ configure verify service gable ridgeB => ?_,
    fun s sound stays => ?_, fun s d on_ live which => ?_, fun s live => ⟨fun on_ => ?_, fun on_ => ?_⟩, fun s on_ runs live => ?_,
    fun s on_ => ?_, fun s on_ => ?_, fun s d off => ?_, fun s on_ held off backup lull => ?_⟩
  · obtain ⟨tb, mode, -, ridge, thatch, engine⟩ := engineMiss_frame e s
    refine ⟨_, if_pos sup, congrArg EngineSt.up engine, ridge, thatch, mode, tb, ?_, fun fourth => ?_, congrArg EngineSt.misses engine⟩
    · rw [engine]
      simp [engineMissed, recentMisses]
    · exact hasFault_engineMiss live (by simpa [recentMisses] using fourth)
  · have split : e = .ridgeB → (s.faults ++ s.unlisted).any (fun f => f.cls == .h) = false := fun eq =>
      List.any_eq_false.mpr fun f listed => by simpa using (ridgeB eq).2.2.2 f listed
    have may : mayRestart e s = true := by
      cases e <;> simp_all [mayRestart]
    obtain ⟨mode, ridge, thatch, engine⟩ := restarted_frame e sound s
    have started : (engineOf e (restarted e sound s)).up = true ∧
        (engineOf e (restarted e sound s)).restarts.toNat = min 255 ((engineOf e s).restarts.toNat + 1) := by
      rw [engine]
      exact ⟨rfl, satAdd_byte_toNat _⟩
    refine ⟨_, exec_engineRestarted sound may configure verify service, ?_⟩
    cases e with
    | gable =>
      obtain ⟨line, gableE, mode', ridge', thatch'⟩ := gableBack_frame started.1
      refine ⟨(congrArg EngineSt.up gableE).trans started.1, (congrArg (fun x : EngineSt => x.restarts.toNat) gableE).trans started.2,
        fun _ => line, (fun other => nomatch other), mode'.trans mode, ridge'.trans ridge, thatch'.trans thatch⟩
    | n0 | n1 | w => exact ⟨started.1, started.2, (fun other => nomatch other), (fun other => nomatch other), mode, ridge, thatch⟩
    | ridgeB => exact ⟨started.1, started.2, (fun other => nomatch other), fun _ => ⟨rfl, rfl⟩, mode, ridge, thatch⟩
  · refine if_pos ?_
    obtain lockout | classH := stays
    · simp [mayRestart, lockout]
    · rw [anyClassH] at classH
      simp only [mayRestart, classH]
      simp
  · refine ⟨_, exec_regulatorFault_domain on_ which, ?_⟩
    have fits : d.val < 65536 := by omega
    have evt := (raise_events fcRegulatorFault d.val (domainDark d.val s)).1
    obtain ⟨still, dark⟩ := domainDark_stops s which
    simp only [raise_frame, evt]
    exact ⟨hasFault_raise_at (by decide) (still.trans live) fits, dark⟩
  · obtain ⟨-, evt, -⟩ := raise_events fcLinkDownA 0 (portDark .a (regulatorEvt s))
    refine ⟨_, exec_regulatorFault_netA on_, hasFault_raise_self _ _ (by decide) live, ?_⟩
    simp only [raise_frame, evt]
    exact ⟨rfl, (portDark_event (regulatorEvt s)).1, rfl, rfl, rfl⟩
  · obtain ⟨-, -, evt, -⟩ := raise_events fcLinkDownB 0 (portDark .b (regulatorEvt s))
    refine ⟨_, exec_regulatorFault_netB on_, hasFault_raise_self _ _ (by decide) live, ?_⟩
    simp only [raise_frame, evt]
    exact ⟨rfl, (portDark_event (regulatorEvt s)).2, rfl, rfl, rfl⟩
  · obtain ⟨-, mode, -, ridge, thatch, gableE⟩ := engineMiss_frame .gable (regulatorEvt s)
    have line := engineMiss_up .gable (regulatorEvt s)
    refine ⟨_, exec_regulatorFault_gable on_ runs, ?_⟩
    generalize engineMiss .gable (regulatorEvt s) = u at *
    have down : u.gableE.up = false := congrArg EngineSt.up gableE
    split
    case isFalse w => exact ⟨down, line, Bool.eq_false_iff.mpr w, ridge, thatch, mode⟩
    case isTrue =>
      obtain ⟨-, mode', -, ridge', thatch', w⟩ := engineMiss_frame .w u
      refine ⟨?_, (engineMiss_up .w u).trans line, congrArg EngineSt.up w, ridge'.trans ridge, thatch'.trans thatch, mode'.trans mode⟩
      rw [engineMiss_gableE]
      exact down
  · exact ⟨_, if_neg (notOff on_), rfl, rfl, rfl, rfl, rfl, rfl, rfl⟩
  · exact if_neg (notOff on_)
  · exact if_pos (by simp only [off, Bool.not_false])
  · refine ⟨_, if_neg (by simp [on_, held, off, backup, lull]), rfl, setGableUp_false s, rfl, rfl, rfl, rfl, rfl, rfl, rfl, rfl, rfl, rfl, ?_⟩
    unfold setGableUp
    split <;> exact ⟨rfl, rfl, rfl, rfl⟩

end Sys2Proof.Proofs
end

section
/-! PROOF. The Slate commands: cells, pulses and refusals (R299 to R304, R311). -/

namespace Sys2Proof.Proofs

open Sys2Proof Sys2Proof.Machine Sys2Proof.Safety Sys2Proof.Laws

/-! ## The cells of a bit -/

section cells

variable (v : Vector (BitVec 8192) 6) {b : Nat}

theorem getElem_vmap (f : BitVec 8192 → BitVec 8192) (k : Fin 6) : (vmap f v)[k] = f v[k] := by
  simp [vmap]

/-- A bit set or cleared leaves every other one. -/
theorem getLsbD_setBit_other (w : BitVec 8192) {i : Nat} (x : Bool) (other : i ≠ b) : (setBit w b x).getLsbD i = w.getLsbD i := by
  by_cases inside : i < 8192
  · exact setBit_other w b i x inside other
  · rw [BitVec.getLsbD_of_ge _ _ (Nat.le_of_not_lt inside), BitVec.getLsbD_of_ge _ _ (Nat.le_of_not_lt inside)]

theorem cellsProgrammed_set (inside : b < 8192) (k : Fin 6) : (cellsProgrammed v b)[k].getLsbD b = true := by
  unfold cellsProgrammed
  rw [getElem_vmap, setBit_self _ _ _ inside]

theorem cellsProgrammed_other {i : Nat} (other : i ≠ b) (k : Fin 6) : (cellsProgrammed v b)[k].getLsbD i = v[k].getLsbD i := by
  unfold cellsProgrammed
  rw [getElem_vmap, getLsbD_setBit_other _ _ other]

theorem cellsFailed_other (x : BitVec 6) {i : Nat} (other : i ≠ b) (k : Fin 6) : (cellsFailed v b x)[k].getLsbD i = v[k].getLsbD i := by
  have at_ : (cellsFailed v b x)[k] = _ := getElem_vtab _ k.isLt
  rw [at_, getLsbD_setBit_other _ _ other, vget_fin]

theorem cellsCut_other (x : BitVec 6) {i : Nat} (other : i ≠ b) (k : Fin 6) : (cellsCut v b x)[k].getLsbD i = v[k].getLsbD i := by
  have at_ : (cellsCut v b x)[k] = _ := getElem_vtab _ k.isLt
  rw [at_, getLsbD_setBit_other _ _ other, vget_fin]

/-- No cell goes back to 0 (R301). -/
theorem cellsFailed_keeps (inside : b < 8192) (x : BitVec 6) (k : Fin 6) (one : v[k].getLsbD b = true) :
    (cellsFailed v b x)[k].getLsbD b = true := by
  have at_ : (cellsFailed v b x)[k] = _ := getElem_vtab _ k.isLt
  rw [at_, setBit_self _ _ _ inside]
  have old : (vget v k.val 0).getLsbD b = true := by rw [vget_fin, one]
  match k, old with
  | 0, old | 1, old | 2, old | 3, old | 4, old | 5, old => exact Bool.or_eq_true_iff.mpr (.inl old)

/-- After four failed rounds not both copies are 1 at the tight-high reference (log entry 31). -/
theorem cellsFailed_fails (inside : b < 8192) (x : BitVec 6) (fails : verifies v b = false) :
    (cellsFailed v b x)[(1 : Fin 6)].getLsbD b = false ∨ (cellsFailed v b x)[(4 : Fin 6)].getLsbD b = false := by
  have at1 : (cellsFailed v b x)[(1 : Fin 6)] = _ := getElem_vtab _ (by decide)
  have at4 : (cellsFailed v b x)[(4 : Fin 6)] = _ := getElem_vtab _ (by decide)
  rw [at1, at4, setBit_self _ _ _ inside, setBit_self _ _ _ inside]
  have vote : ∀ one four x1 x4 : Bool, (one && four) = false →
      (one || (x1 && !(four || (x4 && !one)))) = false ∨ (four || (x4 && !one)) = false := by decide
  exact vote _ _ _ _ fails

end cells

theorem alreadySet_iff (s : State) (b : Nat) : alreadySet s b = true ↔ ∀ k : Fin 6, s.slate.cells[k].getLsbD b = true := by
  unfold alreadySet
  rw [List.all_eq_true]
  constructor
  · intro all k
    exact all _ (by simp)
  · intro all w mem
    obtain ⟨k, inside, rfl⟩ := List.mem_iff_getElem.mp mem
    simpa using all ⟨k, by simpa using inside⟩

/-! ## A programming as its rounds leave it -/

/-- SLATE_VPP as the command finds it sets VPP_IGNORED above 3 V, from SHIPPED on (R300). -/
theorem vppCheck_eq (mv : Nat) (s : State) :
    ∃ ev, vppCheck mv s = { s with ev := ev } ∧ (2 ≤ lifeState (shadowOf s) → 3000 < mv → ev.slate.getLsbD 1 = true) := by
  unfold vppCheck
  split
  case isTrue => exact ⟨_, rfl, fun _ _ => setBit_self _ _ _ (by decide)⟩
  case isFalse low => exact ⟨s.ev, rfl, fun life high => absurd (by simp [life, high]) low⟩

/-- The state that the rules of R298 to R304 are asked in: the request taken, the supply looked at. -/
theorem slateReady (p : Port) (mv : Nat) (s : State) :
    ∃ g ev, vppCheck mv (touch p s) = { s with gable := g, ev := ev } ∧ (∀ q, keptOf q { s with gable := g, ev := ev } = keptOf q s) ∧
      (2 ≤ lifeState (shadowOf s) → 3000 < mv → ev.slate.getLsbD 1 = true) := by
  obtain ⟨g, taken⟩ := touch_eq p s
  obtain ⟨ev, supply, ignored⟩ := vppCheck_eq mv (touch p s)
  have kept (q : Port) : keptOf q (touch p s) = keptOf q s := touch_reads (keptOf q) p s fun _ _ _ _ _ => by cases q <;> rfl
  rw [taken] at supply ignored kept
  exact ⟨g, ev, by rw [taken, supply], fun q => (keptOf_congr q rfl).trans (kept q), ignored⟩

/-- Rounds of which one passes set the bit in both copies, and the events but for theirs stay. -/
theorem programCells_passed (b : Nat) {pass : Nat} (s : State) (passed : pass ≠ 0) :
    (programCells b pass s).slate.cells = cellsProgrammed s.slate.cells b ∧ (programCells b pass s).slate.shadow = s.slate.shadow ∧
    (programCells b pass s).ev.slate.getLsbD 1 = s.ev.slate.getLsbD 1 := by
  have bit (x : Bool) : (setBit (setBit s.ev.slate 0 true) 4 x).getLsbD 1 = s.ev.slate.getLsbD 1 := by
    rw [setBit_other _ _ _ _ (by decide) (by decide), setBit_other _ _ _ _ (by decide) (by decide)]
  have ok : (pass != 0) = true := by simpa using passed
  unfold programCells
  simp only [ok, Bool.true_and, if_true]
  split
  · simp only [clearFault_frame]
    exact ⟨trivial, trivial, bit _⟩
  · exact ⟨rfl, rfl, bit _⟩

/-- Four rounds that fail leave its cells as they may read. -/
theorem programCells_failed (b : Nat) (s : State) :
    (programCells b 0 s).slate.cells = cellsFailed s.slate.cells b (Config.failedCell s.free) := by
  simp [programCells, slateEvent]

/-! ## The commands' own effects -/

/-- A SLATE_PROGRAM_BIT that the checks of its form let through. -/
structure ProgramForm (r : Req) : Prop where
  length : r.payload.length = 4
  bit : r.num 0 2 ≤ 8191
  lo : 10 ≤ r.num 2 1
  hi : r.num 2 1 ≤ 50
  zero : r.num 3 1 = 0

section program

variable {r : Req} {p : SlatePulse} {x u : State} (form : ProgramForm r) (ready : vppCheck p.vppMv x = u)
include form ready

/-- Refused by the rules: an answer and no more. -/
theorem programBody_refused {st : Byte} (refused : programRefusal r (r.num 0 2) u = some st) :
    ∃ a, programBody r p x = (u, a) ∧ a.st = st ∧ a.payload = [] ∧ a.more = false ∧ a.later = false := by
  obtain ⟨length, bit, lo, hi, zero⟩ := form
  unfold programBody
  rw [ready]
  dsimp only
  rw [if_neg (by simp [length]), if_neg (by simp [zero]; omega), refused]
  exact ⟨_, rfl, rfl, rfl, rfl, rfl⟩

/-- Allowed and not programmed yet: the rounds, or the cut. -/
theorem programBody_allowed (allowed : programRefusal r (r.num 0 2) u = none) (unset : alreadySet u (r.num 0 2) = false) :
    (p.cut = true → programBody r p x = cutPulse ccSlateProgramBit r (r.num 0 2) u) ∧
    (p.cut = false → ∃ a n, n = (if passOf (r.num 0 2) p u = 0 then 4 else passOf (r.num 0 2) p u) ∧
      programBody r p x = (setProg (if passOf (r.num 0 2) p u = 0 then 3 else 1) n (r.num 0 2)
        (programCells (r.num 0 2) (passOf (r.num 0 2) p u) u), a) ∧
      a.st = (if passOf (r.num 0 2) p u = 0 then stSlateBitFailed else stOk) ∧ a.payload = [BitVec.ofNat 8 n, 0, 0, 0] ∧
      a.more = false ∧ a.later = false) := by
  obtain ⟨length, bit, lo, hi, zero⟩ := form
  unfold programBody
  rw [ready]
  dsimp only
  rw [if_neg (by simp [length]), if_neg (by simp [zero]; omega), allowed]
  dsimp only
  rw [if_neg (Bool.eq_false_iff.mp unset)]
  exact ⟨fun cut => if_pos cut, fun whole => ⟨_, _, rfl, if_neg (Bool.eq_false_iff.mp whole), rfl, rfl, rfl, rfl⟩⟩

end program

section lock

variable {r : Req} {p : SlatePulse} {x u : State} {slot : Nat} (length : r.payload.length = 4) (region : r.num 0 1 = 3)
  (which : r.num 1 1 = slot) (inside : slot ≤ 7) (zero : r.num 2 2 = 0) (ready : vppCheck p.vppMv x = u)
include length region which inside zero ready

/-- SLATE_LOCK of an anchor slot that Table 13.3 refuses. -/
theorem slateLockBody_refused (refused : lockAllowed 3 slot u = false) :
    ∃ a, slateLockBody r p x = (u, a) ∧ a.st = stSlateDenied ∧ a.payload = [] ∧ a.more = false ∧ a.later = false := by
  unfold slateLockBody
  rw [ready]
  dsimp only
  rw [region, which, if_neg (by simp [length]), if_neg (by simp [zero]; omega), refused]
  exact ⟨_, rfl, rfl, rfl, rfl, rfl⟩

/-- One that it allows, and whose lock is not set yet: the rounds. -/
theorem slateLockBody_allowed (allowed : lockAllowed 3 slot u = true) (unset : alreadySet u (3648 + slot) = false) (whole : p.cut = false)
    (passed : passOf (3648 + slot) p u ≠ 0) :
    ∃ a, slateLockBody r p x = (programCells (3648 + slot) (passOf (3648 + slot) p u) u, a) ∧ a.st = stOk ∧ a.payload = [] ∧
      a.more = false ∧ a.later = false := by
  have slotLock : ¬slot = 0xFF := by omega
  unfold slateLockBody
  rw [ready]
  dsimp only
  rw [region, which, if_neg (by simp [length]), if_neg (by simp [zero]; omega), allowed, if_neg slotLock]
  rw [if_neg (by decide), if_neg (Bool.eq_false_iff.mp unset), if_neg (Bool.eq_false_iff.mp whole), if_neg passed]
  exact ⟨_, rfl, rfl, rfl, rfl, rfl⟩

end lock

/-! ## What the answer leaves of them -/

/-- The Slate and its events outlast the answer. -/
theorem slate_of_rest {u t : State} (rest : offLog (offService u) = offLog (offService t)) : u.slate = t.slate ∧ u.ev = t.ev :=
  ⟨(congrArg State.slate rest :), (congrArg State.ev rest :)⟩

/-- SLATE_PROG is the one register that it writes. -/
theorem setProg_eq (result rounds b : Nat) (s : State) :
    ∃ w, setProg result rounds b s = { s with slate := { s.slate with prog := w } } := ⟨_, rfl⟩

/-- A bit that the rounds set reads 1 on both copies at every reference. -/
theorem alreadySet_programmed {b : Nat} (inside : b < 8192) {t : State} {v : Vector (BitVec 8192) 6}
    (cells : t.slate.cells = cellsProgrammed v b) : alreadySet t b = true :=
  (alreadySet_iff t b).mpr fun k => by rw [cells, cellsProgrammed_set v inside]

/-- One whose margin verify failed does not. -/
theorem alreadySet_failed {b : Nat} (inside : b < 8192) {t : State} {v : Vector (BitVec 8192) 6} {x : BitVec 6}
    (fails : verifies v b = false) (cells : t.slate.cells = cellsFailed v b x) : alreadySet t b = false := by
  refine Bool.eq_false_iff.mpr fun all => ?_
  have one := (alreadySet_iff t b).mp all
  rw [cells] at one
  obtain low | low := cellsFailed_fails v inside x fails
  · exact Bool.false_ne_true (low.symm.trans (one 1))
  · exact Bool.false_ne_true (low.symm.trans (one 4))

/-- A bit that reads 1 everywhere verifies. -/
theorem verifies_of_alreadySet {s : State} {b : Nat} (all : alreadySet s b = true) : verifies s.slate.cells b = true := by
  have one := (alreadySet_iff s b).mp all
  have tight : verifies s.slate.cells b = (s.slate.cells[(1 : Fin 6)].getLsbD b && s.slate.cells[(4 : Fin 6)].getLsbD b) := by
    rw [← vget_fin _ 1 0, ← vget_fin _ 4 0]
    rfl
  rw [tight, one 1, one 4]
  rfl

theorem passOf_passes {b : Nat} {p : SlatePulse} {s : State} (lo : 1 ≤ p.passRound) (hi : p.passRound ≤ 4) :
    passOf b p s = (if verifies s.slate.cells b then 1 else p.passRound) ∧ passOf b p s ≠ 0 := by
  unfold passOf
  rw [if_pos hi]
  refine ⟨rfl, ?_⟩
  split <;> omega

/-- Settles O32: the rounds that pass, those that fail, the cut, the refusals, and the lock of a slot. -/
theorem slateProgramming : Obligations.SlateProgramming := by
  unfold Obligations.SlateProgramming
  refine ⟨fun r p s ok len bit lo hi zero allowed unset whole one four => ?_, fun r p s ok len bit lo hi zero allowed fails whole never => ?_,
    fun r p s ok len bit lo hi zero allowed unset cut => ?_, fun r p s st ok len bit lo hi zero refused => ?_,
    fun r p slot s ok len region which inside zero allowed unset whole one four => ?_,
    fun r p slot s ok len region which inside zero refused => ?_⟩
  · obtain ⟨g, ev, ready, -, ignored⟩ := slateReady r.port p.vppMv s
    obtain ⟨pass, passed⟩ := passOf_passes (b := r.num 0 2) (s := { s with gable := g, ev := ev }) one four
    obtain ⟨-, rounds⟩ := programBody_allowed ⟨len, bit, lo, hi, zero⟩ ready allowed unset
    obtain ⟨a, n, count, acts, st, payload, more, now⟩ := rounds whole
    obtain ⟨w, prog⟩ := setProg_eq _ n (r.num 0 2) (programCells (r.num 0 2) (passOf (r.num 0 2) p { s with gable := g, ev := ev }) _)
    rw [prog] at acts
    obtain ⟨t, run, kept, -, rest, -⟩ := exec_answers (c := .slateProgramBit r p) rfl ok acts now
    obtain ⟨slate, events⟩ := slate_of_rest rest
    obtain ⟨cells, shadow, vpp⟩ := programCells_passed (r.num 0 2) { s with gable := g, ev := ev } passed
    rw [if_neg passed] at count st
    have cells_t : t.slate.cells = cellsProgrammed s.slate.cells (r.num 0 2) := (congrArg Slate.cells slate).trans cells
    refine ⟨t, run, alreadySet_programmed (by omega) cells_t, fun k b other => by rw [cells_t, cellsProgrammed_other _ other],
      fun life high => ?_, (congrArg Slate.shadow slate).trans shadow, ?_⟩
    · rw [events]
      exact vpp.trans (ignored life high)
    · rw [st, payload, more, count, pass] at kept
      exact kept
  · obtain ⟨g, ev, ready, -, -⟩ := slateReady r.port p.vppMv s
    have unset : alreadySet s (r.num 0 2) = false :=
      Bool.eq_false_iff.mpr fun all => Bool.false_ne_true (fails.symm.trans (verifies_of_alreadySet all))
    obtain ⟨-, rounds⟩ := programBody_allowed ⟨len, bit, lo, hi, zero⟩ ready allowed unset
    obtain ⟨a, n, count, acts, st, payload, more, now⟩ := rounds whole
    obtain ⟨w, prog⟩ := setProg_eq _ n (r.num 0 2) (programCells (r.num 0 2) (passOf (r.num 0 2) p { s with gable := g, ev := ev }) _)
    rw [prog] at acts
    have failed : passOf (r.num 0 2) p { s with gable := g, ev := ev } = 0 := by
      unfold passOf
      rw [if_neg (Bool.eq_false_iff.mp fails), if_pos (by omega), never]
    rw [failed, if_pos rfl] at count st
    rw [failed] at acts
    obtain ⟨t, run, kept, -, rest, -⟩ := exec_answers (c := .slateProgramBit r p) rfl ok acts now
    obtain ⟨slate, -⟩ := slate_of_rest rest
    have cells_t : t.slate.cells = cellsFailed s.slate.cells (r.num 0 2) (Config.failedCell s.free) :=
      (congrArg Slate.cells slate).trans (programCells_failed _ _)
    refine ⟨t, run, alreadySet_failed (by omega) fails cells_t, fun k b other => by rw [cells_t, cellsFailed_other _ _ other],
      fun k was => by rw [cells_t, cellsFailed_keeps _ (by omega) _ _ was], ?_⟩
    rw [st, payload, more, count] at kept
    exact kept
  · obtain ⟨g, ev, ready, kept, -⟩ := slateReady r.port p.vppMv s
    obtain ⟨ends, -⟩ := programBody_allowed ⟨len, bit, lo, hi, zero⟩ ready allowed unset
    refine ⟨_, congrArg Host.Outcome.next (serve_later ok (ends cut) rfl), ?_, rfl, rfl, fun k b other => cellsCut_other _ _ other k⟩
    exact (keptOf_dequeue ..).trans ((keptOf_congr r.port rfl).trans (kept r.port))
  · obtain ⟨g, ev, ready, -, -⟩ := slateReady r.port p.vppMv s
    obtain ⟨a, acts, status, payload, more, now⟩ := programBody_refused ⟨len, bit, lo, hi, zero⟩ ready refused
    obtain ⟨t, run, kept, -, rest, -⟩ := exec_answers (c := .slateProgramBit r p) rfl ok acts now
    rw [status, payload, more] at kept
    exact ⟨t, run, (slate_of_rest rest).1, kept⟩
  · obtain ⟨g, ev, ready, -, -⟩ := slateReady r.port p.vppMv s
    obtain ⟨-, passed⟩ := passOf_passes (b := 3648 + slot) (s := { s with gable := g, ev := ev }) one four
    obtain ⟨a, acts, st, payload, more, now⟩ := slateLockBody_allowed len region which inside zero ready allowed unset whole passed
    obtain ⟨t, run, kept, -, rest, -⟩ := exec_answers (c := .slateLock r p) rfl ok acts now
    obtain ⟨cells, -⟩ := programCells_passed (3648 + slot) { s with gable := g, ev := ev } passed
    have cells_t : t.slate.cells = cellsProgrammed s.slate.cells (3648 + slot) :=
      (congrArg Slate.cells (slate_of_rest rest).1).trans cells
    rw [st, payload, more] at kept
    exact ⟨t, run, alreadySet_programmed (by omega) cells_t, fun k b other => by rw [cells_t, cellsProgrammed_other _ other], kept⟩
  · obtain ⟨g, ev, ready, -, -⟩ := slateReady r.port p.vppMv s
    obtain ⟨a, acts, st, payload, more, now⟩ := slateLockBody_refused len region which inside zero ready refused
    obtain ⟨t, run, kept, -, rest, -⟩ := exec_answers (c := .slateLock r p) rfl ok acts now
    rw [st, payload, more] at kept
    exact ⟨t, run, (slate_of_rest rest).1, kept⟩

end Sys2Proof.Proofs
end

section
/-! PROOF. BOOT: what its steps leave, and what they reach (R277, R318, R319, Table 12.4). -/

namespace Sys2Proof.Proofs

open Sys2Proof Sys2Proof.Machine Sys2Proof.Safety Sys2Proof.Laws

/-! ## What a BOOT keeps -/

/-- What every step of BOOT leaves as the release of the reset has put it. -/
structure Released where
  mode : Mode
  cause : BitVec 8
  held : Bool
  tb : Timebase
  levelP : Bool
  levelT : Bool
  aoOn : Bool
  diverged : Bool
  almOpen : Bool
  running : Bool

/-- What the steps reach: the step itself, Gable, the Slate, with L+ as it was read. -/
structure Reached where
  bootStep : Nat
  up : Bool
  gableE : EngineSt
  cells : Vector (BitVec 8192) 6
  readDone : Bool
  lplus : Nat

def released (s : State) : Released :=
  { mode := s.mode, cause := s.resetCause, held := s.resetHeld, tb := s.tb, levelP := s.laneP.resetLevel, levelT := s.laneT.resetLevel
    aoOn := s.pwr.aoOn, diverged := s.pair.diverged, almOpen := s.fa.almOpen, running := s.tick.running }

def reached (s : State) : Reached :=
  { bootStep := s.bootStep, up := s.gable.up, gableE := s.gableE, cells := s.slate.cells, readDone := s.slate.readDone
    lplus := s.pwr.lplus }

/-- Both. -/
def bootView (s : State) : Released × Reached := (released s, reached s)

/-- The loading of a configuration changes the active one, faults, events and the log. -/
theorem loadConfig_keeps {β : Type} (p : State → β) (raised : ∀ t code n, p (raise code n t) = p t)
    (cleared : ∀ t code n, p (clearFault code n t) = p t) (told : ∀ t code arg, p (logEvent code arg t) = p t)
    (wrote : ∀ t f, p (logWrite f t) = p t) (active : ∀ (t : State) a, p { t with active := a } = p t) (s : State) :
    p (loadConfig s) = p s := by
  unfold loadConfig
  extract_lets sel cls used abandoned torn
  have first : p abandoned = p s := by
    unfold abandoned
    split
    · exact told ..
    · rfl
  have second : p torn = p s := by
    rw [← first]
    unfold torn
    split
    · split
      · rfl
      · exact told ..
    · rfl
  split
  · rw [raised, active, second]
  · extract_lets img settled noted
    have third : p noted = p s := by
      rw [← second]
      unfold noted
      split
      · exact wrote ..
      · rfl
    split
    · rw [raised, active, third]
    · rw [cleared, active, third]

section ops
variable (s : State)

@[simp] theorem bootView_raise (code : BitVec 16) (n : Nat) : bootView (raise code n s) = bootView s := by
  obtain ⟨-, -, -, up⟩ := raise_events code n s
  simp [bootView, released, reached, up]

@[simp] theorem bootView_clearWhere (p : FaultEntry → Bool) : bootView (clearWhere p s) = bootView s := by
  have dropped (t : State) (e : FaultEntry) : (dropFault e t).gable.up = t.gable.up := by
    unfold dropFault
    rw [postEvent_up]
    split <;> rfl
  have up : (clearWhere p s).gable.up = s.gable.up := foldl_keeps (fun t => t.gable.up) _ dropped _ s
  simp [bootView, released, reached, up]

@[simp] theorem bootView_clearFault (code : BitVec 16) (n : Nat) : bootView (clearFault code n s) = bootView s := by
  unfold clearFault
  split
  · rfl
  · exact bootView_clearWhere ..

@[simp] theorem bootView_setFault (c : Bool) (code : BitVec 16) (n : Nat) : bootView (setFault c code n s) = bootView s := by
  unfold setFault
  split
  · exact bootView_raise ..
  · exact bootView_clearFault ..

@[simp] theorem bootView_logEvent (code : BitVec 16) (arg : List Byte) : bootView (logEvent code arg s) = bootView s := by
  simp [bootView, released, reached]

@[simp] theorem bootView_logWrite (f : LogFields) : bootView (logWrite f s) = bootView s := by simp [bootView, released, reached]

/-- VBAT as it is measured at every boot (R321). -/
@[simp] theorem bootView_vbatCheck (mv : Nat) : bootView (vbatCheck mv s) = bootView s := by
  have measured : bootView { s with pwr := { s.pwr with vbat := mv, vbatNow := mv } } = bootView s := rfl
  unfold vbatCheck
  (repeat' split) <;> simp only [bootView_raise, bootView_clearFault, measured]

@[simp] theorem bootView_cvuCheck (u : Fin 4) (sound : Bool) : bootView (cvuCheck u sound s) = bootView s := by
  rw [cvuCheck_eq, bootView_setFault]
  rfl

@[simp] theorem bootView_cvuChecks (bad : BitVec 4) (units : List (Fin 4)) : bootView (cvuChecks bad units s) = bootView s :=
  foldl_keeps bootView _ (fun t u => bootView_cvuCheck t u _) units s

@[simp] theorem bootView_backoffRestart : bootView (backoffRestart s) = bootView s := by
  unfold backoffRestart
  split <;> rfl

@[simp] theorem bootView_logScan : bootView (logScan s) = bootView s := by
  unfold logScan
  dsimp only
  (repeat' split) <;> simp [bootView, released, reached, raise_events]

@[simp] theorem bootView_slateHard : bootView (slateHard s) = bootView s := by
  have step (c : Prop) [Decidable c] (n : Nat) (t : State) :
      bootView (if c then raise fcSlateFault n t else t) = bootView t := by split <;> simp
  simp only [slateHard, step]

@[simp] theorem bootView_timeStart : bootView (timeStart s) = bootView s := by
  unfold timeStart timeFaults
  (repeat' split) <;> simp

/-- The faults that BOOT finds in the Slate (R295, R308). -/
@[simp] theorem bootView_slateFaults (old : SlateWord) : bootView (slateFaults old s) = bootView s := by
  have sealed (t : State) : bootView (sealCheck t) = bootView t := by
    unfold sealCheck
    dsimp only
    (repeat' split) <;> simp
  have told (kind : Nat) (l : List Nat) (t : State) : bootView (l.foldl (fun t b => slateEvent kind b t) t) = bootView t :=
    foldl_keeps bootView _ (fun t b => bootView_logEvent ..) l t
  unfold slateFaults
  dsimp only
  rw [sealed, bootView_slateHard, bootView_setFault, bootView_clearFault]
  split
  · rw [told, told]
  · exact (told 8 _ _).trans (told 2 _ _)

@[simp] theorem bootView_loadConfig : bootView (loadConfig s) = bootView s :=
  loadConfig_keeps bootView (fun t => bootView_raise t) (fun t => bootView_clearFault t) (fun t => bootView_logEvent t)
    (fun t => bootView_logWrite t) (fun _ _ => rfl) s

end ops

/-! ## Step by step -/

theorem bootView_setGableUp (s : State) : bootView (setGableUp true s) = (released s, { reached s with up := true }) := by
  unfold setGableUp
  split
  case isTrue up =>
    rw [← up]
    rfl
  case isFalse => rfl

/-- Step 5: Gable is up. -/
theorem bootView_bootStep5 (env : BootEnv) (old : SlateWord) (ab : Option W32) (fb : Bool) (s : State) :
    bootView (bootStep5 env old ab fb s) = (released s, { reached s with bootStep := 5, up := true }) := by
  unfold bootStep5
  extract_lets was t0 pwr wth ptp t1 fw t2 settled t3 t4 t5 tick t6 t7 cause t8 t9 t10
  have scanned : bootView t0 = (released s, { reached s with up := true }) := (bootView_logScan _).trans (bootView_setGableUp s)
  have set : bootView t1 = ((bootView t0).1, { (bootView t0).2 with bootStep := 5 }) := rfl
  rw [scanned] at set
  have told2 : bootView t2 = bootView t1 := by
    unfold t2
    split
    · exact bootView_logEvent ..
    · rfl
  have told3 : bootView t3 = bootView t2 := by
    unfold t3
    split
    · exact bootView_logWrite ..
    · rfl
  have told4 : bootView t4 = bootView t3 := by
    unfold t4
    split
    · exact bootView_logEvent ..
    · rfl
  have loaded : bootView t5 = bootView t4 := bootView_loadConfig _
  have selected : bootView t6 = bootView t5 := rfl
  have faults : bootView t7 = bootView t6 := bootView_slateFaults ..
  have told8 : bootView t8 = bootView t7 := bootView_logEvent ..
  have told9 : bootView t9 = bootView t8 := by
    unfold t9
    split
    · exact bootView_raise ..
    · rfl
  have told10 : bootView t10 = bootView t9 := by
    unfold t10
    split
    · rfl
    · exact bootView_raise ..
  rw [bootView_vbatCheck, bootView_backoffRestart, bootView_cvuChecks, told10, told9, told8, faults, selected, loaded, told4, told3, told2, set]

/-- A fault that is set or cleared, but one of class H, leaves flash and BK. -/
theorem setFault_lasting {code : BitVec 16} (c : Bool) (n : Nat) (s : State) (cls : faultClass code ≠ .h) :
    (setFault c code n s).bk = s.bk ∧ (setFault c code n s).flash = s.flash := by
  unfold setFault
  split
  · exact raise_lasting n s cls
  · simp

/-- Step 2: L+ as it is read, and the main clock that it allows. -/
theorem bootStep2_leaves (env : BootEnv) (s : State) : released (bootStep2 env s) = released s ∧
    reached (bootStep2 env s) = { reached s with bootStep := 2, lplus := env.lplus } ∧
    (bootStep2 env s).bk = s.bk ∧ (bootStep2 env s).flash = s.flash := by
  obtain ⟨bk, flash⟩ := setFault_lasting (code := fcLplusLow) (stepOf env.lplus != .c400) 0
    (lplusAt env.lplus { s with bootStep := 2, tick := { s.tick with clk := stepOf env.lplus }, pwr := shedFor (stepOf env.lplus) s.pwr })
    (by decide)
  have view := bootView_setFault
    (lplusAt env.lplus { s with bootStep := 2, tick := { s.tick with clk := stepOf env.lplus }, pwr := shedFor (stepOf env.lplus) s.pwr })
    (stepOf env.lplus != .c400) fcLplusLow 0
  exact ⟨congrArg Prod.fst view, congrArg Prod.snd view, bk, flash⟩

/-- What the test port has set is the Slate's alone. -/
theorem testPortBits_eq (l : List (Fin 8192)) (s : State) : ∃ x, testPortBits l s = { s with slate := x } := by
  induction l generalizing s with
  | nil => exact ⟨s.slate, rfl⟩
  | cons b l ih =>
    rw [testPortBits, List.foldl_cons]
    split
    · obtain ⟨x, eq⟩ := ih { s with slate := { s.slate with cells := cellsProgrammed s.slate.cells b.val } }
      exact ⟨x, eq⟩
    · exact ih s

/-- Step 3 reads the Slate. -/
theorem bootStep3_leaves (env : BootEnv) (s : State) : released (bootStep3 env s) = released s ∧
    (bootStep3 env s).bk = s.bk ∧ (bootStep3 env s).flash = s.flash ∧ (bootStep3 env s).pwr.lplus = s.pwr.lplus ∧
    (env.testPort = [] → (bootStep3 env s).slate.cells = s.slate.cells) ∧
    (env.slateInTime = true → (bootStep3 env s).slate.readDone = true) := by
  obtain ⟨x, port⟩ := testPortBits_eq env.testPort s
  obtain ⟨ev, judged, -⟩ := vppCheck_eq env.slateVpp (slateLatch { s with slate := x })
  have unset (none_ : env.testPort = []) : x.cells = s.slate.cells := by
    rw [none_] at port
    exact congrArg (fun t : State => t.slate.cells) port.symm
  unfold bootStep3
  dsimp only
  rw [port, judged]
  split
  · exact ⟨rfl, rfl, rfl, rfl, unset, fun _ => rfl⟩
  · next late => exact ⟨rfl, rfl, rfl, rfl, unset, fun inTime => absurd inTime late⟩

/-- Step 4: Gable's regulator, the bank, and step 5 behind it. -/
theorem bootGable_leaves (env : BootEnv) (old : SlateWord) (t : State) : released (bootGable env old t) = released t ∧
    (reached (bootGable env old t)).cells = t.slate.cells ∧ (reached (bootGable env old t)).lplus = t.pwr.lplus := by
  unfold bootGable
  dsimp only
  split
  · have view := bootView_vbatCheck (regulatorEvt t) env.vbat
    exact ⟨congrArg Prod.fst view, congrArg (fun v => v.2.cells) view, congrArg (fun v => v.2.lplus) view⟩
  · split
    · have view := bootView_vbatCheck { t with pwr := { t.pwr with domains := setBit t.pwr.domains 5 true } } env.vbat
      exact ⟨congrArg Prod.fst view, congrArg (fun v => v.2.cells) view, congrArg (fun v => v.2.lplus) view⟩
    · next x _ =>
      have view := bootView_bootStep5 env old (chooseFw t).2.1 (chooseFw t).2.2 (bootStep4 x.1 x.2
        (if x.2.isBooted && !((chooseFw t).2.1.isSome && 3 ≤ fwTries t) then fwTries t else min 4 (fwTries t + 1)) t)
      exact ⟨congrArg Prod.fst view, congrArg (fun v => v.2.cells) view, congrArg (fun v => v.2.lplus) view⟩

/-- With GB in regulation and a bank to start, step 5 is reached. -/
theorem bootGable_reaches {env : BootEnv} (old : SlateWord) {t : State} (good : env.badDomains.getLsbD 5 = false)
    (bank : (chooseFw t).1.isSome = true) : (bootGable env old t).bootStep = 5 ∧ (bootGable env old t).gable.up = true ∧
      (bootGable env old t).gableE.up = true ∧ (bootGable env old t).slate.readDone = t.slate.readDone := by
  obtain ⟨x, some_⟩ := Option.isSome_iff_exists.mp bank
  have view := bootView_bootStep5 env old (chooseFw t).2.1 (chooseFw t).2.2 (bootStep4 x.1 x.2
    (if x.2.isBooted && !((chooseFw t).2.1.isSome && 3 ≤ fwTries t) then fwTries t else min 4 (fwTries t + 1)) t)
  unfold bootGable
  rw [if_neg (Bool.eq_false_iff.mp good)]
  dsimp only
  rw [some_]
  exact ⟨congrArg (fun v => v.2.bootStep) view, congrArg (fun v => v.2.up) view, congrArg (fun v => v.2.gableE.up) view,
    congrArg (fun v => v.2.readDone) view⟩

/-- The selection of the firmware bank reads flash and BK. -/
theorem chooseFw_congr {s t : State} (bk : t.bk = s.bk) (flash : t.flash = s.flash) : chooseFw t = chooseFw s := by
  have pending (c : BitVec 16) (b : Bank) : pendingFor t c b = pendingFor s c b := by
    unfold pendingFor logNames
    rw [flash, bk]
  have first : chooseFw0 t = chooseFw0 s := by
    unfold chooseFw0
    rw [flash, funext (pending ccFwActivate)]
  unfold chooseFw fwTries
  rw [first, flash, bk]

/-! ## The steps together -/

/-- Without FD BOOT goes on under the reset level that it began with. -/
theorem bootView_regulatorAct_fd {s : State} (levelP : s.laneP.resetLevel = true) (levelT : s.laneT.resetLevel = true) :
    bootView (regulatorAct 1 s) = bootView s := by
  have dark : bootView (domainDark 1 s) = bootView s := by
    unfold bootView released
    rw [levelP, levelT]
    rfl
  exact (bootView_raise (domainDark 1 s) fcRegulatorFault 1).trans dark

/-- The state that steps 2 to 5 begin with: BK's regulator may have failed. -/
def bkJudged (env : BootEnv) (s : State) : State :=
  if env.badDomains.getLsbD 9 then regulatorEvt { s with bk := { s.bk with valid := false } } else s

theorem bkJudged_view (env : BootEnv) (s : State) : bootView (bkJudged env s) = bootView s ∧
    (bkJudged env s).pwr.domains = s.pwr.domains := by
  unfold bkJudged
  split <;> exact ⟨rfl, rfl⟩

/-- With AO in regulation, what the release has put stays, whatever else fails; the cells stay but for the test port, and L+ as read. -/
theorem bootSteps_keeps {env : BootEnv} {s : State} (ao : env.badDomains.getLsbD 8 = false) (levelP : s.laneP.resetLevel = true)
    (levelT : s.laneT.resetLevel = true) : released (bootSteps env s) = released s ∧
      (s.pwr.lplus = env.lplus → (bootSteps env s).pwr.lplus = env.lplus) ∧
      (env.testPort = [] → (bootSteps env s).slate.cells = s.slate.cells) := by
  obtain ⟨view, -⟩ := bkJudged_view env s
  have same {t : State} (h : bootView t = bootView s) : released t = released s ∧ (s.pwr.lplus = env.lplus → t.pwr.lplus = env.lplus) ∧
      (env.testPort = [] → t.slate.cells = s.slate.cells) :=
    ⟨congrArg Prod.fst h, fun read => (congrArg (fun v => v.2.lplus) h).trans read, fun _ => congrArg (fun v => v.2.cells) h⟩
  have levels : (bkJudged env s).laneP.resetLevel = true ∧ (bkJudged env s).laneT.resetLevel = true :=
    ⟨(congrArg (fun v => v.1.levelP) view).trans levelP, (congrArg (fun v => v.1.levelT) view).trans levelT⟩
  have steps : bootSteps env s =
      if env.badDomains.getLsbD 8 then powerOff true (bkJudged env s)
      else if !(bkJudged env s).pwr.domains.getLsbD 1 then vbatCheck env.vbat (bkJudged env s)
      else if env.badDomains.getLsbD 1 then vbatCheck env.vbat (regulatorAct 1 (bkJudged env s))
      else if !env.pllOk then vbatCheck env.vbat (bkJudged env s)
      else bootGable env s.slate.weak (bootStep3 env (bootStep2 env (bkJudged env s))) := rfl
  rw [steps, if_neg (Bool.eq_false_iff.mp ao)]
  generalize bkJudged env s = b at *
  split
  · exact same ((bootView_vbatCheck ..).trans view)
  split
  · exact same ((bootView_vbatCheck ..).trans ((bootView_regulatorAct_fd levels.1 levels.2).trans view))
  split
  · exact same ((bootView_vbatCheck ..).trans view)
  · obtain ⟨kept2, reached2, -, -⟩ := bootStep2_leaves env b
    obtain ⟨kept3, -, -, lplus3, cells3, -⟩ := bootStep3_leaves env (bootStep2 env b)
    obtain ⟨kept4, cells4, lplus4⟩ := bootGable_leaves env s.slate.weak (bootStep3 env (bootStep2 env b))
    refine ⟨kept4.trans (kept3.trans (kept2.trans (congrArg Prod.fst view))), fun _ => ?_, fun unset => ?_⟩
    · exact lplus4.trans (lplus3.trans (congrArg Reached.lplus reached2))
    · exact cells4.trans ((cells3 unset).trans ((congrArg Reached.cells reached2).trans (congrArg (fun v => v.2.cells) view)))

/-- With every regulator good, the PLL locked and a bank to start, the steps reach the end of step 5 (Table 12.4). -/
theorem bootSteps_reach {env : BootEnv} {s : State} (good : env.badDomains = 0) (fd : s.pwr.domains.getLsbD 1 = true)
    (pll : env.pllOk = true) (bank : (chooseFw s).1.isSome = true) :
    (bootSteps env s).bootStep = 5 ∧ (bootSteps env s).gable.up = true ∧ (bootSteps env s).gableE.up = true ∧
      (env.slateInTime = true → (bootSteps env s).slate.readDone = true) ∧ released (bootSteps env s) = released s := by
  have none_ (k : Nat) : ¬env.badDomains.getLsbD k = true := by simp [good]
  have steps : bootSteps env s = bootGable env s.slate.weak (bootStep3 env (bootStep2 env s)) := by
    unfold bootSteps
    dsimp only
    rw [if_neg (none_ 9), if_neg (none_ 8), if_neg (notOff fd), if_neg (none_ 1), if_neg (notOff pll)]
  obtain ⟨kept2, -, bk2, flash2⟩ := bootStep2_leaves env s
  obtain ⟨kept3, bk3, flash3, -, -, read⟩ := bootStep3_leaves env (bootStep2 env s)
  have bank3 : (chooseFw (bootStep3 env (bootStep2 env s))).1.isSome = true := by
    rw [chooseFw_congr (bk3.trans bk2) (flash3.trans flash2)]
    exact bank
  obtain ⟨step, up, gableE, readDone⟩ := bootGable_reaches s.slate.weak (Bool.eq_false_iff.mpr (none_ 5)) bank3
  rw [steps]
  exact ⟨step, up, gableE, fun inTime => readDone.trans (read inTime),
    (bootGable_leaves env s.slate.weak _).1.trans (kept3.trans kept2)⟩

/-- Without AO they end where they began, in the power-on reset. -/
theorem bootSteps_noAo {env : BootEnv} (s : State) (bad : env.badDomains.getLsbD 8 = true) :
    bootSteps env s = powerOff true (bkJudged env s) := if_pos bad

/-! ## Step 6 -/

theorem gableBack_held (s : State) : (gableBack s).resetHeld = s.resetHeld := by
  unfold gableBack
  split
  · rfl
  · refine (foldl_keeps State.resetHeld _ (fun t e => by simp) _ _).trans ?_
    unfold setGableUp
    split <;> rfl

theorem bootView_loadMargins (s : State) : bootView (loadMargins s) = bootView s := by
  unfold loadMargins
  dsimp only
  split <;> rfl

/-- SELFTEST is entered with Gable serving as it was (R278). -/
theorem startSelftest_serves (s : State) : (startSelftest s).mode = .selftest ∧ (startSelftest s).resetHeld = s.resetHeld ∧
    (s.gable.up = true → (startSelftest s).gable.up = true) := by
  have start : bootView (loadMargins (clearWhere restartClears s)) = bootView s := (bootView_loadMargins _).trans (bootView_clearWhere ..)
  refine ⟨congrArg Prod.fst (restartView_startSelftest s), ?_⟩
  unfold startSelftest
  extract_lets t cfg
  have hard (u : State) : (slateHard u).resetHeld = u.resetHeld ∧ (slateHard u).gable.up = u.gable.up :=
    ⟨congrArg (fun v => v.1.held) (bootView_slateHard u), congrArg (fun v => v.2.up) (bootView_slateHard u)⟩
  have entry (u : State) : (setMode .selftest (timeStart u)).resetHeld = u.resetHeld ∧
      (setMode .selftest (timeStart u)).gable.up = u.gable.up :=
    ⟨(by simp : _ = (timeStart u).resetHeld).trans (congrArg (fun v => v.1.held) (bootView_timeStart u)),
      (setMode_up ..).trans (congrArg (fun v => v.2.up) (bootView_timeStart u))⟩
  have held : t.resetHeld = s.resetHeld := congrArg (fun v => v.1.held) start
  have up : t.gable.up = s.gable.up := congrArg (fun v => v.2.up) start
  clear_value t cfg
  refine ⟨?_, fun serving => ?_⟩
  · rw [(hard _).1, gableBack_held, (entry _).1]
    exact held
  · have inside (u : State) (serves : u.gable.up = true) : (gableBack (setMode .selftest (timeStart u))).gable.up = true := by
      have line := (entry u).2.trans serves
      rw [gableBack, if_pos (by rw [line]; rfl)]
      exact line
    rw [(hard _).2]
    exact inside _ (up.trans serving)

/-- The vectors of the ports' units concern the units alone (R237). -/
theorem cvuPorts_keeps {β : Type} (p : State → β) (step : ∀ u sound t, p (cvuCheck u sound t) = p t) (bad : BitVec 4) (s : State) :
    p (cvuPorts bad s) = p s := foldl_keeps p _ (fun t u => step u _ t) _ s

/-- With every regulator good, step 6 is the entry into SELFTEST with the domains that the configuration uses (R277, R319). -/
theorem bootStep6_good {env : BootEnv} (s : State) (good : env.badDomains = 0) :
    (bootStep6 env s).mode = .selftest ∧ entryView (bootStep6 env s) = entered s ∧
    (bootStep6 env s).pwr.domains = domainsFor s.active.image ∧ (s.gable.up = true → (bootStep6 env s).gable.up = true) := by
  have none_ : domainsFail env.badDomains (startSelftest { s with bootStep := 6 }).pwr.domains = [] := by
    rw [domainsFail, List.dropWhile_eq_nil_iff]
    simp [good]
  have same : bootRegulators env.badDomains (startSelftest { s with bootStep := 6 }) = startSelftest { s with bootStep := 6 } := by
    rw [bootRegulators, none_]
  obtain ⟨view, domains⟩ := entryView_startSelftest { s with bootStep := 6 }
  obtain ⟨mode, -, serves⟩ := startSelftest_serves { s with bootStep := 6 }
  unfold bootStep6
  rw [same]
  exact ⟨(cvuPorts_keeps State.mode (fun u c t => (cvuCheck_chans u c t).2.2) ..).trans mode,
    (cvuPorts_keeps entryView (fun u c t => (entryView_cvuCheck t u c).1) ..).trans view,
    (congrArg Power.domains (cvuPorts_keeps State.pwr (fun u c t => (entryView_cvuCheck t u c).2) ..)).trans domains,
    fun up => (cvuPorts_keeps (fun t => t.gable.up) (fun u c t => congrArg (fun v => v.2.up) (bootView_cvuCheck t u c)) ..).trans (serves up)⟩

/-! ## RG not in regulation -/

/-- Where RG fails, TH and the domains behind it stay off. -/
theorem domainsFail_rg {bad used : BitVec 10} (rg : bad.getLsbD 7 = true) (fd : bad.getLsbD 1 = false)
    (on_ : ∀ k ∈ [1, 6, 7], used.getLsbD k = true) :
    domainsFail bad used = 7 :: 6 :: [2, 0, 4, 3].filter (fun k => used.getLsbD k) := by
  have use1 := on_ 1 (by decide)
  have use6 := on_ 6 (by decide)
  have use7 := on_ 7 (by decide)
  unfold domainsFail bootDomains
  rw [List.filter_cons_of_pos use1, List.filter_cons_of_pos use7, List.filter_cons_of_pos use6,
    List.dropWhile_cons_of_pos (by simp only [fd, Bool.not_false]), List.dropWhile_cons_of_neg (by simp [rg])]

theorem domainsFor_channels (cfg : Config.Image) : ∀ k ∈ [1, 6, 7], (domainsFor cfg).getLsbD k = true := by
  intro k mem
  simp only [List.mem_cons, List.not_mem_nil, or_false] at mem
  obtain rfl | rfl | rfl := mem <;> exact getLsbD_bitsOf _ (by decide)

/-- TH as it stands with its domain off: stopped. -/
def thOff (t : State) : Prop := t.thatch.frozen = true ∧ t.pwr.domains.getLsbD 6 = false

theorem thOff_domainOff (t : State) : thOff (domainOff t 6) := ⟨rfl, setBit_self _ _ _ (by decide)⟩

/-- The domains behind it leave it so, and the fault table moving. -/
theorem domainOff_behind {t : State} {k : Nat} (behind : k ∈ [2, 0, 4, 3]) :
    (domainOff t k).thatch = t.thatch ∧ (domainOff t k).pwr.domains.getLsbD 6 = t.pwr.domains.getLsbD 6 ∧
    tableStill (domainOff t k) = tableStill t := by
  simp only [List.mem_cons, List.not_mem_nil, or_false] at behind
  obtain rfl | rfl | rfl | rfl := behind <;>
    exact ⟨rfl, setBit_other _ _ _ _ (by decide) (by decide), rfl⟩

theorem domainsOff_behind {l : List Nat} (behind : ∀ k ∈ l, k ∈ [2, 0, 4, 3]) {t : State} (off : thOff t) (live : tableStill t = false) :
    thOff (l.foldl domainOff t) ∧ tableStill (l.foldl domainOff t) = false := by
  induction l generalizing t with
  | nil => exact ⟨off, live⟩
  | cons k l ih =>
    obtain ⟨thatch, domains, still⟩ := domainOff_behind (t := t) (behind k (by simp))
    obtain ⟨frozen, dark⟩ := off
    exact ih (fun j mem => behind j (by simp [mem])) ⟨(congrArg Chan.frozen thatch).trans frozen, domains.trans dark⟩ (still.trans live)

/-- The vector of a unit tells of no supply event and of no regulator. -/
theorem cvuCheck_told (k : Fin 4) (c : Bool) (t : State) : (cvuCheck k c t).ev.pwr = t.ev.pwr ∧
    hasFault (cvuCheck k c t) fcRegulatorFault 7 = hasFault t fcRegulatorFault 7 := by
  have other : (cvuFault k == fcRegulatorFault) = false := by revert k; decide
  have same : hasFault { cvuUpd k (vectorRun k c t) t with free := t.free + 1 } fcRegulatorFault 7 = hasFault t fcRegulatorFault 7 :=
    hasFault_congr rfl rfl _ _
  rw [cvuCheck_eq, setFault]
  split
  · refine ⟨(raise_events ..).1, ?_⟩
    rw [hasFault_raise _ _ _ _ _ (by decide), other, same, Bool.and_false, Bool.false_and, Bool.or_false]
  · refine ⟨?_, ?_⟩
    · simp only [clearFault_frame]
      rfl
    · rw [hasFault_clearFault _ _ _ _ _ (by decide), other, same, Bool.false_and, Bool.not_false, Bool.or_true, Bool.and_true]

/-- A regulator fault of RG: both channels without their domain, with REGULATOR_FAULT (R272, R319). -/
structure RgLost (t : State) : Prop where
  fault : hasFault t fcRegulatorFault 7 = true
  ridge : t.ridge.frozen = true
  thatch : t.thatch.frozen = true
  rg : t.pwr.domains.getLsbD 7 = false
  th : t.pwr.domains.getLsbD 6 = false
  evt : t.ev.pwr.getLsbD 0 = true

theorem thStill (v : State) : tableStill (domainOff v 6) = tableStill v := rfl

theorem bootRegulators_rg {bad : BitVec 10} {v : State} {cfg : Config.Image} (rg : bad.getLsbD 7 = true) (fd : bad.getLsbD 1 = false)
    (live : tableStill v = false) (domains : v.pwr.domains = domainsFor cfg) : RgLost (bootRegulators bad v) := by
  have fail := domainsFail_rg rg fd (domainsFor_channels cfg)
  obtain ⟨⟨frozen, dark⟩, still⟩ := domainsOff_behind (l := [2, 0, 4, 3].filter (fun k => (domainsFor cfg).getLsbD k))
    (fun k mem => List.mem_of_mem_filter mem) (thOff_domainOff v) ((thStill v).trans live)
  unfold bootRegulators
  rw [domains, fail]
  dsimp only
  rw [List.foldl_cons]
  generalize List.foldl domainOff (domainOff v 6) _ = u at *
  have act : regulatorAct 7 u = raise fcRegulatorFault 7 (domainDark 7 u) := rfl
  have evt := (raise_events fcRegulatorFault 7 (domainDark 7 u)).1
  rw [act]
  refine ⟨hasFault_raise_at (by decide) still (by decide), ?_, ?_, ?_, ?_, ?_⟩ <;> simp only [raise_frame, evt]
  · rfl
  · exact frozen
  · exact setBit_self _ _ _ (by decide)
  · exact (setBit_other _ _ _ _ (by decide) (by decide)).trans dark
  · exact setBit_self _ _ _ (by decide)

theorem RgLost.cvuPorts {t : State} (z : RgLost t) (bad : BitVec 4) : RgLost (cvuPorts bad t) where
  fault := (cvuPorts_keeps (fun t => hasFault t fcRegulatorFault 7) (fun k c t => (cvuCheck_told k c t).2) ..).trans z.fault
  ridge := (congrArg Chan.frozen (cvuPorts_keeps State.ridge (fun k c t => (cvuCheck_chans k c t).1) bad t)).trans z.ridge
  thatch := (congrArg Chan.frozen (cvuPorts_keeps State.thatch (fun k c t => (cvuCheck_chans k c t).2.1) bad t)).trans z.thatch
  rg := (congrArg (fun p : Power => p.domains.getLsbD 7) (cvuPorts_keeps State.pwr (fun k c t => (entryView_cvuCheck t k c).2) bad t)).trans z.rg
  th := (congrArg (fun p : Power => p.domains.getLsbD 6) (cvuPorts_keeps State.pwr (fun k c t => (entryView_cvuCheck t k c).2) bad t)).trans z.th
  evt := (congrArg (fun w : W32 => w.getLsbD 0) (cvuPorts_keeps (fun t => t.ev.pwr) (fun k c t => (cvuCheck_told k c t).1) bad t)).trans z.evt

theorem bootStep6_rg {env : BootEnv} {s : State} (live : s.resetHeld = false) (rg : env.badDomains.getLsbD 7 = true)
    (fd : env.badDomains.getLsbD 1 = false) : (bootStep6 env s).mode = .selftest ∧ RgLost (bootStep6 env s) := by
  obtain ⟨-, domains⟩ := entryView_startSelftest { s with bootStep := 6 }
  obtain ⟨mode, held, -⟩ := startSelftest_serves { s with bootStep := 6 }
  have view := (restartView_bootRegulators (startSelftest { s with bootStep := 6 }) env.badDomains).trans (restartView_startSelftest _)
  unfold bootStep6
  generalize startSelftest { s with bootStep := 6 } = v at *
  have moving : tableStill v = false := by
    rw [tableStill, mode, held, live]
    rfl
  exact ⟨(cvuPorts_keeps State.mode (fun k c t => (cvuCheck_chans k c t).2.2) ..).trans (congrArg Prod.fst view),
    (bootRegulators_rg rg fd moving domains).cvuPorts _⟩

end Sys2Proof.Proofs
end

section
/-! PROOF. Power-on, RESET_N and the end of BOOT, and the statement (R277, R281, R318, R319, R351). -/

namespace Sys2Proof.Proofs

open Sys2Proof Sys2Proof.Machine Sys2Proof.Safety Sys2Proof.Laws

/-! ## Power-on -/

theorem lplusCounted_iff (env : BootEnv) : lplusCounted env = true ↔
    18000 ≤ env.lplusFirst ∧ 17500 ≤ env.lplusLeast ∧ 10000 ≤ env.lplusUs ∧ env.lplusLeast ≤ env.lplus := by
  simp [lplusCounted, and_assoc]

theorem exec_lplusPowerOn {s : State} {env : BootEnv} (waits : waitsForPower s = true) (counted : lplusCounted env = true) :
    exec (.lplusPowerOn env) s = .next (bootSteps env (bootStep1 0 env.almOpen (powerOn env.lplus s))) :=
  if_pos (by rw [waits, counted]; rfl)

theorem exec_lplusPowerOn_stays {s : State} {env : BootEnv} (stays : waitsForPower s = false ∨ lplusCounted env = false) :
    exec (.lplusPowerOn env) s = .next s := by
  refine if_neg ?_
  obtain no | no := stays <;> simp [no]

theorem waitsForPower_off {s : State} (off : s.mode = .off ∨ s.mode = .backup) (held : s.resetHeld = false) (die : s.pwr.die < 1250)
    (hold : s.pwr.aoHold = 0) (done : ∀ x, s.pwr.doneAt = some x → x.toNat + 1000000 ≤ s.tb.count.toNat) : waitsForPower s = true := by
  unfold waitsForPower
  rw [Bool.and_eq_true]
  refine ⟨?_, ?_⟩
  · obtain mode | mode := off <;> simp [mode, held, die, hold]
  · split
    · next x at_ => exact (due_iff ..).mpr (done x at_)
    · rfl

/-! ## The release of a reset -/

/-- What the release has put (R277). -/
theorem bootStep1_released (cause : BitVec 8) (alm : Bool) (s : State) : released (bootStep1 cause alm s) =
    { mode := .boot, cause := cause, held := false, tb := { State.reset.tb with count := s.tb.count }, levelP := true, levelT := true
      aoOn := true, diverged := s.pair.diverged, almOpen := alm, running := false } := rfl

theorem bootStep1_stores (cause : BitVec 8) (alm : Bool) (s : State) : chooseFw (bootStep1 cause alm s) = chooseFw s :=
  chooseFw_congr rfl rfl

theorem bootStep1_domains (cause : BitVec 8) (alm : Bool) (s : State) : (bootStep1 cause alm s).pwr.domains = 0x302 := rfl

/-- FD stands on from the release. -/
theorem bootStep1_fd (cause : BitVec 8) (alm : Bool) (s : State) : (bootStep1 cause alm s).pwr.domains.getLsbD 1 = true := by
  rw [bootStep1_domains]
  decide

theorem exec_resetNRelease {s : State} (env : BootEnv) (held : s.resetHeld = true) : exec (.resetNRelease env) s =
    .next (if env.lullN then lullEnter 1 (bootStep1 1 env.almOpen s) else bootSteps env (bootStep1 1 env.almOpen s)) :=
  if_neg (notOff held)

/-! ## RESET_N low -/

theorem exec_resetNAssert {s : State} (ns : Nat) (on_ : s.pwr.aoOn = true) (off : s.mode ≠ .off) (backup : s.mode ≠ .backup) :
    exec (.resetNAssert ns) s = (if !resetTakes ns s.free then .next { s with free := s.free + 1 }
      else if s.pwr.shutdown.isSome then .next { s with
        free := s.free + 1, laneP := laneReset s.laneP, laneT := laneReset s.laneT, field := fieldReset s.tb.count s.field
        fa := { Fa.reset with almOpen := s.fa.almOpen } }
      else .next { coldReset { s with free := s.free + 1 } with mode := s.mode, resetHeld := true }) :=
  if_neg (by simp [on_, off, backup])

theorem resetTakes_long {ns : Nat} (long : 10000 ≤ ns) (draw : Nat) : (!resetTakes ns draw) = false := by simp [resetTakes, long]

/-- A low level of 10 µs or longer, in a shutdown and without one (R281, R318). -/
theorem exec_resetNAssert_long {s : State} {ns : Nat} (on_ : s.pwr.aoOn = true) (off : s.mode ≠ .off) (backup : s.mode ≠ .backup)
    (long : 10000 ≤ ns) :
    (s.pwr.shutdown = none → exec (.resetNAssert ns) s =
      .next { coldReset { s with free := s.free + 1 } with mode := s.mode, resetHeld := true }) ∧
    (s.pwr.shutdown ≠ none → exec (.resetNAssert ns) s = .next { s with
        free := s.free + 1, laneP := laneReset s.laneP, laneT := laneReset s.laneT, field := fieldReset s.tb.count s.field
        fa := { Fa.reset with almOpen := s.fa.almOpen } }) := by
  rw [exec_resetNAssert ns on_ off backup, resetTakes_long long, if_neg (by decide)]
  exact ⟨fun sd => if_neg (by simp [sd]), fun sd => if_pos (Option.isSome_iff_ne_none.mpr sd)⟩

theorem resetTakes_lo {ns draw : Nat} (takes : resetTakes ns draw = true) : 1000 ≤ ns := by
  simp only [resetTakes, Bool.or_eq_true, Bool.and_eq_true, decide_eq_true_eq] at takes
  omega

theorem fieldReset_inp (now : W64) (x : FieldSt) (n : Fin 48) : (fieldReset now x).inp[n] = InFc.reset := by
  simp [fieldReset, FieldSt.reset]

/-! ## The end of BOOT -/

/-- What remains of steps 2 to 5. -/
def bootRun (env : BootEnv) (s : State) : State := if s.bootStep < 5 then bootSteps env s else s

theorem exec_bootComplete {s : State} (env : BootEnv) (boot : s.mode = .boot) (held : s.resetHeld = false) (on_ : s.pwr.aoOn = true)
    (step : (bootRun env s).bootStep = 5) : exec (.bootComplete env) s = .next (bootStep6 env (bootRun env s)) :=
  (if_pos (by simp [boot, held, on_])).trans (congrArg Host.Outcome.next (if_pos step))

theorem bootRun_last {s : State} (env : BootEnv) (step : s.bootStep = 5) : bootRun env s = s := if_neg (by omega)

theorem exec_bootComplete_last {s : State} (env : BootEnv) (boot : s.mode = .boot) (held : s.resetHeld = false) (on_ : s.pwr.aoOn = true)
    (step : s.bootStep = 5) : exec (.bootComplete env) s = .next (bootStep6 env s) := by
  have last := bootRun_last env step
  rw [exec_bootComplete env boot held on_ (by rw [last, step]), last]

/-- What an entry into SELFTEST has settled, field by field. -/
theorem parts_of_entered {s t : State} (view : entryView t = entered s) : t.tick.running = true ∧ t.laneP.resetLevel = true ∧
    t.laneT.resetLevel = true ∧ t.active = s.active ∧ t.tb = s.tb := by
  simp only [entryView, entered, Prod.mk.injEq] at view
  obtain ⟨-, tb, active, running, levelP, levelT⟩ := view
  exact ⟨running, levelP, levelT, active, tb⟩

/-- Settles O35: power-on, RESET_N, its release, and the end of BOOT. -/
theorem bootAndReset : Obligations.BootAndReset := by
  unfold Obligations.BootAndReset
  refine ⟨fun s env off held die hold done first least us read ao => ?_, fun s env waits counted ao => ?_, fun s env hold => ?_,
    fun s env short => ?_, fun s ns on_ off backup long sd => ?_, fun s ns on_ off backup long sd => ?_,
    fun s ns on_ off backup short => ?_, fun s env held low => ?_, fun s env held high ao => ?_, fun s env held => ?_,
    fun s env boot held on_ step good => ?_, fun s env boot held on_ step fd good pll bank => ?_,
    fun s env boot held on_ step rg fd => ?_⟩
  · have run := exec_lplusPowerOn (waitsForPower_off off held die hold done) ((lplusCounted_iff env).mpr ⟨first, least, us, read⟩)
    obtain ⟨kept, lplus, cells⟩ := bootSteps_keeps (s := bootStep1 0 env.almOpen (powerOn env.lplus s)) ao rfl rfl
    have put := kept.trans (bootStep1_released ..)
    refine ⟨_, run, congrArg Released.mode put, congrArg Released.cause put, congrArg (fun v => v.tb.count) put, congrArg Released.held put,
      congrArg Released.levelP put, congrArg Released.levelT put, congrArg Released.aoOn put, lplus rfl, congrArg Released.diverged put,
      congrArg Released.almOpen put, congrArg Released.running put, cells, fun pll good bank => ?_⟩
    have same : chooseFw (bootStep1 0 env.almOpen (powerOn env.lplus s)) = chooseFw s :=
      (bootStep1_stores ..).trans (chooseFw_congr rfl rfl)
    obtain ⟨step, up, gableE, slate, -⟩ := bootSteps_reach good (bootStep1_fd ..) pll (same.symm ▸ bank)
    exact ⟨step, up, gableE, slate⟩
  · refine ⟨_, exec_lplusPowerOn waits counted, ?_⟩
    rw [bootSteps_noAo _ ao]
    exact ⟨rfl, rfl, rfl, rfl, rfl, rfl⟩
  · refine exec_lplusPowerOn_stays (.inl ?_)
    have no : (s.pwr.aoHold == 0) = false := by simp; omega
    simp [waitsForPower, no]
  · refine exec_lplusPowerOn_stays (.inr (Bool.eq_false_iff.mpr fun counted => ?_))
    have limits := (lplusCounted_iff env).mp counted
    omega
  · obtain ⟨reset, -⟩ := exec_resetNAssert_long on_ off backup long
    exact ⟨_, reset sd, rfl, rfl, rfl, rfl, rfl, rfl, rfl, rfl, rfl, rfl, rfl, rfl, rfl, rfl⟩
  · obtain ⟨-, shuts⟩ := exec_resetNAssert_long on_ off backup long
    exact ⟨_, shuts sd, rfl, rfl, fieldReset_inp _ _, rfl, rfl, rfl⟩
  · rw [exec_resetNAssert ns on_ off backup]
    cases takes : resetTakes ns s.free
    case false => exact ⟨_, rfl, .inl rfl⟩
    case true =>
      have lo := resetTakes_lo takes
      rw [if_neg (by decide)]
      split <;> exact ⟨_, rfl, .inr ⟨lo, rfl, rfl⟩⟩
  · have z := lullEnter_freezes 1 (s := bootStep1 1 env.almOpen s) rfl
    exact ⟨_, (exec_resetNRelease env held).trans (congrArg Host.Outcome.next (if_pos low)), z.mode, z.resetCause, z.bootStep, z.resetHeld,
      z.active, z.cause, z.fromMode, z.stamp, z.laneP, z.laneT⟩
  · have run := (exec_resetNRelease env held).trans (congrArg Host.Outcome.next (if_neg (Bool.eq_false_iff.mp high)))
    obtain ⟨kept, -, -⟩ := bootSteps_keeps (s := bootStep1 1 env.almOpen s) ao rfl rfl
    have put := kept.trans (bootStep1_released ..)
    refine ⟨_, run, congrArg Released.mode put, congrArg Released.cause put, congrArg Released.held put,
      congrArg (fun v => v.tb.count) put, congrArg Released.levelP put, congrArg Released.levelT put, congrArg Released.almOpen put,
      fun pll good bank => ?_⟩
    have bank1 : (chooseFw (bootStep1 1 env.almOpen s)).1.isSome = true := (bootStep1_stores 1 env.almOpen s).symm ▸ bank
    obtain ⟨step, up, -⟩ := bootSteps_reach good (bootStep1_fd ..) pll bank1
    exact ⟨step, up⟩
  · exact if_pos (by simp [held])
  · obtain ⟨mode, view, domains, -⟩ := bootStep6_good s good
    obtain ⟨running, levelP, levelT, active, tb⟩ := parts_of_entered view
    exact ⟨_, exec_bootComplete_last env boot held on_ step, mode, running, levelP, levelT, domains, active, tb⟩
  · have steps : bootRun env s = bootSteps env s := if_pos step
    obtain ⟨last, up, -, -, kept⟩ := bootSteps_reach good fd pll bank
    have run := exec_bootComplete env boot held on_ ((congrArg State.bootStep steps).trans last)
    obtain ⟨mode, view, domains, serves⟩ := bootStep6_good (bootSteps env s) good
    obtain ⟨running, levelP, levelT, active, tb⟩ := parts_of_entered view
    rw [steps] at run
    exact ⟨_, run, mode, running, levelP, levelT, active ▸ domains, serves up, tb.trans (congrArg Released.tb kept)⟩
  · obtain ⟨mode, z⟩ := bootStep6_rg held rg fd
    exact ⟨_, exec_bootComplete_last env boot held on_ step, mode, z.fault, z.ridge, z.thatch, z.rg, z.th, z.evt⟩

end Sys2Proof.Proofs
end

section
/-! PROOF. No command writes the queue: the shared operations (O3). -/

namespace Sys2Proof.Proofs

open Sys2Proof Sys2Proof.Machine Sys2Proof.Safety Sys2Proof.Laws

/-- A fold of steps that leave the queue leaves it. -/
theorem foldl_pending {α : Type} (f : State → α → State) (hf : ∀ t a, (f t a).pending = t.pending) (l : List α) (s : State) :
    (l.foldl f s).pending = s.pending := foldl_keeps (·.pending) f hf l s

/-- Either way. -/
@[simp] theorem ite_pending (c : Prop) [Decidable c] (a b : State) :
    (if c then a else b).pending = if c then a.pending else b.pending := apply_ite State.pending c a b

/-! ## Slate, the log, the regulators and the configuration -/

@[simp] theorem sealCheck_pending (s : State) : (sealCheck s).pending = s.pending := by simp [sealCheck]
@[simp] theorem slateEvent_pending (kind bitNo : Nat) (s : State) : (slateEvent kind bitNo s).pending = s.pending := by simp [slateEvent]
@[simp] theorem slateLatch_pending (s : State) : (slateLatch s).pending = s.pending := rfl
@[simp] theorem vppCheck_pending (mv : Nat) (s : State) : (vppCheck mv s).pending = s.pending := by simp [vppCheck]
@[simp] theorem slateHard_pending (s : State) : (slateHard s).pending = s.pending := by simp [slateHard]
@[simp] theorem slateFaults_pending (old : SlateWord) (s : State) : (slateFaults old s).pending = s.pending := by
  simp [slateFaults, foldl_pending]
@[simp] theorem testPortBits_pending (l : List (Fin 8192)) (s : State) : (testPortBits l s).pending = s.pending := by
  simp [testPortBits, foldl_pending]
@[simp] theorem logScan_pending (s : State) : (logScan s).pending = s.pending := by simp [logScan]
@[simp] theorem lplusAt_pending (mv : Nat) (s : State) : (lplusAt mv s).pending = s.pending := rfl
@[simp] theorem bootStep2_pending (env : BootEnv) (s : State) : (bootStep2 env s).pending = s.pending := by simp [bootStep2]
@[simp] theorem bootStep3_pending (env : BootEnv) (s : State) : (bootStep3 env s).pending = s.pending := by simp [bootStep3]
@[simp] theorem bootStep4_pending (bankB : Bool) (b : Bank) (attempts : Nat) (s : State) : (bootStep4 bankB b attempts s).pending = s.pending := rfl
@[simp] theorem portDark_pending (p : NetPort) (s : State) : (portDark p s).pending = s.pending := by unfold portDark; split <;> simp
@[simp] theorem domainStops_pending (dom : Nat) (s : State) : (domainStops dom s).pending = s.pending := by unfold domainStops; split <;> simp
@[simp] theorem regulatorEvt_pending (s : State) : (regulatorEvt s).pending = s.pending := rfl
@[simp] theorem regulatorAct_pending (dom : Nat) (s : State) : (regulatorAct dom s).pending = s.pending := by unfold regulatorAct; split <;> simp
@[simp] theorem domainOff_pending (s : State) (dom : Nat) : (domainOff s dom).pending = s.pending := by simp [domainOff]
@[simp] theorem bootRegulators_pending (bad : BitVec 10) (s : State) : (bootRegulators bad s).pending = s.pending := by
  unfold bootRegulators; split
  · rfl
  · simp [foldl_pending]
@[simp] theorem loadConfig_pending (s : State) : (loadConfig s).pending = s.pending :=
  loadConfig_keeps State.pending (by simp) (by simp) (by simp) (by simp) (fun _ _ => rfl) s
@[simp] theorem vbatCheck_pending (mv : Nat) (s : State) : (vbatCheck mv s).pending = s.pending := by simp [vbatCheck]
@[simp] theorem backoffRestart_pending (s : State) : (backoffRestart s).pending = s.pending := by simp [backoffRestart]
@[simp] theorem timeFaults_pending (s : State) : (timeFaults s).pending = s.pending := by simp [timeFaults]
@[simp] theorem timeStart_pending (s : State) : (timeStart s).pending = s.pending := by simp [timeStart]
@[simp] theorem setGableUp_pending (b : Bool) (s : State) : (setGableUp b s).pending = s.pending := by simp [setGableUp]
@[simp] theorem loadMargins_pending (s : State) : (loadMargins s).pending = s.pending := by simp [loadMargins]
@[simp] theorem gableBack_pending (s : State) : (gableBack s).pending = s.pending := by simp [gableBack, foldl_pending]
@[simp] theorem startSelftest_pending (s : State) : (startSelftest s).pending = s.pending := by simp [startSelftest]

/-! ## The mailbox: passwords, candidates, commits, firmware, Slate commands -/

@[simp] theorem countFailure_pending (s : State) : (countFailure s).pending = s.pending := by simp [countFailure]
@[simp] theorem occupy_pending (code : BitVec 16) (r : Req) (s : State) : (occupy code r s).pending = s.pending := by simp [occupy]
@[simp] theorem refuseFlags_pending (code : BitVec 16) (r : Req) (s : State) : (refuseFlags code r s).pending = s.pending := by
  simp [refuseFlags]
theorem turnedAway_pending {code : BitVec 16} {r : Req} {s u : State} (h : turnedAway code r s = some u) :
    u.pending = s.pending := by
  unfold turnedAway at h
  (repeat' split at h) <;> simp at h <;> subst h <;> simp
@[simp] theorem heldBody_pending (code : BitVec 16) (r : Req) (body : State → State × Answer) (s : State)
    (keeps : ∀ t, (body t).1.pending = t.pending) : (heldBody code r body s).1.pending = s.pending := by
  simp [heldBody, keeps]
@[simp] theorem heldEnd_pending (code : BitVec 16) (r : Req) (body : State → State × Answer) (s : State)
    (keeps : ∀ t, (body t).1.pending = t.pending) : (heldEnd code r body s).pending = s.pending := by
  unfold heldEnd; dsimp only; (repeat' split) <;> simp [keeps]
@[simp] theorem noPayload_pending (r : Req) (body : State → State × Answer) (s : State) (keeps : ∀ t, (body t).1.pending = t.pending) :
    (noPayload r body s).1.pending = s.pending := by
  unfold noPayload; (repeat' split) <;> simp [keeps]
@[simp] theorem loginAnswer_pending (p : Port) (st : Byte) (level : Nat) (s : State) : (loginAnswer p st level s).1.pending = s.pending := by
  simp [loginAnswer]
@[simp] theorem clearFailures_pending (s : State) : (clearFailures s).pending = s.pending := by simp [clearFailures]
@[simp] theorem storePassword_pending (level : Nat) (pw : List Byte) (s : State) : (storePassword level pw s).pending = s.pending := by
  unfold storePassword; (repeat' split) <;> simp
@[simp] theorem setPasswordBody_pending (r : Req) (flashOk : Bool) (s : State) : (setPasswordBody r flashOk s).1.pending = s.pending := by
  simp [setPasswordBody]
@[simp] theorem clearLockoutOpen_pending (r : Req) (s : State) : (clearLockoutOpen r s).pending = s.pending := by simp [clearLockoutOpen]
@[simp] theorem endClearLockout_pending (w : LockWindow) (st : Byte) (s : State) : (endClearLockout w st s).pending = s.pending := by
  simp [endClearLockout]
@[simp] theorem owned_pending (r : Req) (body : State → State × Answer) (s : State) (keeps : ∀ t, (body t).1.pending = t.pending) :
    (owned r body s).1.pending = s.pending := by
  unfold owned; (repeat' split) <;> simp [keeps]
@[simp] theorem cfgBeginBody_pending (r : Req) (s : State) : (cfgBeginBody r s).1.pending = s.pending := by
  unfold cfgBeginBody; (repeat' split) <;> simp
@[simp] theorem cfgBlockBody_pending (r : Req) (s : State) : (cfgBlockBody r s).1.pending = s.pending := by
  unfold cfgBlockBody; (repeat' split) <;> simp
@[simp] theorem refuseCand_pending (st : Byte) (payload : List Byte) (s : State) : (refuseCand st payload s).1.pending = s.pending := by
  simp [refuseCand]
@[simp] theorem closeCand_pending (c : Candidate) (s : State) : (closeCand c s).1.pending = s.pending := by
  unfold closeCand; dsimp only; (repeat' split) <;> simp
@[simp] theorem cfgEndBody_pending (r : Req) (s : State) : (cfgEndBody r s).1.pending = s.pending := by
  unfold cfgEndBody; (repeat' split) <;> simp
@[simp] theorem acceptBody_pending (r : Req) (s : State) : (acceptBody r s).1.pending = s.pending := by
  unfold acceptBody; (repeat' split) <;> simp
@[simp] theorem verifyStartBody_pending (r : Req) (s : State) : (verifyStartBody r s).1.pending = s.pending := by
  unfold verifyStartBody; (repeat' split) <;> simp
@[simp] theorem verifyReportBody_pending (r : Req) (s : State) : (verifyReportBody r s).1.pending = s.pending := by
  unfold verifyReportBody; (repeat' split) <;> simp
@[simp] theorem commitEntry_pending (code : BitVec 16) (r : Req) (kind : Nat) (before after arg : List Byte) (s : State) :
    (commitEntry code r kind before after arg s).pending = s.pending := by simp [commitEntry]
@[simp] theorem flashSteps_pending (code : BitVec 16) (r : Req) (k : Nat) (before after arg : List Byte) (bank : State → State) (s : State)
    (keeps : ∀ t, (bank t).pending = t.pending) : (flashSteps code r k before after arg bank s).pending = s.pending := by
  simp [flashSteps, keeps]
@[simp] theorem commitSteps_pending (r : Req) (run : FlashRun) (c : Candidate) (s : State) : (commitSteps r run c s).1.pending = s.pending := by
  have steps := flashSteps_pending ccCommit r
  unfold commitSteps
  cases run with
  | done => exact steps _ _ _ _ _ s fun _ => rfl
  | failed => rfl
  | cut k => exact steps _ _ _ _ _ s fun _ => rfl
@[simp] theorem commitBody_pending (r : Req) (run : FlashRun) (s : State) : (commitBody r run s).1.pending = s.pending := by
  unfold commitBody; (repeat' split) <;> simp
@[simp] theorem setFwInactive_pending (b : Bank) (s : State) : (setFwInactive b s).pending = s.pending := rfl
@[simp] theorem fwBlockBody_pending (r : Req) (flashOk : Bool) (s : State) : (fwBlockBody r flashOk s).1.pending = s.pending := by
  simp [fwBlockBody]
@[simp] theorem activateSteps_pending (r : Req) (run : FlashRun) (s : State) : (activateSteps r run s).1.pending = s.pending := by
  have bank (k : Nat) (b : Bank) (t : State) : ((if k < 3 then id else setFwInactive b) t).pending = t.pending := by split <;> rfl
  unfold activateSteps
  cases run with
  | done => exact flashSteps_pending _ _ _ _ _ _ _ _ fun _ => rfl
  | failed => rfl
  | cut k => simp [bank]
@[simp] theorem fwActivateBody_pending (r : Req) (run : FlashRun) (s : State) : (fwActivateBody r run s).1.pending = s.pending := by
  simp [fwActivateBody]
@[simp] theorem slateReadBody_pending (r : Req) (s : State) : (slateReadBody r s).1.pending = s.pending := by
  unfold slateReadBody; (repeat' split) <;> simp
@[simp] theorem programCells_pending (b pass : Nat) (s : State) : (programCells b pass s).pending = s.pending := by
  unfold programCells; dsimp only; (repeat' split) <;> simp
@[simp] theorem cutPulse_pending (code : BitVec 16) (r : Req) (b : Nat) (s : State) : (cutPulse code r b s).1.pending = s.pending := rfl
@[simp] theorem setProg_pending (result rounds b : Nat) (s : State) : (setProg result rounds b s).pending = s.pending := by unfold setProg; rfl
@[simp] theorem programBody_pending (r : Req) (p : SlatePulse) (x : State) : (programBody r p x).1.pending = x.pending := by
  unfold programBody; dsimp only; (repeat' split) <;> simp
@[simp] theorem slateLockBody_pending (r : Req) (p : SlatePulse) (x : State) : (slateLockBody r p x).1.pending = x.pending := by simp [slateLockBody]

/-! ## The doorbells, the supply and the shutdown -/

@[simp] theorem doorbellReq_pending (s : State) : (doorbellReq s).pending = s.pending := by simp [doorbellReq]
@[simp] theorem doorbellAck_pending (s : State) : (doorbellAck s).pending = s.pending := by
  unfold doorbellAck; (repeat' split) <;> simp
@[simp] theorem doorbellEvt_pending (n : BitVec 8) (s : State) : (doorbellEvt n s).pending = s.pending := by simp [doorbellEvt]
@[simp] theorem setBooted_pending (s : State) : (setBooted s).pending = s.pending := rfl
@[simp] theorem openWindows_pending (s : State) : (openWindows s).pending = s.pending := rfl
@[simp] theorem endSelftest_pending (s : State) : (endSelftest s).pending = s.pending := rfl
@[simp] theorem selftestPassed_pending (s : State) : (selftestPassed s).pending = s.pending := rfl
@[simp] theorem restoreUp_pending (c : ClkStep) (s : State) : (restoreUp c s).pending = s.pending := by simp [restoreUp]
@[simp] theorem lplusSeen_pending (mv : Nat) (s : State) : (lplusSeen mv s).pending = s.pending := by simp [lplusSeen]
@[simp] theorem fieldOff_pending (s : State) : (fieldOff s).pending = s.pending := rfl
@[simp] theorem channelsOff_pending (s : State) : (channelsOff s).pending = s.pending := rfl
@[simp] theorem networksOff_pending (s : State) : (networksOff s).pending = s.pending := rfl
@[simp] theorem shutdownLog_pending (s : State) : (shutdownLog s).pending = s.pending := by simp [shutdownLog]
@[simp] theorem shutdownDone_pending (s : State) : (shutdownDone s).pending = s.pending := by simp [shutdownDone]
@[simp] theorem gableStop_pending (s : State) : (gableStop s).pending = s.pending := by simp [gableStop]
@[simp] theorem engineMiss_pending (e : Engine) (s : State) : (engineMiss e s).pending = s.pending := by simp [engineMiss]

/-! ## Lanes, channels and the field side -/

@[simp] theorem lanesMeet_pending (s : State) : (lanesMeet s).pending = s.pending := by unfold lanesMeet; split <;> simp
@[simp] theorem takeNew_pending (s : State) : (takeNew s).pending = s.pending := by simp [takeNew]
@[simp] theorem startInbound_pending (lane : Lane) (det : Nat) (s : State) : (startInbound lane det s).pending = s.pending := by
  simp [startInbound]
@[simp] theorem judgeFrame_pending (lane : Lane) (f : OutFrame) (s : State) : (judgeFrame lane f s).pending = s.pending := by
  simp [judgeFrame]
@[simp] theorem turnOff_pending (lane : Lane) (o t : Nat) (s : State) : (turnOff lane o t s).pending = s.pending := rfl
@[simp] theorem commandedOffs_pending (lane : Lane) (old s : State) : (commandedOffs lane old s).pending = s.pending := by
  simp [commandedOffs, foldl_pending]
@[simp] theorem chanRelease_pending (lane : Lane) (s : State) : (chanRelease lane s).pending = s.pending := by simp [chanRelease]
@[simp] theorem inpAll_pending (p : Nat → Bool) (g : Nat → InFc → InFc) (s : State) : (inpAll p g s).pending = s.pending := rfl
@[simp] theorem holdFails_pending (m : Nat) (high : Bool) (onInHold : BitVec 48) (s : State) : (holdFails m high onInHold s).pending = s.pending := by
  simp [holdFails]
@[simp] theorem stuckHigh_pending (m low : Nat) (high : Bool) (s : State) : (stuckHigh m low high s).pending = s.pending := by simp [stuckHigh]
@[simp] theorem raiseFound_pending (cfg : Config.Image) (f : FaultOf) (s : State) : (raiseFound cfg f s).pending = s.pending := by
  simp [raiseFound]
@[simp] theorem syncFaults_pending (s : State) : (syncFaults s).pending = s.pending := by simp [syncFaults, foldl_pending]
@[simp] theorem supplyFault_pending (k st volt : Nat) (s : State) : (supplyFault k st volt s).pending = s.pending := by simp [supplyFault]
@[simp] theorem supplyFaults_pending (c : Chan) (s : State) : (supplyFaults c s).pending = s.pending := by simp [supplyFaults, foldl_pending]
@[simp] theorem restartTpos_pending (c : Chan) (s : State) : (restartTpos c s).pending = s.pending := rfl
@[simp] theorem anLostEvents_pending (old new : Chan) (s : State) : (anLostEvents old new s).pending = s.pending := rfl
@[simp] theorem evaluate_pending (lane : Lane) (s : State) : (evaluate lane s).pending = s.pending := by simp [evaluate, foldl_pending]
@[simp] theorem laneFault_pending (lane : Lane) (s : State) : (laneFault lane s).pending = s.pending := by simp [laneFault]
@[simp] theorem takeFrame_pending (lane : Lane) (f : InFrame) (s : State) : (takeFrame lane f s).pending = s.pending := by simp [takeFrame]
@[simp] theorem exchange_pending (fp ft : BitVec 8) (s : State) : (exchange fp ft s).pending = s.pending := rfl
@[simp] theorem captureMis_pending (fp ft : BitVec 8) (p t : Vector W32 8) (s : State) : (captureMis fp ft p t s).pending = s.pending := by
  simp [captureMis]
@[simp] theorem nonSafe_pending (s : State) : (nonSafe s).pending = s.pending := by simp [nonSafe, foldl_pending]
@[simp] theorem vectorStep_pending (ridgeErr thatchErr : BitVec 256) (s : State) : (vectorStep ridgeErr thatchErr s).pending = s.pending := by
  unfold vectorStep; dsimp only; (repeat' split) <;> simp
@[simp] theorem compareStep_pending (ridgeErr thatchErr : BitVec 256) (ridgeReqBad thatchReqBad : Bool) (s : State) :
    (compareStep ridgeErr thatchErr ridgeReqBad thatchReqBad s).pending = s.pending := by
  simp [compareStep]

/-! ## The Ridge pair and its memories -/

@[simp] theorem freezeRidge_pending (s : State) : (freezeRidge s).pending = s.pending := rfl
@[simp] theorem tcmUpset_pending (m : TcmId) (addr : Nat) (flips : Byte) (s : State) : (tcmUpset m addr flips s).pending = s.pending :=
  (congrArg State.pending (tcmUpset_frame m addr flips s) :)
@[simp] theorem tcmDed_pending (m : TcmId) (addr : Nat) (s : State) : (tcmDed m addr s).pending = s.pending :=
  (congrArg State.pending (tcmDed_frame m addr s) :)
@[simp] theorem splitBody_pending (r : Req) (crcEqual : Bool) (s : State) : (splitBody r crcEqual s).1.pending = s.pending := by
  unfold splitBody; split <;> simp
@[simp] theorem joinBody_pending (r : Req) (crcEqual : Bool) (s : State) : (joinBody r crcEqual s).1.pending = s.pending := by
  unfold joinBody; (repeat' split) <;> simp
@[simp] theorem splitAnswer_pending (a : Answer) (s : State) : (splitAnswer a s).pending = s.pending := by
  unfold splitAnswer; (repeat' split) <;> simp
@[simp] theorem splitLoad_pending (s : State) : (splitLoad s).pending = s.pending := by simp [splitLoad]
@[simp] theorem joinInstr_pending (s : State) : (joinInstr s).pending = s.pending := rfl
@[simp] theorem joinData_pending (s : State) : (joinData s).pending = s.pending := by simp [joinData]
@[simp] theorem splitEnd_pending (s : State) : (splitEnd s).pending = s.pending := by unfold splitEnd; split <;> simp
@[simp] theorem splitBoundary_pending (s : State) : (splitBoundary s).pending = s.pending := by unfold splitBoundary; split <;> simp
@[simp] theorem splitOvertaken_pending (s : State) : (splitOvertaken s).pending = s.pending := by simp [splitOvertaken]
@[simp] theorem motionBoundary_pending (s : State) : (motionBoundary s).pending = s.pending := by simp [motionBoundary]

/-! ## Networks, the cascade and the produced connections -/

@[simp] theorem sendOn_pending (p : NetPort) (m : List Byte) (s : State) : (sendOn p m s).pending = s.pending :=
  (congrArg State.pending (sendOn_frame p m s) :)
@[simp] theorem netEvent_pending (p : NetPort) (k : Nat) (s : State) : (netEvent p k s).pending = s.pending := by
  unfold netEvent; split <;> simp
@[simp] theorem linkFaults_pending (s : State) : (linkFaults s).pending = s.pending := by simp [linkFaults]
@[simp] theorem agreeFault_pending (x : Member) (run : Nat) (code : BitVec 16) (m : Nat) (s : State) :
    (agreeFault x run code m s).pending = s.pending := by
  simp [agreeFault]
@[simp] theorem casFaults_pending (m : Nat) (s : State) : (casFaults m s).pending = s.pending := by simp [casFaults]
@[simp] theorem ptpHoldover_pending (s : State) : (ptpHoldover s).pending = s.pending := rfl
@[simp] theorem casLead_pending (m : Fin 8) (s : State) : (casLead m s).pending = s.pending := by simp [casLead]
@[simp] theorem casElect_pending (s : State) : (casElect s).pending = s.pending := by unfold casElect; split <;> simp
@[simp] theorem casBlock_pending (s : State) : (casBlock s).pending = s.pending := by simp [casBlock]
@[simp] theorem casStep_pending (s : State) : (casStep s).pending = s.pending := by simp [casStep, foldl_pending]
@[simp] theorem casSend_pending (typ id : Nat) (seq : W32) (payload : List Byte) (s : State) :
    (casSend typ id seq payload s).pending = s.pending := by simp [casSend]
@[simp] theorem ptpSend_pending (p : NetPort) (event : Bool) (m : List Byte) (s : State) : (ptpSend p event m s).pending = s.pending := by
  simp [ptpSend]
@[simp] theorem rtcSet_pending (s : State) : (rtcSet s).pending = s.pending := by unfold rtcSet; split <;> simp
@[simp] theorem warnFault_pending (was : BitVec 2) (offset : Int) (s : State) : (warnFault was offset s).pending = s.pending := by
  simp [warnFault]
@[simp] theorem dropSilent_pending (s : State) : (dropSilent s).pending = s.pending := by simp [dropSilent]
@[simp] theorem connClears_pending (k : Nat) (n : Conn) (s : State) : (connClears k n s).pending = s.pending := by simp [connClears]
@[simp] theorem connSync_pending (k : Nat) (r : Conn × List (BitVec 16)) (s : State) : (connSync k r s).pending = s.pending := by
  simp [connSync, foldl_pending]
@[simp] theorem phase3Faults_pending (cfg : Config.Image) (q : Phase3) (s : State) : (phase3Faults cfg q s).pending = s.pending := by
  simp [phase3Faults, foldl_pending]
@[simp] theorem produce_pending (cfg : Config.Image) (s : State) : (produce cfg s).pending = s.pending := by simp [produce]
@[simp] theorem gableRefresh_pending (s : State) : (gableRefresh s).pending = s.pending := by simp [gableRefresh]
@[simp] theorem bothConns_pending (k : Nat) (g : Conn → Conn × List (BitVec 16)) (s : State) : (bothConns k g s).pending = s.pending := by
  simp [bothConns]

/-! ## Weathering -/

@[simp] theorem takeTable_pending (wrong : List (Nat × Int)) (s : State) : (takeTable wrong s).pending = s.pending := by simp [takeTable]
@[simp] theorem exhaust_pending (m : Margin) (s : State) : (exhaust m s).pending = s.pending := by simp [exhaust]
@[simp] theorem wthRefresh_pending (s : State) : (wthRefresh s).pending = s.pending := by simp [wthRefresh]
@[simp] theorem applyMargins_pending (s : State) : (applyMargins s).pending = s.pending := by simp [applyMargins]
@[simp] theorem weatherBody_pending (r : Req) (s : State) : (weatherBody r s).1.pending = s.pending := by simp [weatherBody]
@[simp] theorem moveWindows_pending (s : State) : (moveWindows s).pending = s.pending := by simp [moveWindows]
@[simp] theorem thatchMeasure_pending (cycles : Nat) (s : State) : (thatchMeasure cycles s).pending = s.pending := by simp [thatchMeasure]

/-! ## Modes and the boundary -/

@[simp] theorem loadBoth_pending (s : State) : (loadBoth s).pending = s.pending := rfl
@[simp] theorem verifyLoad_pending (s : State) : (verifyLoad s).pending = s.pending := by unfold verifyLoad; split <;> simp
@[simp] theorem enterMode_pending (m : Mode) (s : State) : (enterMode m s).pending = s.pending := by simp [enterMode]
@[simp] theorem enterLockout_pending (s : State) : (enterLockout s).pending = s.pending := by simp [enterLockout]
@[simp] theorem overtake_pending (s : State) : (overtake s).pending = s.pending := by simp [overtake]
@[simp] theorem modeStep_pending (s : State) : (modeStep s).pending = s.pending := by
  unfold modeStep; dsimp only; (repeat' split) <;> simp
@[simp] theorem framesOut_pending (s : State) : (framesOut s).pending = s.pending := rfl
@[simp] theorem refreshBuf_pending (s : State) : (refreshBuf s).pending = s.pending := rfl
@[simp] theorem casLatch_pending (s : State) : (casLatch s).pending = s.pending := rfl
@[simp] theorem lockAckStep_pending (s : State) : (lockAckStep s).pending = s.pending := by unfold lockAckStep; split <;> simp
@[simp] theorem verifyTick_pending (s : State) : (verifyTick s).pending = s.pending := by unfold verifyTick; split <;> simp
@[simp] theorem shutdownB1_pending (s : State) : (shutdownB1 s).pending = s.pending := by unfold shutdownB1; split <;> simp
@[simp] theorem expire_pending (typs : List Nat) (g : Expiry) (k : Nat) (s : State) : (expire typs g k s).pending = s.pending := by
  unfold expire; (repeat' split) <;> simp [foldl_pending]

/-! ## LULL -/

@[simp] theorem lullLock_pending (s : State) : (lullLock s).pending = s.pending := by simp [lullLock]
@[simp] theorem freezeEngines_pending (s : State) : (freezeEngines s).pending = s.pending := rfl
@[simp] theorem lullLevel_pending (s : State) : (lullLevel s).pending = s.pending := rfl

/-- A mailbox command leaves the queue if its effect does. -/
theorem serve_pending (code : BitVec 16) (r : Req) (body : State → State × Answer) (s : State)
    (keeps : ∀ t, (body t).1.pending = t.pending) : (serve code r body s).pending = s.pending := by
  unfold serve
  split
  · rfl
  split
  · simp
  dsimp only
  split
  · next h => exact (turnedAway_pending h).trans (by simp)
  split
  · simp
  split <;> simp [keeps]

end Sys2Proof.Proofs
end

section
/-! PROOF. No command writes the queue: timers, restarts, boot, LULL and the host window (O3). -/

namespace Sys2Proof.Proofs

open Sys2Proof Sys2Proof.Machine Sys2Proof.Safety Sys2Proof.Laws

/-! ## The timer unit and the timebase -/

@[simp] theorem tmuOuter_pending (n : Nat) (falling : Bool) (s : State) : (tmuOuter n falling s).pending = s.pending := by
  unfold tmuOuter; dsimp only; split <;> simp
@[simp] theorem tmuJudge_pending (n : Nat) (v cnt : W32) (s : State) : (tmuJudge n v cnt s).pending = s.pending := by simp [tmuJudge]
@[simp] theorem writeTmuCount_pending (n : Nat) (v : W32) (s : State) : (writeTmuCount n v s).pending = s.pending := by
  unfold writeTmuCount; dsimp only; split <;> simp
@[simp] theorem writeTmuCmp_pending (n : Nat) (v : W32) (s : State) : (writeTmuCmp n v s).pending = s.pending := by simp [writeTmuCmp]
@[simp] theorem writeTmuAdv_pending (n : Nat) (v : W32) (s : State) : (writeTmuAdv n v s).pending = s.pending := by simp [writeTmuAdv]
@[simp] theorem clearTmuStat_pending (n : Nat) (s : State) : (clearTmuStat n s).pending = s.pending := by simp [clearTmuStat]
@[simp] theorem writeTmuCtrl_pending (n : Nat) (v : W32) (s : State) : (writeTmuCtrl n v s).pending = s.pending := by
  unfold writeTmuCtrl; dsimp only; split <;> simp
@[simp] theorem writeTmuPresc_pending (n : Nat) (v : W32) (s : State) : (writeTmuPresc n v s).pending = s.pending := by simp [writeTmuPresc]
@[simp] theorem staggerOne_pending (first n k : Nat) (base : TmuCh) (per lead : W32) (s : State) :
    (staggerOne first n k base per lead s).pending = s.pending := by simp [staggerOne]
@[simp] theorem writeTmuStagger_pending (v : W32) (s : State) : (writeTmuStagger v s).pending = s.pending := by
  unfold writeTmuStagger; dsimp only; (repeat' split) <;> simp [foldl_pending]

/-- A read of a count touches shadows and TORN only. -/
@[simp] theorem readTmuCount_pending (n : Nat) (s : State) : (readTmuCount n s).2.pending = s.pending := by
  unfold readTmuCount; dsimp only; (repeat' split)
  · rfl
  · rfl
  · exact foldl_pending (fun t k => tmuUpd k (fun x => { x with shadow := some x.count }) t) (fun _ _ => rfl) _ s

@[simp] theorem readTbLo_pending (s : State) : (readTbLo s).2.pending = s.pending := rfl
@[simp] theorem readTbHi_pending (s : State) : (readTbHi s).2.pending = s.pending := by unfold readTbHi; split <;> rfl
@[simp] theorem portRead_pending (high : Bool) (k : Fin 8) (s : State) : (portRead high k s).pending = s.pending := by
  unfold portRead; (repeat' split) <;> rfl

/-! ## The check value units, and the restarts that check them again -/

@[simp] theorem cvuCheck_pending (u : Fin 4) (sound : Bool) (s : State) : (cvuCheck u sound s).pending = s.pending := by
  simp [cvuCheck]
@[simp] theorem cvuChecks_pending (bad : BitVec 4) (units : List (Fin 4)) (s : State) : (cvuChecks bad units s).pending = s.pending := by
  simp [cvuChecks, foldl_pending]
@[simp] theorem cvuPorts_pending (bad : BitVec 4) (s : State) : (cvuPorts bad s).pending = s.pending :=
  cvuPorts_keeps State.pending cvuCheck_pending bad s
@[simp] theorem cvuOfEngine_pending (e : Engine) (sound : Bool) (s : State) : (cvuOfEngine e sound s).pending = s.pending := by
  unfold cvuOfEngine; split <;> simp
@[simp] theorem selftestAgain_pending (s : State) : (selftestAgain s).pending = s.pending := by
  simp [selftestAgain, foldl_pending]
@[simp] theorem restartSelftest_pending (s : State) : (restartSelftest s).pending = s.pending := by
  unfold restartSelftest; split <;> simp
@[simp] theorem deliberateRestart_pending (s : State) : (deliberateRestart s).pending = s.pending := by simp [deliberateRestart]
@[simp] theorem commitRestart_pending (s : State) : (commitRestart s).pending = s.pending := by simp [commitRestart]

/-! ## Sessions and held requests -/

@[simp] theorem lowerSession_pending (p : Port) (level : BitVec 2) (s : State) : (lowerSession p level s).pending = s.pending := by
  unfold lowerSession; dsimp only; (repeat' split) <;> simp
@[simp] theorem grant_pending (p : Port) (level : Nat) (service unsetOnly : Bool) (s : State) :
    (grant p level service unsetOnly s).pending = s.pending := by
  unfold grant; dsimp only; (repeat' split) <;> simp
@[simp] theorem loginBody_pending (r : Req) (s : State) : (loginBody r s).1.pending = s.pending := by
  unfold loginBody; dsimp only; (repeat' split) <;> simp
@[simp] theorem heldStep_pending (s : State) : (heldStep s).pending = s.pending := by
  unfold heldStep; (repeat' split) <;> simp
@[simp] theorem usbOff_pending (s : State) : (usbOff s).pending = s.pending := by simp [usbOff]

/-! ## The clock, the boundary, the shutdown -/

@[simp] theorem shedDown_pending (c : ClkStep) (s : State) : (shedDown c s).pending = s.pending := by
  unfold shedDown; dsimp only; split <;> simp
@[simp] theorem clkTo_pending (c : ClkStep) (s : State) : (clkTo c s).pending = s.pending := by
  unfold clkTo; dsimp only; (repeat' split) <;> simp
@[simp] theorem setStep_pending (c : ClkStep) (s : State) : (setStep c s).pending = s.pending := by
  unfold setStep; split <;> simp
@[simp] theorem shutdownStart_pending (mv holdMv : Nat) (s : State) : (shutdownStart mv holdMv s).pending = s.pending := by
  simp [shutdownStart]
@[simp] theorem tickStart_pending (s : State) : (tickStart s).pending = s.pending := by simp [tickStart]
@[simp] theorem boundaryChanges_pending (s : State) : (boundaryChanges s).pending = s.pending := by simp [boundaryChanges]

/-- A reset of AO keeps what the tester of the model has queued. -/
@[simp] theorem coldReset_pending (s : State) : (coldReset s).pending = s.pending := rfl
@[simp] theorem powerOff_pending (lplus : Bool) (s : State) : (powerOff lplus s).pending = s.pending := rfl
@[simp] theorem aoReset_pending (s : State) : (aoReset s).pending = s.pending := rfl
@[simp] theorem shutdownClock_pending (s : State) : (shutdownClock s).pending = s.pending := by
  unfold shutdownClock; (repeat' split) <;> simp
@[simp] theorem idle_pending (s : State) : (idle s).pending = s.pending := by simp [idle]
@[simp] theorem clocks_pending (n : Nat) (s : State) : (clocks n s).pending = s.pending := by
  induction n generalizing s with
  | zero => rfl
  | succ k ih => rw [clocks, ih, idle_pending]

/-! ## BOOT -/

@[simp] theorem powerOn_pending (lplus : Nat) (s : State) : (powerOn lplus s).pending = s.pending := rfl
@[simp] theorem bootStep1_pending (cause : BitVec 8) (almOpen : Bool) (s : State) : (bootStep1 cause almOpen s).pending = s.pending := rfl
@[simp] theorem bootStep5_pending (env : BootEnv) (old : SlateWord) (ab : Option W32) (fb : Bool) (s : State) :
    (bootStep5 env old ab fb s).pending = s.pending := by
  unfold bootStep5
  extract_lets was t0 pwr wth ptp t1 fw t2 settled t3 t4 t5 tick t6 t7 cause t8 t9 t10
  have k2 : t2.pending = s.pending := by unfold t2; split <;> simp [t1, t0]
  have k3 : t3.pending = s.pending := by unfold t3; split <;> simp [k2]
  have k4 : t4.pending = s.pending := by unfold t4; split <;> simp [k3]
  have k8 : t8.pending = s.pending := by simp [t8, t7, t6, t5, k4]
  have k9 : t9.pending = s.pending := by unfold t9; split <;> simp [k8]
  have k10 : t10.pending = s.pending := by unfold t10; split <;> simp [k9]
  simp [k10]
@[simp] theorem bootGable_pending (env : BootEnv) (old : SlateWord) (s : State) : (bootGable env old s).pending = s.pending := by
  unfold bootGable; dsimp only; (repeat' split) <;> simp
@[simp] theorem bootSteps_pending (env : BootEnv) (s : State) : (bootSteps env s).pending = s.pending := by
  unfold bootSteps; dsimp only; (repeat' split) <;> simp
@[simp] theorem bootStep6_pending (env : BootEnv) (s : State) : (bootStep6 env s).pending = s.pending := by simp [bootStep6]
@[simp] theorem fwRestart_pending (s : State) : (fwRestart s).pending = s.pending := by simp [fwRestart]

/-! ## LULL and the voted words -/

@[simp] theorem lullEnter_pending (cause : BitVec 2) (s : State) : (lullEnter cause s).pending = s.pending := by
  unfold lullEnter; split <;> simp
@[simp] theorem writeTrig_pending (reg : Nat) (v : W32) (s : State) : (writeTrig reg v s).pending = s.pending := by
  unfold writeTrig; split <;> rfl
@[simp] theorem armBody_pending (r : Req) (s : State) : (armBody r s).1.pending = s.pending := by
  unfold armBody; (repeat' split) <;> simp
@[simp] theorem tmrUpset_pending (s : State) (u : TmrUpset) : (tmrUpset s u).pending = s.pending := by
  unfold tmrUpset; (repeat' split) <;> rfl
@[simp] theorem tmrScrub_pending (s : State) : (tmrScrub s).pending = s.pending := rfl

/-! ## The host window (R334 to R353) -/

@[simp] theorem indNext_pending (off : Bool) (s : State) : (indNext off s).pending = s.pending := rfl
@[simp] theorem writeInd_pending (a : Nat) (v : W32) (s : State) : (writeInd a v s).pending = s.pending := by
  unfold writeInd; dsimp only; (repeat' split) <;> simp
@[simp] theorem afterAxis_pending (ax k : Nat) (s : State) : (afterAxis ax k s).pending = s.pending := by
  unfold afterAxis setPosShadow; split <;> rfl
@[simp] theorem countDed_pending (a : Nat) (s : State) : (countDed a s).pending = s.pending := by unfold countDed; split <;> rfl
@[simp] theorem clearEvents_pending (a : Nat) (s : State) : (clearEvents a s).pending = s.pending := by
  unfold clearEvents; split <;> simp
@[simp] theorem afterRead_pending (a : Nat) (s : State) : (afterRead a s).pending = s.pending := by
  unfold afterRead; (repeat' split) <;> simp
@[simp] theorem readInd_pending (a : Nat) (s : State) : (readInd a s).2.pending = s.pending := afterRead_pending a s
@[simp] theorem indAccess_pending (op : WinOp) (s : State) : (indAccess op s).2.pending = s.pending := by
  unfold indAccess; dsimp only; (repeat' split) <;> simp
@[simp] theorem readWin_pending (o : Nat) (s : State) : (readWin o s).2.pending = s.pending := by
  unfold readWin; (repeat' split) <;> simp
@[simp] theorem writeUnlock_pending (v : W32) (s : State) : (writeUnlock v s).pending = s.pending := by
  unfold writeUnlock; split <;> rfl
@[simp] theorem writeLullCtrl_pending (v : W32) (s : State) : (writeLullCtrl v s).2.pending = s.pending := by
  unfold writeLullCtrl; dsimp only; (repeat' split) <;> simp
@[simp] theorem writeDoorbell_pending (v : W32) (s : State) : (writeDoorbell v s).pending = s.pending := by simp [writeDoorbell]
@[simp] theorem writeMbx_pending (o : Nat) (v : W32) (s : State) : (writeMbx o v s).pending = s.pending := by
  unfold writeMbx; split <;> rfl
@[simp] theorem writeWin_pending (o : Nat) (v : W32) (s : State) : (writeWin o v s).2.pending = s.pending := by
  unfold writeWin; (repeat' split) <;> simp
@[simp] theorem aliasWin_pending (op : WinOp) (o : Nat) (s : State) : (aliasWin op o s).2.pending = s.pending := by
  unfold aliasWin; split <;> simp
@[simp] theorem hostWrite_pending (a : Nat) (d : W32) (s : State) : (hostWrite a d s).2.pending = s.pending := by
  unfold hostWrite; split <;> simp
@[simp] theorem hostWord_pending (a : Nat) (s : State) : (hostWord a s).2.pending = s.pending := by
  unfold hostWord; split <;> simp

/-- A host access leaves the queue if what it reads or writes does. -/
@[simp] theorem hostRead_pending (f : State → W32 × State) (s : State) (keeps : (f s).2.pending = s.pending) :
    (hostRead f s).pending = s.pending := by
  unfold hostRead; split
  · exact keeps
  · rfl
@[simp] theorem whenPort_pending (f : State → State) (s : State) (keeps : (f s).pending = s.pending) :
    (whenPort f s).pending = s.pending := by
  unfold whenPort; split
  · exact keeps
  · rfl
@[simp] theorem tbRead_pending (high : Bool) (who : TbReader) (s : State) : (tbRead high who s).pending = s.pending := by
  unfold tbRead; split
  · exact portRead_pending ..
  · cases high <;> exact hostRead_pending _ _ (by simp)

/-! ## SPI frames (R239 to R243) -/

/-- A fold of accesses, with what they return. -/
theorem foldl_snd_pending {α β : Type} (f : β × State → α → β × State) (hf : ∀ r a, (f r a).2.pending = r.2.pending) (l : List α)
    (r : β × State) : (l.foldl f r).2.pending = r.2.pending := by
  induction l generalizing r with
  | nil => rfl
  | cons a l ih => rw [List.foldl_cons, ih, hf]

@[simp] theorem spiAnswer_pending (f : List Byte) (keep : Bool) (rsp : List Byte) (s : State) :
    (spiAnswer f keep rsp s).pending = s.pending := rfl
@[simp] theorem spiWriteAct_pending (f : List Byte) (s : State) : (spiWriteAct f s).2.pending = s.pending := by
  unfold spiWriteAct spiWrites; split
  · rfl
  · exact foldl_snd_pending _ (by simp) (spiTargets f) (false, s)
@[simp] theorem spiReadAct_pending (f : List Byte) (s : State) : (spiReadAct f s).2.pending = s.pending := by
  unfold spiReadAct spiReads; split
  · rfl
  · exact foldl_snd_pending (β := List W32) _ (by simp) _ ([], s)

/-- A frame has the effect of its words. -/
@[simp] theorem spiFrame_pending (f : List Byte) (zeros : Nat) (act : State → (Byte × List Byte) × State) (s : State)
    (keeps : (act s).2.pending = s.pending) : (spiFrame f zeros act s).pending = s.pending := by
  unfold spiFrame; dsimp only; (repeat' split) <;> simp [keeps]

end Sys2Proof.Proofs
end

section
/-! PROOF. No command writes the queue: the commands, and the statement (O3). -/

namespace Sys2Proof.Proofs

open Sys2Proof Sys2Proof.Machine Sys2Proof.Safety Sys2Proof.Laws

/-- The state that a command leaves has the queue of `s`. -/
def KeepsQueue (s : State) (o : Host.Outcome State Fault Refusal) : Prop := ∀ t, o = .next t → t.pending = s.pending

@[simp] theorem keepsQueue_next (s t : State) : KeepsQueue s (.next t) ↔ t.pending = s.pending := by simp [KeepsQueue]

@[simp] theorem keepsQueue_ite (s : State) (c : Prop) [Decidable c] (a b : Host.Outcome State Fault Refusal) :
    KeepsQueue s (if c then a else b) ↔ if c then KeepsQueue s a else KeepsQueue s b := by split <;> rfl

theorem KeepsQueue.next {s t : State} (h : t.pending = s.pending) : KeepsQueue s (.next t) := (keepsQueue_next s t).2 h

/-- A mailbox command leaves the queue if its effect does. -/
theorem KeepsQueue.served {code : BitVec 16} {r : Req} {body : State → State × Answer} {s : State}
    (keeps : ∀ t, (body t).1.pending = t.pending) : KeepsQueue s (.next (serve code r body s)) :=
  .next (serve_pending code r body s keeps)

section

variable (s : State)

theorem keepsQueue_execCfgBegin (r : Req) : KeepsQueue s (execCfgBegin r s) := by
  have owns (t : State) : (owned r (cfgBeginBody r) t).1.pending = t.pending := by simp
  refine .served fun t => ?_
  split
  · exact owns t
  · exact heldBody_pending _ _ _ t owns

theorem keepsQueue_execVerifyStart (r : Req) : KeepsQueue s (execVerifyStart r s) := by
  have owns (t : State) : (owned r (verifyStartBody r) t).1.pending = t.pending := by simp
  exact .served fun t => heldBody_pending _ _ _ t owns

theorem keepsQueue_execLogin (r : Req) : KeepsQueue s (execLogin r s) := by
  refine .served fun t => ?_
  split
  · exact heldBody_pending _ _ _ t (loginBody_pending r)
  · exact loginBody_pending r t

theorem keepsQueue_execClearLockout (r : Req) : KeepsQueue s (execClearLockout r s) := by
  refine .next ?_
  split
  · exact clearLockoutOpen_pending r s
  · exact serve_pending _ r _ s (by simp)

theorem keepsQueue_execMailboxCommandTimeout : KeepsQueue s (execMailboxCommandTimeout s) := by
  unfold execMailboxCommandTimeout; dsimp only; (repeat' split) <;> simp

theorem keepsQueue_execVerifyRunEnd : KeepsQueue s (execVerifyRunEnd s) := by
  unfold execVerifyRunEnd; dsimp only; (repeat' split) <;> simp

theorem keepsQueue_execCommitRestart : KeepsQueue s (execCommitRestart s) := by
  unfold execCommitRestart; (repeat' split) <;> simp

theorem keepsQueue_execLockoutAckRelease : KeepsQueue s (execLockoutAckRelease s) := by
  unfold execLockoutAckRelease; dsimp only; (repeat' split) <;> simp

theorem keepsQueue_execAckMissing : KeepsQueue s (execAckMissing s) := by
  unfold execAckMissing; dsimp only; (repeat' split) <;> simp

theorem keepsQueue_execLockoutRestart : KeepsQueue s (execLockoutRestart s) := by
  unfold execLockoutRestart; (repeat' split) <;> simp

theorem keepsQueue_execLoginBackoffEnd : KeepsQueue s (execLoginBackoffEnd s) := by
  unfold execLoginBackoffEnd; dsimp only; (repeat' split) <;> simp

theorem keepsQueue_execIndDataAccess (op : WinOp) : KeepsQueue s (execIndDataAccess op s) := by
  unfold execIndDataAccess
  split
  · exact .next (hostRead_pending _ s (indAccess_pending .read s))
  · exact .next (whenPort_pending _ s (indAccess_pending op s))

theorem keepsQueue_execReadClearRegister (addr : BitVec 24) : KeepsQueue s (execReadClearRegister addr s) := by
  refine .next (hostRead_pending _ s ?_)
  (repeat' split) <;> simp

theorem keepsQueue_execPositionLoRead (axis : Fin 8) (srcB : Bool) : KeepsQueue s (execPositionLoRead axis srcB s) := by
  refine .next (hostRead_pending _ s ?_)
  (repeat' split) <;> simp

theorem keepsQueue_execLplusPowerOn (env : BootEnv) : KeepsQueue s (execLplusPowerOn env s) := by
  unfold execLplusPowerOn; (repeat' split) <;> simp

theorem keepsQueue_execSelftestEnd (fails : List TestFail) : KeepsQueue s (execSelftestEnd fails s) := by
  have raised : ((selftestFails fails s).foldl (fun u f => raise f.code f.arg.toNat u) s).pending = s.pending :=
    foldl_pending _ (by simp) _ s
  unfold execSelftestEnd
  dsimp only
  (repeat' split) <;> simp [raised]

theorem keepsQueue_execSquallStepUp (mv : Nat) (least : Nat) : KeepsQueue s (execSquallStepUp mv least s) := by
  unfold execSquallStepUp; dsimp only; (repeat' split) <;> simp

theorem keepsQueue_execOrderedShutdown (mv : Nat) (holdMv : Nat) : KeepsQueue s (execOrderedShutdown mv holdMv s) := by
  unfold execOrderedShutdown; (repeat' split) <;> simp

theorem keepsQueue_execRegulatorFault (dom : Fin 10) : KeepsQueue s (execRegulatorFault dom s) := by
  unfold execRegulatorFault; dsimp only; (repeat' split) <;> simp

theorem keepsQueue_execEaveInboundFrame (lane : Lane) (rx : InRx) : KeepsQueue s (execEaveInboundFrame lane rx s) := by
  unfold execEaveInboundFrame; dsimp only; (repeat' split) <;> simp

theorem keepsQueue_execBandReport (n : Fin 48) : KeepsQueue s (execBandReport n s) := by
  unfold execBandReport; (repeat' split) <;> simp

theorem keepsQueue_execGustPulseStart (m : Fin 16) (on : BitVec 48) : KeepsQueue s (execGustPulseStart m s on) := by
  unfold execGustPulseStart; dsimp only; (repeat' split) <;> simp

theorem keepsQueue_execGustWindow2End (m : Fin 16) (okP okT : BitVec 48) : KeepsQueue s (execGustWindow2End m okP okT s) := by
  unfold execGustWindow2End
  dsimp only
  split
  · exact .next ((foldl_pending _ (by simp) _ _).trans (by simp))
  · exact .next rfl

theorem keepsQueue_execTpoOverloadClear (m : Fin 16) : KeepsQueue s (execTpoOverloadClear m s) := by
  unfold execTpoOverloadClear; (repeat' split) <;> simp

theorem keepsQueue_execDarkTestStart (lane : Lane) : KeepsQueue s (execDarkTestStart lane s) := by
  unfold execDarkTestStart; dsimp only; (repeat' split) <;> simp

theorem keepsQueue_execDarkTestEnd (lane : Lane) (sw : Bool) (landMv : Nat) (turnOff2us : Nat) :
    KeepsQueue s (execDarkTestEnd lane sw landMv turnOff2us s) := by
  unfold execDarkTestEnd; dsimp only; (repeat' split) <;> simp

theorem keepsQueue_execTelegramCopyReceive (port : NetPort) (head body : List Byte) (rx : W64) :
    KeepsQueue s (execTelegramCopyReceive port head body rx s) := by
  unfold execTelegramCopyReceive; dsimp only; (repeat' split) <;> simp

theorem keepsQueue_execArpRequest (port : NetPort) (tpa : W32) (sha : BitVec 48) (spa : W32) : KeepsQueue s (execArpRequest port tpa s sha spa) := by
  unfold execArpRequest; (repeat' split) <;> simp

theorem keepsQueue_execWeatheringReplan (ron : List RonMeas) (flashBits : Vector Nat 4) (wrong : List (Nat × Int)) :
    KeepsQueue s (execWeatheringReplan ron flashBits wrong s) := by
  unfold execWeatheringReplan
  dsimp only
  split
  · exact .next rfl
  · simp [foldl_pending]

theorem keepsQueue_execSlateRecheck (cells : Vector (BitVec 8192) 6) (dieTemp : Int) : KeepsQueue s (execSlateRecheck cells dieTemp s) := by
  unfold execSlateRecheck; dsimp only; (repeat' split) <;> simp

theorem keepsQueue_execTmrScrub (flips : List TmrUpset) : KeepsQueue s (execTmrScrub s flips) := by
  refine .next ?_
  split
  · exact (tmrScrub_pending _).trans (foldl_pending _ tmrUpset_pending flips s)
  · rfl

theorem keepsQueue_execEngineRestarted (e : Engine) (sound : Bool) : KeepsQueue s (execEngineRestarted e sound s) := by
  unfold execEngineRestarted; dsimp only; (repeat' split) <;> simp

theorem keepsQueue_execAnnounceReceive (port : NetPort) (a : Announce) : KeepsQueue s (execAnnounceReceive port a s) := by
  unfold execAnnounceReceive; dsimp only; (repeat' split) <;> simp

end

/-- Whatever the command, the queue stays as it is. -/
theorem keepsQueue_exec (s : State) (c : Instr) : KeepsQueue s (exec c s) := by
  cases c with
  | getStatus r => exact .served (by simp)
  | getFaults r => exact .served (by simp)
  | cfgBegin r => exact keepsQueue_execCfgBegin s r
  | cfgBlock r => exact .served (by simp)
  | cfgEnd r => exact .served (by simp)
  | cfgAcceptClamps r => exact .served (by simp)
  | verifyStart r => exact keepsQueue_execVerifyStart s r
  | verifyReport r => exact .served (by simp)
  | commit r run => exact .served (by simp)
  | login r => exact keepsQueue_execLogin s r
  | logout r => exact .served (by simp)
  | setPassword r flashOk => exact .served (by simp)
  | logRead r => exact .served (by simp)
  | clearLockout r => exact keepsQueue_execClearLockout s r
  | slateRead r => exact .served (by simp)
  | slateProgramBit r pulse => exact .served (by simp)
  | slateLock r pulse => exact .served (by simp)
  | ridgeSplit r crcEqual => exact .served (by simp)
  | ridgeJoin r crcEqual => exact .served (by simp)
  | weatherReport r => exact .served (by simp)
  | cascadeStatus r => exact .served (by simp)
  | fwUpdateBlock r flashOk => exact .served (by simp)
  | fwActivate r run => exact .served (by simp)
  | lullArm r => exact .served (by simp)
  | mbxRequest => simp [exec, execMbxRequest]
  | mbxResponseAck => simp [exec, execMbxResponseAck]
  | mbxEventAck n => simp [exec, execMbxEventAck]
  | usbRequest msg prevRead => simp [exec, execUsbRequest]
  | mailboxCommandTimeout => exact keepsQueue_execMailboxCommandTimeout s
  | verifyRunEnd => exact keepsQueue_execVerifyRunEnd s
  | commitRestart => exact keepsQueue_execCommitRestart s
  | lockoutAckRelease => exact keepsQueue_execLockoutAckRelease s
  | ackMissing => exact keepsQueue_execAckMissing s
  | lockoutRestart => exact keepsQueue_execLockoutRestart s
  | sessionInactivityTimeout port => simp [exec, execSessionInactivityTimeout]
  | loginBackoffEnd => exact keepsQueue_execLoginBackoffEnd s
  | usbDetach => simp [exec, execUsbDetach]
  | spiWriteFrame bytes => simp [exec, execSpiWriteFrame]
  | spiReadFrame bytes => simp [exec, execSpiReadFrame]
  | spiBadOpcodeFrame bytes => simp [exec, execSpiBadOpcodeFrame]
  | spiFrameDiscard => simp [exec, execSpiFrameDiscard]
  | tbLoRead who => simp [exec, execTbLoRead]
  | tbHiRead who => simp [exec, execTbHiRead]
  | tmuCountRead n => simp [exec, execTmuCountRead]
  | tmuCountWrite who n v => simp [exec, execTmuCountWrite]
  | tmuCmpWrite who n v => simp [exec, execTmuCmpWrite]
  | tmuCtrlWrite who n v => simp [exec, execTmuCtrlWrite]
  | tmuPrescWrite who n v => simp [exec, execTmuPrescWrite]
  | tmuStagger v => simp [exec, execTmuStagger]
  | tmuMatch n => simp [exec, execTmuMatch]
  | tmuOverflow n => simp [exec, execTmuOverflow]
  | unlockWrite v => simp [exec, execUnlockWrite]
  | unlockGuardTimeout => simp [exec, execUnlockGuardTimeout]
  | indDataAccess op => exact keepsQueue_execIndDataAccess s op
  | lullCtrlEnter v => simp [exec, execLullCtrlEnter]
  | lullTrigWrite reg v => simp [exec, execLullTrigWrite]
  | irqEnableWrite v => simp [exec, execIrqEnableWrite]
  | readClearRegister addr => exact keepsQueue_execReadClearRegister s addr
  | aliasSetWrite addr d => simp [exec, execAliasSetWrite]
  | aliasClearWrite addr d => simp [exec, execAliasClearWrite]
  | aliasToggleWrite addr d => simp [exec, execAliasToggleWrite]
  | registerWrite addr d => simp [exec, execRegisterWrite]
  | positionLoRead axis srcB => exact keepsQueue_execPositionLoRead s axis srcB
  | cvuCtrlWrite u v => simp [exec, execCvuCtrlWrite]
  | cvuParamWrite u reg v => simp [exec, execCvuParamWrite]
  | cvuDataWrite u v => simp [exec, execCvuDataWrite]
  | cvuStart u => simp [exec, execCvuStart]
  | cvuResume u => simp [exec, execCvuResume]
  | cvuAbort u => simp [exec, execCvuAbort]
  | cvuValueLoRead u reg => simp [exec, execCvuValueLoRead]
  | cvuValueHiWrite u v => simp [exec, execCvuValueHiWrite]
  | cvuFrameDone u => simp [exec, execCvuFrameDone]
  | cvuSelfCheck u sound => simp [exec, execCvuSelfCheck]
  | lplusPowerOn env => exact keepsQueue_execLplusPowerOn s env
  | bootComplete env => simp [exec, execBootComplete]
  | selftestEnd fails => exact keepsQueue_execSelftestEnd s fails
  | startRun => simp [exec, execStartRun]
  | squallStepDown mv => simp [exec, execSquallStepDown]
  | squallStepUp mv least => exact keepsQueue_execSquallStepUp s mv least
  | rideThroughStart mv => simp [exec, execRideThroughStart]
  | rideThroughEnd mv => simp [exec, execRideThroughEnd]
  | orderedShutdown mv holdMv => exact keepsQueue_execOrderedShutdown s mv holdMv
  | holdPowerOnReset holdMv => simp [exec, execHoldPowerOnReset]
  | vbatApplied mv => simp [exec, execVbatApplied]
  | vbatMeasurement mv => simp [exec, execVbatMeasurement]
  | resetNAssert lowNs => simp [exec, execResetNAssert]
  | resetNRelease env => simp [exec, execResetNRelease]
  | tamperNLow => simp [exec, execTamperNLow]
  | temperatureMeasurement die fieldSide => simp [exec, execTemperatureMeasurement]
  | regulatorFault dom => exact keepsQueue_execRegulatorFault s dom
  | tickBoundary cycles => simp [exec, execTickBoundary]
  | eaveOutboundFrame lane rx det => simp [exec, execEaveOutboundFrame]
  | eaveInboundFrame lane rx => exact keepsQueue_execEaveInboundFrame s lane rx
  | thatchPassEnd cycles units canaryOk => simp [exec, execThatchPassEnd]
  | crossCompare ridgeErr thatchErr ridgeReqBad thatchReqBad => simp [exec, execCrossCompare]
  | phase3Start => simp [exec, execPhase3Start]
  | tickOverrunRg => simp [exec, execTickOverrunRg]
  | tickOverrunTh => simp [exec, execTickOverrunTh]
  | crossResultMissing lane => simp [exec, execCrossResultMissing]
  | thatchTickPulse units => simp [exec, execThatchTickPulse]
  | tickGenMismatch => simp [exec, execTickGenMismatch]
  | ridgeBoundaryMissing => simp [exec, execRidgeBoundaryMissing]
  | ridgeLockstepMismatch => simp [exec, execRidgeLockstepMismatch]
  | ridgeEccCorrection m addr flip => simp [exec, execRidgeEccCorrection]
  | ridgeEccDed m addr flips => simp [exec, execRidgeEccDed]
  | ridgeFaultLine => simp [exec, execRidgeFaultLine]
  | ridgeDebugBreak act => simp [exec, execRidgeDebugBreak]
  | thatchCfgScrub upset => simp [exec, execThatchCfgScrub]
  | fieldSample x => simp [exec, execFieldSample]
  | filterAccept n => simp [exec, execFilterAccept]
  | bandReport n => exact keepsQueue_execBandReport s n
  | inputViewMismatch n => simp [exec, execInputViewMismatch]
  | inputMeasFault n => simp [exec, execInputMeasFault]
  | supplyViewMismatch k => simp [exec, execSupplyViewMismatch]
  | supplyLost k => simp [exec, execSupplyLost]
  | supplyRecovered k => simp [exec, execSupplyRecovered]
  | resetLevelRelease => simp [exec, execResetLevelRelease]
  | laneSilence lane => simp [exec, execLaneSilence]
  | gustPulseStart m on => exact keepsQueue_execGustPulseStart s m on
  | gustWindow1End m offSeen foreign delays => simp [exec, execGustWindow1End]
  | gustWindow2End m okP okT => exact keepsQueue_execGustWindow2End s m okP okT
  | tpoOverload m => simp [exec, execTpoOverload]
  | tpoOverloadClear m => exact keepsQueue_execTpoOverloadClear s m
  | darkTestDue lane o => simp [exec, execDarkTestDue]
  | darkTestStart lane => exact keepsQueue_execDarkTestStart s lane
  | darkTestEnd lane sw landMv turnOff2us => exact keepsQueue_execDarkTestEnd s lane sw landMv turnOff2us
  | switchProtectionTrip lane o => simp [exec, execSwitchProtectionTrip]
  | groupOvercurrent lane g => simp [exec, execGroupOvercurrent]
  | groupOvercurrentClear lane g => simp [exec, execGroupOvercurrentClear]
  | brkOpenCoil lane k ma => simp [exec, execBrkOpenCoil]
  | brightDue o => simp [exec, execBrightDue]
  | brightOverdue o => simp [exec, execBrightOverdue]
  | motionStrobe raws pwrMv pwrMa => simp [exec, execMotionStrobe]
  | encSupplyTrip j => simp [exec, execEncSupplyTrip]
  | axisCrossMismatch ax => simp [exec, execAxisCrossMismatch]
  | conversionWindowEnd ch sd sar stat drvMv burnMv leadSd leadSar => simp [exec, execConversionWindowEnd]
  | cjSensorRead sdTemps sarTemps => simp [exec, execCjSensorRead]
  | anStale ch => simp [exec, execAnStale]
  | netFrameReceive port frame fcsOk => simp [exec, execNetFrameReceive]
  | telegramCopyReceive port head body rx => exact keepsQueue_execTelegramCopyReceive s port head body rx
  | arpRequest port tpa sha spa => exact keepsQueue_execArpRequest s port tpa sha spa
  | linkUp port fullDuplex => simp [exec, execLinkUp]
  | linkDown port => simp [exec, execLinkDown]
  | ptpSyncReceive port master t1 t2 => simp [exec, execPtpSyncReceive]
  | ptpSyncTimeout => simp [exec, execPtpSyncTimeout]
  | ptpSyncSend => simp [exec, execPtpSyncSend]
  | ptpAnnounceSend => simp [exec, execPtpAnnounceSend]
  | pairingWindowExpiry conn => simp [exec, execPairingWindowExpiry]
  | connTimeout conn => simp [exec, execConnTimeout]
  | connLeeExpired conn => simp [exec, execConnLeeExpired]
  | connNotStarted conn => simp [exec, execConnNotStarted]
  | csfWdg conn => simp [exec, execCsfWdg]
  | casHbSend => simp [exec, execCasHbSend]
  | casAgreeSend => simp [exec, execCasAgreeSend]
  | casMemberAbsent m => simp [exec, execCasMemberAbsent]
  | engineHeartbeatMiss e => simp [exec, execEngineHeartbeatMiss]
  | weatheringReplan ron flashBits wrong => exact keepsQueue_execWeatheringReplan s ron flashBits wrong
  | thatchDeviationMeasure cycles => simp [exec, execThatchDeviationMeasure]
  | slateRecheck cells dieTemp => exact keepsQueue_execSlateRecheck s cells dieTemp
  | equivalentHourUpdate => simp [exec, execEquivalentHourUpdate]
  | equivalentHourFlashCopy => simp [exec, execEquivalentHourFlashCopy]
  | weatheringDailyValue => simp [exec, execWeatheringDailyValue]
  | tmrScrub flips => exact keepsQueue_execTmrScrub s flips
  | lullNAssert lowNs => simp [exec, execLullNAssert]
  | lullTriggerFire => simp [exec, execLullTriggerFire]
  | pairDiscrepancy xi => simp [exec, execPairDiscrepancy]
  | resetStuck n => simp [exec, execResetStuck]
  | estopStopDelayEnd xi => simp [exec, execEstopStopDelayEnd]
  | unlockTimeout xi => simp [exec, execUnlockTimeout]
  | lockTimeout xi => simp [exec, execLockTimeout]
  | mutingSeqTimeout xi => simp [exec, execMutingSeqTimeout]
  | mutingTime xi => simp [exec, execMutingTime]
  | twoHandSyncTimeout xi => simp [exec, execTwoHandSyncTimeout]
  | enable3TMax xi => simp [exec, execEnable3TMax]
  | modeImplausible xi => simp [exec, execModeImplausible]
  | edmFault xi => simp [exec, execEdmFault]
  | timerBlockExpiry xi => simp [exec, execTimerBlockExpiry]
  | aThreshDelayEnd xi => simp [exec, execAThreshDelayEnd]
  | ss1tStopTimeEnd xi => simp [exec, execSs1tStopTimeEnd]
  | brakingEnd xi => simp [exec, execBrakingEnd]
  | sosDelayEnd xi => simp [exec, execSosDelayEnd]
  | sbcReleaseDelayEnd xi => simp [exec, execSbcReleaseDelayEnd]
  | brakeTestEnd xi => simp [exec, execBrakeTestEnd]
  | brakeTestDue xi => simp [exec, execBrakeTestDue]
  | brakeTestOverdue xi => simp [exec, execBrakeTestOverdue]
  | vbatRemoved mv => simp [exec, execVbatRemoved]
  | lossOfLock => simp [exec, execLossOfLock]
  | engineRestarted e sound => exact keepsQueue_execEngineRestarted s e sound
  | usbAttach => simp [exec, execUsbAttach]
  | delayRequestReceive port isRequest requester t3 t4 seq => simp [exec, execDelayRequestReceive]
  | announceReceive port a => exact keepsQueue_execAnnounceReceive s port a
  | holdoverExpiry => simp [exec, execHoldoverExpiry]
  | tmuCountStep n falling => simp [exec, execTmuCountStep]
  | gustPulseEnd m landMv onInHold => simp [exec, execGustPulseEnd]

/-- Settles O3: every command leaves the queue. -/
theorem commandsKeepTheQueue : Obligations.CommandsKeepTheQueue := by
  unfold Obligations.CommandsKeepTheQueue
  exact fun c s t h => keepsQueue_exec s c t h

end Sys2Proof.Proofs
end
